-- ==== Sys2Proof/Word.lean ====
section
/-! DEFINITION. The words of the T4860: a register is 32 bits wide (R5), an axis value 64 bits (R23), and memory
is made of bytes (R3). -/

namespace Sys2Proof

/-- A register's value. -/
abbrev Word := BitVec 32

/-- A byte of memory. -/
abbrev Byte := BitVec 8

/-- An axis value or a plant time: 64 bits. -/
abbrev DWord := BitVec 64

/-- A word of the fabric: 16 bits. -/
abbrev Half := BitVec 16

end Sys2Proof
end

