-- ==== Sys2Proof/Syntax.lean ====
section
/-! DEFINITION. The commands of the T4860, one constructor for each row of the spec's table of operations and events, and
the operands they carry. A command is one step of the part, whole and indivisible. -/

namespace Sys2Proof

/-- Who makes a CSR access (R515, Tables 12.3 and 0.3): the supervisor, the host's CSR aperture, the debug access port, the
Vasum tunnel, a region's fabric, or a CSRW command of the image. -/
inductive Who where
  | super
  | host
  | debug
  | remote
  | fabric (g : Nat)
  | image
  deriving DecidableEq, Repr

/-- An operation offered at a bank port (Table 10.2): the region, its port, the word address, lane mask and data. -/
structure BankReq where
  region : Nat := 0
  port : Nat := 0
  addr : Nat := 0
  lane : Nat := 0
  wdata : DWord := 0
  deriving DecidableEq, Repr, Inhabited

/-- A request to the network (Table 12.5): the initiator, opcode, address, length, tag, context, data, and the raw view
of a debug read (R279). -/
structure Req where
  ini : Nat := 0
  op : Nat := 0
  addr : Nat := 0
  len : Nat := 0
  tag : Nat := 0
  ctx : Nat := 0
  data : List Byte := []
  raw : Bool := false
  deriving DecidableEq, Repr, Inhabited

/-- What an HBM stack reports of an access (R263, R269): nothing, a corrected error, an uncorrected error on data, or a
finding of kind `kind` (Table 11.3) on the counter-tree node at a level. -/
inductive HbmErr where
  | none
  | corrected
  | dataUE
  | node (level kind : Nat)
  deriving DecidableEq, Repr

/-- The register pair of a target (R54): a scheduler comparator's, or an edge unit's SET or CLR target. -/
inductive TargetReg where
  | cmp
  | edgSet
  | edgClr
  deriving DecidableEq, Repr

/-- What a blow of one fuse copy reads back as (R482): a one, a zero, or nothing for want of a good VCCAUX. -/
inductive Blow where
  | one
  | zero
  | supply
  deriving DecidableEq, Repr

/-- What a flash port's start finds (R217): no flash; an SFDP without a valid signature; one that declares no 8D-8D-8D mode
with an enable sequence; one that does, with the bytes of that sequence and the repeated-opcode form or not (R216). -/
inductive Sfdp where
  | absent
  | invalid
  | single
  | octal (enable : List Nat) (repeated : Bool)
  deriving DecidableEq, Repr

/-- What an upset strikes (R15, R226): a configuration latch or a stored frame, at a frame address, a byte and the bits that
change; a ledger entry; a bank's ownership entry; a crossbar table entry; both copies of an ember content (R464). -/
inductive Strike where
  | latch (a byte : Nat) (mask : Byte)
  | stored (a byte : Nat) (mask : Byte)
  | ledger (i : Nat)
  | owner (n bit : Nat)
  | xbar (k : Nat)
  | ember (k : Nat)
  deriving DecidableEq, Repr

/-- A peripheral unit (R408). -/
inductive Per where
  | enc (n : Nat)
  | i2c (n : Nat)
  | spi (n : Nat)
  | uart (n : Nat)
  deriving DecidableEq, Repr

/-- What the bus answers to a part of an I2C command (R411): it went well, the target gave NACK, or arbitration was
lost. -/
inductive BusAnswer where
  | ack
  | nack
  | lost
  deriving DecidableEq, Repr

/-- A command. -/
inductive Instr where
  /-- CSR_WRITE (R8): A write to a register that has no row of its own sets its fields by their access codes, after the size, alignment, offset and writer checks. -/
  | csrWrite (who : Who) (addr : Nat) (size : Nat) (value : Word) (sub : Nat)
  /-- RC_FIELD_READ (R10): A read of an RC field returns its value from before the read cycle and then clears it, keeping any event of that cycle. -/
  | rcFieldRead (who : Who) (addr : Nat) (size : Nat)
  /-- ANGLE_TICK (R25): Every 4 ns the timebase ticks, steered to plant time when locked, and advances all sixteen axes. -/
  | angleTick
  /-- ENCODER_EDGE (R519): An edge on an encoder's A or B input changes the interface's count by the quadrature rules. -/
  | encoderEdge (enc : Nat) (a : Bool) (b : Bool) (sub : Nat)
  /-- Z_PULSE (R32): A rising Z edge homes an axis with HOME = 1 or is compared with ZPHASE when the axis is LOCKED. -/
  | zPulse (enc : Nat)
  /-- SSI_FRAME (R410): A complete SSI frame delivers a position to the axes that select the interface. -/
  | ssiFrame (enc : Nat) (data : DWord) (sub : Nat)
  /-- SSI_TIMEOUT (R410): SSI data not high again within MONO µs of the last clock reports a TIMEOUT fault. -/
  | ssiTimeout (enc : Nat)
  /-- COASTLIM_EXPIRY (R40): COASTLIM µs after leaving LOCKED, a coasting axis goes to LOST with cause 7. -/
  | coastlimExpiry (axis : Nat)
  /-- ANG_APPLY (R43): A write of a mask to ANG_APPLY asks that the staged registers of those axes come into force together. -/
  | angApply (mask : Nat) (sub : Nat)
  /-- ANG_SNAP (R48): A write of a mask to ANG_SNAP requests a coherent snapshot of the named axes. -/
  | angSnap (mask : Nat)
  /-- ANG_AXIS_TRIM_WRITE (R46): A write to ANG_AXISn_TRIM replaces the pending trim. -/
  | angAxisTrimWrite (n : Nat) (v : Word) (sameCycle : Bool)
  /-- AXIS_ENABLE (R47): A write of EN = 1 enables the axis at the next tick, or queues behind a disable in progress. -/
  | axisEnable (n : Nat)
  /-- AXIS_DISABLE (R47): Clearing EN freezes the axis and sets DISABLED at the next tick. -/
  | axisDisable (n : Nat)
  /-- REARM (R42): A write of REARM asks that a LOST axis return to ACQUIRE. -/
  | rearm (n : Nat)
  /-- EVT_TARGET_COMMIT (R54): A write of a target's _HI register commits both words of the 64-bit target. -/
  | evtTargetCommit (k : TargetReg) (n : Nat) (hi : Word) (sub : Nat)
  /-- EVT_CMP_CFG_WRITE (R517): A write of a scheduler comparator's CFG arms it or changes its axis, mode or direction. -/
  | evtCmpCfgWrite (n : Nat) (v : Word) (sub : Nat)
  /-- EVT_EDG_CFG_WRITE (R64): A write of an edge unit's CFG arms it or changes its settings; a change of SRC discards the queue. -/
  | evtEdgCfgWrite (n : Nat) (v : Word) (sub : Nat)
  /-- EVT_CAP_CFG_WRITE (R68): A write of a capture unit's CFG arms or disarms it or changes its settings. -/
  | evtCapCfgWrite (n : Nat) (v : Word) (sub : Nat)
  /-- EDGE_FABRIC_TRIGGER (R63): A rising edge on an edge unit's trigger input in source 2 pushes a pair timed by DELAY and WIDTH. -/
  | edgeFabricTrigger (n : Nat) (sub : Nat)
  /-- CAPTURE_EDGE (R67): A selected edge on a capture unit's input is stamped with angle and plant time and recorded. -/
  | captureEdge (n : Nat) (rising : Bool) (sub : Nat)
  /-- CAP_REC3_READ (R69): A read of EVT_CAPn_REC3 removes the head record from the FIFO. -/
  | capRec3Read (n : Nat)
  /-- CMP_PORT_WRITE (R97): A comparator-port write from fabric stages or commits one word of a region comparator. -/
  | cmpPortWrite (g : Nat) (csel : Nat) (wsel : Nat) (data : Half) (sub : Nat)
  /-- WU_PASS (R83): Word-unit operation PASS outputs A. -/
  | wuPass (t : Nat) (a : Word) (b : Word)
  /-- WU_ADD (R83): Word-unit operation ADD outputs A + B and sets the flags. -/
  | wuAdd (t : Nat) (a : Word) (b : Word)
  /-- WU_SUB (R83): Word-unit operation SUB outputs A − B and sets the flags. -/
  | wuSub (t : Nat) (a : Word) (b : Word)
  /-- WU_ADDC (R83): Word-unit operation ADDC outputs A + B + the routed carry in. -/
  | wuAddc (t : Nat) (a : Word) (b : Word) (cin : Bool)
  /-- WU_AND (R83): Word-unit operation AND outputs A AND B. -/
  | wuAnd (t : Nat) (a : Word) (b : Word)
  /-- WU_OR (R83): Word-unit operation OR outputs A OR B. -/
  | wuOr (t : Nat) (a : Word) (b : Word)
  /-- WU_XOR (R83): Word-unit operation XOR outputs A XOR B. -/
  | wuXor (t : Nat) (a : Word) (b : Word)
  /-- WU_MIN (R83): Word-unit operation MIN outputs the smaller of A and B by SGNA. -/
  | wuMin (t : Nat) (a : Word) (b : Word)
  /-- WU_MAX (R83): Word-unit operation MAX outputs the larger of A and B by SGNA. -/
  | wuMax (t : Nat) (a : Word) (b : Word)
  /-- WU_SHL (R83): Word-unit operation SHL shifts A left by B bits 3:0. -/
  | wuShl (t : Nat) (a : Word) (b : Word)
  /-- WU_SHR (R83): Word-unit operation SHR shifts A right by B bits 3:0, arithmetically when SGNA = 1. -/
  | wuShr (t : Nat) (a : Word) (b : Word)
  /-- WU_CMP (R83): Word-unit operation CMP outputs A with the flags of A − B. -/
  | wuCmp (t : Nat) (a : Word) (b : Word)
  /-- WU_MUL (R83): Word-unit operation MUL gives the product A × B. -/
  | wuMul (t : Nat) (a : Word) (b : Word)
  /-- WU_MAC (R84): Word-unit operation MAC adds A × B to the accumulator, wrapping or saturating. -/
  | wuMac (t : Nat) (a : Word) (b : Word)
  /-- WU_MSU (R84): Word-unit operation MSU subtracts A × B from the accumulator. -/
  | wuMsu (t : Nat) (a : Word) (b : Word)
  /-- WU_LDACC (R84): Word-unit operation LDACC loads the accumulator with A × B and clears SAT. -/
  | wuLdacc (t : Nat) (a : Word) (b : Word)
  /-- CLRACC (R83): An asserted CLRACC clears the accumulator at the edge. -/
  | clracc (t : Nat) (op : Nat) (a : Word) (b : Word) (cin : Bool)
  /-- KICK (R101): A rising edge on KICK reloads the fabric watchdog to TMO. -/
  | kick (g : Nat)
  /-- FWD_EXPIRY (R103): The fabric watchdog count reaches zero and takes the action of SYS_FWDn_CFG. -/
  | fwdExpiry (g : Nat)
  /-- SYS_FWD_CFG_WRITE (R101): A write to SYS_FWDn_CFG sets timeout and action and reloads the count. -/
  | sysFwdCfgWrite (g : Nat) (v : Word)
  /-- UNFREEZE (R104): A write of UNFREEZE releases a frozen region at its next switch-clock edge. -/
  | unfreeze (g : Nat)
  /-- SWITCH_COMPLETE (R146): At edge 3 the new context comes into force in every member, with the effects of Table 6.4. -/
  | switchComplete (n : Nat) (sub : Nat)
  /-- CTX_SWITCH (R144): A write of a group mask to CTX_SWITCH triggers each named group with EN_REG set. -/
  | ctxSwitch (mask : Word) (sub : Nat)
  /-- SWTRIG (R144): SWTRIG sampled 1 after 0 at region TRIGREG triggers its group. -/
  | swtrig (g : Nat)
  /-- SG_ARM (R143): A write of CTX_SGn_CFG that sets ARM checks the group and arms it or refuses it. -/
  | sgArm (n : Nat) (v : Word)
  /-- REGION_CTL_WRITE (R142): A write to CTX_REGIONn_CTL sets membership, target and kind, or is refused with WREFUSED. -/
  | regionCtlWrite (g : Nat) (v : Word)
  /-- LGR_APPLY (R160): A write of a stream mask to LGR_APPLY schedules the idle bank for births from the next one, or is refused with CFGERR. -/
  | lgrApply (mask : Nat)
  /-- LEDGER_POST (R162): A ledger port takes a post from POST or a comparator strobe and stamps its tick. -/
  | ledgerPost (port : Nat) (stn : Nat) (verd : Nat) (code : Half) (idv : Bool) (id : Word)
  /-- POST_RESOLVE (R164): The ledger resolves a queued post to its item and applies its verdict, answering ASTAT. -/
  | postResolve
  /-- RECORD_RELEASE (R173): A HELD record whose older items are all reported is released to the report paths. -/
  | recordRelease (n : Nat)
  /-- LGR_FENCE (R179): A write of 1 fences a ledger port within 1 µs, answering its queued posts FENCED. -/
  | lgrFence (k : Nat) (v : Word)
  /-- STREAM_ENABLE (R158): Setting EN of a stream checks its entries and enables births, or sets CFGERR. -/
  | streamEnable (n : Nat)
  /-- STREAM_DISABLE (R180): Clearing EN stops births at the first tick 8 ns later, while born items continue. -/
  | streamDisable (n : Nat) (sub : Nat)
  /-- LOAD (R219): Mailbox request 0x20 loads an image into context slots on a free load channel. -/
  | load (m : Nat)
  /-- PAD (R194): Command PAD ends the segment's command stream. -/
  | pad (ch : Nat)
  /-- FRAME (R208): Command FRAME checks one frame and writes it into its slot. -/
  | frame (ch : Nat)
  /-- BCAST (R198): Command BCAST writes one frame to a rectangle of addresses, whole or not at all. -/
  | bcast (ch : Nat)
  /-- SUPFW (R194): Command SUPFW writes supervisor firmware once its segment's digest has passed. -/
  | supfw (ch : Nat)
  /-- CSRW (R199): Command CSRW holds register values to be written before the start release. -/
  | csrw (ch : Nat)
  /-- ACTIVATE (R200): Command ACTIVATE names a start region and its slot in an activate set. -/
  | activate (ch : Nat)
  /-- END (R195): Command END closes the image, after which the slots are read back and become PROOFED. -/
  | endCmd (ch : Nat)
  /-- CANCEL (R219): Mailbox request 0x21 cancels the load on a channel. -/
  | cancel (m : Nat)
  /-- INVALIDATE (R221): Mailbox request 0x22 invalidates all named slots or none. -/
  | invalidate (m : Nat)
  /-- SWITCH (R222): Mailbox request 0x23 triggers the named switch groups as a CTX_SWITCH write. -/
  | switch (m : Nat) (sub : Nat)
  /-- MAP (R232): Mailbox request 0x24 copies an essential-bit map file into the map area. -/
  | map (m : Nat)
  /-- FLASHPROG (R218): Mailbox request 0x25 programs 256 bytes of flash. -/
  | flashprog (m : Nat)
  /-- FLASHERASE (R218): Mailbox request 0x26 erases 64 KiB of flash. -/
  | flasherase (m : Nat)
  /-- FLASH_OP_COMPLETE (R218): The flash's write-in-progress bit clears and the flash request is answered. -/
  | flashOpComplete (p : Nat) (ok : Bool)
  /-- FLASH_WIP_TIMEOUT (R218): Write-in-progress set beyond 2 s answers the flash request FLASHERR. -/
  | flashWipTimeout (p : Nat)
  /-- CFG_RECLAIM (R215): A write to CFG_RECLAIM reclaims load channels within 100 µs and aborts their loads with RECLAIM. -/
  | cfgReclaim (who : Who) (mask : Nat)
  /-- SCRUB_PASS_START (R223): GAP µs after a pass ends, the next scrub pass of the region starts. -/
  | scrubPassStart (g : Nat)
  /-- STORED_FRAME_CHECK (R225): The scrubber checks each stored frame of proofed and active slots against FCHECK. -/
  | storedFrameCheck (a : Nat)
  /-- BANK_NOP (R236): Bank operation NOP does nothing. -/
  | bankNop (q : BankReq)
  /-- BANK_READ (R238): Bank operation READ returns the word's lanes two edges later. -/
  | bankRead (q : BankReq) (peer : Option (Nat × BankReq))
  /-- BANK_WRITE (R238): Bank operation WRITE stores WDATA in the enabled lanes. -/
  | bankWrite (q : BankReq) (peer : Option (Nat × BankReq))
  /-- BANK_ADD16 (R236): Bank operation ADD16 adds WDATA to each enabled lane and returns the old lanes. -/
  | bankAdd16 (q : BankReq) (peer : Option (Nat × BankReq))
  /-- BANK_SWAP16 (R236): Bank operation SWAP16 stores WDATA and returns the old lanes. -/
  | bankSwap16 (q : BankReq) (peer : Option (Nat × BankReq))
  /-- BANK_ADD32 (R237): Bank operation ADD32 adds to each enabled lane pair and returns the old pairs. -/
  | bankAdd32 (q : BankReq) (peer : Option (Nat × BankReq))
  /-- BANK_SWAP32 (R237): Bank operation SWAP32 stores the WDATA pairs and returns the old pairs. -/
  | bankSwap32 (q : BankReq) (peer : Option (Nat × BankReq))
  /-- BANK_BADOP (R237): Operation 7 or an invalid lane mask answers BADOP. -/
  | bankBadop (q : BankReq)
  /-- MEM_BANK_OWNER_WRITE (R244): A write to MEM_BANKn_OWNER is checked and starts a handover, or records HERR. -/
  | memBankOwnerWrite (w : Who) (n : Nat) (v : Word)
  /-- HANDOVER_EFFECT (R244): The handover takes effect at the first bank-clock edge with no old-owner operation in flight. -/
  | handoverEffect (n : Nat)
  /-- MEM_RECLAIM (R248): A write to MEM_RECLAIM fences a bank's owner and hands the bank to SUPER within 2 µs. -/
  | memReclaim (w : Who) (n : Nat)
  /-- MARCH_START (R252): A write of START runs the march test on the selected banks, or is refused. -/
  | marchStart
  /-- MARCH_END (R253): The march test ends, recording results and marking failing banks BAD. -/
  | marchEnd (fails : List (Nat × Nat))
  /-- PC_FAIL (R262): A pseudo-channel that stops answering is marked FAILED. -/
  | pcFail (k : Nat) (p : Nat)
  /-- SWEEP_GRANT (R273): The stack's sweep engine grants a pending region, which becomes SWEEPING. -/
  | sweepGrant (k : Nat)
  /-- SWEEP_GROUP (R277): At SWEEPRATE the engine re-encrypts 16 lines under GEN + 1 and advances BOUNDARY. -/
  | sweepGroup (k : Nat) (e : HbmErr)
  /-- HBM_REFRESH (R256): Per-bank refresh takes the pseudo-channel, at double rate above 85 °C. -/
  | hbmRefresh (k : Nat) (temp : Byte)
  /-- HBM_CALIBRATION (R259): Interval calibration takes a pseudo-channel for up to 1 µs in every 100 ms. -/
  | hbmCalibration (k : Nat) (p : Nat)
  /-- SCRACCESS (R280): Mailbox request 0x30 sets ACCESS for a range of scramble regions, or refuses. -/
  | scraccess (m : Nat)
  /-- NOC_READ (R284): NoC request READ is decoded, injected and answered with LEN bytes. -/
  | nocRead (q : Req)
  /-- NOC_WRITE (R284): NoC request WRITE writes data and is answered with a status. -/
  | nocWrite (q : Req)
  /-- NOC_WRITEP (R284): NoC request WRITEP writes data and is answered only on error. -/
  | nocWritep (q : Req)
  /-- NOC_ADD16 (R240): NoC request ADD16 performs a bank ADD16. -/
  | nocAdd16 (q : Req)
  /-- NOC_SWAP16 (R240): NoC request SWAP16 performs a bank SWAP16. -/
  | nocSwap16 (q : Req)
  /-- NOC_ADD32 (R240): NoC request ADD32 performs a bank ADD32. -/
  | nocAdd32 (q : Req)
  /-- NOC_SWAP32 (R240): NoC request SWAP32 performs a bank SWAP32. -/
  | nocSwap32 (q : Req)
  /-- NOC_BADOP (R284): A request with opcode 0x7–0xF, a bad length or a bad span is answered BADREQ. -/
  | nocBadop (q : Req)
  /-- PACKET_FORWARD (R287): A router forwards a packet when the next buffer has room for the whole packet. -/
  | packetForward (router : Nat) (out : Nat) (hit : Bool) (e : HbmErr)
  /-- NOC_RESPONSE (R288): A response arrives at its initiator, which accepts it and completes the request. -/
  | nocResponse (ini : Nat) (tag : Nat)
  /-- TARGET_TIMEOUT (R299): An endpoint that does not answer within TGT makes its port DEAD. -/
  | targetTimeout (ep : Nat)
  /-- INITIATOR_TIMEOUT (R301): A request without completion within INI is completed TIMEOUT by its initiator. -/
  | initiatorTimeout (ini : Nat) (tag : Nat)
  /-- WAIT (R300): After each TGT µs of a suspended request, its port sends the initiator a WAIT. -/
  | wait (ep : Nat)
  /-- FLIP (R296): A write of FLIP starts checking the idle route bank. -/
  | flip
  /-- FLIP_CHECK_END (R296): The route walk ends and the epoch flips, or is refused with ERR. -/
  | flipCheckEnd
  /-- EPOCH_DRAINED (R297): No router holds an old-epoch packet any more, and DRAINED reads 1. -/
  | epochDrained
  /-- NOC_RECLAIM (R302): A write to NOC_RECLAIM fences an endpoint within 10 µs. -/
  | nocReclaim (w : Who) (ep : Nat)
  /-- REVIVE (R299): A write of REVIVE takes a port out of DEAD or FENCED. -/
  | revive (ep : Nat)
  /-- PORT_CLOSE_COMPLETE (R298): A CLOSING port becomes OFF once every request to and from it has completed. -/
  | portCloseComplete (ep : Nat)
  /-- STATS_CLEAR (R304): A write of NOC_STATCTL.CLEAR clears every initiator counter. -/
  | statsClear
  /-- ADAPTER_REQUEST (R289): A region adapter takes a request from fabric when its reservation fits the context's quota. -/
  | adapterRequest (g : Nat) (q : Req)
  /-- ADAPTER_RESPONSE_SEND (R292): Fabric sends a response to a request the region took; an unknown RTAG is dropped. -/
  | adapterResponseSend (g : Nat) (rtag : Nat) (status : Nat) (detail : Nat) (data : List Byte)
  /-- RXTAKE (R289): Fabric takes a receive beat, freeing the response units after the last beat. -/
  | rxtake (g : Nat)
  /-- LANE_ENABLE (R313): A write of EN = 1 starts the lane at PLL, or queues behind a disable. -/
  | laneEnable (n : Nat)
  /-- LANE_DISABLE (R313): Clearing EN finishes the block in progress and takes the lane to OFF. -/
  | laneDisable (n : Nat)
  /-- PLL_LOCK (R306): The quad PLL locks and its lanes proceed to CDR. -/
  | pllLock (q : Nat)
  /-- PLL_LOCK_TIMEOUT (R306): A PLL not locked 200 µs after its domain is ON sets PLLERR. -/
  | pllLockTimeout (q : Nat)
  /-- CDR_LOCK (R309): Signal detect and CDR lock move the lane to ALIGN, or to UP in raw uses. -/
  | cdrLock (n : Nat)
  /-- LANE_SYMBOL_RECEIVE (R308): A received 8b/10b character or raw word is decoded and passed on. -/
  | laneSymbolReceive (n : Nat) (code : Nat) (bound : Nat)
  /-- LOSS_OF_LOCK (R315): A lane in UP loses lock and enters RETRAIN. -/
  | lossOfLock (n : Nat)
  /-- LANE_RETRAIN (R315): A write of RETRAIN forces a loss of lock. -/
  | laneRetrain (n : Nat)
  /-- ADAPT_SET_SEND (R318): After 32 µs of idle a Vasum transmitter sends an ADAPT ordered set. -/
  | adaptSetSend (n : Nat)
  /-- ESCAN_START (R321): A write of START on an UP lane starts an eye-scan point. -/
  | escanStart (n : Nat) (v : Word)
  /-- ESCAN_END (R321): The scan ends after its bits and sets EDONE. -/
  | escanEnd (n : Nat) (count : Nat)
  /-- BUNDLE_DEGRADE (R323): At the next frame boundary a bundle narrows to the power of two of its lanes still UP. -/
  | bundleDegrade (q : Nat) (b : Nat) (lost : List (Nat × Nat))
  /-- BUNDLE_REJOIN (R324): A retrained lane rejoins and the bundle widens at an agreed boundary. -/
  | bundleRejoin (q : Nat) (b : Nat)
  /-- RX_BLOCK_POST (R325): A full or cut-short receive block is posted as a WRITEP to the region's ring. -/
  | rxBlockPost (n : Nat)
  /-- TX_BLOCK_READ (R327): The transmitter reads the next block from its region ring. -/
  | txBlockRead (n : Nat)
  /-- TX_UNDERRUN (R327): A block not read in time or read with error is replaced by fill. -/
  | txUnderrun (n : Nat)
  /-- VSM_PORT_ENABLE (R332): A write of EN = 1 brings up a Vasum port, or queues behind a disable. -/
  | vsmPortEnable (p : Nat) (cfg : Word)
  /-- VSM_PORT_DISABLE (R332): Clearing EN brings the port down. -/
  | vsmPortDisable (p : Nat) (cfg : Word)
  /-- ALIGN_SET_RECEIVE (R336): Valid ALIGN sets bring a lane and then its port to UP. -/
  | alignSetReceive (n : Nat) (lane : Byte) (chk : Byte)
  /-- PORT_DOWN (R347): A port leaving UP fails its replay buffer with LINK and its queue with NOROUTE. -/
  | portDown (p : Nat)
  /-- FRAME_RECEIVE (R340): A received frame is checked and delivered, forwarded or discarded. -/
  | frameReceive (p : Nat) (raw : List Byte)
  /-- ACK_SEND (R343): Within 2 µs or after 16 frames the receiver sends an ACK per channel. -/
  | ackSend (p : Nat) (chan : Nat)
  /-- ACK (R343): Control frame ACK frees acknowledged frames from the replay buffer. -/
  | ack (p : Nat) (chan : Nat) (seq : Nat)
  /-- NAK (R343): Control frame NAK makes the sender retransmit from the named SEQ. -/
  | nak (p : Nat) (chan : Nat) (seq : Nat)
  /-- RETRANSMIT_TIMEOUT (R343): A frame unacknowledged 20 µs after sending is retransmitted. -/
  | retransmitTimeout (p : Nat) (chan : Nat) (seq : Nat)
  /-- WIDEN (R345): Control frame WIDEN proposes widening after a frame count. -/
  | widen (p : Nat) (count : Nat) (width : Nat)
  /-- WIDENACK (R345): Control frame WIDENACK accepts the widening. -/
  | widenack (p : Nat) (count : Nat)
  /-- FAIL (R346): Control frame FAIL makes the originator act on the failed frame by channel. -/
  | fail (chan : Nat) (etag : Nat) (reason : Nat)
  /-- RACK (R364): Control frame RACK accepts the report records it covers. -/
  | rack (chan : Nat) (recseq : Word)
  /-- SYNC_SEND (R353): Every SYNCINT µs the grandmaster sends SYNC on its DOWN ports. -/
  | syncSend
  /-- SYNC (R355): A SYNC on UPPORT sets plant time and is forwarded with corrected CORR. -/
  | sync (p : Nat) (hops : Nat) (gm : Nat) (origin : DWord) (corr : DWord)
  /-- DREQ_SEND (R354): Every DREQMS ms a device sends DREQ on its UPPORT. -/
  | dreqSend
  /-- DREQ (R354): A received DREQ is answered with DRSP carrying T2 and T3. -/
  | dreq (p : Nat)
  /-- DRSP (R354): A received DRSP gives the link delay d. -/
  | drsp (p : Nat) (t2 : DWord) (t3 : DWord)
  /-- HOLDOVER (R355): No valid SYNC for 8 × SYNCINT takes a LOCKED device to HOLDOVER. -/
  | holdover
  /-- ANGLE_EXPORT (R357): Every ANGINT µs an exported axis is broadcast on its angle channel. -/
  | angleExport (k : Nat)
  /-- ANGLE_FRAME (R358): A received ANGLE frame feeds the remote axes of its channel or counts in ANGCONF. -/
  | angleFrame (k : Nat) (src : Nat) (value : DWord) (vel : Word) (time : DWord) (st : Nat)
  /-- GAPLIM_EXPIRY (R358): No valid frame for GAPLIM µs clears the channel latch and coasts its axes. -/
  | gaplimExpiry (k : Nat)
  /-- SWITCH_COMMAND (R359): A received SWITCH frame schedules the named groups at TICK, or is refused or discarded. -/
  | switchCommand (mask : Nat) (time : Nat)
  /-- SWITCH_AT_TICK (R359): At TICK the scheduled Vasum switch triggers its groups. -/
  | switchAtTick
  /-- TUNNEL_REQUEST (R360): An access to a tunnel window is sent as a tunnelled request, or answered BUSY. -/
  | tunnelRequest (q : Req)
  /-- TUNNELLED_REQUEST_ARRIVE (R361): An arriving tunnelled request is performed as initiator 518 and answered. -/
  | tunnelledRequestArrive (src : Nat) (etag : Nat) (op : Nat) (addr : Nat) (len : Nat) (data : List Byte)
  /-- TUNNEL_RESPONSE (R362): A remote response completes the tunnelled request. -/
  | tunnelResponse (etag : Nat) (status : Nat) (detail : Nat) (data : List Byte)
  /-- TUNNEL_TIMEOUT (R362): A tunnelled request unanswered after TMO µs completes TGTERR TIMEOUT. -/
  | tunnelTimeout (etag : Nat)
  /-- REPORT_FRAME_RECEIVE (R365): A REPORT frame is written to the matching report ring and RACKed. -/
  | reportFrameReceive (c : Nat) (src : Nat) (data : List Byte)
  /-- REPORT_RESEND (R365): Every 1 ms unacknowledged records are sent again from the oldest. -/
  | reportResend
  /-- TWIN_ENABLE (R370): Setting TWIN_CFG.EN takes the device from OFF to UNPAIRED. -/
  | twinEnable (cfg : Word)
  /-- TWIN_DISABLE (R371): Clearing EN takes the device to OFF, or is refused in PRIMARY or SOLO. -/
  | twinDisable (cfg : Word)
  /-- SOLOWAIT_EXPIRY (R370): An UNPAIRED device with the lease low and link down enters SOLO after SOLOWAIT. -/
  | solowaitExpiry
  /-- HEARTBEAT_SEND (R373): Every 1 µs the device sends a HEARTBEAT on the twin port. -/
  | heartbeatSend
  /-- HEARTBEAT (R375): A received heartbeat gives time and is compared for lockstep. -/
  | heartbeat (data : List Byte)
  /-- PRIMARY_LOST (R378): 4.2 µs without a heartbeat declares the partner lost. -/
  | primaryLost
  /-- LEASE_WAIT_TIMEOUT (R378): LEASE_IN still high 1 µs after the loss sends the device to UNPAIRED with LINKFAULT. -/
  | leaseWaitTimeout
  /-- LEASE_IN_CHANGE (R369): LEASE_IN changes level after three equal samples. -/
  | leaseInChange (high : Bool)
  /-- MIRROR (R377): A MIRROR frame updates the standby's ledger copy. -/
  | mirror (data : List Byte)
  /-- RESYNCREQ (R385): Control RESYNCREQ makes the primary send a ledger snapshot. -/
  | resyncreq
  /-- SNAPEND (R385): Control SNAPEND ends the snapshot and the standby replaces its ledger. -/
  | snapend
  /-- VMASTER (R385): Control VMASTER sets a virtual-master axis at a named tick. -/
  | vmaster (axis : Nat) (tick : DWord) (value : DWord) (vel : Word)
  /-- HANDOVER (R383): Control HANDOVER proposes a planned handover at time T. -/
  | handover (t : DWord)
  /-- HOACK (R383): Control HOACK accepts the planned handover. -/
  | hoack
  /-- RESETREQ (R384): Control RESETREQ applies a system reset with cause TWIN, or is refused. -/
  | resetreq
  /-- HANDOVER_REQUEST (R383): A write of TWIN_CTL.HANDOVER on the primary sends HANDOVER for HOTIME. -/
  | handoverRequest
  /-- HANDOVER_AT_T (R383): At T the roles swap and shared pins and lease pass to the new primary. -/
  | handoverAtT
  /-- YIELD (R383): A write of YIELD drops the lease and stops heartbeats. -/
  | yield
  /-- RESYNC (R370): A write of RESYNC takes a DETACHED device to SYNCING. -/
  | resync
  /-- RSTPEER (R384): A write of RSTPEER sends RESETREQ to the partner. -/
  | rstpeer
  /-- CONVERGE_COMPLETE (R385): After CONVERGE ms of passed checks a SYNCING device enters STANDBY. -/
  | convergeComplete
  /-- CROSSBAR_TICK (R402): Every 2 ns the crossbar tick puts commits and pin settings into force. -/
  | crossbarTick
  /-- XBAR_COMMIT (R402): A write to XBAR_COMMIT commits the named groups at the first tick 8 ns later. -/
  | xbarCommit (who : Who) (mask : Nat) (sub : Nat)
  /-- XBAR_STAGE_WRITE (R401): A write to XBAR_SRCn_DEST or XBAR_INn_SEL stages a mapping in a commit group. -/
  | xbarStageWrite (who : Who) (input : Bool) (n : Nat) (v : Word)
  /-- XBAR_RECLAIM (R406): A write to XBAR_RECLAIM discards the group's stages and makes the supervisor its owner. -/
  | xbarReclaim (g : Nat) (sub : Nat)
  /-- XBAR_CG_OWNER_WRITE (R405): A write of XBAR_CGg_CTL.OWNER by an allowed writer changes the group's owner. -/
  | xbarCgOwnerWrite (who : Who) (g : Nat) (v : Word)
  /-- XBAR_PIN_CFG_WRITE (R389): A write to XBAR_PINn_CFG takes effect at the first crossbar tick 8 ns later. -/
  | xbarPinCfgWrite (n : Nat) (v : Word) (sub : Nat)
  /-- TABLE_SWEEP (R407): The background sweep checks every crossbar table entry at least once per µs. -/
  | tableSweep
  /-- PIN_INPUT_CHANGE (R396): A pin input change after filter sets the pin's interrupt bit by IMODE. -/
  | pinInputChange (n : Nat) (ext : Nat)
  /-- PERIPHERAL_ENABLE (R408): A write of EN = 1 starts a peripheral unit, or queues behind a stop. -/
  | peripheralEnable (u : Per) (cfg : Word)
  /-- PERIPHERAL_DISABLE (R408): Clearing EN completes the transfer in progress and stops the unit. -/
  | peripheralDisable (u : Per) (cfg : Word)
  /-- I2C_START (R411): I2C command START sends START or repeated START. -/
  | i2cStart (n : Nat) (answer : BusAnswer)
  /-- I2C_WRITE (R411): I2C command WRITE sends DATA. -/
  | i2cWrite (n : Nat) (answer : BusAnswer)
  /-- I2C_READ (R411): I2C command READ receives one byte, answering NACK if asked. -/
  | i2cRead (n : Nat) (data : Byte) (answer : BusAnswer)
  /-- I2C_STOP (R411): I2C command STOP sends STOP after the command. -/
  | i2cStop (n : Nat)
  /-- I2C_TIMEOUT (R411): SCL held low beyond TOUT ms flushes the queue and sets the timeout flag. -/
  | i2cTimeout (n : Nat)
  /-- SPI_TXDATA (R412): A write to PER_SPIn_TXDATA queues a frame, whose received frame is stored as it leaves. -/
  | spiTxdata (n : Nat) (v : Word)
  /-- UART_TXDATA (R413): A write to PER_UARTn_TXDATA queues a byte to send. -/
  | uartTxdata (n : Nat) (v : Word)
  /-- UART_RX_BYTE (R413): A byte or break received by a UART is stored or flagged. -/
  | uartRxByte (n : Nat) (data : Byte) (isBreak : Bool) (framing : Bool) (parity : Bool)
  /-- RXDATA_READ (R413): A read of a unit's RXDATA removes one received entry. -/
  | rxdataRead (u : Per)
  /-- POR (R415): Power-on asserts a power-on reset. -/
  | por
  /-- BOR (R425): A rail below its brown-out threshold for 1 µs asserts a power-on reset. -/
  | bor
  /-- RESET_N (R418): A filtered low pulse on RESET_N asserts a system reset. -/
  | resetN
  /-- SWDT (R415): The supervisor watchdog asserts a system reset. -/
  | swdt
  /-- LOCKUP (R415): A supervisor lock-up asserts a system reset. -/
  | lockup
  /-- CLKFAIL (R434): A silent or off-frequency REFCLK, or SYSPLL or ANGPLL loss of lock, asserts a system reset. -/
  | clkfail
  /-- RST_CTL_FABRIC (R417): A write of REQ 1 to RST_CTL requests a fabric reset of the regions in RST_FABSEL. -/
  | rstCtlFabric
  /-- RST_CTL_SYSTEM (R415): A write of REQ 2 to RST_CTL requests a system reset. -/
  | rstCtlSystem
  /-- FABRIC_RESET_COMPLETE (R417): Within 2 µs the fabric reset ungates the regions and releases the dampers. -/
  | fabricResetComplete (g : Nat)
  /-- RESET_RELEASE (R420): When every asserted source has released, the release sequence of the applied reach begins. -/
  | resetRelease (src : Nat)
  /-- BLOCK_RESET_ENC (R423): A write to RST_BLOCK0 bits 15:0 resets an idle encoder interface, or is refused BUSY. -/
  | blockResetEnc (n : Nat)
  /-- BLOCK_RESET_I2C (R423): A write to RST_BLOCK0 bits 19:16 resets an idle I2C unit. -/
  | blockResetI2c (n : Nat)
  /-- BLOCK_RESET_SPI (R423): A write to RST_BLOCK0 bits 23:20 resets an idle SPI unit. -/
  | blockResetSpi (n : Nat)
  /-- BLOCK_RESET_UART (R423): A write to RST_BLOCK0 bits 31:24 resets an idle UART. -/
  | blockResetUart (n : Nat)
  /-- BLOCK_RESET_QUAD (R423): A write to RST_BLOCK1 bits 11:0 resets an idle lane quad. -/
  | blockResetQuad (q : Nat)
  /-- BLOCK_RESET_VSM (R423): A write to RST_BLOCK1 bit 12 resets the idle Vasum link layer. -/
  | blockResetVsm
  /-- BLOCK_RESET_USB (R423): A write to RST_BLOCK1 bit 13 resets the idle USB4 router and endpoint. -/
  | blockResetUsb
  /-- BLOCK_RESET_HBM (R423): A write to RST_BLOCK1 bits 17:14 resets an OFF or FAILED stack controller. -/
  | blockResetHbm (k : Nat)
  /-- BLOCK_RESET_PMB (R423): A supervisor write to RST_BLOCK1 bit 18 resets the idle PMBus master. -/
  | blockResetPmb (who : Who)
  /-- BLOCK_RESET_CMP (R423): A write to RST_BLOCK2 bits 1:0 resets a half of the scheduler comparators. -/
  | blockResetCmp (h : Nat)
  /-- BLOCK_RESET_EDG (R423): A write to RST_BLOCK2 bits 5:2 resets a group of 32 edge units. -/
  | blockResetEdg (k : Nat)
  /-- BLOCK_RESET_CAP (R423): A write to RST_BLOCK2 bits 9:6 resets a group of 32 capture units. -/
  | blockResetCap (k : Nat)
  /-- BLOCK_RESET_AXIS (R423): A write to RST_BLOCK3 resets an idle axis to value 0. -/
  | blockResetAxis (n : Nat)
  /-- PD_REQUEST_OFF (R428): A request of OFF closes a domain's endpoints and opens its gate. -/
  | pdRequestOff (n : Nat)
  /-- PD_REQUEST_ON (R427): A request of ON powers a domain up, or queues behind a transition. -/
  | pdRequestOn (n : Nat)
  /-- PD_REQUEST_RETAIN (R251): A request of RETAIN takes a memory-tier quadrant into retention. -/
  | pdRequestRetain (n : Nat)
  /-- DOMAIN_OFF_REACHED (R428): When every endpoint is OFF, the domain's work ends and its gate opens. -/
  | domainOffReached (n : Nat)
  /-- DOMAIN_ON_REACHED (R430): A powering domain reaches ON; a logic group starts its regions with ACTIVE slots. -/
  | domainOnReached (n : Nat)
  /-- LOWWARN (R425): VCCL below its warning level for 1 µs sets LOWWARN. -/
  | lowwarn
  /-- AVS_POLL (R433): Every 10 ms the supervisor reads the VCCL regulator and may set AVSERR. -/
  | avsPoll (mv : Nat) (fault : Bool) (pec : Bool)
  /-- AVS_STEP (R432): The supervisor moves VCCL one step of at most 5 mV toward its target. -/
  | avsStep
  /-- FPLL_CFG_WRITE (R435): A write to CLK_FPLLk_CFG sets a fabric PLL, or is refused. -/
  | fpllCfgWrite (k : Nat) (v : Word)
  /-- FPLL_LOCK (R437): A fabric PLL (re)locks and its gated regions resume. -/
  | fpllLock (k : Nat)
  /-- FPLL_LOCK_LOSS (R437): A fabric PLL loses lock and every region on it is gated with CLKLOST. -/
  | fpllLockLoss (k : Nat)
  /-- CLK_REGION_STAGE (R436): A write of STAGE moves a region's source at once, or pends it to the next switch. -/
  | clkRegionStage (g : Nat) (k : Nat)
  /-- TRIM (R419): Start step TRIM loads trims and fuse options, restarting on a reset. -/
  | trim
  /-- PORTS (R217): Start step PORTS starts both xSPI ports. -/
  | ports (a : Sfdp) (b : Sfdp)
  /-- FETCH (R440): Start step FETCH reads and accepts the FULL image from its source. -/
  | fetch (twin : Option (List Byte))
  /-- HBMTRAIN (R260): Start step HBMTRAIN trains the stacks and initialises the scrambler. -/
  | hbmtrain (failed : Nat) (rng : Bool)
  /-- MARCH (R254): Start step MARCH runs the destructive march test on every bank. -/
  | march (fails : List (Nat × Nat))
  /-- CSR (R199): Start step CSR writes the held CSRW values in stream order. -/
  | csr
  /-- LEDGER (R475): Start step LEDGER closes and reports earlier items after a reset or power loss. -/
  | ledger (bad : Bool)
  /-- LANES (R438): Start step LANES waits for every enabled lane to reach UP. -/
  | lanes (late : Bool)
  /-- PLANTTIME (R438): Start step PLANTTIME waits for plant-time lock. -/
  | planttime (late : Bool)
  /-- REGIONS (R442): Start step REGIONS commits every region of the chosen activate set. -/
  | regions
  /-- RELEASE (R443): The start release makes slots ACTIVE and releases pins, units and streams on one tick. -/
  | release (twinsel : Bool)
  /-- START_RETRY (R446): 100 ms after a failure the supervisor writes RST_CTL.REQ = 2. -/
  | startRetry
  /-- THM_SAMPLE (R451): A temperature channel is sampled and its WARN and ALARM flags are set or cleared. -/
  | thmSample (n : Nat) (temp : Option Int)
  /-- THM_TRIP_WRITE (R454): A write to THM_TRIP lowers the trip level, or is ignored with CFGERR. -/
  | thmTripWrite (v : Word)
  /-- CRYSTAL_COMPENSATION (R456): Every second an undisciplined counter's rate is corrected for crystal temperature. -/
  | crystalCompensation
  /-- AGE_MEASUREMENT (R457): Every 24 hours and at start the ageing monitors are measured. -/
  | ageMeasurement (l : List (Nat × Nat × Nat))
  /-- AGEAPPLY (R460): Mailbox request 0x60 applies the pending VCCL plan. -/
  | ageapply (m : Nat)
  /-- MAINOFF (R462): PD0 passes to VBAT and the event is logged. -/
  | mainoff
  /-- MAINON (R462): PD0 returns to main power and the event is logged. -/
  | mainon
  /-- VBAT_LOW (R464): VBAT falling below 2.6 V sets VBATLOW. -/
  | vbatLow (mv : Nat)
  /-- XTAL_STOP (R468): A stopped ember crystal sets XTALFAIL. -/
  | xtalStop
  /-- RTC_MEASURE (R466): Every 16 s while LOCKED the crystal is measured against the counter. -/
  | rtcMeasure (ppb : Int)
  /-- AON_RTC_LO_READ (R467): A read of AON_RTC_LO latches the high word for the next AON_RTC_HI read. -/
  | aonRtcLoRead
  /-- AON_CMP_SAMPLE (R469): An ember comparator samples its input and logs or erases KB on a debounced change. -/
  | aonCmpSample (mv0 : Nat) (mv1 : Nat) (mv2 : Nat) (mv3 : Nat)
  /-- AON_CMP_LOCK (R470): A write of LOCK locks the comparator's settings until PD0 is lost. -/
  | aonCmpLock (n : Nat) (v : Word)
  /-- AON_LOG_ENT0_READ (R472): A read of AON_LOG_ENT0 copies the oldest log entry for reading. -/
  | aonLogEnt0Read
  /-- AON_LOG_ENT3_READ (R472): A read of AON_LOG_ENT3 removes the copied entry unless replaced. -/
  | aonLogEnt3Read
  /-- QUOTE (R480): Mailbox request 0x50 writes a signed attestation quote over a buffer. -/
  | quote (m : Nat) (rng : Bool)
  /-- KBSET (R481): Mailbox request 0x51 writes the battery-backed key. -/
  | kbset (m : Nat)
  /-- KBERASE (R477): Mailbox request 0x52 erases the battery-backed key. -/
  | kberase (m : Nat)
  /-- KFPROG (R481): Mailbox request 0x53 programs the fuse key. -/
  | kfprog (m : Nat)
  /-- SIGNERPROG (R481): Mailbox request 0x54 programs a signer slot hash. -/
  | signerprog (m : Nat)
  /-- SIGNERREVOKE (R481): Mailbox request 0x55 revokes a signer slot. -/
  | signerrevoke (m : Nat)
  /-- ARBADVANCE (R481): Mailbox request 0x56 raises the fuse anti-rollback count. -/
  | arbadvance (m : Nat)
  /-- POLICYSET (R481): Mailbox request 0x57 blows fuse policy bits. -/
  | policyset (m : Nat)
  /-- FUSE_BLOW (R482): Every 10 µs a fuse request blows and reads back one copy of one bit. -/
  | fuseBlow (r : Blow)
  /-- RNG_DRAW_TIMEOUT (R479): A random draw waiting more than 1 ms fails and sets RNGFAIL. -/
  | rngDrawTimeout
  /-- HOST_MEMORY_WRITE (R484): A host write to BAR0's CSR aperture or BAR2 becomes WRITEP requests. -/
  | hostMemoryWrite (bar : Nat) (off : Nat) (data : List Byte)
  /-- HOST_MEMORY_READ (R484): A host read becomes NoC reads and is completed by their statuses. -/
  | hostMemoryRead (bar : Nat) (off : Nat) (len : Nat)
  /-- BAR4_READ (R485): A host read of BAR4 reads the ledger ring. -/
  | bar4Read (off : Nat) (len : Nat)
  /-- BAR4_WRITE (R485): A host write to BAR4 is discarded and counted. -/
  | bar4Write
  /-- USB_IRQ_REARM (R486): A write to USB_IRQ_REARM re-sends vectors whose summary is non-zero. -/
  | usbIrqRearm (mask : Nat)
  /-- MBX_SLOT_WRITE (R487): A write to a mailbox slot word is taken if the slot is FREE and the writer owns it. -/
  | mbxSlotWrite (who : Who) (m : Nat) (word : Nat) (v : Word)
  /-- MBX_DOORBELL (R488): A doorbell write posts a FREE slot. -/
  | mbxDoorbell (mask : Nat)
  /-- MBX_TAKE (R488): The supervisor takes a posted slot and runs its request. -/
  | mbxTake
  /-- MBX_DONE_CLEAR (R488): A write of 1 to a DONE bit returns the answered slot to FREE. -/
  | mbxDoneClear (mask : Nat)
  /-- HOST_LINK_DROP (R489): The host link drops, freeing every slot and erroring active DMA channels. -/
  | hostLinkDrop
  /-- HOST_LINK_UP (R483): The USB4 link trains at the highest common generation and the PCIe tunnel comes up. -/
  | hostLinkUp (gen : Nat)
  /-- DMA_TAIL_WRITE (R490): A write of TAIL gives a DMA channel new descriptors. -/
  | dmaTailWrite (n : Nat) (v : Word)
  /-- DMA_DESCRIPTOR_COMPLETE (R490): A descriptor whose responses have all arrived is written back and HEAD advances. -/
  | dmaDescriptorComplete (n : Nat) (desc : Option (List Byte)) (data : Option (List Byte))
  /-- DMA_ENABLE (R491): A write of EN = 1 starts or restarts a DMA channel, or queues. -/
  | dmaEnable (n : Nat)
  /-- DMA_DISABLE (R491): Clearing EN completes the descriptor in progress and stops the channel. -/
  | dmaDisable (n : Nat)
  /-- TAP_RESET (R492): Power-on or five TCK cycles with TMS high reset the TAP to IDCODE. -/
  | tapReset
  /-- EXTEST (R493): JTAG instruction EXTEST drives the covered pins from the boundary register. -/
  | extest (l : List (Nat × Option Bool))
  /-- IDCODE (R492): JTAG instruction IDCODE selects the 32-bit identification register. -/
  | idcode
  /-- SAMPLE_PRELOAD (R492): JTAG instruction SAMPLE/PRELOAD samples or loads the boundary register. -/
  | samplePreload (l : List (Nat × Option Bool))
  /-- CLAMP (R493): JTAG instruction CLAMP holds the pins from the boundary register with bypass selected. -/
  | clamp
  /-- HIGHZ (R493): JTAG instruction HIGHZ places the covered pins high-impedance. -/
  | highz
  /-- DAPACC (R494): JTAG instruction DAPACC selects the DAP register. -/
  | dapacc
  /-- BYPASS (R492): Any other JTAG opcode selects bypass. -/
  | bypass (op : Nat)
  /-- DAP_READ (R494): A DAP update with OP read issues a read by side path or NoC. -/
  | dapRead (addr : Nat) (plain : Bool) (inc : Bool)
  /-- DAP_WRITE (R494): A DAP update with OP write issues a write by side path or NoC. -/
  | dapWrite (addr : Nat) (plain : Bool) (inc : Bool) (v : Word)
  /-- DAP_ACCESS_COMPLETE (R494): A pending DAP access completes with its status and data. -/
  | dapAccessComplete
  /-- DBG_RSTREQ (R495): A debug write of DBG_RSTREQ asserts or releases the DEBUG reset source. -/
  | dbgRstreq (who : Who) (v : Word)
  /-- FABRIC_CLOCK_EDGE (R81): On an edge of CKN0–CKN3 the user flip-flops take D or their SR value, the switch registers sample, and dampers and FXO/FXI registers clock. -/
  | fabricClockEdge (gs : List Nat) (rising : Bool) (sub : Nat)
  /-- VCCIO_CHANGE (R388): A bank's VCCIO rail appears, disappears or changes level, and the device senses it in XBAR_BANKk_STATUS. -/
  | vccioChange (k : Nat) (code : Nat)
  /-- UPSET (R226): An upset changes a configuration latch, a stored frame or a checked control entry. -/
  | upset (x : Strike)
  /-- CRYSTAL_RUNS_AGAIN (R468): A stopped ember crystal runs again and XTALFAIL clears. -/
  | crystalRunsAgain
  /-- VBAT_RESTORED (R464): VBAT rises back to 2.6 V or more, which clears AON_STATUS.VBATLOW. -/
  | vbatRestored (above : Nat)
  /-- CLOCK_VALID_AGAIN (R434): REFCLK has been within limits for 100 µs and SYSPLL and ANGPLL have relocked, which releases the CLKFAIL source. -/
  | clockValidAgain
  /-- HBM_TRAINING_DONE (R264): A stack powered up in service finishes retraining, after which its scramble regions are initialised and the stack leaves TRAINING. -/
  | hbmTrainingDone (k : Nat) (ok : Bool)
  /-- UART_BYTE_SENT (R413): A UART finishes sending a queued byte, freeing queue room and setting DONE when the queue empties. -/
  | uartByteSent (n : Nat)
  /-- SPI_FRAME_DONE (R412): An SPI unit finishes shifting a frame out, stores the received frame and may set DONE or overrun. -/
  | spiFrameDone (n : Nat) (miso : Word)
  /-- OPERATING_HOUR (R457): Each hour with PD1 on, AGE_HOURS advances by one. -/
  | operatingHour
  deriving DecidableEq, Repr

end Sys2Proof
end

