-- ==== Sys2Proof/WellFormed.lean ====
section
/-! DEFINITION. Which commands name units, indices and field values that the device has. -/

namespace Sys2Proof

/-- A region that makes an access is one of the 512. -/
def whoOk (w : Who) : Bool :=
  match w with
  | .fabric g => decide (g < 512)
  | _ => true

/-- A bank-port operation names a region, one of its ports, a word and lanes (Table 10.2). -/
def bankReqOk (q : BankReq) : Bool := decide (q.region < 512) && decide (q.port < 16) && decide (q.addr < 8192) && decide (q.lane < 16)

/-- The operation that the other port of the bank makes at the same edge, if any: its code and request. -/
def peerOk (p : Option (Nat × BankReq)) : Bool :=
  match p with
  | some (op, q) => decide (op < 8) && bankReqOk q
  | none => true

/-- The fields of a request fit their widths (Table 12.5). -/
def reqWf (q : Req) : Bool :=
  decide (q.ini < 520) && decide (q.op < 16) && decide (q.addr < 1099511627776) && decide (q.len ≤ 4096) && decide (q.tag < 4096)
    && decide (q.ctx < 8) && decide (q.data.length ≤ 4096)

/-- A peripheral unit the device has (spec/16). -/
def perOk (u : Per) : Bool :=
  match u with
  | .enc n => decide (n < 16)
  | .i2c n => decide (n < 4)
  | .spi n => decide (n < 4)
  | .uart n => decide (n < 8)

/-- An upset strikes something the device has. -/
def strikeOk (x : Strike) : Bool :=
  match x with
  | .latch a b _ => decide (a < 4294967296) && decide (b < 512)
  | .stored a b _ => decide (a < 4294967296) && decide (b < 512)
  | .ledger i => decide (i < 65536)
  | .owner n _ => decide (n < 4096)
  | .xbar k => decide (k < 8192)
  | .ember k => decide (k < 8)

/-- The checks on a command's operands. -/
def Instr.wellFormed (i : Instr) : Bool :=
  match i with
  | .csrWrite who addr _ _ sub => decide (addr < 16777216) && whoOk who && decide (sub < 4000)
  | .rcFieldRead who addr _ => decide (addr < 16777216) && whoOk who
  | .angleTick => true
  | .encoderEdge enc _ _ sub => decide (enc < 16) && decide (sub < 16)
  | .zPulse enc => decide (enc < 16)
  | .ssiFrame enc _ sub => decide (enc < 16) && decide (sub < 16)
  | .ssiTimeout enc => decide (enc < 16)
  | .coastlimExpiry axis => decide (axis < 16)
  | .angApply mask sub => decide (mask < 65536) && decide (sub < 4000)
  | .angSnap mask => decide (mask < 65536)
  | .angAxisTrimWrite n _ _ => decide (n < 16)
  | .axisEnable n => decide (n < 16)
  | .axisDisable n => decide (n < 16)
  | .rearm n => decide (n < 16)
  | .evtTargetCommit k n _ sub => decide (if k = .cmp then n < 64 else n < 128) && decide (sub < 4000)
  | .evtCmpCfgWrite n _ sub => decide (n < 64) && decide (sub < 4000)
  | .evtEdgCfgWrite n _ sub => decide (n < 128) && decide (sub < 4000)
  | .evtCapCfgWrite n _ sub => decide (n < 128) && decide (sub < 4000)
  | .edgeFabricTrigger n sub => decide (n < 128) && decide (sub < 4000)
  | .captureEdge n _ sub => decide (n < 128) && decide (sub < 4000)
  | .capRec3Read n => decide (n < 128)
  | .cmpPortWrite g csel wsel _ sub => decide (g < 512) && decide (csel < 16) && decide (wsel < 8) && decide (sub < 4000)
  | .wuPass t _ _ => decide (t < 131072)
  | .wuAdd t _ _ => decide (t < 131072)
  | .wuSub t _ _ => decide (t < 131072)
  | .wuAddc t _ _ _ => decide (t < 131072)
  | .wuAnd t _ _ => decide (t < 131072)
  | .wuOr t _ _ => decide (t < 131072)
  | .wuXor t _ _ => decide (t < 131072)
  | .wuMin t _ _ => decide (t < 131072)
  | .wuMax t _ _ => decide (t < 131072)
  | .wuShl t _ _ => decide (t < 131072)
  | .wuShr t _ _ => decide (t < 131072)
  | .wuCmp t _ _ => decide (t < 131072)
  | .wuMul t _ _ => decide (t < 131072)
  | .wuMac t _ _ => decide (t < 131072)
  | .wuMsu t _ _ => decide (t < 131072)
  | .wuLdacc t _ _ => decide (t < 131072)
  | .clracc t op _ _ _ => decide (t < 131072) && decide (op < 16)
  | .kick g => decide (g < 512)
  | .fwdExpiry g => decide (g < 512)
  | .sysFwdCfgWrite g _ => decide (g < 512)
  | .unfreeze g => decide (g < 512)
  | .switchComplete n sub => decide (sub < 4000) && decide (n < 32)
  | .ctxSwitch _ sub => decide (sub < 4000)
  | .swtrig g => decide (g < 512)
  | .sgArm n _ => decide (n < 32)
  | .regionCtlWrite g _ => decide (g < 512)
  | .lgrApply mask => decide (mask < 16)
  | .ledgerPost port stn verd _ _ _ => decide (port < 2048) && decide (stn < 64) && decide (verd < 4)
  | .postResolve => true
  | .recordRelease n => decide (n < 4)
  | .lgrFence k _ => decide (k < 64)
  | .streamEnable n => decide (n < 4)
  | .streamDisable n sub => decide (n < 4) && decide (sub < 4000)
  | .load m => decide (m < 16)
  | .pad ch => decide (ch < 4)
  | .frame ch => decide (ch < 4)
  | .bcast ch => decide (ch < 4)
  | .supfw ch => decide (ch < 4)
  | .csrw ch => decide (ch < 4)
  | .activate ch => decide (ch < 4)
  | .endCmd ch => decide (ch < 4)
  | .cancel m => decide (m < 16)
  | .invalidate m => decide (m < 16)
  | .switch m sub => decide (sub < 4000) && decide (m < 16)
  | .map m => decide (m < 16)
  | .flashprog m => decide (m < 16)
  | .flasherase m => decide (m < 16)
  | .flashOpComplete p _ => decide (p < 2)
  | .flashWipTimeout p => decide (p < 2)
  | .cfgReclaim _ mask => decide (mask < 16)
  | .scrubPassStart g => decide (g < 512)
  | .storedFrameCheck a => decide (a < 4294967296)
  | .bankNop q => bankReqOk q
  | .bankRead q peer => bankReqOk q && peerOk peer
  | .bankWrite q peer => bankReqOk q && peerOk peer
  | .bankAdd16 q peer => bankReqOk q && peerOk peer
  | .bankSwap16 q peer => bankReqOk q && peerOk peer
  | .bankAdd32 q peer => bankReqOk q && peerOk peer
  | .bankSwap32 q peer => bankReqOk q && peerOk peer
  | .bankBadop q => bankReqOk q
  | .memBankOwnerWrite _ n _ => decide (n < 4096)
  | .handoverEffect n => decide (n < 4096)
  | .memReclaim _ n => decide (n < 4096)
  | .marchStart => true
  | .marchEnd fails => fails.all (fun f => decide (f.1 < 4096) && decide (f.2 < 8192))
  | .pcFail k p => decide (k < 4) && decide (p < 32)
  | .sweepGrant k => decide (k < 4)
  | .sweepGroup k _ => decide (k < 4)
  | .hbmRefresh k _ => decide (k < 4)
  | .hbmCalibration k p => decide (k < 4) && decide (p < 32)
  | .scraccess m => decide (m < 16)
  | .nocRead q => reqWf q
  | .nocWrite q => reqWf q
  | .nocWritep q => reqWf q
  | .nocAdd16 q => reqWf q
  | .nocSwap16 q => reqWf q
  | .nocAdd32 q => reqWf q
  | .nocSwap32 q => reqWf q
  | .nocBadop q => reqWf q
  | .packetForward router out _ _ => decide (router < 64) && decide (out < 20)
  | .nocResponse ini tag => decide (ini < 520) && decide (tag < 4096)
  | .targetTimeout ep => decide (ep < 1024)
  | .initiatorTimeout ini tag => decide (ini < 520) && decide (tag < 4096)
  | .wait ep => decide (ep < 1024)
  | .flip => true
  | .flipCheckEnd => true
  | .epochDrained => true
  | .nocReclaim _ ep => decide (ep < 1024)
  | .revive ep => decide (ep < 1024)
  | .portCloseComplete ep => decide (ep < 1024)
  | .statsClear => true
  | .adapterRequest g q => decide (g < 512) && reqWf q
  | .adapterResponseSend g rtag status detail _ => decide (g < 512) && decide (rtag < 64) && decide (status < 16) && decide (detail < 256)
  | .rxtake g => decide (g < 512)
  | .laneEnable n => decide (n < 48)
  | .laneDisable n => decide (n < 48)
  | .pllLock q => decide (q < 12)
  | .pllLockTimeout q => decide (q < 12)
  | .cdrLock n => decide (n < 48)
  | .laneSymbolReceive n code bound => decide (n < 48) && decide (code < 1024) && decide (bound < 10)
  | .lossOfLock n => decide (n < 48)
  | .laneRetrain n => decide (n < 48)
  | .adaptSetSend n => decide (n < 48)
  | .escanStart n _ => decide (n < 48)
  | .escanEnd n _ => decide (n < 48)
  | .bundleDegrade q b lost => decide (q < 12) && decide (b < 4) && lost.all (fun e => decide (e.1 < 12) && decide (e.2 < 4))
  | .bundleRejoin q b => decide (q < 12) && decide (b < 4)
  | .rxBlockPost n => decide (n < 48)
  | .txBlockRead n => decide (n < 48)
  | .txUnderrun n => decide (n < 48)
  | .vsmPortEnable p _ => decide (p < 48)
  | .vsmPortDisable p _ => decide (p < 48)
  | .alignSetReceive n _ _ => decide (n < 48)
  | .portDown p => decide (p < 48)
  | .frameReceive p _ => decide (p < 48)
  | .ackSend p chan => decide (p < 48) && decide (chan < 256)
  | .ack p chan seq => decide (p < 48) && decide (chan < 256) && decide (seq < 65536)
  | .nak p chan seq => decide (p < 48) && decide (chan < 256) && decide (seq < 65536)
  | .retransmitTimeout p chan seq => decide (p < 48) && decide (chan < 256) && decide (seq < 65536)
  | .widen p _ _ => decide (p < 48)
  | .widenack p _ => decide (p < 48)
  | .fail chan etag reason => decide (chan < 256) && decide (etag < 65536) && decide (reason < 256)
  | .rack chan _ => decide (chan < 256)
  | .syncSend => true
  | .sync p _ _ _ _ => decide (p < 48)
  | .dreqSend => true
  | .dreq p => decide (p < 48)
  | .drsp p _ _ => decide (p < 48)
  | .holdover => true
  | .angleExport k => decide (k < 16)
  | .angleFrame k src _ _ _ _ => decide (k < 16) && decide (src < 65536)
  | .gaplimExpiry k => decide (k < 16)
  | .switchCommand mask _ => decide (mask < 4294967296)
  | .switchAtTick => true
  | .tunnelRequest q => reqWf q
  | .tunnelledRequestArrive src etag _ _ _ _ => decide (src < 65536) && decide (etag < 65536)
  | .tunnelResponse etag status detail _ => decide (etag < 65536) && decide (status < 16) && decide (detail < 256)
  | .tunnelTimeout etag => decide (etag < 65536)
  | .reportFrameReceive c src _ => decide (src < 65536) && decide (c < 256)
  | .reportResend => true
  | .twinEnable _ => true
  | .twinDisable _ => true
  | .solowaitExpiry => true
  | .heartbeatSend => true
  | .heartbeat _ => true
  | .primaryLost => true
  | .leaseWaitTimeout => true
  | .leaseInChange _ => true
  | .mirror _ => true
  | .resyncreq => true
  | .snapend => true
  | .vmaster axis _ _ _ => decide (axis < 16)
  | .handover _ => true
  | .hoack => true
  | .resetreq => true
  | .handoverRequest => true
  | .handoverAtT => true
  | .yield => true
  | .resync => true
  | .rstpeer => true
  | .convergeComplete => true
  | .crossbarTick => true
  | .xbarCommit _ mask sub => decide (mask < 65536) && decide (sub < 2000)
  | .xbarStageWrite _ _ n _ => decide (n < 1024)
  | .xbarReclaim g sub => decide (g < 16) && decide (sub < 2000)
  | .xbarCgOwnerWrite _ g _ => decide (g < 16)
  | .xbarPinCfgWrite n _ sub => decide (n < 640) && decide (sub < 2000)
  | .tableSweep => true
  | .pinInputChange n ext => decide (n < 640) && decide (ext < 3)
  | .peripheralEnable u _ => perOk u
  | .peripheralDisable u _ => perOk u
  | .i2cStart n _ => decide (n < 4)
  | .i2cWrite n _ => decide (n < 4)
  | .i2cRead n _ _ => decide (n < 4)
  | .i2cStop n => decide (n < 4)
  | .i2cTimeout n => decide (n < 4)
  | .spiTxdata n _ => decide (n < 4)
  | .uartTxdata n _ => decide (n < 8)
  | .uartRxByte n _ _ _ _ => decide (n < 8)
  | .rxdataRead u => perOk u
  | .por => true
  | .bor => true
  | .resetN => true
  | .swdt => true
  | .lockup => true
  | .clkfail => true
  | .rstCtlFabric => true
  | .rstCtlSystem => true
  | .fabricResetComplete g => decide (g < 512)
  | .resetRelease src => decide (src < 11)
  | .blockResetEnc n => decide (n < 16)
  | .blockResetI2c n => decide (n < 4)
  | .blockResetSpi n => decide (n < 4)
  | .blockResetUart n => decide (n < 8)
  | .blockResetQuad q => decide (q < 12)
  | .blockResetVsm => true
  | .blockResetUsb => true
  | .blockResetHbm k => decide (k < 4)
  | .blockResetPmb _ => true
  | .blockResetCmp h => decide (h < 2)
  | .blockResetEdg k => decide (k < 4)
  | .blockResetCap k => decide (k < 4)
  | .blockResetAxis n => decide (n < 16)
  | .pdRequestOff n => decide (n < 45)
  | .pdRequestOn n => decide (n < 45)
  | .pdRequestRetain n => decide (n < 45)
  | .domainOffReached n => decide (n < 45)
  | .domainOnReached n => decide (n < 45)
  | .lowwarn => true
  | .avsPoll _ _ _ => true
  | .avsStep => true
  | .fpllCfgWrite k _ => decide (k < 8)
  | .fpllLock k => decide (k < 8)
  | .fpllLockLoss k => decide (k < 8)
  | .clkRegionStage g k => decide (g < 512) && decide (k < 8)
  | .trim => true
  | .ports _ _ => true
  | .fetch _ => true
  | .hbmtrain failed _ => decide (failed < 16)
  | .march fails => fails.all (fun f => decide (f.1 < 4096) && decide (f.2 < 8192))
  | .csr => true
  | .ledger _ => true
  | .lanes _ => true
  | .planttime _ => true
  | .regions => true
  | .release _ => true
  | .startRetry => true
  | .thmSample n _ => decide (n < 44)
  | .thmTripWrite _ => true
  | .crystalCompensation => true
  | .ageMeasurement l => l.all (fun e => decide (e.1 < 512))
  | .ageapply m => decide (m < 16)
  | .mainoff => true
  | .mainon => true
  | .vbatLow _ => true
  | .xtalStop => true
  | .rtcMeasure _ => true
  | .aonRtcLoRead => true
  | .aonCmpSample _ _ _ _ => true
  | .aonCmpLock n _ => decide (n < 4)
  | .aonLogEnt0Read => true
  | .aonLogEnt3Read => true
  | .quote m _ => decide (m < 16)
  | .kbset m => decide (m < 16)
  | .kberase m => decide (m < 16)
  | .kfprog m => decide (m < 16)
  | .signerprog m => decide (m < 16)
  | .signerrevoke m => decide (m < 16)
  | .arbadvance m => decide (m < 16)
  | .policyset m => decide (m < 16)
  | .fuseBlow _ => true
  | .rngDrawTimeout => true
  | .hostMemoryWrite bar off data => (bar = 0 || bar = 2) && decide (off + data.length ≤ (if bar = 0 then 65536 else 4294967296))
  | .hostMemoryRead bar off len => (bar = 0 || bar = 2) && decide (off + len ≤ (if bar = 0 then 65536 else 4294967296))
  | .bar4Read off len => decide (off + len ≤ 33554432)
  | .bar4Write => true
  | .usbIrqRearm mask => decide (mask < 4294967296)
  | .mbxSlotWrite _ m word _ => decide (m < 16) && decide (word < 5)
  | .mbxDoorbell mask => decide (mask < 65536)
  | .mbxTake => true
  | .mbxDoneClear mask => decide (mask < 65536)
  | .hostLinkDrop => true
  | .hostLinkUp gen => decide (1 ≤ gen) && decide (gen ≤ 3)
  | .dmaTailWrite n _ => decide (n < 8)
  | .dmaDescriptorComplete n _ _ => decide (n < 8)
  | .dmaEnable n => decide (n < 8)
  | .dmaDisable n => decide (n < 8)
  | .tapReset => true
  | .extest l => l.all (fun e => decide (e.1 < 645))
  | .idcode => true
  | .samplePreload l => l.all (fun e => decide (e.1 < 645))
  | .clamp => true
  | .highz => true
  | .dapacc => true
  | .bypass op => decide (op < 256) && !([0, 1, 2, 3, 4, 32].contains op)
  | .dapRead addr _ _ => decide (addr < 1099511627776)
  | .dapWrite addr _ _ _ => decide (addr < 1099511627776)
  | .dapAccessComplete => true
  | .dbgRstreq _ _ => true
  | .fabricClockEdge gs _ sub => decide (gs.all (fun g => decide (g < 512))) && decide (sub < 4000)
  | .vccioChange k code => decide (k < 20) && decide (code < 4)
  | .upset x => strikeOk x
  | .crystalRunsAgain => true
  | .vbatRestored _ => true
  | .clockValidAgain => true
  | .hbmTrainingDone k _ => decide (k < 4)
  | .uartByteSent n => decide (n < 8)
  | .spiFrameDone n _ => decide (n < 4)
  | .operatingHour => true

end Sys2Proof
end

