-- ==== Sys2Proof/Decode.lean ====
section
/-! DEFINITION. Words and commands. The spec's table of operations gives no row any bits: its rows are events, requests and
register accesses, which reach the device by its pins, links and buses. -/

namespace Sys2Proof

/-- The command that a word of `nbits` bits spells: none, since the table gives no row bits. -/
def decodeTableWord (_nbits _w : Nat) : Option Instr := none

end Sys2Proof
end

