-- ==== Sys2Proof/Config.lean ====
section
/-! DEFINITION. The free values of the model: what the spec leaves open and the machine still has. Each is an opaque
constant, so that no proof can use a value of it (log entries 1 and 2). -/

namespace Sys2Proof.Config

/-- A value the spec leaves open, one for each number: the state's counter gives each use a number of its own. -/
opaque freeBits : Nat → BitVec 64

/-- What a byte of memory that nothing has written reads as, for a power cycle and an address (R247, R267). -/
opaque freeByte : Nat → Nat → Byte

/-- The settings of one logic cell (R76, R79, R109). A source is 0–223 for an in-wire (N, E, S, W, then V) and 224 + p for
position p of the tile output vector. -/
structure CellSet where
  /-- 0 SINGLE, 1 DUAL, 2 CARRY (Table 4.2). -/
  mode : Nat
  i0 : Nat
  i1 : Nat
  i2 : Nat
  i3 : Nat
  i4 : Nat
  i5 : Nat
  x0 : Nat
  x1 : Nat
  /-- D of FF0: 0 F6, 1 F5A, 2 X0. -/
  d0 : Nat
  /-- D of FF1: 0 F6, 1 F5B, 2 X1. -/
  d1 : Nat
  deriving DecidableEq, Repr, Inhabited

/-- The control set of a quarter (R80). -/
structure QuarterSet where
  clk : Nat
  invert : Bool
  /-- The routed clock enable, none for constant 1. -/
  ce : Option Nat
  /-- The routed set/reset, none for none. -/
  sr : Option Nat
  /-- 0, 1, or 2 for the flip-flop's initial value. -/
  srValue : Nat
  deriving DecidableEq, Repr, Inhabited

/-- The settings of a word unit (R80, R83 to R87, R109): its clock, the sources of its operands, operation code, carry in and
CLRACC, and what its context fixes. -/
structure WuSet where
  clk : Nat
  invert : Bool
  /-- The sources of the 16 bits of each operand, bit 0 first. -/
  aSrc : List Nat
  bSrc : List Nat
  /-- The operation code that the context fixes, or the sources of OP0 to OP3. -/
  op : Nat
  opSrc : Option (List Nat)
  cinSrc : Nat
  clrSrc : Nat
  sgnA : Bool
  sgnB : Bool
  satAcc : Bool
  /-- 0 ALU result, 1 product bits 15:0, 2 accumulator window. -/
  osel : Nat
  shift : Nat
  rnd : Bool
  osat : Bool
  /-- Operand B is the constant K. -/
  useK : Bool
  k : BitVec 16
  /-- Operand A is the tile's angle tap. -/
  useTap : Bool
  /-- Paired with the next tile (an even tx). -/
  pair : Bool
  /-- A paired multiplication is 32 × 32, not 32 × 16. -/
  wide : Bool
  deriving DecidableEq, Repr, Inhabited

/-- The settings of a tile beside its LUTs, initial values and routing (spec/04, spec/05). -/
structure TileSet where
  cell : Nat → CellSet
  quarter : Nat → QuarterSet
  /-- The carry into cell 0. -/
  cin : Nat
  wu : WuSet
  tapAxis : Nat
  tapField : Nat
  /-- The sources of the tile's port inputs, in the order given with each port (R96). -/
  portIn : Nat → Nat
  deriving Inhabited

/-- What LOGIC bytes 511:264 mean: the spec fixes no bit assignment (spec/08, Frame addresses and kinds). -/
opaque tileSettings : List Byte → TileSet

/-- The value of a wire on a combinational loop (R115) or of a combinational path through a faulty frame (R227), for a use and
a wire. -/
opaque freeWire : Nat → Nat → Bool

/-- What a word unit shows where the spec fixes no value, for a use and a place in it. -/
opaque freeUnit : Nat → Nat → BitVec 64

end Sys2Proof.Config
end

