-- ==== Sys2Proof/Machine/Map.lean ====
section
/-! DEFINITION. The one sparse table of the model: a list of (key, value) pairs, keys strictly rising, in which an
unlisted key holds the type's reset value. Register file, unit tables and memory are all of this form, so that equal
tables are equal data. -/

namespace Sys2Proof.Machine

/-- A table keyed by numbers. -/
abbrev SMap (α : Type) := List (Nat × α)

/-- What a table lists for a key. -/
def SMap.find {α : Type} : SMap α → Nat → Option α
  | [], _ => none
  | (a, v) :: t, k => if a = k then some v else SMap.find t k

/-- The table with `v` listed for `k`, keys kept rising. -/
def SMap.ins {α : Type} : SMap α → Nat → α → SMap α
  | [], k, v => [(k, v)]
  | (a, w) :: t, k, v =>
    if k < a then (k, v) :: (a, w) :: t else if a = k then (k, v) :: t else (a, w) :: SMap.ins t k v

/-- The table with nothing listed for `k`. -/
def SMap.del {α : Type} : SMap α → Nat → SMap α
  | [], _ => []
  | (a, w) :: t, k => if a = k then SMap.del t k else (a, w) :: SMap.del t k

/-- The value a key holds: what is listed, or the type's reset value. -/
def SMap.get {α : Type} [Inhabited α] (m : SMap α) (k : Nat) : α := (SMap.find m k).getD default

/-- The table with key `k` holding `v`; a key that holds the reset value is not listed. -/
def SMap.set {α : Type} [Inhabited α] [DecidableEq α] (m : SMap α) (k : Nat) (v : α) : SMap α :=
  if v = default then SMap.del m k else SMap.ins m k v

/-- The table with key `k`'s value changed by `f`. -/
def SMap.upd {α : Type} [Inhabited α] [DecidableEq α] (m : SMap α) (k : Nat) (f : α → α) : SMap α :=
  SMap.set m k (f (SMap.get m k))

/-- The table with only the keys that satisfy `p`. -/
def SMap.keep {α : Type} (m : SMap α) (p : Nat → Bool) : SMap α := m.filter (fun e => p e.1)

/-- Keys strictly rising. -/
def SMap.rising {α : Type} : SMap α → Bool
  | [] => true
  | [_] => true
  | (a, _) :: (b, w) :: t => decide (a < b) && SMap.rising ((b, w) :: t)

/-- The canonical form: keys strictly rising, no entry at the reset value. -/
def SMap.wf {α : Type} [Inhabited α] [DecidableEq α] (m : SMap α) : Bool :=
  SMap.rising m && m.all (fun e => decide (e.2 ≠ default))

end Sys2Proof.Machine
end

