-- ==== Sys2Proof/Machine/Regs.lean ====
section
/-! DEFINITION. The control and status registers of the T4860: where each register lies (Table 24.3, as
offsets from 0xF0_0000_0000), where its fields lie, what it resets to and which of its bits take which access
code of Table 0.3 (R5 to R10, R515), from the register tables of spec/02 to spec/24. -/

namespace Sys2Proof.Machine

/-- A field of a register: the register's offset in the CSR range, its lowest bit and its width. -/
structure Field where
  addr : Nat
  lo : Nat
  w : Nat
  deriving DecidableEq, Repr

/-- Which writers a register accepts (R515): anyone, the supervisor only, or the debug access port only. -/
inductive Writer where
  | any
  | supervisor
  | debug
  deriving DecidableEq, Repr

/-- One row of the register map: an array of `n1` by `n2` registers with strides `s1` and `s2`, the reset value
and the bits of each access code (every other bit is RO or reserved). -/
structure RegRow where
  base : Nat
  n1 : Nat
  s1 : Nat
  n2 : Nat
  s2 : Nat
  rw : Nat
  w1c : Nat
  w1s : Nat
  wo : Nat
  rc : Nat
  writer : Writer
  deriving DecidableEq, Repr

namespace R

namespace ANG_STATUS
def reg : Nat := 0x100000
def ERR_AXIS : Field := ⟨reg, 20, 4⟩
def APPLY_ERR : Field := ⟨reg, 16, 4⟩
def SNAP_PEND : Field := ⟨reg, 8, 1⟩
def TICK_HOLD : Field := ⟨reg, 1, 1⟩
def TICK_LOCK : Field := ⟨reg, 0, 1⟩
end ANG_STATUS
namespace ANG_APPLY
def reg : Nat := 0x100004
def MASK : Field := ⟨reg, 0, 16⟩
end ANG_APPLY
namespace ANG_SNAP
def reg : Nat := 0x100008
def MASK : Field := ⟨reg, 0, 16⟩
end ANG_SNAP
namespace ANG_EVENTS
def reg : Nat := 0x10000C
def TICK_CHG : Field := ⟨reg, 18, 1⟩
def SNAP_DONE : Field := ⟨reg, 17, 1⟩
def APPLY_DONE : Field := ⟨reg, 16, 1⟩
def STATE_CHG : Field := ⟨reg, 0, 16⟩
end ANG_EVENTS
namespace ANG_IRQ_EN
def reg : Nat := 0x100010
def TICK_CHG : Field := ⟨reg, 18, 1⟩
def SNAP_DONE : Field := ⟨reg, 17, 1⟩
def APPLY_DONE : Field := ⟨reg, 16, 1⟩
def STATE_CHG : Field := ⟨reg, 0, 16⟩
end ANG_IRQ_EN
namespace ANG_SNAP_TIME_LO
def reg : Nat := 0x100014
def TIME : Field := ⟨reg, 0, 32⟩
end ANG_SNAP_TIME_LO
namespace ANG_SNAP_TIME_HI
def reg : Nat := 0x100018
def TIME : Field := ⟨reg, 0, 32⟩
end ANG_SNAP_TIME_HI
namespace ANG_AXIS_CFG
def reg (n : Nat) : Nat := 0x100100 + n * 0x40
def ZCORR (n : Nat) : Field := ⟨reg n, 11, 1⟩
def HOME (n : Nat) : Field := ⟨reg n, 10, 1⟩
def REV (n : Nat) : Field := ⟨reg n, 8, 2⟩
def KIND (n : Nat) : Field := ⟨reg n, 4, 3⟩
def SRCSEL (n : Nat) : Field := ⟨reg n, 0, 4⟩
end ANG_AXIS_CFG
namespace ANG_AXIS_CTL
def reg (n : Nat) : Nat := 0x100104 + n * 0x40
def VRUN (n : Nat) : Field := ⟨reg n, 2, 1⟩
def REARM (n : Nat) : Field := ⟨reg n, 1, 1⟩
def EN (n : Nat) : Field := ⟨reg n, 0, 1⟩
end ANG_AXIS_CTL
namespace ANG_AXIS_STATE
def reg (n : Nat) : Nat := 0x100108 + n * 0x40
def ZERR (n : Nat) : Field := ⟨reg n, 24, 8⟩
def CAUSE (n : Nat) : Field := ⟨reg n, 16, 4⟩
def BUSY (n : Nat) : Field := ⟨reg n, 5, 1⟩
def JUMP (n : Nat) : Field := ⟨reg n, 4, 1⟩
def DIR (n : Nat) : Field := ⟨reg n, 3, 1⟩
def STATE (n : Nat) : Field := ⟨reg n, 0, 3⟩
end ANG_AXIS_STATE
namespace ANG_AXIS_CPC
def reg (n : Nat) : Nat := 0x10010C + n * 0x40
def CPC (n : Nat) : Field := ⟨reg n, 0, 24⟩
end ANG_AXIS_CPC
namespace ANG_AXIS_RATIO_NUM
def reg (n : Nat) : Nat := 0x100110 + n * 0x40
def NUM (n : Nat) : Field := ⟨reg n, 0, 32⟩
end ANG_AXIS_RATIO_NUM
namespace ANG_AXIS_RATIO_DEN
def reg (n : Nat) : Nat := 0x100114 + n * 0x40
def DEN (n : Nat) : Field := ⟨reg n, 0, 32⟩
end ANG_AXIS_RATIO_DEN
namespace ANG_AXIS_OFFSET_LO
def reg (n : Nat) : Nat := 0x100118 + n * 0x40
def PHASE (n : Nat) : Field := ⟨reg n, 16, 16⟩
def SUB (n : Nat) : Field := ⟨reg n, 0, 16⟩
end ANG_AXIS_OFFSET_LO
namespace ANG_AXIS_OFFSET_HI
def reg (n : Nat) : Nat := 0x10011C + n * 0x40
def CYCLE (n : Nat) : Field := ⟨reg n, 0, 32⟩
end ANG_AXIS_OFFSET_HI
namespace ANG_AXIS_TRIM
def reg (n : Nat) : Nat := 0x100120 + n * 0x40
def TRIM (n : Nat) : Field := ⟨reg n, 0, 32⟩
end ANG_AXIS_TRIM
namespace ANG_AXIS_SLEW
def reg (n : Nat) : Nat := 0x100124 + n * 0x40
def ACCEL (n : Nat) : Field := ⟨reg n, 16, 16⟩
def TRIMSLEW (n : Nat) : Field := ⟨reg n, 0, 16⟩
end ANG_AXIS_SLEW
namespace ANG_AXIS_VEL
def reg (n : Nat) : Nat := 0x100128 + n * 0x40
def VEL (n : Nat) : Field := ⟨reg n, 0, 32⟩
end ANG_AXIS_VEL
namespace ANG_AXIS_VMEAS
def reg (n : Nat) : Nat := 0x10012C + n * 0x40
def VMEAS (n : Nat) : Field := ⟨reg n, 0, 32⟩
end ANG_AXIS_VMEAS
namespace ANG_AXIS_COAST
def reg (n : Nat) : Nat := 0x100130 + n * 0x40
def COASTLIM (n : Nat) : Field := ⟨reg n, 0, 16⟩
end ANG_AXIS_COAST
namespace ANG_AXIS_HOME
def reg (n : Nat) : Nat := 0x100134 + n * 0x40
def REVDB (n : Nat) : Field := ⟨reg n, 24, 8⟩
def ZTOL (n : Nat) : Field := ⟨reg n, 16, 8⟩
def ZPHASE (n : Nat) : Field := ⟨reg n, 0, 16⟩
end ANG_AXIS_HOME
namespace ANG_AXIS_POS_LO
def reg (n : Nat) : Nat := 0x100138 + n * 0x40
def PHASE (n : Nat) : Field := ⟨reg n, 16, 16⟩
def SUB (n : Nat) : Field := ⟨reg n, 0, 16⟩
end ANG_AXIS_POS_LO
namespace ANG_AXIS_POS_HI
def reg (n : Nat) : Nat := 0x10013C + n * 0x40
def CYCLE (n : Nat) : Field := ⟨reg n, 0, 32⟩
end ANG_AXIS_POS_HI
namespace EVT_CMP_FIRED
def reg (n : Nat) : Nat := 0x110000 + n * 0x4
def FIRED (n : Nat) : Field := ⟨reg n, 0, 32⟩
end EVT_CMP_FIRED
namespace EVT_CMP_IRQ_EN
def reg (n : Nat) : Nat := 0x110008 + n * 0x4
def FIRED (n : Nat) : Field := ⟨reg n, 0, 32⟩
end EVT_CMP_IRQ_EN
namespace EVT_EDG_FLAG
def reg (n : Nat) : Nat := 0x110010 + n * 0x4
def FLAG (n : Nat) : Field := ⟨reg n, 0, 32⟩
end EVT_EDG_FLAG
namespace EVT_EDG_IRQ_EN
def reg (n : Nat) : Nat := 0x110020 + n * 0x4
def FLAG (n : Nat) : Field := ⟨reg n, 0, 32⟩
end EVT_EDG_IRQ_EN
namespace EVT_CAP_READY
def reg (n : Nat) : Nat := 0x110030 + n * 0x4
def READY (n : Nat) : Field := ⟨reg n, 0, 32⟩
end EVT_CAP_READY
namespace EVT_CAP_IRQ_EN
def reg (n : Nat) : Nat := 0x110040 + n * 0x4
def READY (n : Nat) : Field := ⟨reg n, 0, 32⟩
end EVT_CAP_IRQ_EN
namespace EVT_CMP_CFG
def reg (n : Nat) : Nat := 0x111000 + n * 0x20
def LATE (n : Nat) : Field := ⟨reg n, 15, 1⟩
def JSKIP (n : Nat) : Field := ⟨reg n, 14, 1⟩
def REQLOCK (n : Nat) : Field := ⟨reg n, 13, 1⟩
def ARM (n : Nat) : Field := ⟨reg n, 12, 1⟩
def DIRSEL (n : Nat) : Field := ⟨reg n, 10, 2⟩
def AXIS (n : Nat) : Field := ⟨reg n, 4, 4⟩
def MODE (n : Nat) : Field := ⟨reg n, 0, 2⟩
end EVT_CMP_CFG
namespace EVT_CMP_ACTION
def reg (n : Nat) : Nat := 0x111004 + n * 0x20
def KIND (n : Nat) : Field := ⟨reg n, 8, 3⟩
def TARGET (n : Nat) : Field := ⟨reg n, 0, 8⟩
end EVT_CMP_ACTION
namespace EVT_CMP_ANGLE_LO
def reg (n : Nat) : Nat := 0x111008 + n * 0x20
def ANGLE (n : Nat) : Field := ⟨reg n, 0, 32⟩
end EVT_CMP_ANGLE_LO
namespace EVT_CMP_ANGLE_HI
def reg (n : Nat) : Nat := 0x11100C + n * 0x20
def ANGLE (n : Nat) : Field := ⟨reg n, 0, 32⟩
end EVT_CMP_ANGLE_HI
namespace EVT_CMP_PERIOD
def reg (n : Nat) : Nat := 0x111010 + n * 0x20
def PERIOD (n : Nat) : Field := ⟨reg n, 0, 32⟩
end EVT_CMP_PERIOD
namespace EVT_CMP_STATUS
def reg (n : Nat) : Nat := 0x111014 + n * 0x20
def FIRECNT (n : Nat) : Field := ⟨reg n, 16, 16⟩
def BADCFG (n : Nat) : Field := ⟨reg n, 3, 1⟩
def LATEFIRED (n : Nat) : Field := ⟨reg n, 2, 1⟩
def MISSED (n : Nat) : Field := ⟨reg n, 1, 1⟩
def ARMED (n : Nat) : Field := ⟨reg n, 0, 1⟩
end EVT_CMP_STATUS
namespace EVT_EDG_CFG
def reg (n : Nat) : Nat := 0x112000 + n * 0x20
def AXIS (n : Nat) : Field := ⟨reg n, 20, 4⟩
def MODE (n : Nat) : Field := ⟨reg n, 18, 2⟩
def SRC (n : Nat) : Field := ⟨reg n, 16, 2⟩
def INV (n : Nat) : Field := ⟨reg n, 15, 1⟩
def ARM (n : Nat) : Field := ⟨reg n, 14, 1⟩
def LATE (n : Nat) : Field := ⟨reg n, 13, 1⟩
def JSKIP (n : Nat) : Field := ⟨reg n, 12, 1⟩
def REQLOCK (n : Nat) : Field := ⟨reg n, 11, 1⟩
def DIRSEL (n : Nat) : Field := ⟨reg n, 0, 2⟩
end EVT_EDG_CFG
namespace EVT_EDG_SET_LO
def reg (n : Nat) : Nat := 0x112004 + n * 0x20
def SET_LO (n : Nat) : Field := ⟨reg n, 0, 32⟩
end EVT_EDG_SET_LO
namespace EVT_EDG_SET_HI
def reg (n : Nat) : Nat := 0x112008 + n * 0x20
def SET_HI (n : Nat) : Field := ⟨reg n, 0, 32⟩
end EVT_EDG_SET_HI
namespace EVT_EDG_CLR_LO
def reg (n : Nat) : Nat := 0x11200C + n * 0x20
def SET_LO (n : Nat) : Field := ⟨reg n, 0, 32⟩
end EVT_EDG_CLR_LO
namespace EVT_EDG_CLR_HI
def reg (n : Nat) : Nat := 0x112010 + n * 0x20
def SET_HI (n : Nat) : Field := ⟨reg n, 0, 32⟩
end EVT_EDG_CLR_HI
namespace EVT_EDG_PERIOD
def reg (n : Nat) : Nat := 0x112014 + n * 0x20
def PERIOD (n : Nat) : Field := ⟨reg n, 0, 32⟩
end EVT_EDG_PERIOD
namespace EVT_EDG_FAB
def reg (n : Nat) : Nat := 0x112018 + n * 0x20
def WIDTH (n : Nat) : Field := ⟨reg n, 16, 16⟩
def DELAY (n : Nat) : Field := ⟨reg n, 0, 16⟩
end EVT_EDG_FAB
namespace EVT_EDG_STATUS
def reg (n : Nat) : Nat := 0x11201C + n * 0x20
def QFILL (n : Nat) : Field := ⟨reg n, 8, 3⟩
def OVERFLOW (n : Nat) : Field := ⟨reg n, 6, 1⟩
def STRETCH (n : Nat) : Field := ⟨reg n, 5, 1⟩
def LATEFIRED (n : Nat) : Field := ⟨reg n, 4, 1⟩
def MISSED (n : Nat) : Field := ⟨reg n, 3, 1⟩
def BADCFG (n : Nat) : Field := ⟨reg n, 2, 1⟩
def OUT (n : Nat) : Field := ⟨reg n, 1, 1⟩
def ARMED (n : Nat) : Field := ⟨reg n, 0, 1⟩
end EVT_EDG_STATUS
namespace EVT_CAP_CFG
def reg (n : Nat) : Nat := 0x114000 + n * 0x40
def AXIS (n : Nat) : Field := ⟨reg n, 20, 4⟩
def WMODE (n : Nat) : Field := ⟨reg n, 18, 2⟩
def EDGE (n : Nat) : Field := ⟨reg n, 16, 2⟩
def FIRST (n : Nat) : Field := ⟨reg n, 15, 1⟩
def POST (n : Nat) : Field := ⟨reg n, 14, 1⟩
def ARM (n : Nat) : Field := ⟨reg n, 13, 1⟩
def MISSREC (n : Nat) : Field := ⟨reg n, 12, 1⟩
end EVT_CAP_CFG
namespace EVT_CAP_OPEN
def reg (n : Nat) : Nat := 0x114004 + n * 0x40
def OPEN (n : Nat) : Field := ⟨reg n, 0, 32⟩
end EVT_CAP_OPEN
namespace EVT_CAP_CLOSE
def reg (n : Nat) : Nat := 0x114008 + n * 0x40
def OPEN (n : Nat) : Field := ⟨reg n, 0, 32⟩
end EVT_CAP_CLOSE
namespace EVT_CAP_DEST_LO
def reg (n : Nat) : Nat := 0x11400C + n * 0x40
def ADDR (n : Nat) : Field := ⟨reg n, 4, 28⟩
end EVT_CAP_DEST_LO
namespace EVT_CAP_DEST_HI
def reg (n : Nat) : Nat := 0x114010 + n * 0x40
def RINGLOG (n : Nat) : Field := ⟨reg n, 8, 4⟩
def ADDR (n : Nat) : Field := ⟨reg n, 0, 8⟩
end EVT_CAP_DEST_HI
namespace EVT_CAP_STATUS
def reg (n : Nat) : Nat := 0x114014 + n * 0x40
def FILL (n : Nat) : Field := ⟨reg n, 16, 5⟩
def POSTERR (n : Nat) : Field := ⟨reg n, 4, 1⟩
def OVF (n : Nat) : Field := ⟨reg n, 3, 1⟩
def MISS (n : Nat) : Field := ⟨reg n, 2, 1⟩
def OPEN (n : Nat) : Field := ⟨reg n, 1, 1⟩
def ARMED (n : Nat) : Field := ⟨reg n, 0, 1⟩
end EVT_CAP_STATUS
namespace EVT_CAP_REC
def reg (n k : Nat) : Nat := 0x114020 + n * 0x40 + k * 0x4
def REC (n k : Nat) : Field := ⟨reg n k, 0, 32⟩
end EVT_CAP_REC
namespace SYS_ID
def reg : Nat := 0x0
def VERSION : Field := ⟨reg, 28, 4⟩
def PART : Field := ⟨reg, 12, 16⟩
def MFR : Field := ⟨reg, 1, 11⟩
def ONE : Field := ⟨reg, 0, 1⟩
end SYS_ID
namespace SYS_INFO
def reg : Nat := 0x4
def TRANGE : Field := ⟨reg, 4, 1⟩
def GRADE : Field := ⟨reg, 0, 2⟩
end SYS_INFO
namespace SYS_FWD_EXPIRED
def reg (n : Nat) : Nat := 0x100 + n * 0x4
def EXPIRED (n : Nat) : Field := ⟨reg n, 0, 32⟩
end SYS_FWD_EXPIRED
namespace SYS_FWD_IRQ_EN
def reg (n : Nat) : Nat := 0x140 + n * 0x4
def EXPIRED (n : Nat) : Field := ⟨reg n, 0, 32⟩
end SYS_FWD_IRQ_EN
namespace SYS_FWD_CFG
def reg (n : Nat) : Nat := 0x4000 + n * 0x8
def ACTION (n : Nat) : Field := ⟨reg n, 16, 2⟩
def TMO (n : Nat) : Field := ⟨reg n, 0, 16⟩
end SYS_FWD_CFG
namespace SYS_FWD_STATUS
def reg (n : Nat) : Nat := 0x4004 + n * 0x8
def COUNT (n : Nat) : Field := ⟨reg n, 16, 16⟩
def EXPCNT (n : Nat) : Field := ⟨reg n, 8, 8⟩
def UNFREEZE (n : Nat) : Field := ⟨reg n, 3, 1⟩
def GATED (n : Nat) : Field := ⟨reg n, 2, 1⟩
def FROZEN (n : Nat) : Field := ⟨reg n, 1, 1⟩
def EXPIRED (n : Nat) : Field := ⟨reg n, 0, 1⟩
end SYS_FWD_STATUS
namespace SYS_DMP_STATUS
def reg (n : Nat) : Nat := 0x8000 + n * 0x4
def ENGCNT (n : Nat) : Field := ⟨reg n, 16, 16⟩
def NOSRC (n : Nat) : Field := ⟨reg n, 6, 1⟩
def UNDRIVEN (n : Nat) : Field := ⟨reg n, 5, 1⟩
def V (n : Nat) : Field := ⟨reg n, 4, 1⟩
def W (n : Nat) : Field := ⟨reg n, 3, 1⟩
def S (n : Nat) : Field := ⟨reg n, 2, 1⟩
def E (n : Nat) : Field := ⟨reg n, 1, 1⟩
def N (n : Nat) : Field := ⟨reg n, 0, 1⟩
end SYS_DMP_STATUS
namespace CTX_SWITCH
def reg : Nat := 0x90000
def MASK : Field := ⟨reg, 0, 32⟩
end CTX_SWITCH
namespace CTX_SG_DONE
def reg : Nat := 0x90010
def DONE : Field := ⟨reg, 0, 32⟩
end CTX_SG_DONE
namespace CTX_SG_DONE_IRQ_EN
def reg : Nat := 0x90014
def DONE : Field := ⟨reg, 0, 32⟩
end CTX_SG_DONE_IRQ_EN
namespace CTX_SG_FAIL
def reg : Nat := 0x90018
def FAIL : Field := ⟨reg, 0, 32⟩
end CTX_SG_FAIL
namespace CTX_SG_FAIL_IRQ_EN
def reg : Nat := 0x9001C
def FAIL : Field := ⟨reg, 0, 32⟩
end CTX_SG_FAIL_IRQ_EN
namespace CTX_SG_CFG
def reg (n : Nat) : Nat := 0x90100 + n * 0x10
def ARM (n : Nat) : Field := ⟨reg n, 31, 1⟩
def REPEAT (n : Nat) : Field := ⟨reg n, 30, 1⟩
def TRIGREG (n : Nat) : Field := ⟨reg n, 16, 9⟩
def EN_VSM (n : Nat) : Field := ⟨reg n, 4, 1⟩
def EN_REG (n : Nat) : Field := ⟨reg n, 3, 1⟩
def EN_SWTRIG (n : Nat) : Field := ⟨reg n, 2, 1⟩
def EN_RCMP (n : Nat) : Field := ⟨reg n, 1, 1⟩
def EN_SCMP (n : Nat) : Field := ⟨reg n, 0, 1⟩
end CTX_SG_CFG
namespace CTX_SG_STATUS
def reg (n : Nat) : Nat := 0x90104 + n * 0x10
def SWCNT (n : Nat) : Field := ⟨reg n, 24, 8⟩
def FAIL (n : Nat) : Field := ⟨reg n, 20, 4⟩
def FAILREG (n : Nat) : Field := ⟨reg n, 8, 9⟩
def OVERRUN (n : Nat) : Field := ⟨reg n, 3, 1⟩
def IGNORED (n : Nat) : Field := ⟨reg n, 2, 1⟩
def BUSY (n : Nat) : Field := ⟨reg n, 1, 1⟩
def MEMBERS (n : Nat) : Field := ⟨reg n, 0, 1⟩
end CTX_SG_STATUS
namespace CTX_REGION_CTL
def reg (n : Nat) : Nat := 0x91000 + n * 0x8
def MEMBER (n : Nat) : Field := ⟨reg n, 31, 1⟩
def GROUP (n : Nat) : Field := ⟨reg n, 24, 5⟩
def KIND (n : Nat) : Field := ⟨reg n, 12, 2⟩
def TOGGLE (n : Nat) : Field := ⟨reg n, 11, 1⟩
def NEXT (n : Nat) : Field := ⟨reg n, 8, 3⟩
end CTX_REGION_CTL
namespace CTX_REGION_STATUS
def reg (n : Nat) : Nat := 0x91004 + n * 0x8
def DISCARD (n : Nat) : Field := ⟨reg n, 24, 8⟩
def HASACT (n : Nat) : Field := ⟨reg n, 11, 1⟩
def ACT (n : Nat) : Field := ⟨reg n, 8, 3⟩
def WREFUSED (n : Nat) : Field := ⟨reg n, 2, 1⟩
def SWPEND (n : Nat) : Field := ⟨reg n, 1, 1⟩
end CTX_REGION_STATUS
namespace CTX_SLOT_STATE
def reg (n : Nat) : Nat := 0x98000 + n * 0x4
def IMGTAG (n : Nat) : Field := ⟨reg n, 16, 16⟩
def LASTERR (n : Nat) : Field := ⟨reg n, 8, 8⟩
def SAVEVALID (n : Nat) : Field := ⟨reg n, 4, 1⟩
def STATE (n : Nat) : Field := ⟨reg n, 0, 3⟩
end CTX_SLOT_STATE
namespace LGR_CTL
def reg : Nat := 0x120000
def VSM_EN : Field := ⟨reg, 1, 1⟩
def RING_EN : Field := ⟨reg, 0, 1⟩
end LGR_CTL
namespace LGR_STATUS
def reg : Nat := 0x120004
def OPEN : Field := ⟨reg, 16, 16⟩
def VSM_STALL : Field := ⟨reg, 1, 1⟩
def RING_STALL : Field := ⟨reg, 0, 1⟩
end LGR_STATUS
namespace LGR_APPLY
def reg : Nat := 0x120008
def MASK : Field := ⟨reg, 0, 4⟩
end LGR_APPLY
namespace LGR_EVENTS
def reg : Nat := 0x12000C
def CHKERR : Field := ⟨reg, 7, 1⟩
def FULL : Field := ⟨reg, 6, 1⟩
def GATEFAIL : Field := ⟨reg, 5, 1⟩
def SUSPECT : Field := ⟨reg, 4, 1⟩
def AXISFAIL : Field := ⟨reg, 3, 1⟩
def CFGERR : Field := ⟨reg, 2, 1⟩
def APPLIED : Field := ⟨reg, 1, 1⟩
def CLOSED : Field := ⟨reg, 0, 1⟩
end LGR_EVENTS
namespace LGR_IRQ_EN
def reg : Nat := 0x120010
def CHKERR : Field := ⟨reg, 7, 1⟩
def FULL : Field := ⟨reg, 6, 1⟩
def GATEFAIL : Field := ⟨reg, 5, 1⟩
def SUSPECT : Field := ⟨reg, 4, 1⟩
def AXISFAIL : Field := ⟨reg, 3, 1⟩
def CFGERR : Field := ⟨reg, 2, 1⟩
def APPLIED : Field := ⟨reg, 1, 1⟩
def CLOSED : Field := ⟨reg, 0, 1⟩
end LGR_IRQ_EN
namespace LGR_ERRCNT
def reg : Nat := 0x120014
def CHKERR : Field := ⟨reg, 16, 16⟩
def UNREP : Field := ⟨reg, 0, 16⟩
end LGR_ERRCNT
namespace LGR_RECSEQ
def reg : Nat := 0x120018
def RECSEQ : Field := ⟨reg, 0, 32⟩
end LGR_RECSEQ
namespace LGR_RING_BASE_LO
def reg : Nat := 0x120020
def ADDR : Field := ⟨reg, 5, 27⟩
end LGR_RING_BASE_LO
namespace LGR_RING_BASE_HI
def reg : Nat := 0x120024
def RINGLOG : Field := ⟨reg, 8, 5⟩
def ADDR : Field := ⟨reg, 0, 8⟩
end LGR_RING_BASE_HI
namespace LGR_RING_WPTR
def reg : Nat := 0x120028
def WPTR : Field := ⟨reg, 0, 32⟩
end LGR_RING_WPTR
namespace LGR_RING_RPTR
def reg : Nat := 0x12002C
def RPTR : Field := ⟨reg, 0, 32⟩
end LGR_RING_RPTR
namespace LGR_VSM_DEST
def reg : Nat := 0x120030
def NODE : Field := ⟨reg, 16, 16⟩
def CHANNEL : Field := ⟨reg, 0, 4⟩
end LGR_VSM_DEST
namespace LGR_STREAM_CFG
def reg (n : Nat) : Nat := 0x120100 + n * 0x40
def EN (n : Nat) : Field := ⟨reg n, 31, 1⟩
def PRES (n : Nat) : Field := ⟨reg n, 30, 1⟩
def SUSPREJ (n : Nat) : Field := ⟨reg n, 29, 1⟩
def COASTREJ (n : Nat) : Field := ⟨reg n, 28, 1⟩
def AXIS (n : Nat) : Field := ⟨reg n, 20, 4⟩
def SIZE (n : Nat) : Field := ⟨reg n, 16, 4⟩
def GATEEN (n : Nat) : Field := ⟨reg n, 15, 1⟩
def PRESCAP (n : Nat) : Field := ⟨reg n, 8, 7⟩
def GATE (n : Nat) : Field := ⟨reg n, 0, 7⟩
end LGR_STREAM_CFG
namespace LGR_STREAM_BASE
def reg (n : Nat) : Nat := 0x120104 + n * 0x40
def BASE (n : Nat) : Field := ⟨reg n, 0, 16⟩
end LGR_STREAM_BASE
namespace LGR_STREAM_PITCH
def reg (n : Nat) : Nat := 0x120108 + n * 0x40
def PITCH (n : Nat) : Field := ⟨reg n, 0, 32⟩
end LGR_STREAM_PITCH
namespace LGR_STREAM_ORIGIN_LO
def reg (n : Nat) : Nat := 0x12010C + n * 0x40
def ORIGIN_LO (n : Nat) : Field := ⟨reg n, 0, 32⟩
end LGR_STREAM_ORIGIN_LO
namespace LGR_STREAM_ORIGIN_HI
def reg (n : Nat) : Nat := 0x120110 + n * 0x40
def ORIGIN_LO (n : Nat) : Field := ⟨reg n, 0, 32⟩
end LGR_STREAM_ORIGIN_HI
namespace LGR_STREAM_CLOSE
def reg (n : Nat) : Nat := 0x120114 + n * 0x40
def CLOSE (n : Nat) : Field := ⟨reg n, 0, 32⟩
end LGR_STREAM_CLOSE
namespace LGR_STREAM_GATESET
def reg (n : Nat) : Nat := 0x120118 + n * 0x40
def CLOSE (n : Nat) : Field := ⟨reg n, 0, 32⟩
end LGR_STREAM_GATESET
namespace LGR_STREAM_GATECLR
def reg (n : Nat) : Nat := 0x12011C + n * 0x40
def CLOSE (n : Nat) : Field := ⟨reg n, 0, 32⟩
end LGR_STREAM_GATECLR
namespace LGR_STREAM_NEXTSEQ
def reg (n : Nat) : Nat := 0x120120 + n * 0x40
def NEXTSEQ (n : Nat) : Field := ⟨reg n, 0, 30⟩
end LGR_STREAM_NEXTSEQ
namespace LGR_STREAM_OLDEST
def reg (n : Nat) : Nat := 0x120124 + n * 0x40
def NEXTSEQ (n : Nat) : Field := ⟨reg n, 0, 30⟩
end LGR_STREAM_OLDEST
namespace LGR_STREAM_STATUS
def reg (n : Nat) : Nat := 0x120128 + n * 0x40
def OPEN (n : Nat) : Field := ⟨reg n, 16, 16⟩
def OVERFLOW (n : Nat) : Field := ⟨reg n, 3, 1⟩
def APPLYPEND (n : Nat) : Field := ⟨reg n, 2, 1⟩
def BANK (n : Nat) : Field := ⟨reg n, 1, 1⟩
def BUSY (n : Nat) : Field := ⟨reg n, 0, 1⟩
end LGR_STREAM_STATUS
namespace LGR_STATION_CFG
def reg (n : Nat) : Nat := 0x120400 + n * 0x10
def EN (n : Nat) : Field := ⟨reg n, 31, 1⟩
def REQ (n : Nat) : Field := ⟨reg n, 30, 1⟩
def STREAM (n : Nat) : Field := ⟨reg n, 28, 2⟩
def BIT (n : Nat) : Field := ⟨reg n, 24, 4⟩
def LP (n : Nat) : Field := ⟨reg n, 9, 2⟩
def REGION (n : Nat) : Field := ⟨reg n, 0, 9⟩
end LGR_STATION_CFG
namespace LGR_STATION_OFFSET
def reg (n : Nat) : Nat := 0x120404 + n * 0x10
def OFFSET (n : Nat) : Field := ⟨reg n, 0, 32⟩
end LGR_STATION_OFFSET
namespace LGR_STATION_WIN
def reg (n : Nat) : Nat := 0x120408 + n * 0x10
def WIN (n : Nat) : Field := ⟨reg n, 0, 32⟩
end LGR_STATION_WIN
namespace LGR_FENCE
def reg (n : Nat) : Nat := 0x121000 + n * 0x4
def FENCE (n : Nat) : Field := ⟨reg n, 0, 32⟩
end LGR_FENCE
namespace CFG_STATUS
def reg : Nat := 0x80000
def CHBUSY : Field := ⟨reg, 16, 4⟩
def XSPIB_MODE : Field := ⟨reg, 2, 2⟩
def XSPIA_MODE : Field := ⟨reg, 0, 2⟩
end CFG_STATUS
namespace CFG_EVENTS
def reg : Nat := 0x80004
def FLASHERR : Field := ⟨reg, 5, 1⟩
def RECLAIMED : Field := ⟨reg, 4, 1⟩
def LOADEND : Field := ⟨reg, 0, 4⟩
end CFG_EVENTS
namespace CFG_IRQ_EN
def reg : Nat := 0x80008
def FLASHERR : Field := ⟨reg, 5, 1⟩
def RECLAIMED : Field := ⟨reg, 4, 1⟩
def LOADEND : Field := ⟨reg, 0, 4⟩
end CFG_IRQ_EN
namespace CFG_RECLAIM
def reg : Nat := 0x8000C
def MASK : Field := ⟨reg, 0, 4⟩
end CFG_RECLAIM
namespace CFG_CH_STATUS
def reg (n : Nat) : Nat := 0x80100 + n * 0x10
def STATUS (n : Nat) : Field := ⟨reg n, 24, 8⟩
def SOURCE (n : Nat) : Field := ⟨reg n, 16, 2⟩
def BUSY (n : Nat) : Field := ⟨reg n, 0, 1⟩
end CFG_CH_STATUS
namespace CFG_CH_BYTES
def reg (n : Nat) : Nat := 0x80104 + n * 0x10
def BYTES (n : Nat) : Field := ⟨reg n, 0, 32⟩
end CFG_CH_BYTES
namespace CFG_CH_FRAMES
def reg (n : Nat) : Nat := 0x80108 + n * 0x10
def FRAMES (n : Nat) : Field := ⟨reg n, 0, 32⟩
end CFG_CH_FRAMES
namespace CFG_CH_SEG
def reg (n : Nat) : Nat := 0x8010C + n * 0x10
def SEG (n : Nat) : Field := ⟨reg n, 0, 16⟩
end CFG_CH_SEG
namespace UPS_CTL
def reg : Nat := 0xA0000
def EN : Field := ⟨reg, 31, 1⟩
def GAP : Field := ⟨reg, 0, 16⟩
end UPS_CTL
namespace UPS_EVENTS
def reg : Nat := 0xA0004
def MAPERR : Field := ⟨reg, 5, 1⟩
def STORED : Field := ⟨reg, 4, 1⟩
def UNCORR : Field := ⟨reg, 3, 1⟩
def ESSENTIAL : Field := ⟨reg, 2, 1⟩
def TIER : Field := ⟨reg, 1, 1⟩
def LATCH : Field := ⟨reg, 0, 1⟩
end UPS_EVENTS
namespace UPS_IRQ_EN
def reg : Nat := 0xA0008
def MAPERR : Field := ⟨reg, 5, 1⟩
def STORED : Field := ⟨reg, 4, 1⟩
def UNCORR : Field := ⟨reg, 3, 1⟩
def ESSENTIAL : Field := ⟨reg, 2, 1⟩
def TIER : Field := ⟨reg, 1, 1⟩
def LATCH : Field := ⟨reg, 0, 1⟩
end UPS_IRQ_EN
namespace UPS_COUNT
def reg : Nat := 0xA000C
def ESSCNT : Field := ⟨reg, 16, 16⟩
def BENCNT : Field := ⟨reg, 0, 16⟩
end UPS_COUNT
namespace UPS_LAST
def reg : Nat := 0xA0010
def CLASS : Field := ⟨reg, 30, 2⟩
def ESS : Field := ⟨reg, 29, 1⟩
def SLOT : Field := ⟨reg, 26, 3⟩
def REGION : Field := ⟨reg, 17, 9⟩
def TILE : Field := ⟨reg, 9, 8⟩
def KIND : Field := ⟨reg, 7, 2⟩
end UPS_LAST
namespace UPS_LASTTIME_LO
def reg : Nat := 0xA0014
def LASTTIME : Field := ⟨reg, 0, 32⟩
end UPS_LASTTIME_LO
namespace UPS_LASTTIME_HI
def reg : Nat := 0xA0018
def LASTTIME : Field := ⟨reg, 0, 32⟩
end UPS_LASTTIME_HI
namespace UPS_MAPVALID
def reg (n : Nat) : Nat := 0xA0100 + n * 0x4
def VALID (n : Nat) : Field := ⟨reg n, 0, 32⟩
end UPS_MAPVALID
namespace UPS_REGION_STATUS
def reg (n : Nat) : Nat := 0xA1000 + n * 0x4
def CORRCNT (n : Nat) : Field := ⟨reg n, 24, 8⟩
def UNCORR (n : Nat) : Field := ⟨reg n, 1, 1⟩
def SCRUBBING (n : Nat) : Field := ⟨reg n, 0, 1⟩
end UPS_REGION_STATUS
namespace MEM_STATUS
def reg : Nat := 0x300000
def MARCHBUSY : Field := ⟨reg, 31, 1⟩
def RECLBUSY : Field := ⟨reg, 30, 1⟩
def QSTATE : Field := ⟨reg, 0, 12⟩
end MEM_STATUS
namespace MEM_EVENTS
def reg : Nat := 0x300004
def COLLIDE : Field := ⟨reg, 6, 1⟩
def QCHG : Field := ⟨reg, 5, 1⟩
def MARCHFAIL : Field := ⟨reg, 4, 1⟩
def MARCHDONE : Field := ⟨reg, 3, 1⟩
def OWNCHK : Field := ⟨reg, 2, 1⟩
def HANDERR : Field := ⟨reg, 1, 1⟩
def RECLAIMED : Field := ⟨reg, 0, 1⟩
end MEM_EVENTS
namespace MEM_IRQ_EN
def reg : Nat := 0x300008
def COLLIDE : Field := ⟨reg, 6, 1⟩
def QCHG : Field := ⟨reg, 5, 1⟩
def MARCHFAIL : Field := ⟨reg, 4, 1⟩
def MARCHDONE : Field := ⟨reg, 3, 1⟩
def OWNCHK : Field := ⟨reg, 2, 1⟩
def HANDERR : Field := ⟨reg, 1, 1⟩
def RECLAIMED : Field := ⟨reg, 0, 1⟩
end MEM_IRQ_EN
namespace MEM_RECLAIM
def reg : Nat := 0x30000C
def BANK : Field := ⟨reg, 0, 12⟩
end MEM_RECLAIM
namespace MEM_ERRCNT
def reg : Nat := 0x300010
def COLLIDE : Field := ⟨reg, 16, 16⟩
def REFUSED : Field := ⟨reg, 0, 16⟩
end MEM_ERRCNT
namespace MEM_MARCH_CTL
def reg : Nat := 0x300014
def MODE : Field := ⟨reg, 1, 1⟩
def START : Field := ⟨reg, 0, 1⟩
end MEM_MARCH_CTL
namespace MEM_MARCH_STATUS
def reg : Nat := 0x300018
def FAILCNT : Field := ⟨reg, 16, 16⟩
def REFUSED : Field := ⟨reg, 8, 4⟩
def BUSY : Field := ⟨reg, 0, 1⟩
end MEM_MARCH_STATUS
namespace MEM_COL_CFG
def reg (n : Nat) : Nat := 0x300400 + n * 0x4
def CLKSEL (n : Nat) : Field := ⟨reg n, 0, 1⟩
end MEM_COL_CFG
namespace MEM_MARCH_SEL
def reg (n : Nat) : Nat := 0x300800 + n * 0x4
def SEL (n : Nat) : Field := ⟨reg n, 0, 32⟩
end MEM_MARCH_SEL
namespace MEM_BANK_OWNER
def reg (n : Nat) : Nat := 0x301000 + n * 0x8
def OWNER_B (n : Nat) : Field := ⟨reg n, 4, 3⟩
def OWNER_A (n : Nat) : Field := ⟨reg n, 0, 3⟩
end MEM_BANK_OWNER
namespace MEM_BANK_STATUS
def reg (n : Nat) : Nat := 0x301004 + n * 0x8
def FAILWORD (n : Nat) : Field := ⟨reg n, 19, 13⟩
def MRES (n : Nat) : Field := ⟨reg n, 17, 2⟩
def BAD (n : Nat) : Field := ⟨reg n, 16, 1⟩
def HERR (n : Nat) : Field := ⟨reg n, 8, 4⟩
def PEND (n : Nat) : Field := ⟨reg n, 7, 1⟩
def FENCED (n : Nat) : Field := ⟨reg n, 6, 1⟩
def CHKERR (n : Nat) : Field := ⟨reg n, 2, 1⟩
def DUAL (n : Nat) : Field := ⟨reg n, 1, 1⟩
end MEM_BANK_STATUS
namespace HBM_STATUS
def reg : Nat := 0x400000
def RATE : Field := ⟨reg, 16, 2⟩
def STATE : Field := ⟨reg, 0, 16⟩
end HBM_STATUS
namespace HBM_EVENTS
def reg : Nat := 0x400004
def HOT : Field := ⟨reg, 4, 1⟩
def PCFAIL : Field := ⟨reg, 3, 1⟩
def UE : Field := ⟨reg, 2, 1⟩
def ABSENT : Field := ⟨reg, 1, 1⟩
def STATECHG : Field := ⟨reg, 0, 1⟩
end HBM_EVENTS
namespace HBM_IRQ_EN
def reg : Nat := 0x400008
def HOT : Field := ⟨reg, 4, 1⟩
def PCFAIL : Field := ⟨reg, 3, 1⟩
def UE : Field := ⟨reg, 2, 1⟩
def ABSENT : Field := ⟨reg, 1, 1⟩
def STATECHG : Field := ⟨reg, 0, 1⟩
end HBM_IRQ_EN
namespace HBM_ERRCNT
def reg : Nat := 0x40000C
def ABSENT : Field := ⟨reg, 0, 16⟩
end HBM_ERRCNT
namespace HBM_STACK_TEMP
def reg (n : Nat) : Nat := 0x400100 + n * 0x10
def TEMP (n : Nat) : Field := ⟨reg n, 0, 8⟩
end HBM_STACK_TEMP
namespace HBM_STACK_PCFAIL
def reg (n : Nat) : Nat := 0x400104 + n * 0x10
def PCFAIL (n : Nat) : Field := ⟨reg n, 0, 32⟩
end HBM_STACK_PCFAIL
namespace HBM_PC_ERR
def reg (n : Nat) : Nat := 0x401000 + n * 0x4
def CE (n : Nat) : Field := ⟨reg n, 16, 16⟩
def UE (n : Nat) : Field := ⟨reg n, 0, 16⟩
end HBM_PC_ERR
namespace SCR_STATUS
def reg : Nat := 0x500000
def SWEEPING : Field := ⟨reg, 0, 4⟩
end SCR_STATUS
namespace SCR_EVENTS
def reg : Nat := 0x500004
def NEARSAT : Field := ⟨reg, 4, 1⟩
def HOLDFULL : Field := ⟨reg, 3, 1⟩
def DENIED : Field := ⟨reg, 2, 1⟩
def REKEYDONE : Field := ⟨reg, 1, 1⟩
def REKEYSTART : Field := ⟨reg, 0, 1⟩
end SCR_EVENTS
namespace SCR_IRQ_EN
def reg : Nat := 0x500008
def NEARSAT : Field := ⟨reg, 4, 1⟩
def HOLDFULL : Field := ⟨reg, 3, 1⟩
def DENIED : Field := ⟨reg, 2, 1⟩
def REKEYDONE : Field := ⟨reg, 1, 1⟩
def REKEYSTART : Field := ⟨reg, 0, 1⟩
end SCR_IRQ_EN
namespace SCR_CTL
def reg : Nat := 0x50000C
def SWEEPRATE : Field := ⟨reg, 0, 7⟩
end SCR_CTL
namespace SCR_ERRCNT
def reg : Nat := 0x500010
def DENIED : Field := ⟨reg, 16, 16⟩
def HELD : Field := ⟨reg, 0, 16⟩
end SCR_ERRCNT
namespace SCR_HALT_KIND
def reg : Nat := 0x500014
def LEVEL : Field := ⟨reg, 4, 3⟩
def KIND : Field := ⟨reg, 0, 4⟩
end SCR_HALT_KIND
namespace SCR_HALT_NODE
def reg : Nat := 0x500018
def NODE : Field := ⟨reg, 0, 21⟩
end SCR_HALT_NODE
namespace SCR_REGION_KEYSEL
def reg (n : Nat) : Nat := 0x501000 + n * 0x10
def STATE (n : Nat) : Field := ⟨reg n, 30, 2⟩
def AGAIN (n : Nat) : Field := ⟨reg n, 29, 1⟩
def SLOT (n : Nat) : Field := ⟨reg n, 24, 1⟩
def GEN (n : Nat) : Field := ⟨reg n, 0, 24⟩
end SCR_REGION_KEYSEL
namespace SCR_REGION_BOUNDARY
def reg (n : Nat) : Nat := 0x501004 + n * 0x10
def BOUNDARY (n : Nat) : Field := ⟨reg n, 0, 19⟩
end SCR_REGION_BOUNDARY
namespace SCR_REGION_ACCESS
def reg (n : Nat) : Nat := 0x501008 + n * 0x10
def DBG (n : Nat) : Field := ⟨reg n, 8, 2⟩
def REMOTE (n : Nat) : Field := ⟨reg n, 6, 2⟩
def HOST (n : Nat) : Field := ⟨reg n, 4, 2⟩
def FAB (n : Nat) : Field := ⟨reg n, 2, 2⟩
def HW (n : Nat) : Field := ⟨reg n, 0, 2⟩
end SCR_REGION_ACCESS
namespace SCR_REGION_MAXCTR
def reg (n : Nat) : Nat := 0x50100C + n * 0x10
def MAXCTR (n : Nat) : Field := ⟨reg n, 0, 28⟩
end SCR_REGION_MAXCTR
namespace NOC_STATUS
def reg : Nat := 0x600000
def DEADPORTS : Field := ⟨reg, 16, 8⟩
def FENCEDPORTS : Field := ⟨reg, 8, 8⟩
def RUN : Field := ⟨reg, 0, 1⟩
end NOC_STATUS
namespace NOC_EVENTS
def reg : Nat := 0x600004
def CFGERR : Field := ⟨reg, 9, 1⟩
def TIMEOUT : Field := ⟨reg, 8, 1⟩
def RTBUSY : Field := ⟨reg, 7, 1⟩
def DRAINED : Field := ⟨reg, 6, 1⟩
def FLIPERR : Field := ⟨reg, 5, 1⟩
def FLIPPED : Field := ⟨reg, 4, 1⟩
def FENCED : Field := ⟨reg, 3, 1⟩
def CLOSED : Field := ⟨reg, 2, 1⟩
def DEAD : Field := ⟨reg, 1, 1⟩
def HDRCHK : Field := ⟨reg, 0, 1⟩
end NOC_EVENTS
namespace NOC_IRQ_EN
def reg : Nat := 0x600008
def CFGERR : Field := ⟨reg, 9, 1⟩
def TIMEOUT : Field := ⟨reg, 8, 1⟩
def RTBUSY : Field := ⟨reg, 7, 1⟩
def DRAINED : Field := ⟨reg, 6, 1⟩
def FLIPERR : Field := ⟨reg, 5, 1⟩
def FLIPPED : Field := ⟨reg, 4, 1⟩
def FENCED : Field := ⟨reg, 3, 1⟩
def CLOSED : Field := ⟨reg, 2, 1⟩
def DEAD : Field := ⟨reg, 1, 1⟩
def HDRCHK : Field := ⟨reg, 0, 1⟩
end NOC_IRQ_EN
namespace NOC_EPOCH
def reg : Nat := 0x60000C
def FLIP : Field := ⟨reg, 31, 1⟩
def ERR : Field := ⟨reg, 8, 4⟩
def DRAINED : Field := ⟨reg, 1, 1⟩
def INJ : Field := ⟨reg, 0, 1⟩
end NOC_EPOCH
namespace NOC_TMO
def reg : Nat := 0x600010
def INI : Field := ⟨reg, 16, 16⟩
def TGT : Field := ⟨reg, 0, 16⟩
end NOC_TMO
namespace NOC_ERRCNT
def reg : Nat := 0x600014
def HDRERR : Field := ⟨reg, 16, 16⟩
def DECERR : Field := ⟨reg, 0, 16⟩
end NOC_ERRCNT
namespace NOC_RECLAIM
def reg : Nat := 0x600018
def PORT : Field := ⟨reg, 0, 10⟩
end NOC_RECLAIM
namespace NOC_STATCTL
def reg : Nat := 0x60001C
def CLEAR : Field := ⟨reg, 1, 1⟩
def FREEZE : Field := ⟨reg, 0, 1⟩
end NOC_STATCTL
namespace NOC_ROUTER_STATUS
def reg (n : Nat) : Nat := 0x600100 + n * 0x4
def HDRERR (n : Nat) : Field := ⟨reg n, 16, 16⟩
def OLDPKT (n : Nat) : Field := ⟨reg n, 0, 1⟩
end NOC_ROUTER_STATUS
namespace NOC_RT
def reg (n k : Nat) : Nat := 0x601000 + n * 0x20 + k * 0x4
def ROUTE (n k : Nat) : Field := ⟨reg n k, 0, 32⟩
end NOC_RT
namespace NOC_PORT_STATUS
def reg (n : Nat) : Nat := 0x602000 + n * 0x4
def LATE (n : Nat) : Field := ⟨reg n, 24, 8⟩
def DEADCNT (n : Nat) : Field := ⟨reg n, 16, 8⟩
def REVIVE (n : Nat) : Field := ⟨reg n, 8, 1⟩
def STATE (n : Nat) : Field := ⟨reg n, 0, 3⟩
end NOC_PORT_STATUS
namespace NOC_REGION_CFG
def reg (n : Nat) : Nat := 0x603000 + n * 0x8
def TGTEN (n : Nat) : Field := ⟨reg n, 31, 1⟩
def BADRSP (n : Nat) : Field := ⟨reg n, 20, 8⟩
def USED (n : Nat) : Field := ⟨reg n, 0, 12⟩
end NOC_REGION_CFG
namespace NOC_REGION_QUOTA
def reg (n : Nat) : Nat := 0x603004 + n * 0x8
def QUOTA (n : Nat) : Field := ⟨reg n, 0, 32⟩
end NOC_REGION_QUOTA
namespace NOC_INI_HIST
def reg (n k : Nat) : Nat := 0x604000 + n * 0x40 + k * 0x4
def HISTk (n k : Nat) : Field := ⟨reg n k, 0, 32⟩
end NOC_INI_HIST
namespace NOC_INI_RDUNITS
def reg (n : Nat) : Nat := 0x604020 + n * 0x40
def RDUNITS (n : Nat) : Field := ⟨reg n, 0, 32⟩
end NOC_INI_RDUNITS
namespace NOC_INI_WRUNITS
def reg (n : Nat) : Nat := 0x604024 + n * 0x40
def WRUNITS (n : Nat) : Field := ⟨reg n, 0, 32⟩
end NOC_INI_WRUNITS
namespace NOC_INI_ERR
def reg (n : Nat) : Nat := 0x604028 + n * 0x40
def DEADHIT (n : Nat) : Field := ⟨reg n, 16, 16⟩
def ERRRSP (n : Nat) : Field := ⟨reg n, 0, 16⟩
end NOC_INI_ERR
namespace NOC_INI_MAXLAT
def reg (n : Nat) : Nat := 0x60402C + n * 0x40
def MAXLAT (n : Nat) : Field := ⟨reg n, 0, 32⟩
end NOC_INI_MAXLAT
namespace LANE_STATUS
def reg : Nat := 0x700000
def REFOK : Field := ⟨reg, 24, 6⟩
def PLLLOCK : Field := ⟨reg, 0, 12⟩
end LANE_STATUS
namespace LANE_EVENTS
def reg : Nat := 0x700004
def CFGERR : Field := ⟨reg, 8, 1⟩
def POSTERR : Field := ⟨reg, 7, 1⟩
def TXUNDER : Field := ⟨reg, 6, 1⟩
def RXOVF : Field := ⟨reg, 5, 1⟩
def ESCANDONE : Field := ⟨reg, 4, 1⟩
def REJOIN : Field := ⟨reg, 3, 1⟩
def DEGRADE : Field := ⟨reg, 2, 1⟩
def PLLERR : Field := ⟨reg, 1, 1⟩
def LOL : Field := ⟨reg, 0, 1⟩
end LANE_EVENTS
namespace LANE_IRQ_EN
def reg : Nat := 0x700008
def CFGERR : Field := ⟨reg, 8, 1⟩
def POSTERR : Field := ⟨reg, 7, 1⟩
def TXUNDER : Field := ⟨reg, 6, 1⟩
def RXOVF : Field := ⟨reg, 5, 1⟩
def ESCANDONE : Field := ⟨reg, 4, 1⟩
def REJOIN : Field := ⟨reg, 3, 1⟩
def DEGRADE : Field := ⟨reg, 2, 1⟩
def PLLERR : Field := ⟨reg, 1, 1⟩
def LOL : Field := ⟨reg, 0, 1⟩
end LANE_IRQ_EN
namespace LANE_REFCFG
def reg : Nat := 0x70000C
def FREQ : Field := ⟨reg, 0, 6⟩
end LANE_REFCFG
namespace LANE_QUAD_CFG
def reg (n : Nat) : Nat := 0x700100 + n * 0x10
def BUNDLE (n : Nat) : Field := ⟨reg n, 16, 2⟩
def N (n : Nat) : Field := ⟨reg n, 0, 8⟩
end LANE_QUAD_CFG
namespace LANE_QUAD_STATUS
def reg (n : Nat) : Nat := 0x700104 + n * 0x10
def WIDTH1 (n : Nat) : Field := ⟨reg n, 12, 3⟩
def WIDTH0 (n : Nat) : Field := ⟨reg n, 8, 3⟩
def PLLERR (n : Nat) : Field := ⟨reg n, 1, 1⟩
def PLLLOCK (n : Nat) : Field := ⟨reg n, 0, 1⟩
end LANE_QUAD_STATUS
namespace LANE_LANE_CFG
def reg (n : Nat) : Nat := 0x701000 + n * 0x80
def POLPOS (n : Nat) : Field := ⟨reg n, 24, 2⟩
def POLCHAR (n : Nat) : Field := ⟨reg n, 16, 8⟩
def TXINV (n : Nat) : Field := ⟨reg n, 10, 1⟩
def RXINV (n : Nat) : Field := ⟨reg n, 9, 1⟩
def RXPOLAUTO (n : Nat) : Field := ⟨reg n, 8, 1⟩
def DIV (n : Nat) : Field := ⟨reg n, 4, 2⟩
def USE (n : Nat) : Field := ⟨reg n, 0, 3⟩
end LANE_LANE_CFG
namespace LANE_LANE_CTL
def reg (n : Nat) : Nat := 0x701004 + n * 0x80
def RETRAIN (n : Nat) : Field := ⟨reg n, 1, 1⟩
def EN (n : Nat) : Field := ⟨reg n, 0, 1⟩
end LANE_LANE_CTL
namespace LANE_LANE_STATUS
def reg (n : Nat) : Nat := 0x701008 + n * 0x80
def LOLCNT (n : Nat) : Field := ⟨reg n, 24, 8⟩
def ADAPTST (n : Nat) : Field := ⟨reg n, 12, 2⟩
def LPOS (n : Nat) : Field := ⟨reg n, 8, 2⟩
def EABORT (n : Nat) : Field := ⟨reg n, 7, 1⟩
def EDONE (n : Nat) : Field := ⟨reg n, 6, 1⟩
def POLINV (n : Nat) : Field := ⟨reg n, 5, 1⟩
def BUSY (n : Nat) : Field := ⟨reg n, 4, 1⟩
def STAGE (n : Nat) : Field := ⟨reg n, 0, 3⟩
end LANE_LANE_STATUS
namespace LANE_LANE_ADAPT
def reg (n : Nat) : Nat := 0x70100C + n * 0x80
def FRZTHR (n : Nat) : Field := ⟨reg n, 16, 16⟩
def MODE (n : Nat) : Field := ⟨reg n, 0, 1⟩
end LANE_LANE_ADAPT
namespace LANE_LANE_EQ0
def reg (n : Nat) : Nat := 0x701010 + n * 0x80
def TAP1 (n : Nat) : Field := ⟨reg n, 8, 8⟩
def CTLE (n : Nat) : Field := ⟨reg n, 0, 4⟩
end LANE_LANE_EQ0
namespace LANE_LANE_EQ1
def reg (n : Nat) : Nat := 0x701014 + n * 0x80
def TAPS (n : Nat) : Field := ⟨reg n, 0, 32⟩
end LANE_LANE_EQ1
namespace LANE_LANE_IDLE_LO
def reg (n : Nat) : Nat := 0x701018 + n * 0x80
def IDLE (n : Nat) : Field := ⟨reg n, 0, 32⟩
end LANE_LANE_IDLE_LO
namespace LANE_LANE_IDLE_HI
def reg (n : Nat) : Nat := 0x70101C + n * 0x80
def IDLE (n : Nat) : Field := ⟨reg n, 0, 8⟩
end LANE_LANE_IDLE_HI
namespace LANE_LANE_ESCAN
def reg (n : Nat) : Nat := 0x701020 + n * 0x80
def START (n : Nat) : Field := ⟨reg n, 31, 1⟩
def DWELL (n : Nat) : Field := ⟨reg n, 24, 5⟩
def VOFS (n : Nat) : Field := ⟨reg n, 16, 8⟩
def HOFS (n : Nat) : Field := ⟨reg n, 0, 6⟩
end LANE_LANE_ESCAN
namespace LANE_LANE_ESCNT
def reg (n : Nat) : Nat := 0x701024 + n * 0x80
def ESCNT (n : Nat) : Field := ⟨reg n, 0, 32⟩
end LANE_LANE_ESCNT
namespace LANE_LANE_ERRCNT
def reg (n : Nat) : Nat := 0x701028 + n * 0x80
def CODEERR (n : Nat) : Field := ⟨reg n, 16, 16⟩
def POSTERR (n : Nat) : Field := ⟨reg n, 12, 4⟩
def RXOVF (n : Nat) : Field := ⟨reg n, 4, 4⟩
def TXUNDER (n : Nat) : Field := ⟨reg n, 0, 4⟩
end LANE_LANE_ERRCNT
namespace LANE_LANE_RXRING
def reg (n : Nat) : Nat := 0x70102C + n * 0x80
def REGION (n : Nat) : Field := ⟨reg n, 16, 9⟩
def RINGLOG (n : Nat) : Field := ⟨reg n, 8, 4⟩
def BLK (n : Nat) : Field := ⟨reg n, 0, 3⟩
end LANE_LANE_RXRING
namespace LANE_LANE_RXOFS
def reg (n : Nat) : Nat := 0x701030 + n * 0x80
def OFS (n : Nat) : Field := ⟨reg n, 0, 24⟩
end LANE_LANE_RXOFS
namespace LANE_LANE_TXRING
def reg (n : Nat) : Nat := 0x701034 + n * 0x80
def REGION (n : Nat) : Field := ⟨reg n, 16, 9⟩
def RINGLOG (n : Nat) : Field := ⟨reg n, 8, 4⟩
def BLK (n : Nat) : Field := ⟨reg n, 0, 3⟩
end LANE_LANE_TXRING
namespace LANE_LANE_TXOFS
def reg (n : Nat) : Nat := 0x701038 + n * 0x80
def OFS (n : Nat) : Field := ⟨reg n, 0, 24⟩
end LANE_LANE_TXOFS
namespace LANE_LANE_FILL0
def reg (n : Nat) : Nat := 0x70103C + n * 0x80
def FILL (n : Nat) : Field := ⟨reg n, 0, 32⟩
end LANE_LANE_FILL0
namespace LANE_LANE_FILL1
def reg (n : Nat) : Nat := 0x701040 + n * 0x80
def LEN (n : Nat) : Field := ⟨reg n, 4, 4⟩
def K (n : Nat) : Field := ⟨reg n, 0, 4⟩
end LANE_LANE_FILL1
namespace VSM_STATUS
def reg : Nat := 0x800000
def TSTATE : Field := ⟨reg, 0, 2⟩
end VSM_STATUS
namespace VSM_EVENTS
def reg : Nat := 0x800004
def CFGERR : Field := ⟨reg, 7, 1⟩
def SWUNLOCK : Field := ⟨reg, 6, 1⟩
def SWDROP : Field := ⟨reg, 5, 1⟩
def ANGCONF : Field := ⟨reg, 4, 1⟩
def FAIL : Field := ⟨reg, 3, 1⟩
def LINKCHG : Field := ⟨reg, 2, 1⟩
def STEP : Field := ⟨reg, 1, 1⟩
def TSTCHG : Field := ⟨reg, 0, 1⟩
end VSM_EVENTS
namespace VSM_IRQ_EN
def reg : Nat := 0x800008
def CFGERR : Field := ⟨reg, 7, 1⟩
def SWUNLOCK : Field := ⟨reg, 6, 1⟩
def SWDROP : Field := ⟨reg, 5, 1⟩
def ANGCONF : Field := ⟨reg, 4, 1⟩
def FAIL : Field := ⟨reg, 3, 1⟩
def LINKCHG : Field := ⟨reg, 2, 1⟩
def STEP : Field := ⟨reg, 1, 1⟩
def TSTCHG : Field := ⟨reg, 0, 1⟩
end VSM_IRQ_EN
namespace VSM_NODE
def reg : Nat := 0x80000C
def NODE : Field := ⟨reg, 0, 16⟩
end VSM_NODE
namespace VSM_TIME_CFG
def reg : Nat := 0x800010
def GM : Field := ⟨reg, 31, 1⟩
def UPPORT : Field := ⟨reg, 24, 6⟩
def DREQMS : Field := ⟨reg, 16, 8⟩
def SYNCINT : Field := ⟨reg, 0, 16⟩
end VSM_TIME_CFG
namespace VSM_TIME_OFS
def reg : Nat := 0x800014
def OFFSET : Field := ⟨reg, 0, 32⟩
end VSM_TIME_OFS
namespace VSM_GM
def reg : Nat := 0x800018
def GMNODE : Field := ⟨reg, 16, 16⟩
def GMHOPS : Field := ⟨reg, 0, 6⟩
end VSM_GM
namespace VSM_ANGCFG
def reg : Nat := 0x80001C
def ANGINT : Field := ⟨reg, 0, 16⟩
end VSM_ANGCFG
namespace VSM_TUN
def reg : Nat := 0x800020
def TUNEN : Field := ⟨reg, 31, 1⟩
def TMO : Field := ⟨reg, 0, 16⟩
end VSM_TUN
namespace VSM_RTSEL
def reg : Nat := 0x800024
def NODE : Field := ⟨reg, 0, 16⟩
end VSM_RTSEL
namespace VSM_RTDATA
def reg : Nat := 0x800028
def VALID : Field := ⟨reg, 31, 1⟩
def PORT : Field := ⟨reg, 0, 6⟩
end VSM_RTDATA
namespace VSM_ERRCNT
def reg : Nat := 0x80002C
def NOROUTE : Field := ⟨reg, 16, 16⟩
def SWDROP : Field := ⟨reg, 0, 16⟩
end VSM_ERRCNT
namespace VSM_ANGTX
def reg (n : Nat) : Nat := 0x800100 + n * 0x4
def EN (n : Nat) : Field := ⟨reg n, 31, 1⟩
def AXIS (n : Nat) : Field := ⟨reg n, 0, 4⟩
end VSM_ANGTX
namespace VSM_ANGRX
def reg (n : Nat) : Nat := 0x800140 + n * 0x4
def SRCNODE (n : Nat) : Field := ⟨reg n, 16, 16⟩
def GAPLIM (n : Nat) : Field := ⟨reg n, 0, 16⟩
end VSM_ANGRX
namespace VSM_WIN
def reg (n : Nat) : Nat := 0x800200 + n * 0x4
def EN (n : Nat) : Field := ⟨reg n, 31, 1⟩
def REMBASE (n : Nat) : Field := ⟨reg n, 16, 8⟩
def NODE (n : Nat) : Field := ⟨reg n, 0, 16⟩
end VSM_WIN
namespace VSM_RPT_CFG
def reg (n : Nat) : Nat := 0x800400 + n * 0x20
def EN (n : Nat) : Field := ⟨reg n, 31, 1⟩
def RINGLOG (n : Nat) : Field := ⟨reg n, 16, 5⟩
def SRC (n : Nat) : Field := ⟨reg n, 0, 16⟩
end VSM_RPT_CFG
namespace VSM_RPT_BASE_LO
def reg (n : Nat) : Nat := 0x800404 + n * 0x20
def ADDR (n : Nat) : Field := ⟨reg n, 5, 27⟩
end VSM_RPT_BASE_LO
namespace VSM_RPT_BASE_HI
def reg (n : Nat) : Nat := 0x800408 + n * 0x20
def ADDR (n : Nat) : Field := ⟨reg n, 0, 8⟩
end VSM_RPT_BASE_HI
namespace VSM_RPT_WPTR
def reg (n : Nat) : Nat := 0x80040C + n * 0x20
def WPTR (n : Nat) : Field := ⟨reg n, 0, 32⟩
end VSM_RPT_WPTR
namespace VSM_RPT_RPTR
def reg (n : Nat) : Nat := 0x800410 + n * 0x20
def RPTR (n : Nat) : Field := ⟨reg n, 0, 32⟩
end VSM_RPT_RPTR
namespace VSM_PORT_CFG
def reg (n : Nat) : Nat := 0x801000 + n * 0x40
def EN (n : Nat) : Field := ⟨reg n, 31, 1⟩
def DOWN (n : Nat) : Field := ⟨reg n, 30, 1⟩
def ROLE (n : Nat) : Field := ⟨reg n, 28, 2⟩
end VSM_PORT_CFG
namespace VSM_PORT_STATUS
def reg (n : Nat) : Nat := 0x801004 + n * 0x40
def BUSY (n : Nat) : Field := ⟨reg n, 7, 1⟩
def WIDTH (n : Nat) : Field := ⟨reg n, 4, 3⟩
def STATE (n : Nat) : Field := ⟨reg n, 0, 2⟩
end VSM_PORT_STATUS
namespace VSM_PORT_DELAY
def reg (n : Nat) : Nat := 0x801008 + n * 0x40
def DELAY (n : Nat) : Field := ⟨reg n, 0, 32⟩
end VSM_PORT_DELAY
namespace VSM_PORT_ASYM
def reg (n : Nat) : Nat := 0x80100C + n * 0x40
def ASYM (n : Nat) : Field := ⟨reg n, 0, 32⟩
end VSM_PORT_ASYM
namespace VSM_PORT_ERRCNT
def reg (n : Nat) : Nat := 0x801010 + n * 0x40
def FAILCNT (n : Nat) : Field := ⟨reg n, 16, 16⟩
def HDRERR (n : Nat) : Field := ⟨reg n, 8, 8⟩
def CTLERR (n : Nat) : Field := ⟨reg n, 0, 8⟩
end VSM_PORT_ERRCNT
namespace VSM_PORT_LASTFAIL
def reg (n : Nat) : Nat := 0x801014 + n * 0x40
def CHAN (n : Nat) : Field := ⟨reg n, 24, 8⟩
def SEQ (n : Nat) : Field := ⟨reg n, 0, 16⟩
end VSM_PORT_LASTFAIL
namespace VSM_PORT_RETX
def reg (n : Nat) : Nat := 0x801018 + n * 0x40
def RETX (n : Nat) : Field := ⟨reg n, 0, 32⟩
end VSM_PORT_RETX
namespace TWIN_STATUS
def reg : Nat := 0x900000
def DETREASON : Field := ⟨reg, 28, 4⟩
def PEERSEL : Field := ⟨reg, 15, 1⟩
def SEL : Field := ⟨reg, 14, 1⟩
def LINKFAULT : Field := ⟨reg, 13, 1⟩
def TLOCK : Field := ⟨reg, 12, 1⟩
def LEASEIN : Field := ⟨reg, 11, 1⟩
def LEASEOUT : Field := ⟨reg, 10, 1⟩
def HOPEND : Field := ⟨reg, 9, 1⟩
def BUSY : Field := ⟨reg, 8, 1⟩
def STATE : Field := ⟨reg, 0, 3⟩
end TWIN_STATUS
namespace TWIN_EVENTS
def reg : Nat := 0x900004
def CFGERR : Field := ⟨reg, 9, 1⟩
def RSTREQ : Field := ⟨reg, 8, 1⟩
def HOERR : Field := ⟨reg, 7, 1⟩
def HANDOVER : Field := ⟨reg, 6, 1⟩
def READY : Field := ⟨reg, 5, 1⟩
def DETACHED : Field := ⟨reg, 4, 1⟩
def LINKFAULT : Field := ⟨reg, 3, 1⟩
def PEERLOST : Field := ⟨reg, 2, 1⟩
def TAKEOVER : Field := ⟨reg, 1, 1⟩
def STATECHG : Field := ⟨reg, 0, 1⟩
end TWIN_EVENTS
namespace TWIN_IRQ_EN
def reg : Nat := 0x900008
def CFGERR : Field := ⟨reg, 9, 1⟩
def RSTREQ : Field := ⟨reg, 8, 1⟩
def HOERR : Field := ⟨reg, 7, 1⟩
def HANDOVER : Field := ⟨reg, 6, 1⟩
def READY : Field := ⟨reg, 5, 1⟩
def DETACHED : Field := ⟨reg, 4, 1⟩
def LINKFAULT : Field := ⟨reg, 3, 1⟩
def PEERLOST : Field := ⟨reg, 2, 1⟩
def TAKEOVER : Field := ⟨reg, 1, 1⟩
def STATECHG : Field := ⟨reg, 0, 1⟩
end TWIN_IRQ_EN
namespace TWIN_CFG
def reg : Nat := 0x90000C
def EN : Field := ⟨reg, 31, 1⟩
def LEASEEN : Field := ⟨reg, 30, 1⟩
def AUTORST : Field := ⟨reg, 29, 1⟩
def ACCRST : Field := ⟨reg, 28, 1⟩
def TAKEUNSYNC : Field := ⟨reg, 27, 1⟩
def PORT : Field := ⟨reg, 0, 6⟩
end TWIN_CFG
namespace TWIN_CTL
def reg : Nat := 0x900010
def RSTPEER : Field := ⟨reg, 3, 1⟩
def RESYNC : Field := ⟨reg, 2, 1⟩
def YIELD : Field := ⟨reg, 1, 1⟩
def HANDOVER : Field := ⟨reg, 0, 1⟩
end TWIN_CTL
namespace TWIN_LEASE
def reg : Nat := 0x900014
def INPIN : Field := ⟨reg, 16, 10⟩
def OUTPIN : Field := ⟨reg, 0, 10⟩
end TWIN_LEASE
namespace TWIN_TIMING
def reg : Nat := 0x900018
def CONVERGE : Field := ⟨reg, 16, 16⟩
def SOLOWAIT : Field := ⟨reg, 0, 16⟩
end TWIN_TIMING
namespace TWIN_AXCHK
def reg : Nat := 0x90001C
def AXTOL : Field := ⟨reg, 16, 16⟩
def AXMASK : Field := ⟨reg, 0, 16⟩
end TWIN_AXCHK
namespace TWIN_HOTIME_LO
def reg : Nat := 0x900020
def HOTIME : Field := ⟨reg, 0, 32⟩
end TWIN_HOTIME_LO
namespace TWIN_HOTIME_HI
def reg : Nat := 0x900024
def HOTIME : Field := ⟨reg, 0, 32⟩
end TWIN_HOTIME_HI
namespace TWIN_ERRCNT
def reg : Nat := 0x900028
def DISCARDED : Field := ⟨reg, 16, 16⟩
def DIFFCNT : Field := ⟨reg, 8, 8⟩
def RSTREF : Field := ⟨reg, 0, 8⟩
end TWIN_ERRCNT
namespace TWIN_LASTTO_LO
def reg : Nat := 0x90002C
def LASTTO : Field := ⟨reg, 0, 32⟩
end TWIN_LASTTO_LO
namespace TWIN_LASTTO_HI
def reg : Nat := 0x900030
def LASTTO : Field := ⟨reg, 0, 32⟩
end TWIN_LASTTO_HI
namespace TWIN_PEERWIN
def reg : Nat := 0x900034
def EN : Field := ⟨reg, 31, 1⟩
def WIN : Field := ⟨reg, 0, 4⟩
end TWIN_PEERWIN
namespace TWIN_SHARE
def reg (n : Nat) : Nat := 0x900100 + n * 0x4
def SHARE (n : Nat) : Field := ⟨reg n, 0, 32⟩
end TWIN_SHARE
namespace XBAR_STATUS
def reg : Nat := 0x200000
def PEND : Field := ⟨reg, 0, 16⟩
end XBAR_STATUS
namespace XBAR_EVENTS
def reg : Nat := 0x200004
def TBLCHK : Field := ⟨reg, 5, 1⟩
def CFGERR : Field := ⟨reg, 4, 1⟩
def DROPPED : Field := ⟨reg, 3, 1⟩
def RECLAIMED : Field := ⟨reg, 2, 1⟩
def DENIED : Field := ⟨reg, 1, 1⟩
def COMMITTED : Field := ⟨reg, 0, 1⟩
end XBAR_EVENTS
namespace XBAR_IRQ_EN
def reg : Nat := 0x200008
def TBLCHK : Field := ⟨reg, 5, 1⟩
def CFGERR : Field := ⟨reg, 4, 1⟩
def DROPPED : Field := ⟨reg, 3, 1⟩
def RECLAIMED : Field := ⟨reg, 2, 1⟩
def DENIED : Field := ⟨reg, 1, 1⟩
def COMMITTED : Field := ⟨reg, 0, 1⟩
end XBAR_IRQ_EN
namespace XBAR_COMMIT
def reg : Nat := 0x20000C
def MASK : Field := ⟨reg, 0, 16⟩
end XBAR_COMMIT
namespace XBAR_RECLAIM
def reg : Nat := 0x200010
def GROUP : Field := ⟨reg, 0, 4⟩
end XBAR_RECLAIM
namespace XBAR_ERRCNT
def reg : Nat := 0x200014
def DENIED : Field := ⟨reg, 16, 16⟩
def DROPPED : Field := ⟨reg, 0, 16⟩
end XBAR_ERRCNT
namespace XBAR_TBLERR
def reg : Nat := 0x200018
def COUNT : Field := ⟨reg, 16, 16⟩
def TABLE : Field := ⟨reg, 14, 2⟩
def STAGE : Field := ⟨reg, 13, 1⟩
def INDEX : Field := ⟨reg, 0, 10⟩
end XBAR_TBLERR
namespace XBAR_CG_CTL
def reg (n : Nat) : Nat := 0x200040 + n * 0x4
def COMMITCNT (n : Nat) : Field := ⟨reg n, 8, 8⟩
def OWNER (n : Nat) : Field := ⟨reg n, 0, 2⟩
end XBAR_CG_CTL
namespace XBAR_PIN_CFG
def reg (n : Nat) : Nat := 0x201000 + n * 0x4
def SAFE (n : Nat) : Field := ⟨reg n, 30, 2⟩
def FILT (n : Nat) : Field := ⟨reg n, 27, 3⟩
def IMODE (n : Nat) : Field := ⟨reg n, 24, 3⟩
def OEMODE (n : Nat) : Field := ⟨reg n, 22, 2⟩
def ODRAIN (n : Nat) : Field := ⟨reg n, 21, 1⟩
def INVOUT (n : Nat) : Field := ⟨reg n, 20, 1⟩
def INVIN (n : Nat) : Field := ⟨reg n, 19, 1⟩
def SLEW (n : Nat) : Field := ⟨reg n, 18, 1⟩
def DRIVE (n : Nat) : Field := ⟨reg n, 16, 2⟩
def PULL (n : Nat) : Field := ⟨reg n, 14, 2⟩
end XBAR_PIN_CFG
namespace XBAR_PAD
def reg (n : Nat) : Nat := 0x203000 + n * 0x4
def PAD (n : Nat) : Field := ⟨reg n, 0, 32⟩
end XBAR_PAD
namespace XBAR_PINIRQ
def reg (n : Nat) : Nat := 0x203100 + n * 0x4
def IRQ (n : Nat) : Field := ⟨reg n, 0, 32⟩
end XBAR_PINIRQ
namespace XBAR_PINIRQ_EN
def reg (n : Nat) : Nat := 0x203200 + n * 0x4
def EN (n : Nat) : Field := ⟨reg n, 0, 32⟩
end XBAR_PINIRQ_EN
namespace XBAR_BANK_STATUS
def reg (n : Nat) : Nat := 0x203300 + n * 0x4
def VIO (n : Nat) : Field := ⟨reg n, 0, 2⟩
end XBAR_BANK_STATUS
namespace XBAR_SRC_DEST
def reg (n : Nat) : Nat := 0x210000 + n * 0x4
def CG (n : Nat) : Field := ⟨reg n, 28, 4⟩
def EN1 (n : Nat) : Field := ⟨reg n, 26, 1⟩
def PIN1 (n : Nat) : Field := ⟨reg n, 16, 10⟩
def EN0 (n : Nat) : Field := ⟨reg n, 10, 1⟩
def PIN0 (n : Nat) : Field := ⟨reg n, 0, 10⟩
end XBAR_SRC_DEST
namespace XBAR_SRC_STAGE
def reg (n : Nat) : Nat := 0x218000 + n * 0x4
def CG (n : Nat) : Field := ⟨reg n, 28, 4⟩
def EN1 (n : Nat) : Field := ⟨reg n, 26, 1⟩
def PIN1 (n : Nat) : Field := ⟨reg n, 16, 10⟩
def EN0 (n : Nat) : Field := ⟨reg n, 10, 1⟩
def PIN0 (n : Nat) : Field := ⟨reg n, 0, 10⟩
end XBAR_SRC_STAGE
namespace XBAR_IN_SEL
def reg (n : Nat) : Nat := 0x220000 + n * 0x4
def CG (n : Nat) : Field := ⟨reg n, 28, 4⟩
def EN (n : Nat) : Field := ⟨reg n, 12, 1⟩
def INT (n : Nat) : Field := ⟨reg n, 11, 1⟩
def SEL (n : Nat) : Field := ⟨reg n, 0, 10⟩
end XBAR_IN_SEL
namespace XBAR_IN_STAGE
def reg (n : Nat) : Nat := 0x228000 + n * 0x4
def CG (n : Nat) : Field := ⟨reg n, 28, 4⟩
def EN (n : Nat) : Field := ⟨reg n, 12, 1⟩
def INT (n : Nat) : Field := ⟨reg n, 11, 1⟩
def SEL (n : Nat) : Field := ⟨reg n, 0, 10⟩
end XBAR_IN_STAGE
namespace PER_EVENTS
def reg : Nat := 0xC00000
def UART : Field := ⟨reg, 24, 8⟩
def SPI : Field := ⟨reg, 20, 4⟩
def I2C : Field := ⟨reg, 16, 4⟩
def ENC : Field := ⟨reg, 0, 16⟩
end PER_EVENTS
namespace PER_IRQ_EN
def reg : Nat := 0xC00004
def UART : Field := ⟨reg, 24, 8⟩
def SPI : Field := ⟨reg, 20, 4⟩
def I2C : Field := ⟨reg, 16, 4⟩
def ENC : Field := ⟨reg, 0, 16⟩
end PER_IRQ_EN
namespace PER_ENC_CFG
def reg (n : Nat) : Nat := 0xC00100 + n * 0x20
def EN (n : Nat) : Field := ⟨reg n, 31, 1⟩
def DIRINV (n : Nat) : Field := ⟨reg n, 18, 1⟩
def MODE (n : Nat) : Field := ⟨reg n, 16, 2⟩
def JUMPLIM (n : Nat) : Field := ⟨reg n, 0, 16⟩
end PER_ENC_CFG
namespace PER_ENC_SSI
def reg (n : Nat) : Nat := 0xC00104 + n * 0x20
def BITS (n : Nat) : Field := ⟨reg n, 24, 5⟩
def GRAY (n : Nat) : Field := ⟨reg n, 23, 1⟩
def MONO (n : Nat) : Field := ⟨reg n, 8, 8⟩
def CLKDIV (n : Nat) : Field := ⟨reg n, 0, 8⟩
end PER_ENC_SSI
namespace PER_ENC_STATUS
def reg (n : Nat) : Nat := 0xC00108 + n * 0x20
def FLTCNT (n : Nat) : Field := ⟨reg n, 24, 8⟩
def JUMP (n : Nat) : Field := ⟨reg n, 3, 1⟩
def TIMEOUT (n : Nat) : Field := ⟨reg n, 2, 1⟩
def ILLEGAL (n : Nat) : Field := ⟨reg n, 1, 1⟩
def FAULT (n : Nat) : Field := ⟨reg n, 0, 1⟩
end PER_ENC_STATUS
namespace PER_ENC_COUNT
def reg (n : Nat) : Nat := 0xC0010C + n * 0x20
def COUNT (n : Nat) : Field := ⟨reg n, 0, 32⟩
end PER_ENC_COUNT
namespace PER_ENC_POS
def reg (n : Nat) : Nat := 0xC00110 + n * 0x20
def POS (n : Nat) : Field := ⟨reg n, 0, 32⟩
end PER_ENC_POS
namespace PER_I2C_CFG
def reg (n : Nat) : Nat := 0xC00400 + n * 0x20
def EN (n : Nat) : Field := ⟨reg n, 31, 1⟩
def TOUT (n : Nat) : Field := ⟨reg n, 16, 8⟩
def SPEED (n : Nat) : Field := ⟨reg n, 0, 2⟩
end PER_I2C_CFG
namespace PER_I2C_CMD
def reg (n : Nat) : Nat := 0xC00404 + n * 0x20
def STOP (n : Nat) : Field := ⟨reg n, 12, 1⟩
def START (n : Nat) : Field := ⟨reg n, 11, 1⟩
def NACK (n : Nat) : Field := ⟨reg n, 10, 1⟩
def READ (n : Nat) : Field := ⟨reg n, 9, 1⟩
def WRITE (n : Nat) : Field := ⟨reg n, 8, 1⟩
def DATA (n : Nat) : Field := ⟨reg n, 0, 8⟩
end PER_I2C_CMD
namespace PER_I2C_RXDATA
def reg (n : Nat) : Nat := 0xC00408 + n * 0x20
def RXDATA (n : Nat) : Field := ⟨reg n, 0, 32⟩
end PER_I2C_RXDATA
namespace PER_I2C_STATUS
def reg (n : Nat) : Nat := 0xC0040C + n * 0x20
def RXFILL (n : Nat) : Field := ⟨reg n, 24, 8⟩
def TXFILL (n : Nat) : Field := ⟨reg n, 16, 8⟩
def BUSY (n : Nat) : Field := ⟨reg n, 7, 1⟩
def BREAK (n : Nat) : Field := ⟨reg n, 4, 1⟩
def ERRC (n : Nat) : Field := ⟨reg n, 3, 1⟩
def ERRB (n : Nat) : Field := ⟨reg n, 2, 1⟩
def ERRA (n : Nat) : Field := ⟨reg n, 1, 1⟩
def DONE (n : Nat) : Field := ⟨reg n, 0, 1⟩
end PER_I2C_STATUS
namespace PER_SPI_CFG
def reg (n : Nat) : Nat := 0xC00500 + n * 0x20
def EN (n : Nat) : Field := ⟨reg n, 31, 1⟩
def LSBFIRST (n : Nat) : Field := ⟨reg n, 30, 1⟩
def CSHOLD (n : Nat) : Field := ⟨reg n, 29, 1⟩
def CS (n : Nat) : Field := ⟨reg n, 26, 2⟩
def MODE (n : Nat) : Field := ⟨reg n, 24, 2⟩
def BITS (n : Nat) : Field := ⟨reg n, 16, 5⟩
def DIV (n : Nat) : Field := ⟨reg n, 0, 8⟩
end PER_SPI_CFG
namespace PER_SPI_TXDATA
def reg (n : Nat) : Nat := 0xC00504 + n * 0x20
def TXDATA (n : Nat) : Field := ⟨reg n, 0, 32⟩
end PER_SPI_TXDATA
namespace PER_SPI_RXDATA
def reg (n : Nat) : Nat := 0xC00508 + n * 0x20
def RXDATA (n : Nat) : Field := ⟨reg n, 0, 32⟩
end PER_SPI_RXDATA
namespace PER_SPI_STATUS
def reg (n : Nat) : Nat := 0xC0050C + n * 0x20
def RXFILL (n : Nat) : Field := ⟨reg n, 24, 8⟩
def TXFILL (n : Nat) : Field := ⟨reg n, 16, 8⟩
def BUSY (n : Nat) : Field := ⟨reg n, 7, 1⟩
def BREAK (n : Nat) : Field := ⟨reg n, 4, 1⟩
def ERRC (n : Nat) : Field := ⟨reg n, 3, 1⟩
def ERRB (n : Nat) : Field := ⟨reg n, 2, 1⟩
def ERRA (n : Nat) : Field := ⟨reg n, 1, 1⟩
def DONE (n : Nat) : Field := ⟨reg n, 0, 1⟩
end PER_SPI_STATUS
namespace PER_UART_CFG
def reg (n : Nat) : Nat := 0xC00600 + n * 0x20
def EN (n : Nat) : Field := ⟨reg n, 31, 1⟩
def RTSCTS (n : Nat) : Field := ⟨reg n, 30, 1⟩
def PARITY (n : Nat) : Field := ⟨reg n, 28, 2⟩
def STOP2 (n : Nat) : Field := ⟨reg n, 27, 1⟩
def DATA7 (n : Nat) : Field := ⟨reg n, 26, 1⟩
def DIV (n : Nat) : Field := ⟨reg n, 0, 20⟩
end PER_UART_CFG
namespace PER_UART_TXDATA
def reg (n : Nat) : Nat := 0xC00604 + n * 0x20
def TXDATA (n : Nat) : Field := ⟨reg n, 0, 32⟩
end PER_UART_TXDATA
namespace PER_UART_RXDATA
def reg (n : Nat) : Nat := 0xC00608 + n * 0x20
def RXDATA (n : Nat) : Field := ⟨reg n, 0, 32⟩
end PER_UART_RXDATA
namespace PER_UART_STATUS
def reg (n : Nat) : Nat := 0xC0060C + n * 0x20
def RXFILL (n : Nat) : Field := ⟨reg n, 24, 8⟩
def TXFILL (n : Nat) : Field := ⟨reg n, 16, 8⟩
def BUSY (n : Nat) : Field := ⟨reg n, 7, 1⟩
def BREAK (n : Nat) : Field := ⟨reg n, 4, 1⟩
def ERRC (n : Nat) : Field := ⟨reg n, 3, 1⟩
def ERRB (n : Nat) : Field := ⟨reg n, 2, 1⟩
def ERRA (n : Nat) : Field := ⟨reg n, 1, 1⟩
def DONE (n : Nat) : Field := ⟨reg n, 0, 1⟩
end PER_UART_STATUS
namespace PER_PMB_CFG
def reg : Nat := 0xC00800
def AVS : Field := ⟨reg, 2, 1⟩
def PEC : Field := ⟨reg, 1, 1⟩
def SPEED : Field := ⟨reg, 0, 1⟩
end PER_PMB_CFG
namespace PER_PMB_STATUS
def reg : Nat := 0xC00804
def NACKCNT : Field := ⟨reg, 24, 8⟩
def PECERR : Field := ⟨reg, 16, 8⟩
def LASTCMD : Field := ⟨reg, 8, 8⟩
def ALERT : Field := ⟨reg, 1, 1⟩
def BUSY : Field := ⟨reg, 0, 1⟩
end PER_PMB_STATUS
namespace RST_CAUSE
def reg : Nat := 0x10000
def CAUSE : Field := ⟨reg, 0, 11⟩
end RST_CAUSE
namespace RST_LAST
def reg : Nat := 0x10004
def HALTED : Field := ⟨reg, 31, 1⟩
def HALTLEVEL : Field := ⟨reg, 28, 3⟩
def HALTKIND : Field := ⟨reg, 24, 4⟩
def REACH : Field := ⟨reg, 16, 2⟩
def CAUSE : Field := ⟨reg, 0, 4⟩
end RST_LAST
namespace RST_STATUS
def reg : Nat := 0x10008
def TRIMERR : Field := ⟨reg, 3, 1⟩
def HALT : Field := ⟨reg, 2, 1⟩
def TRIMVALID : Field := ⟨reg, 1, 1⟩
def FABBUSY : Field := ⟨reg, 0, 1⟩
end RST_STATUS
namespace RST_CTL
def reg : Nat := 0x1000C
def REQ : Field := ⟨reg, 0, 2⟩
end RST_CTL
namespace RST_BLKERR
def reg : Nat := 0x10010
def COUNT : Field := ⟨reg, 16, 16⟩
def REG : Field := ⟨reg, 8, 2⟩
def BIT : Field := ⟨reg, 3, 5⟩
def CODE : Field := ⟨reg, 0, 3⟩
end RST_BLKERR
namespace RST_BLOCK0
def reg : Nat := 0x10020
def UART : Field := ⟨reg, 24, 8⟩
def SPI : Field := ⟨reg, 20, 4⟩
def I2C : Field := ⟨reg, 16, 4⟩
def ENC : Field := ⟨reg, 0, 16⟩
end RST_BLOCK0
namespace RST_BLOCK1
def reg : Nat := 0x10024
def PMB : Field := ⟨reg, 18, 1⟩
def HBM : Field := ⟨reg, 14, 4⟩
def USB : Field := ⟨reg, 13, 1⟩
def VSM : Field := ⟨reg, 12, 1⟩
def QUAD : Field := ⟨reg, 0, 12⟩
end RST_BLOCK1
namespace RST_BLOCK2
def reg : Nat := 0x10028
def CAP : Field := ⟨reg, 6, 4⟩
def EDG : Field := ⟨reg, 2, 4⟩
def CMP : Field := ⟨reg, 0, 2⟩
end RST_BLOCK2
namespace RST_BLOCK3
def reg : Nat := 0x1002C
def AXIS : Field := ⟨reg, 0, 16⟩
end RST_BLOCK3
namespace RST_FABSEL
def reg (n : Nat) : Nat := 0x10100 + n * 0x4
def SEL (n : Nat) : Field := ⟨reg n, 0, 32⟩
end RST_FABSEL
namespace PWR_STATUS
def reg : Nat := 0x20000
def QUEUED : Field := ⟨reg, 1, 1⟩
def TRANS : Field := ⟨reg, 0, 1⟩
end PWR_STATUS
namespace PWR_EVENTS
def reg : Nat := 0x20004
def LOWWARN : Field := ⟨reg, 3, 1⟩
def AVSERR : Field := ⟨reg, 2, 1⟩
def REFUSED : Field := ⟨reg, 1, 1⟩
def STATECHG : Field := ⟨reg, 0, 1⟩
end PWR_EVENTS
namespace PWR_IRQ_EN
def reg : Nat := 0x20008
def LOWWARN : Field := ⟨reg, 3, 1⟩
def AVSERR : Field := ⟨reg, 2, 1⟩
def REFUSED : Field := ⟨reg, 1, 1⟩
def STATECHG : Field := ⟨reg, 0, 1⟩
end PWR_IRQ_EN
namespace PWR_AVS_CFG
def reg : Nat := 0x2000C
def EN : Field := ⟨reg, 31, 1⟩
def IF_ : Field := ⟨reg, 30, 1⟩
def ADDR : Field := ⟨reg, 16, 7⟩
def PAGE : Field := ⟨reg, 8, 8⟩
end PWR_AVS_CFG
namespace PWR_AVS_STATUS
def reg : Nat := 0x20010
def TARGET : Field := ⟨reg, 16, 16⟩
def MEAS : Field := ⟨reg, 0, 16⟩
end PWR_AVS_STATUS
namespace PWR_PD_CTL
def reg (n : Nat) : Nat := 0x20100 + n * 0x8
def REQ (n : Nat) : Field := ⟨reg n, 0, 2⟩
end PWR_PD_CTL
namespace PWR_PD_STATUS
def reg (n : Nat) : Nat := 0x20104 + n * 0x8
def ERR (n : Nat) : Field := ⟨reg n, 8, 4⟩
def FIXED (n : Nat) : Field := ⟨reg n, 4, 1⟩
def BUSY (n : Nat) : Field := ⟨reg n, 3, 1⟩
def STATE (n : Nat) : Field := ⟨reg n, 0, 3⟩
end PWR_PD_STATUS
namespace CLK_STATUS
def reg : Nat := 0x30000
def FPLLLOCK : Field := ⟨reg, 16, 8⟩
def ANGLOCK : Field := ⟨reg, 2, 1⟩
def SYSLOCK : Field := ⟨reg, 1, 1⟩
def REFOK : Field := ⟨reg, 0, 1⟩
end CLK_STATUS
namespace CLK_EVENTS
def reg : Nat := 0x30004
def MOVED : Field := ⟨reg, 2, 1⟩
def CFGERR : Field := ⟨reg, 1, 1⟩
def FPLLLOST : Field := ⟨reg, 0, 1⟩
end CLK_EVENTS
namespace CLK_IRQ_EN
def reg : Nat := 0x30008
def MOVED : Field := ⟨reg, 2, 1⟩
def CFGERR : Field := ⟨reg, 1, 1⟩
def FPLLLOST : Field := ⟨reg, 0, 1⟩
end CLK_IRQ_EN
namespace CLK_FPLL_CFG
def reg (n : Nat) : Nat := 0x30100 + n * 0x8
def EN (n : Nat) : Field := ⟨reg n, 31, 1⟩
def P (n : Nat) : Field := ⟨reg n, 8, 7⟩
def M (n : Nat) : Field := ⟨reg n, 0, 5⟩
end CLK_FPLL_CFG
namespace CLK_FPLL_STATUS
def reg (n : Nat) : Nat := 0x30104 + n * 0x8
def USERS (n : Nat) : Field := ⟨reg n, 12, 10⟩
def FREQ (n : Nat) : Field := ⟨reg n, 2, 10⟩
def LOST (n : Nat) : Field := ⟨reg n, 1, 1⟩
def LOCK (n : Nat) : Field := ⟨reg n, 0, 1⟩
end CLK_FPLL_STATUS
namespace CLK_REGION_CFG
def reg (n : Nat) : Nat := 0x31000 + n * 0x8
def PEND (n : Nat) : Field := ⟨reg n, 31, 1⟩
def STAGE (n : Nat) : Field := ⟨reg n, 16, 3⟩
def SRC (n : Nat) : Field := ⟨reg n, 0, 3⟩
end CLK_REGION_CFG
namespace CLK_REGION_STATUS
def reg (n : Nat) : Nat := 0x31004 + n * 0x8
def FMAX (n : Nat) : Field := ⟨reg n, 22, 10⟩
def CLKLOST (n : Nat) : Field := ⟨reg n, 12, 1⟩
def FREQ (n : Nat) : Field := ⟨reg n, 0, 10⟩
end CLK_REGION_STATUS
namespace THM_STATUS
def reg : Nat := 0x40000
def MAXCH : Field := ⟨reg, 24, 8⟩
def TRIP : Field := ⟨reg, 17, 1⟩
def THROTTLE : Field := ⟨reg, 16, 1⟩
def MAXTEMP : Field := ⟨reg, 0, 16⟩
end THM_STATUS
namespace THM_EVENTS
def reg : Nat := 0x40004
def CFGERR : Field := ⟨reg, 4, 1⟩
def BROKEN : Field := ⟨reg, 3, 1⟩
def THROTTLE : Field := ⟨reg, 2, 1⟩
def ALARM : Field := ⟨reg, 1, 1⟩
def WARN : Field := ⟨reg, 0, 1⟩
end THM_EVENTS
namespace THM_IRQ_EN
def reg : Nat := 0x40008
def CFGERR : Field := ⟨reg, 4, 1⟩
def BROKEN : Field := ⟨reg, 3, 1⟩
def THROTTLE : Field := ⟨reg, 2, 1⟩
def ALARM : Field := ⟨reg, 1, 1⟩
def WARN : Field := ⟨reg, 0, 1⟩
end THM_IRQ_EN
namespace THM_TRIP
def reg : Nat := 0x4000C
def TRIP : Field := ⟨reg, 0, 16⟩
end THM_TRIP
namespace THM_CRYS
def reg : Nat := 0x40010
def EN : Field := ⟨reg, 31, 1⟩
def CH : Field := ⟨reg, 16, 6⟩
def TURN : Field := ⟨reg, 0, 8⟩
end THM_CRYS
namespace THM_CH_CFG
def reg (n : Nat) : Nat := 0x40100 + n * 0x10
def EN (n : Nat) : Field := ⟨reg n, 31, 1⟩
def HYST (n : Nat) : Field := ⟨reg n, 8, 4⟩
def ACTION (n : Nat) : Field := ⟨reg n, 6, 2⟩
def TARGET (n : Nat) : Field := ⟨reg n, 0, 5⟩
end THM_CH_CFG
namespace THM_CH_THR
def reg (n : Nat) : Nat := 0x40104 + n * 0x10
def ALARM (n : Nat) : Field := ⟨reg n, 16, 16⟩
def WARN (n : Nat) : Field := ⟨reg n, 0, 16⟩
end THM_CH_THR
namespace THM_CH_PARAM
def reg (n : Nat) : Nat := 0x40108 + n * 0x10
def BETA (n : Nat) : Field := ⟨reg n, 16, 16⟩
def RNOM (n : Nat) : Field := ⟨reg n, 0, 16⟩
end THM_CH_PARAM
namespace THM_CH_READ
def reg (n : Nat) : Nat := 0x4010C + n * 0x10
def VALID (n : Nat) : Field := ⟨reg n, 31, 1⟩
def BROKEN (n : Nat) : Field := ⟨reg n, 30, 1⟩
def ALARMF (n : Nat) : Field := ⟨reg n, 29, 1⟩
def WARNF (n : Nat) : Field := ⟨reg n, 28, 1⟩
def TEMP (n : Nat) : Field := ⟨reg n, 0, 16⟩
end THM_CH_READ
namespace AGE_STATUS
def reg : Nat := 0x50000
def FMAXPEND : Field := ⟨reg, 1, 1⟩
def PLANPEND : Field := ⟨reg, 0, 1⟩
end AGE_STATUS
namespace AGE_EVENTS
def reg : Nat := 0x50004
def MARGINLOW : Field := ⟨reg, 2, 1⟩
def APPLIED : Field := ⟨reg, 1, 1⟩
def MEASURED : Field := ⟨reg, 0, 1⟩
end AGE_EVENTS
namespace AGE_IRQ_EN
def reg : Nat := 0x50008
def MARGINLOW : Field := ⟨reg, 2, 1⟩
def APPLIED : Field := ⟨reg, 1, 1⟩
def MEASURED : Field := ⟨reg, 0, 1⟩
end AGE_IRQ_EN
namespace AGE_CFG
def reg : Nat := 0x5000C
def WARNH : Field := ⟨reg, 16, 16⟩
def MINMARGIN : Field := ⟨reg, 0, 8⟩
end AGE_CFG
namespace AGE_HOURS
def reg : Nat := 0x50010
def HOURS : Field := ⟨reg, 0, 32⟩
end AGE_HOURS
namespace AGE_PLAN
def reg : Nat := 0x50014
def VTARGET : Field := ⟨reg, 0, 16⟩
end AGE_PLAN
namespace AGE_PREDHOURS
def reg : Nat := 0x50018
def PREDHOURS : Field := ⟨reg, 0, 32⟩
end AGE_PREDHOURS
namespace AGE_REGION_MARGIN
def reg (n : Nat) : Nat := 0x51000 + n * 0x4
def DRIFT (n : Nat) : Field := ⟨reg n, 20, 12⟩
def DWC (n : Nat) : Field := ⟨reg n, 8, 8⟩
def MARGIN (n : Nat) : Field := ⟨reg n, 0, 8⟩
end AGE_REGION_MARGIN
namespace AON_STATUS
def reg : Nat := 0x60000
def VBATLOST : Field := ⟨reg, 31, 1⟩
def MAINLOST : Field := ⟨reg, 30, 1⟩
def XTALFAIL : Field := ⟨reg, 3, 1⟩
def VBATLOW : Field := ⟨reg, 2, 1⟩
def DISC : Field := ⟨reg, 1, 1⟩
end AON_STATUS
namespace AON_EVENTS
def reg : Nat := 0x60004
def LOGOVF : Field := ⟨reg, 2, 1⟩
def LOGNEW : Field := ⟨reg, 1, 1⟩
def VBATLOW : Field := ⟨reg, 0, 1⟩
end AON_EVENTS
namespace AON_IRQ_EN
def reg : Nat := 0x60008
def LOGOVF : Field := ⟨reg, 2, 1⟩
def LOGNEW : Field := ⟨reg, 1, 1⟩
def VBATLOW : Field := ⟨reg, 0, 1⟩
end AON_IRQ_EN
namespace AON_RTC_RATE
def reg : Nat := 0x6000C
def RATE : Field := ⟨reg, 0, 32⟩
end AON_RTC_RATE
namespace AON_RTC_LO
def reg : Nat := 0x60010
def RTC : Field := ⟨reg, 0, 32⟩
end AON_RTC_LO
namespace AON_RTC_HI
def reg : Nat := 0x60014
def RTC : Field := ⟨reg, 0, 32⟩
end AON_RTC_HI
namespace AON_CMP_CFG
def reg (n : Nat) : Nat := 0x60020 + n * 0x4
def EN (n : Nat) : Field := ⟨reg n, 31, 1⟩
def LOCK (n : Nat) : Field := ⟨reg n, 30, 1⟩
def THR (n : Nat) : Field := ⟨reg n, 20, 4⟩
def DEB (n : Nat) : Field := ⟨reg n, 16, 4⟩
def EDGE (n : Nat) : Field := ⟨reg n, 10, 2⟩
def ERASE (n : Nat) : Field := ⟨reg n, 9, 1⟩
def LEVEL (n : Nat) : Field := ⟨reg n, 8, 1⟩
end AON_CMP_CFG
namespace AON_LOG_STATUS
def reg : Nat := 0x60040
def LOST : Field := ⟨reg, 16, 16⟩
def FILL : Field := ⟨reg, 0, 7⟩
end AON_LOG_STATUS
namespace AON_LOG_ENT
def reg (n : Nat) : Nat := 0x60044 + n * 0x4
def ENT (n : Nat) : Field := ⟨reg n, 0, 32⟩
end AON_LOG_ENT
namespace AON_START_SEL
def reg : Nat := 0x60060
def INDEX : Field := ⟨reg, 0, 4⟩
end AON_START_SEL
namespace AON_START_ENT
def reg (n : Nat) : Nat := 0x60064 + n * 0x4
def ENT (n : Nat) : Field := ⟨reg n, 0, 32⟩
end AON_START_ENT
namespace AON_LGR_RECSEQ
def reg : Nat := 0x60090
def RECSEQ : Field := ⟨reg, 0, 32⟩
end AON_LGR_RECSEQ
namespace AON_LGR_OLDEST
def reg (n : Nat) : Nat := 0x60100 + n * 0x10
def VALID (n : Nat) : Field := ⟨reg n, 31, 1⟩
def OLDEST (n : Nat) : Field := ⟨reg n, 0, 30⟩
end AON_LGR_OLDEST
namespace AON_LGR_NEXTSEQ
def reg (n : Nat) : Nat := 0x60104 + n * 0x10
def NEXTSEQ (n : Nat) : Field := ⟨reg n, 0, 30⟩
end AON_LGR_NEXTSEQ
namespace AON_LGR_MASK_LO
def reg (n : Nat) : Nat := 0x60108 + n * 0x10
def MASK (n : Nat) : Field := ⟨reg n, 0, 32⟩
end AON_LGR_MASK_LO
namespace AON_LGR_MASK_HI
def reg (n : Nat) : Nat := 0x6010C + n * 0x10
def MASK (n : Nat) : Field := ⟨reg n, 0, 32⟩
end AON_LGR_MASK_HI
namespace AON_POLICY
def reg (n : Nat) : Nat := 0x60200 + n * 0x4
def ENTRY (n : Nat) : Field := ⟨reg n, 0, 32⟩
end AON_POLICY
namespace AON_TWINREC
def reg : Nat := 0x60240
def VALID : Field := ⟨reg, 31, 1⟩
def FREQ : Field := ⟨reg, 8, 1⟩
def LANE : Field := ⟨reg, 0, 6⟩
end AON_TWINREC
namespace SEC_STATUS
def reg : Nat := 0x70000
def BUSY : Field := ⟨reg, 24, 1⟩
def ARB : Field := ⟨reg, 16, 8⟩
def REVOKED : Field := ⟨reg, 12, 4⟩
def SLOTPROG : Field := ⟨reg, 8, 4⟩
def RNGOK : Field := ⟨reg, 3, 1⟩
def KFPROG : Field := ⟨reg, 2, 1⟩
def KBVALID : Field := ⟨reg, 1, 1⟩
end SEC_STATUS
namespace SEC_EVENTS
def reg : Nat := 0x70004
def FUSEVOTE : Field := ⟨reg, 3, 1⟩
def RNGFAIL : Field := ⟨reg, 2, 1⟩
def KBERASED : Field := ⟨reg, 1, 1⟩
def FUSEDONE : Field := ⟨reg, 0, 1⟩
end SEC_EVENTS
namespace SEC_IRQ_EN
def reg : Nat := 0x70008
def FUSEVOTE : Field := ⟨reg, 3, 1⟩
def RNGFAIL : Field := ⟨reg, 2, 1⟩
def KBERASED : Field := ⟨reg, 1, 1⟩
def FUSEDONE : Field := ⟨reg, 0, 1⟩
end SEC_IRQ_EN
namespace SEC_POLICY
def reg : Nat := 0x7000C
def POLICY : Field := ⟨reg, 0, 32⟩
end SEC_POLICY
namespace SEC_SERIAL_LO
def reg : Nat := 0x70010
def SERIAL : Field := ⟨reg, 0, 32⟩
end SEC_SERIAL_LO
namespace SEC_SERIAL_HI
def reg : Nat := 0x70014
def SERIAL : Field := ⟨reg, 0, 32⟩
end SEC_SERIAL_HI
namespace SEC_ERRCNT
def reg : Nat := 0x70018
def VOTE : Field := ⟨reg, 16, 16⟩
def RNGFAIL : Field := ⟨reg, 0, 16⟩
end SEC_ERRCNT
namespace SEC_IDPUB
def reg (n : Nat) : Nat := 0x70100 + n * 0x4
def IDPUB (n : Nat) : Field := ⟨reg n, 0, 32⟩
end SEC_IDPUB
namespace SEC_SIGNER_HASH
def reg (n k : Nat) : Nat := 0x70200 + n * 0x20 + k * 0x4
def HASH (n k : Nat) : Field := ⟨reg n k, 0, 32⟩
end SEC_SIGNER_HASH
namespace USB_STATUS
def reg : Nat := 0xA00000
def GEN : Field := ⟨reg, 2, 2⟩
def PCIE : Field := ⟨reg, 1, 1⟩
def LINK : Field := ⟨reg, 0, 1⟩
end USB_STATUS
namespace USB_EVENTS
def reg : Nat := 0xA00004
def WRERR : Field := ⟨reg, 3, 1⟩
def BAR4WR : Field := ⟨reg, 2, 1⟩
def LINKCHG : Field := ⟨reg, 1, 1⟩
def MBXERR : Field := ⟨reg, 0, 1⟩
end USB_EVENTS
namespace USB_IRQ_EN
def reg : Nat := 0xA00008
def WRERR : Field := ⟨reg, 3, 1⟩
def BAR4WR : Field := ⟨reg, 2, 1⟩
def LINKCHG : Field := ⟨reg, 1, 1⟩
def MBXERR : Field := ⟨reg, 0, 1⟩
end USB_IRQ_EN
namespace USB_IRQ_REARM
def reg : Nat := 0xA0000C
def REARM : Field := ⟨reg, 0, 32⟩
end USB_IRQ_REARM
namespace USB_BAR2WIN
def reg : Nat := 0xA00010
def WIN : Field := ⟨reg, 0, 8⟩
end USB_BAR2WIN
namespace USB_CSRWIN
def reg : Nat := 0xA00014
def BASE : Field := ⟨reg, 15, 17⟩
end USB_CSRWIN
namespace USB_ERRCNT
def reg : Nat := 0xA00018
def WRERR : Field := ⟨reg, 16, 16⟩
def MBXERR : Field := ⟨reg, 0, 16⟩
end USB_ERRCNT
namespace USB_MBX_DOORBELL
def reg : Nat := 0xA00020
def RING : Field := ⟨reg, 0, 16⟩
end USB_MBX_DOORBELL
namespace USB_MBX_DONE
def reg : Nat := 0xA00024
def DONE : Field := ⟨reg, 0, 16⟩
end USB_MBX_DONE
namespace USB_MBX_STATE
def reg : Nat := 0xA00028
def STATE : Field := ⟨reg, 0, 32⟩
end USB_MBX_STATE
namespace USB_MBX_REQ
def reg (n : Nat) : Nat := 0xA01000 + n * 0x40
def REQ (n : Nat) : Field := ⟨reg n, 0, 32⟩
end USB_MBX_REQ
namespace USB_MBX_A
def reg (n k : Nat) : Nat := 0xA01004 + n * 0x40 + k * 0x4
def A (n k : Nat) : Field := ⟨reg n k, 0, 32⟩
end USB_MBX_A
namespace USB_MBX_RSP
def reg (n : Nat) : Nat := 0xA01020 + n * 0x40
def RSP (n : Nat) : Field := ⟨reg n, 0, 32⟩
end USB_MBX_RSP
namespace USB_MBX_R
def reg (n k : Nat) : Nat := 0xA01024 + n * 0x40 + k * 0x4
def RES (n k : Nat) : Field := ⟨reg n k, 0, 32⟩
end USB_MBX_R
namespace USB_DMA_BASE_LO
def reg (n : Nat) : Nat := 0xA02000 + n * 0x20
def ADDR (n : Nat) : Field := ⟨reg n, 5, 27⟩
end USB_DMA_BASE_LO
namespace USB_DMA_BASE_HI
def reg (n : Nat) : Nat := 0xA02004 + n * 0x20
def ADDR (n : Nat) : Field := ⟨reg n, 0, 32⟩
end USB_DMA_BASE_HI
namespace USB_DMA_CTL
def reg (n : Nat) : Nat := 0xA02008 + n * 0x20
def EN (n : Nat) : Field := ⟨reg n, 31, 1⟩
def RINGLOG (n : Nat) : Field := ⟨reg n, 8, 4⟩
end USB_DMA_CTL
namespace USB_DMA_TAIL
def reg (n : Nat) : Nat := 0xA0200C + n * 0x20
def TAIL (n : Nat) : Field := ⟨reg n, 0, 16⟩
end USB_DMA_TAIL
namespace USB_DMA_HEAD
def reg (n : Nat) : Nat := 0xA02010 + n * 0x20
def HEAD (n : Nat) : Field := ⟨reg n, 0, 16⟩
end USB_DMA_HEAD
namespace USB_DMA_STATUS
def reg (n : Nat) : Nat := 0xA02014 + n * 0x20
def LASTSTAT (n : Nat) : Field := ⟨reg n, 24, 8⟩
def STATE (n : Nat) : Field := ⟨reg n, 8, 2⟩
def BUSY (n : Nat) : Field := ⟨reg n, 4, 1⟩
def LINK (n : Nat) : Field := ⟨reg n, 2, 1⟩
def ERR (n : Nat) : Field := ⟨reg n, 1, 1⟩
def DONE (n : Nat) : Field := ⟨reg n, 0, 1⟩
end USB_DMA_STATUS
namespace DBG_STATUS
def reg : Nat := 0xB00000
def IR : Field := ⟨reg, 24, 8⟩
def LOCK : Field := ⟨reg, 3, 1⟩
def BSCAN : Field := ⟨reg, 2, 1⟩
def RSTHELD : Field := ⟨reg, 1, 1⟩
def PEND : Field := ⟨reg, 0, 1⟩
end DBG_STATUS
namespace DBG_RSTREQ
def reg : Nat := 0xB00004
def REQ : Field := ⟨reg, 0, 2⟩
end DBG_RSTREQ
namespace DBG_ERRCNT
def reg : Nat := 0xB00008
def DENIED : Field := ⟨reg, 16, 16⟩
def OVERRUN : Field := ⟨reg, 0, 16⟩
end DBG_ERRCNT
end R

/-- The ANG block's registers. -/
def rowsANG : List RegRow :=
  [⟨0x100000, 1, 4, 1, 4, 0x0, 0x0, 0x0, 0x0, 0x0, .any⟩,
  ⟨0x100004, 1, 4, 1, 4, 0x0, 0x0, 0x0, 0xFFFF, 0x0, .any⟩,
  ⟨0x100008, 1, 4, 1, 4, 0x0, 0x0, 0x0, 0xFFFF, 0x0, .any⟩,
  ⟨0x10000C, 1, 4, 1, 4, 0x0, 0x7FFFF, 0x0, 0x0, 0x0, .any⟩,
  ⟨0x100010, 1, 4, 1, 4, 0x7FFFF, 0x0, 0x0, 0x0, 0x0, .any⟩,
  ⟨0x100014, 1, 4, 1, 4, 0x0, 0x0, 0x0, 0x0, 0x0, .any⟩,
  ⟨0x100018, 1, 4, 1, 4, 0x0, 0x0, 0x0, 0x0, 0x0, .any⟩,
  ⟨0x100100, 16, 64, 1, 4, 0xF7F, 0x0, 0x0, 0x0, 0x0, .any⟩,
  ⟨0x100104, 16, 64, 1, 4, 0x5, 0x0, 0x2, 0x0, 0x0, .any⟩,
  ⟨0x100108, 16, 64, 1, 4, 0x0, 0x0, 0x0, 0x0, 0xFF000000, .any⟩,
  ⟨0x10010C, 16, 64, 1, 4, 0xFFFFFF, 0x0, 0x0, 0x0, 0x0, .any⟩,
  ⟨0x100110, 16, 64, 1, 4, 0xFFFFFFFF, 0x0, 0x0, 0x0, 0x0, .any⟩,
  ⟨0x100114, 16, 64, 1, 4, 0xFFFFFFFF, 0x0, 0x0, 0x0, 0x0, .any⟩,
  ⟨0x100118, 16, 64, 1, 4, 0xFFFFFFFF, 0x0, 0x0, 0x0, 0x0, .any⟩,
  ⟨0x10011C, 16, 64, 1, 4, 0xFFFFFFFF, 0x0, 0x0, 0x0, 0x0, .any⟩,
  ⟨0x100120, 16, 64, 1, 4, 0xFFFFFFFF, 0x0, 0x0, 0x0, 0x0, .any⟩,
  ⟨0x100124, 16, 64, 1, 4, 0xFFFFFFFF, 0x0, 0x0, 0x0, 0x0, .any⟩,
  ⟨0x100128, 16, 64, 1, 4, 0xFFFFFFFF, 0x0, 0x0, 0x0, 0x0, .any⟩,
  ⟨0x10012C, 16, 64, 1, 4, 0x0, 0x0, 0x0, 0x0, 0x0, .any⟩,
  ⟨0x100130, 16, 64, 1, 4, 0xFFFF, 0x0, 0x0, 0x0, 0x0, .any⟩  ]
  ++ [⟨0x100134, 16, 64, 1, 4, 0xFFFFFFFF, 0x0, 0x0, 0x0, 0x0, .any⟩,
  ⟨0x100138, 16, 64, 1, 4, 0x0, 0x0, 0x0, 0x0, 0x0, .any⟩,
  ⟨0x10013C, 16, 64, 1, 4, 0x0, 0x0, 0x0, 0x0, 0x0, .any⟩ ]

/-- The EVT block's registers. -/
def rowsEVT : List RegRow :=
  [⟨0x110000, 2, 4, 1, 4, 0x0, 0xFFFFFFFF, 0x0, 0x0, 0x0, .any⟩,
  ⟨0x110008, 2, 4, 1, 4, 0xFFFFFFFF, 0x0, 0x0, 0x0, 0x0, .any⟩,
  ⟨0x110010, 4, 4, 1, 4, 0x0, 0xFFFFFFFF, 0x0, 0x0, 0x0, .any⟩,
  ⟨0x110020, 4, 4, 1, 4, 0xFFFFFFFF, 0x0, 0x0, 0x0, 0x0, .any⟩,
  ⟨0x110030, 4, 4, 1, 4, 0x0, 0x0, 0x0, 0x0, 0x0, .any⟩,
  ⟨0x110040, 4, 4, 1, 4, 0xFFFFFFFF, 0x0, 0x0, 0x0, 0x0, .any⟩,
  ⟨0x111000, 64, 32, 1, 4, 0xFCF3, 0x0, 0x0, 0x0, 0x0, .any⟩,
  ⟨0x111004, 64, 32, 1, 4, 0x7FF, 0x0, 0x0, 0x0, 0x0, .any⟩,
  ⟨0x111008, 64, 32, 1, 4, 0xFFFFFFFF, 0x0, 0x0, 0x0, 0x0, .any⟩,
  ⟨0x11100C, 64, 32, 1, 4, 0xFFFFFFFF, 0x0, 0x0, 0x0, 0x0, .any⟩,
  ⟨0x111010, 64, 32, 1, 4, 0xFFFFFFFF, 0x0, 0x0, 0x0, 0x0, .any⟩,
  ⟨0x111014, 64, 32, 1, 4, 0x0, 0x6, 0x0, 0x0, 0xFFFF0000, .any⟩,
  ⟨0x112000, 128, 32, 1, 4, 0xFFF803, 0x0, 0x0, 0x0, 0x0, .any⟩,
  ⟨0x112004, 128, 32, 1, 4, 0xFFFFFFFF, 0x0, 0x0, 0x0, 0x0, .any⟩,
  ⟨0x112008, 128, 32, 1, 4, 0xFFFFFFFF, 0x0, 0x0, 0x0, 0x0, .any⟩,
  ⟨0x11200C, 128, 32, 1, 4, 0xFFFFFFFF, 0x0, 0x0, 0x0, 0x0, .any⟩,
  ⟨0x112010, 128, 32, 1, 4, 0xFFFFFFFF, 0x0, 0x0, 0x0, 0x0, .any⟩,
  ⟨0x112014, 128, 32, 1, 4, 0xFFFFFFFF, 0x0, 0x0, 0x0, 0x0, .any⟩,
  ⟨0x112018, 128, 32, 1, 4, 0xFFFFFFFF, 0x0, 0x0, 0x0, 0x0, .any⟩,
  ⟨0x11201C, 128, 32, 1, 4, 0x0, 0x78, 0x0, 0x0, 0x0, .any⟩  ]
  ++ [⟨0x114000, 128, 64, 1, 4, 0xFFF000, 0x0, 0x0, 0x0, 0x0, .any⟩,
  ⟨0x114004, 128, 64, 1, 4, 0xFFFFFFFF, 0x0, 0x0, 0x0, 0x0, .any⟩,
  ⟨0x114008, 128, 64, 1, 4, 0xFFFFFFFF, 0x0, 0x0, 0x0, 0x0, .any⟩,
  ⟨0x11400C, 128, 64, 1, 4, 0xFFFFFFF0, 0x0, 0x0, 0x0, 0x0, .any⟩,
  ⟨0x114010, 128, 64, 1, 4, 0xFFF, 0x0, 0x0, 0x0, 0x0, .any⟩,
  ⟨0x114014, 128, 64, 1, 4, 0x0, 0x1C, 0x0, 0x0, 0x0, .any⟩,
  ⟨0x114020, 128, 64, 4, 4, 0x0, 0x0, 0x0, 0x0, 0x0, .any⟩ ]

/-- The SYS block's registers. -/
def rowsSYS : List RegRow :=
  [⟨0x0, 1, 4, 1, 4, 0x0, 0x0, 0x0, 0x0, 0x0, .any⟩,
  ⟨0x4, 1, 4, 1, 4, 0x0, 0x0, 0x0, 0x0, 0x0, .any⟩,
  ⟨0x100, 16, 4, 1, 4, 0x0, 0xFFFFFFFF, 0x0, 0x0, 0x0, .any⟩,
  ⟨0x140, 16, 4, 1, 4, 0xFFFFFFFF, 0x0, 0x0, 0x0, 0x0, .any⟩,
  ⟨0x4000, 512, 8, 1, 4, 0x3FFFF, 0x0, 0x0, 0x0, 0x0, .any⟩,
  ⟨0x4004, 512, 8, 1, 4, 0x0, 0x1, 0x8, 0x0, 0xFF00, .any⟩,
  ⟨0x8000, 512, 4, 1, 4, 0x0, 0x0, 0x0, 0x0, 0xFFFF0000, .any⟩ ]

/-- The CTX block's registers. -/
def rowsCTX : List RegRow :=
  [⟨0x90000, 1, 4, 1, 4, 0x0, 0x0, 0x0, 0xFFFFFFFF, 0x0, .any⟩,
  ⟨0x90010, 1, 4, 1, 4, 0x0, 0xFFFFFFFF, 0x0, 0x0, 0x0, .any⟩,
  ⟨0x90014, 1, 4, 1, 4, 0xFFFFFFFF, 0x0, 0x0, 0x0, 0x0, .any⟩,
  ⟨0x90018, 1, 4, 1, 4, 0x0, 0xFFFFFFFF, 0x0, 0x0, 0x0, .any⟩,
  ⟨0x9001C, 1, 4, 1, 4, 0xFFFFFFFF, 0x0, 0x0, 0x0, 0x0, .any⟩,
  ⟨0x90100, 32, 16, 1, 4, 0xC1FF001F, 0x0, 0x0, 0x0, 0x0, .any⟩,
  ⟨0x90104, 32, 16, 1, 4, 0x0, 0xC, 0x0, 0x0, 0xFF000000, .any⟩,
  ⟨0x91000, 512, 8, 1, 4, 0x9F003F00, 0x0, 0x0, 0x0, 0x0, .any⟩,
  ⟨0x91004, 512, 8, 1, 4, 0x0, 0x4, 0x0, 0x0, 0xFF000000, .any⟩,
  ⟨0x98000, 4096, 4, 1, 4, 0x0, 0x0, 0x0, 0x0, 0x0, .any⟩ ]

/-- The LGR block's registers. -/
def rowsLGR : List RegRow :=
  [⟨0x120000, 1, 4, 1, 4, 0x3, 0x0, 0x0, 0x0, 0x0, .any⟩,
  ⟨0x120004, 1, 4, 1, 4, 0x0, 0x0, 0x0, 0x0, 0x0, .any⟩,
  ⟨0x120008, 1, 4, 1, 4, 0x0, 0x0, 0x0, 0xF, 0x0, .any⟩,
  ⟨0x12000C, 1, 4, 1, 4, 0x0, 0xFF, 0x0, 0x0, 0x0, .any⟩,
  ⟨0x120010, 1, 4, 1, 4, 0xFF, 0x0, 0x0, 0x0, 0x0, .any⟩,
  ⟨0x120014, 1, 4, 1, 4, 0x0, 0x0, 0x0, 0x0, 0xFFFFFFFF, .any⟩,
  ⟨0x120018, 1, 4, 1, 4, 0x0, 0x0, 0x0, 0x0, 0x0, .any⟩,
  ⟨0x120020, 1, 4, 1, 4, 0xFFFFFFE0, 0x0, 0x0, 0x0, 0x0, .any⟩,
  ⟨0x120024, 1, 4, 1, 4, 0x1FFF, 0x0, 0x0, 0x0, 0x0, .any⟩,
  ⟨0x120028, 1, 4, 1, 4, 0x0, 0x0, 0x0, 0x0, 0x0, .any⟩,
  ⟨0x12002C, 1, 4, 1, 4, 0xFFFFFFFF, 0x0, 0x0, 0x0, 0x0, .any⟩,
  ⟨0x120030, 1, 4, 1, 4, 0xFFFF000F, 0x0, 0x0, 0x0, 0x0, .any⟩,
  ⟨0x120100, 4, 64, 1, 4, 0xF0FFFF7F, 0x0, 0x0, 0x0, 0x0, .any⟩,
  ⟨0x120104, 4, 64, 1, 4, 0xFFFF, 0x0, 0x0, 0x0, 0x0, .any⟩,
  ⟨0x120108, 4, 64, 1, 4, 0xFFFFFFFF, 0x0, 0x0, 0x0, 0x0, .any⟩,
  ⟨0x12010C, 4, 64, 1, 4, 0xFFFFFFFF, 0x0, 0x0, 0x0, 0x0, .any⟩,
  ⟨0x120110, 4, 64, 1, 4, 0xFFFFFFFF, 0x0, 0x0, 0x0, 0x0, .any⟩,
  ⟨0x120114, 4, 64, 1, 4, 0xFFFFFFFF, 0x0, 0x0, 0x0, 0x0, .any⟩,
  ⟨0x120118, 4, 64, 1, 4, 0xFFFFFFFF, 0x0, 0x0, 0x0, 0x0, .any⟩,
  ⟨0x12011C, 4, 64, 1, 4, 0xFFFFFFFF, 0x0, 0x0, 0x0, 0x0, .any⟩  ]
  ++ [⟨0x120120, 4, 64, 1, 4, 0x0, 0x0, 0x0, 0x0, 0x0, .any⟩,
  ⟨0x120124, 4, 64, 1, 4, 0x0, 0x0, 0x0, 0x0, 0x0, .any⟩,
  ⟨0x120128, 4, 64, 1, 4, 0x0, 0x0, 0x0, 0x0, 0x0, .any⟩,
  ⟨0x120400, 64, 16, 1, 4, 0xFF0007FF, 0x0, 0x0, 0x0, 0x0, .any⟩,
  ⟨0x120404, 64, 16, 1, 4, 0xFFFFFFFF, 0x0, 0x0, 0x0, 0x0, .any⟩,
  ⟨0x120408, 64, 16, 1, 4, 0xFFFFFFFF, 0x0, 0x0, 0x0, 0x0, .any⟩,
  ⟨0x121000, 64, 4, 1, 4, 0xFFFFFFFF, 0x0, 0x0, 0x0, 0x0, .any⟩ ]

/-- The CFG block's registers. -/
def rowsCFG : List RegRow :=
  [⟨0x80000, 1, 4, 1, 4, 0x0, 0x0, 0x0, 0x0, 0x0, .supervisor⟩,
  ⟨0x80004, 1, 4, 1, 4, 0x0, 0x3F, 0x0, 0x0, 0x0, .supervisor⟩,
  ⟨0x80008, 1, 4, 1, 4, 0x3F, 0x0, 0x0, 0x0, 0x0, .supervisor⟩,
  ⟨0x8000C, 1, 4, 1, 4, 0x0, 0x0, 0x0, 0xF, 0x0, .supervisor⟩,
  ⟨0x80100, 4, 16, 1, 4, 0x0, 0x0, 0x0, 0x0, 0x0, .supervisor⟩,
  ⟨0x80104, 4, 16, 1, 4, 0x0, 0x0, 0x0, 0x0, 0x0, .supervisor⟩,
  ⟨0x80108, 4, 16, 1, 4, 0x0, 0x0, 0x0, 0x0, 0x0, .supervisor⟩,
  ⟨0x8010C, 4, 16, 1, 4, 0x0, 0x0, 0x0, 0x0, 0x0, .supervisor⟩ ]

/-- The UPS block's registers. -/
def rowsUPS : List RegRow :=
  [⟨0xA0000, 1, 4, 1, 4, 0x8000FFFF, 0x0, 0x0, 0x0, 0x0, .any⟩,
  ⟨0xA0004, 1, 4, 1, 4, 0x0, 0x3F, 0x0, 0x0, 0x0, .any⟩,
  ⟨0xA0008, 1, 4, 1, 4, 0x3F, 0x0, 0x0, 0x0, 0x0, .any⟩,
  ⟨0xA000C, 1, 4, 1, 4, 0x0, 0x0, 0x0, 0x0, 0xFFFFFFFF, .any⟩,
  ⟨0xA0010, 1, 4, 1, 4, 0x0, 0x0, 0x0, 0x0, 0x0, .any⟩,
  ⟨0xA0014, 1, 4, 1, 4, 0x0, 0x0, 0x0, 0x0, 0x0, .any⟩,
  ⟨0xA0018, 1, 4, 1, 4, 0x0, 0x0, 0x0, 0x0, 0x0, .any⟩,
  ⟨0xA0100, 128, 4, 1, 4, 0xFFFFFFFF, 0x0, 0x0, 0x0, 0x0, .supervisor⟩,
  ⟨0xA1000, 512, 4, 1, 4, 0x0, 0x0, 0x0, 0x0, 0xFF000000, .any⟩ ]

/-- The MEM block's registers. -/
def rowsMEM : List RegRow :=
  [⟨0x300000, 1, 4, 1, 4, 0x0, 0x0, 0x0, 0x0, 0x0, .any⟩,
  ⟨0x300004, 1, 4, 1, 4, 0x0, 0x7F, 0x0, 0x0, 0x0, .any⟩,
  ⟨0x300008, 1, 4, 1, 4, 0x7F, 0x0, 0x0, 0x0, 0x0, .any⟩,
  ⟨0x30000C, 1, 4, 1, 4, 0x0, 0x0, 0x0, 0xFFF, 0x0, .supervisor⟩,
  ⟨0x300010, 1, 4, 1, 4, 0x0, 0x0, 0x0, 0x0, 0xFFFFFFFF, .any⟩,
  ⟨0x300014, 1, 4, 1, 4, 0x2, 0x0, 0x1, 0x0, 0x0, .any⟩,
  ⟨0x300018, 1, 4, 1, 4, 0x0, 0x0, 0x0, 0x0, 0x0, .any⟩,
  ⟨0x300400, 256, 4, 1, 4, 0x1, 0x0, 0x0, 0x0, 0x0, .any⟩,
  ⟨0x300800, 128, 4, 1, 4, 0xFFFFFFFF, 0x0, 0x0, 0x0, 0x0, .any⟩,
  ⟨0x301000, 4096, 8, 1, 4, 0x77, 0x0, 0x0, 0x0, 0x0, .any⟩,
  ⟨0x301004, 4096, 8, 1, 4, 0x0, 0x4, 0x0, 0x0, 0x0, .any⟩ ]

/-- The HBM block's registers. -/
def rowsHBM : List RegRow :=
  [⟨0x400000, 1, 4, 1, 4, 0x0, 0x0, 0x0, 0x0, 0x0, .any⟩,
  ⟨0x400004, 1, 4, 1, 4, 0x0, 0x1F, 0x0, 0x0, 0x0, .any⟩,
  ⟨0x400008, 1, 4, 1, 4, 0x1F, 0x0, 0x0, 0x0, 0x0, .any⟩,
  ⟨0x40000C, 1, 4, 1, 4, 0x0, 0x0, 0x0, 0x0, 0xFFFF, .any⟩,
  ⟨0x400100, 4, 16, 1, 4, 0x0, 0x0, 0x0, 0x0, 0x0, .any⟩,
  ⟨0x400104, 4, 16, 1, 4, 0x0, 0x0, 0x0, 0x0, 0x0, .any⟩,
  ⟨0x401000, 128, 4, 1, 4, 0x0, 0x0, 0x0, 0x0, 0xFFFFFFFF, .any⟩ ]

/-- The SCR block's registers. -/
def rowsSCR : List RegRow :=
  [⟨0x500000, 1, 4, 1, 4, 0x0, 0x0, 0x0, 0x0, 0x0, .any⟩,
  ⟨0x500004, 1, 4, 1, 4, 0x0, 0x1F, 0x0, 0x0, 0x0, .any⟩,
  ⟨0x500008, 1, 4, 1, 4, 0x1F, 0x0, 0x0, 0x0, 0x0, .any⟩,
  ⟨0x50000C, 1, 4, 1, 4, 0x7F, 0x0, 0x0, 0x0, 0x0, .any⟩,
  ⟨0x500010, 1, 4, 1, 4, 0x0, 0x0, 0x0, 0x0, 0xFFFFFFFF, .any⟩,
  ⟨0x500014, 1, 4, 1, 4, 0x0, 0x0, 0x0, 0x0, 0x0, .any⟩,
  ⟨0x500018, 1, 4, 1, 4, 0x0, 0x0, 0x0, 0x0, 0x0, .any⟩,
  ⟨0x501000, 96, 16, 1, 4, 0x0, 0x0, 0x0, 0x0, 0x0, .any⟩,
  ⟨0x501004, 96, 16, 1, 4, 0x0, 0x0, 0x0, 0x0, 0x0, .any⟩,
  ⟨0x501008, 96, 16, 1, 4, 0x0, 0x0, 0x0, 0x0, 0x0, .any⟩,
  ⟨0x50100C, 96, 16, 1, 4, 0x0, 0x0, 0x0, 0x0, 0x0, .any⟩ ]

/-- The NOC block's registers. -/
def rowsNOC : List RegRow :=
  [⟨0x600000, 1, 4, 1, 4, 0x0, 0x0, 0x0, 0x0, 0x0, .any⟩,
  ⟨0x600004, 1, 4, 1, 4, 0x0, 0x3FF, 0x0, 0x0, 0x0, .any⟩,
  ⟨0x600008, 1, 4, 1, 4, 0x3FF, 0x0, 0x0, 0x0, 0x0, .any⟩,
  ⟨0x60000C, 1, 4, 1, 4, 0x0, 0x0, 0x80000000, 0x0, 0x0, .any⟩,
  ⟨0x600010, 1, 4, 1, 4, 0xFFFFFFFF, 0x0, 0x0, 0x0, 0x0, .any⟩,
  ⟨0x600014, 1, 4, 1, 4, 0x0, 0x0, 0x0, 0x0, 0xFFFFFFFF, .any⟩,
  ⟨0x600018, 1, 4, 1, 4, 0x0, 0x0, 0x0, 0x3FF, 0x0, .supervisor⟩,
  ⟨0x60001C, 1, 4, 1, 4, 0x1, 0x0, 0x0, 0x2, 0x0, .any⟩,
  ⟨0x600100, 64, 4, 1, 4, 0x0, 0x0, 0x0, 0x0, 0xFFFF0000, .any⟩,
  ⟨0x601000, 128, 32, 8, 4, 0xFFFFFFFF, 0x0, 0x0, 0x0, 0x0, .any⟩,
  ⟨0x602000, 1024, 4, 1, 4, 0x0, 0x0, 0x100, 0x0, 0xFFFF0000, .any⟩,
  ⟨0x603000, 512, 8, 1, 4, 0x80000000, 0x0, 0x0, 0x0, 0xFF00000, .any⟩,
  ⟨0x603004, 512, 8, 1, 4, 0xFFFFFFFF, 0x0, 0x0, 0x0, 0x0, .any⟩,
  ⟨0x604000, 520, 64, 8, 4, 0x0, 0x0, 0x0, 0x0, 0xFFFFFFFF, .any⟩,
  ⟨0x604020, 520, 64, 1, 4, 0x0, 0x0, 0x0, 0x0, 0xFFFFFFFF, .any⟩,
  ⟨0x604024, 520, 64, 1, 4, 0x0, 0x0, 0x0, 0x0, 0xFFFFFFFF, .any⟩,
  ⟨0x604028, 520, 64, 1, 4, 0x0, 0x0, 0x0, 0x0, 0xFFFFFFFF, .any⟩,
  ⟨0x60402C, 520, 64, 1, 4, 0x0, 0x0, 0x0, 0x0, 0xFFFFFFFF, .any⟩ ]

/-- The LANE block's registers. -/
def rowsLANE : List RegRow :=
  [⟨0x700000, 1, 4, 1, 4, 0x0, 0x0, 0x0, 0x0, 0x0, .any⟩,
  ⟨0x700004, 1, 4, 1, 4, 0x0, 0x1FF, 0x0, 0x0, 0x0, .any⟩,
  ⟨0x700008, 1, 4, 1, 4, 0x1FF, 0x0, 0x0, 0x0, 0x0, .any⟩,
  ⟨0x70000C, 1, 4, 1, 4, 0x3F, 0x0, 0x0, 0x0, 0x0, .any⟩,
  ⟨0x700100, 12, 16, 1, 4, 0x300FF, 0x0, 0x0, 0x0, 0x0, .any⟩,
  ⟨0x700104, 12, 16, 1, 4, 0x0, 0x0, 0x0, 0x0, 0x0, .any⟩,
  ⟨0x701000, 48, 128, 1, 4, 0x3FF0737, 0x0, 0x0, 0x0, 0x0, .any⟩,
  ⟨0x701004, 48, 128, 1, 4, 0x1, 0x0, 0x2, 0x0, 0x0, .any⟩,
  ⟨0x701008, 48, 128, 1, 4, 0x0, 0x40, 0x0, 0x0, 0xFF000000, .any⟩,
  ⟨0x70100C, 48, 128, 1, 4, 0xFFFF0001, 0x0, 0x0, 0x0, 0x0, .any⟩,
  ⟨0x701010, 48, 128, 1, 4, 0xFF0F, 0x0, 0x0, 0x0, 0x0, .any⟩,
  ⟨0x701014, 48, 128, 1, 4, 0xFFFFFFFF, 0x0, 0x0, 0x0, 0x0, .any⟩,
  ⟨0x701018, 48, 128, 1, 4, 0xFFFFFFFF, 0x0, 0x0, 0x0, 0x0, .any⟩,
  ⟨0x70101C, 48, 128, 1, 4, 0xFF, 0x0, 0x0, 0x0, 0x0, .any⟩,
  ⟨0x701020, 48, 128, 1, 4, 0x1FFF003F, 0x0, 0x80000000, 0x0, 0x0, .any⟩,
  ⟨0x701024, 48, 128, 1, 4, 0x0, 0x0, 0x0, 0x0, 0x0, .any⟩,
  ⟨0x701028, 48, 128, 1, 4, 0x0, 0x0, 0x0, 0x0, 0xFFFFF0FF, .any⟩,
  ⟨0x70102C, 48, 128, 1, 4, 0x1FF0F07, 0x0, 0x0, 0x0, 0x0, .any⟩,
  ⟨0x701030, 48, 128, 1, 4, 0xFFFFFF, 0x0, 0x0, 0x0, 0x0, .any⟩,
  ⟨0x701034, 48, 128, 1, 4, 0x1FF0F07, 0x0, 0x0, 0x0, 0x0, .any⟩  ]
  ++ [⟨0x701038, 48, 128, 1, 4, 0xFFFFFF, 0x0, 0x0, 0x0, 0x0, .any⟩,
  ⟨0x70103C, 48, 128, 1, 4, 0xFFFFFFFF, 0x0, 0x0, 0x0, 0x0, .any⟩,
  ⟨0x701040, 48, 128, 1, 4, 0xFF, 0x0, 0x0, 0x0, 0x0, .any⟩ ]

/-- The VSM block's registers. -/
def rowsVSM : List RegRow :=
  [⟨0x800000, 1, 4, 1, 4, 0x0, 0x0, 0x0, 0x0, 0x0, .any⟩,
  ⟨0x800004, 1, 4, 1, 4, 0x0, 0xFF, 0x0, 0x0, 0x0, .any⟩,
  ⟨0x800008, 1, 4, 1, 4, 0xFF, 0x0, 0x0, 0x0, 0x0, .any⟩,
  ⟨0x80000C, 1, 4, 1, 4, 0xFFFF, 0x0, 0x0, 0x0, 0x0, .any⟩,
  ⟨0x800010, 1, 4, 1, 4, 0xBFFFFFFF, 0x0, 0x0, 0x0, 0x0, .any⟩,
  ⟨0x800014, 1, 4, 1, 4, 0x0, 0x0, 0x0, 0x0, 0x0, .any⟩,
  ⟨0x800018, 1, 4, 1, 4, 0x0, 0x0, 0x0, 0x0, 0x0, .any⟩,
  ⟨0x80001C, 1, 4, 1, 4, 0xFFFF, 0x0, 0x0, 0x0, 0x0, .any⟩,
  ⟨0x800020, 1, 4, 1, 4, 0x8000FFFF, 0x0, 0x0, 0x0, 0x0, .any⟩,
  ⟨0x800024, 1, 4, 1, 4, 0xFFFF, 0x0, 0x0, 0x0, 0x0, .any⟩,
  ⟨0x800028, 1, 4, 1, 4, 0x8000003F, 0x0, 0x0, 0x0, 0x0, .any⟩,
  ⟨0x80002C, 1, 4, 1, 4, 0x0, 0x0, 0x0, 0x0, 0xFFFFFFFF, .any⟩,
  ⟨0x800100, 16, 4, 1, 4, 0x8000000F, 0x0, 0x0, 0x0, 0x0, .any⟩,
  ⟨0x800140, 16, 4, 1, 4, 0xFFFF, 0x0, 0x0, 0x0, 0x0, .any⟩,
  ⟨0x800200, 16, 4, 1, 4, 0x80FFFFFF, 0x0, 0x0, 0x0, 0x0, .any⟩,
  ⟨0x800400, 16, 32, 1, 4, 0x801FFFFF, 0x0, 0x0, 0x0, 0x0, .any⟩,
  ⟨0x800404, 16, 32, 1, 4, 0xFFFFFFE0, 0x0, 0x0, 0x0, 0x0, .any⟩,
  ⟨0x800408, 16, 32, 1, 4, 0xFF, 0x0, 0x0, 0x0, 0x0, .any⟩,
  ⟨0x80040C, 16, 32, 1, 4, 0x0, 0x0, 0x0, 0x0, 0x0, .any⟩,
  ⟨0x800410, 16, 32, 1, 4, 0xFFFFFFFF, 0x0, 0x0, 0x0, 0x0, .any⟩  ]
  ++ [⟨0x801000, 48, 64, 1, 4, 0xF0000000, 0x0, 0x0, 0x0, 0x0, .any⟩,
  ⟨0x801004, 48, 64, 1, 4, 0x0, 0x0, 0x0, 0x0, 0x0, .any⟩,
  ⟨0x801008, 48, 64, 1, 4, 0x0, 0x0, 0x0, 0x0, 0x0, .any⟩,
  ⟨0x80100C, 48, 64, 1, 4, 0xFFFFFFFF, 0x0, 0x0, 0x0, 0x0, .any⟩,
  ⟨0x801010, 48, 64, 1, 4, 0x0, 0x0, 0x0, 0x0, 0xFFFFFFFF, .any⟩,
  ⟨0x801014, 48, 64, 1, 4, 0x0, 0x0, 0x0, 0x0, 0x0, .any⟩,
  ⟨0x801018, 48, 64, 1, 4, 0x0, 0x0, 0x0, 0x0, 0xFFFFFFFF, .any⟩ ]

/-- The TWIN block's registers. -/
def rowsTWIN : List RegRow :=
  [⟨0x900000, 1, 4, 1, 4, 0x0, 0x0, 0x0, 0x0, 0x0, .any⟩,
  ⟨0x900004, 1, 4, 1, 4, 0x0, 0x3FF, 0x0, 0x0, 0x0, .any⟩,
  ⟨0x900008, 1, 4, 1, 4, 0x3FF, 0x0, 0x0, 0x0, 0x0, .any⟩,
  ⟨0x90000C, 1, 4, 1, 4, 0xF800003F, 0x0, 0x0, 0x0, 0x0, .any⟩,
  ⟨0x900010, 1, 4, 1, 4, 0x0, 0x0, 0xF, 0x0, 0x0, .any⟩,
  ⟨0x900014, 1, 4, 1, 4, 0x3FF03FF, 0x0, 0x0, 0x0, 0x0, .any⟩,
  ⟨0x900018, 1, 4, 1, 4, 0xFFFFFFFF, 0x0, 0x0, 0x0, 0x0, .any⟩,
  ⟨0x90001C, 1, 4, 1, 4, 0xFFFFFFFF, 0x0, 0x0, 0x0, 0x0, .any⟩,
  ⟨0x900020, 1, 4, 1, 4, 0xFFFFFFFF, 0x0, 0x0, 0x0, 0x0, .any⟩,
  ⟨0x900024, 1, 4, 1, 4, 0xFFFFFFFF, 0x0, 0x0, 0x0, 0x0, .any⟩,
  ⟨0x900028, 1, 4, 1, 4, 0x0, 0x0, 0x0, 0x0, 0xFFFFFFFF, .any⟩,
  ⟨0x90002C, 1, 4, 1, 4, 0x0, 0x0, 0x0, 0x0, 0x0, .any⟩,
  ⟨0x900030, 1, 4, 1, 4, 0x0, 0x0, 0x0, 0x0, 0x0, .any⟩,
  ⟨0x900034, 1, 4, 1, 4, 0x8000000F, 0x0, 0x0, 0x0, 0x0, .any⟩,
  ⟨0x900100, 20, 4, 1, 4, 0xFFFFFFFF, 0x0, 0x0, 0x0, 0x0, .any⟩ ]

/-- The XBAR block's registers. -/
def rowsXBAR : List RegRow :=
  [⟨0x200000, 1, 4, 1, 4, 0x0, 0x0, 0x0, 0x0, 0x0, .any⟩,
  ⟨0x200004, 1, 4, 1, 4, 0x0, 0x3F, 0x0, 0x0, 0x0, .any⟩,
  ⟨0x200008, 1, 4, 1, 4, 0x3F, 0x0, 0x0, 0x0, 0x0, .any⟩,
  ⟨0x20000C, 1, 4, 1, 4, 0x0, 0x0, 0x0, 0xFFFF, 0x0, .any⟩,
  ⟨0x200010, 1, 4, 1, 4, 0x0, 0x0, 0x0, 0xF, 0x0, .supervisor⟩,
  ⟨0x200014, 1, 4, 1, 4, 0x0, 0x0, 0x0, 0x0, 0xFFFFFFFF, .any⟩,
  ⟨0x200018, 1, 4, 1, 4, 0x0, 0x0, 0x0, 0x0, 0xFFFF0000, .any⟩,
  ⟨0x200040, 16, 4, 1, 4, 0x3, 0x0, 0x0, 0x0, 0xFF00, .any⟩,
  ⟨0x201000, 640, 4, 1, 4, 0xFFFFC000, 0x0, 0x0, 0x0, 0x0, .any⟩,
  ⟨0x203000, 20, 4, 1, 4, 0x0, 0x0, 0x0, 0x0, 0x0, .any⟩,
  ⟨0x203100, 20, 4, 1, 4, 0x0, 0xFFFFFFFF, 0x0, 0x0, 0x0, .any⟩,
  ⟨0x203200, 20, 4, 1, 4, 0xFFFFFFFF, 0x0, 0x0, 0x0, 0x0, .any⟩,
  ⟨0x203300, 20, 4, 1, 4, 0x0, 0x0, 0x0, 0x0, 0x0, .any⟩,
  ⟨0x210000, 708, 4, 1, 4, 0xF7FF07FF, 0x0, 0x0, 0x0, 0x0, .any⟩,
  ⟨0x218000, 708, 4, 1, 4, 0x0, 0x0, 0x0, 0x0, 0x0, .any⟩,
  ⟨0x220000, 868, 4, 1, 4, 0xF0001BFF, 0x0, 0x0, 0x0, 0x0, .any⟩,
  ⟨0x228000, 868, 4, 1, 4, 0x0, 0x0, 0x0, 0x0, 0x0, .any⟩ ]

/-- The PER block's registers. -/
def rowsPER : List RegRow :=
  [⟨0xC00000, 1, 4, 1, 4, 0x0, 0x0, 0x0, 0x0, 0x0, .any⟩,
  ⟨0xC00004, 1, 4, 1, 4, 0xFFFFFFFF, 0x0, 0x0, 0x0, 0x0, .any⟩,
  ⟨0xC00100, 16, 32, 1, 4, 0x8007FFFF, 0x0, 0x0, 0x0, 0x0, .any⟩,
  ⟨0xC00104, 16, 32, 1, 4, 0x1F80FFFF, 0x0, 0x0, 0x0, 0x0, .any⟩,
  ⟨0xC00108, 16, 32, 1, 4, 0x0, 0xE, 0x0, 0x0, 0xFF000000, .any⟩,
  ⟨0xC0010C, 16, 32, 1, 4, 0x0, 0x0, 0x0, 0x0, 0x0, .any⟩,
  ⟨0xC00110, 16, 32, 1, 4, 0x0, 0x0, 0x0, 0x0, 0x0, .any⟩,
  ⟨0xC00400, 4, 32, 1, 4, 0x80FF0003, 0x0, 0x0, 0x0, 0x0, .any⟩,
  ⟨0xC00404, 4, 32, 1, 4, 0x0, 0x0, 0x0, 0x1FFF, 0x0, .any⟩,
  ⟨0xC00408, 4, 32, 1, 4, 0x0, 0x0, 0x0, 0x0, 0x0, .any⟩,
  ⟨0xC0040C, 4, 32, 1, 4, 0x0, 0x1F, 0x0, 0x0, 0x0, .any⟩,
  ⟨0xC00500, 4, 32, 1, 4, 0xEF1F00FF, 0x0, 0x0, 0x0, 0x0, .any⟩,
  ⟨0xC00504, 4, 32, 1, 4, 0x0, 0x0, 0x0, 0xFFFFFFFF, 0x0, .any⟩,
  ⟨0xC00508, 4, 32, 1, 4, 0x0, 0x0, 0x0, 0x0, 0x0, .any⟩,
  ⟨0xC0050C, 4, 32, 1, 4, 0x0, 0x1F, 0x0, 0x0, 0x0, .any⟩,
  ⟨0xC00600, 8, 32, 1, 4, 0xFC0FFFFF, 0x0, 0x0, 0x0, 0x0, .any⟩,
  ⟨0xC00604, 8, 32, 1, 4, 0x0, 0x0, 0x0, 0xFFFFFFFF, 0x0, .any⟩,
  ⟨0xC00608, 8, 32, 1, 4, 0x0, 0x0, 0x0, 0x0, 0x0, .any⟩,
  ⟨0xC0060C, 8, 32, 1, 4, 0x0, 0x1F, 0x0, 0x0, 0x0, .any⟩,
  ⟨0xC00800, 1, 4, 1, 4, 0x7, 0x0, 0x0, 0x0, 0x0, .supervisor⟩  ]
  ++ [⟨0xC00804, 1, 4, 1, 4, 0x0, 0x0, 0x0, 0x0, 0xFFFF0000, .any⟩ ]

/-- The RST block's registers. -/
def rowsRST : List RegRow :=
  [⟨0x10000, 1, 4, 1, 4, 0x0, 0x7FF, 0x0, 0x0, 0x0, .any⟩,
  ⟨0x10004, 1, 4, 1, 4, 0x0, 0x0, 0x0, 0x0, 0x0, .any⟩,
  ⟨0x10008, 1, 4, 1, 4, 0x0, 0x0, 0x0, 0x0, 0x0, .any⟩,
  ⟨0x1000C, 1, 4, 1, 4, 0x0, 0x0, 0x0, 0x3, 0x0, .any⟩,
  ⟨0x10010, 1, 4, 1, 4, 0x0, 0x0, 0x0, 0x0, 0xFFFF0000, .any⟩,
  ⟨0x10020, 1, 4, 1, 4, 0x0, 0x0, 0xFFFFFFFF, 0x0, 0x0, .any⟩,
  ⟨0x10024, 1, 4, 1, 4, 0x0, 0x0, 0x7FFFF, 0x0, 0x0, .supervisor⟩,
  ⟨0x10028, 1, 4, 1, 4, 0x0, 0x0, 0x3FF, 0x0, 0x0, .any⟩,
  ⟨0x1002C, 1, 4, 1, 4, 0x0, 0x0, 0xFFFF, 0x0, 0x0, .any⟩,
  ⟨0x10100, 16, 4, 1, 4, 0xFFFFFFFF, 0x0, 0x0, 0x0, 0x0, .any⟩ ]

/-- The PWR block's registers. -/
def rowsPWR : List RegRow :=
  [⟨0x20000, 1, 4, 1, 4, 0x0, 0x0, 0x0, 0x0, 0x0, .any⟩,
  ⟨0x20004, 1, 4, 1, 4, 0x0, 0xF, 0x0, 0x0, 0x0, .any⟩,
  ⟨0x20008, 1, 4, 1, 4, 0xF, 0x0, 0x0, 0x0, 0x0, .any⟩,
  ⟨0x2000C, 1, 4, 1, 4, 0xC07FFF00, 0x0, 0x0, 0x0, 0x0, .supervisor⟩,
  ⟨0x20010, 1, 4, 1, 4, 0x0, 0x0, 0x0, 0x0, 0x0, .any⟩,
  ⟨0x20100, 45, 8, 1, 4, 0x3, 0x0, 0x0, 0x0, 0x0, .any⟩,
  ⟨0x20104, 45, 8, 1, 4, 0x0, 0x0, 0x0, 0x0, 0x0, .any⟩ ]

/-- The CLK block's registers. -/
def rowsCLK : List RegRow :=
  [⟨0x30000, 1, 4, 1, 4, 0x0, 0x0, 0x0, 0x0, 0x0, .any⟩,
  ⟨0x30004, 1, 4, 1, 4, 0x0, 0x7, 0x0, 0x0, 0x0, .any⟩,
  ⟨0x30008, 1, 4, 1, 4, 0x7, 0x0, 0x0, 0x0, 0x0, .any⟩,
  ⟨0x30100, 8, 8, 1, 4, 0x80007F1F, 0x0, 0x0, 0x0, 0x0, .any⟩,
  ⟨0x30104, 8, 8, 1, 4, 0x0, 0x2, 0x0, 0x0, 0x0, .any⟩,
  ⟨0x31000, 512, 8, 1, 4, 0x70000, 0x0, 0x0, 0x0, 0x0, .any⟩,
  ⟨0x31004, 512, 8, 1, 4, 0xFFC00000, 0x0, 0x0, 0x0, 0x0, .supervisor⟩ ]

/-- The THM block's registers. -/
def rowsTHM : List RegRow :=
  [⟨0x40000, 1, 4, 1, 4, 0x0, 0x0, 0x0, 0x0, 0x0, .any⟩,
  ⟨0x40004, 1, 4, 1, 4, 0x0, 0x1F, 0x0, 0x0, 0x0, .any⟩,
  ⟨0x40008, 1, 4, 1, 4, 0x1F, 0x0, 0x0, 0x0, 0x0, .any⟩,
  ⟨0x4000C, 1, 4, 1, 4, 0xFFFF, 0x0, 0x0, 0x0, 0x0, .any⟩,
  ⟨0x40010, 1, 4, 1, 4, 0x803F00FF, 0x0, 0x0, 0x0, 0x0, .any⟩,
  ⟨0x40100, 44, 16, 1, 4, 0x80000FDF, 0x0, 0x0, 0x0, 0x0, .any⟩,
  ⟨0x40104, 44, 16, 1, 4, 0xFFFFFFFF, 0x0, 0x0, 0x0, 0x0, .any⟩,
  ⟨0x40108, 44, 16, 1, 4, 0xFFFFFFFF, 0x0, 0x0, 0x0, 0x0, .any⟩,
  ⟨0x4010C, 44, 16, 1, 4, 0x0, 0x0, 0x0, 0x0, 0x0, .any⟩ ]

/-- The AGE block's registers. -/
def rowsAGE : List RegRow :=
  [⟨0x50000, 1, 4, 1, 4, 0x0, 0x0, 0x0, 0x0, 0x0, .any⟩,
  ⟨0x50004, 1, 4, 1, 4, 0x0, 0x7, 0x0, 0x0, 0x0, .any⟩,
  ⟨0x50008, 1, 4, 1, 4, 0x7, 0x0, 0x0, 0x0, 0x0, .any⟩,
  ⟨0x5000C, 1, 4, 1, 4, 0xFFFF00FF, 0x0, 0x0, 0x0, 0x0, .any⟩,
  ⟨0x50010, 1, 4, 1, 4, 0xFFFFFFFF, 0x0, 0x0, 0x0, 0x0, .supervisor⟩,
  ⟨0x50014, 1, 4, 1, 4, 0xFFFF, 0x0, 0x0, 0x0, 0x0, .supervisor⟩,
  ⟨0x50018, 1, 4, 1, 4, 0x0, 0x0, 0x0, 0x0, 0x0, .any⟩,
  ⟨0x51000, 512, 4, 1, 4, 0x0, 0x0, 0x0, 0x0, 0x0, .any⟩ ]

/-- The AON block's registers. -/
def rowsAON : List RegRow :=
  [⟨0x60000, 1, 4, 1, 4, 0x0, 0x0, 0x0, 0x0, 0x0, .any⟩,
  ⟨0x60004, 1, 4, 1, 4, 0x0, 0x7, 0x0, 0x0, 0x0, .any⟩,
  ⟨0x60008, 1, 4, 1, 4, 0x7, 0x0, 0x0, 0x0, 0x0, .any⟩,
  ⟨0x6000C, 1, 4, 1, 4, 0xFFFFFFFF, 0x0, 0x0, 0x0, 0x0, .supervisor⟩,
  ⟨0x60010, 1, 4, 1, 4, 0x0, 0x0, 0x0, 0x0, 0x0, .any⟩,
  ⟨0x60014, 1, 4, 1, 4, 0x0, 0x0, 0x0, 0x0, 0x0, .any⟩,
  ⟨0x60020, 4, 4, 1, 4, 0x80FF0E00, 0x0, 0x40000000, 0x0, 0x0, .any⟩,
  ⟨0x60040, 1, 4, 1, 4, 0x0, 0x0, 0x0, 0x0, 0xFFFF0000, .any⟩,
  ⟨0x60044, 4, 4, 1, 4, 0x0, 0x0, 0x0, 0x0, 0x0, .any⟩,
  ⟨0x60060, 1, 4, 1, 4, 0xF, 0x0, 0x0, 0x0, 0x0, .any⟩,
  ⟨0x60064, 8, 4, 1, 4, 0x0, 0x0, 0x0, 0x0, 0x0, .any⟩,
  ⟨0x60090, 1, 4, 1, 4, 0x0, 0x0, 0x0, 0x0, 0x0, .any⟩,
  ⟨0x60100, 4, 16, 1, 4, 0x0, 0x0, 0x0, 0x0, 0x0, .any⟩,
  ⟨0x60104, 4, 16, 1, 4, 0x0, 0x0, 0x0, 0x0, 0x0, .any⟩,
  ⟨0x60108, 4, 16, 1, 4, 0x0, 0x0, 0x0, 0x0, 0x0, .any⟩,
  ⟨0x6010C, 4, 16, 1, 4, 0x0, 0x0, 0x0, 0x0, 0x0, .any⟩,
  ⟨0x60200, 16, 4, 1, 4, 0x0, 0x0, 0x0, 0x0, 0x0, .any⟩,
  ⟨0x60240, 1, 4, 1, 4, 0x0, 0x0, 0x0, 0x0, 0x0, .any⟩ ]

/-- The SEC block's registers. -/
def rowsSEC : List RegRow :=
  [⟨0x70000, 1, 4, 1, 4, 0x0, 0x0, 0x0, 0x0, 0x0, .any⟩,
  ⟨0x70004, 1, 4, 1, 4, 0x0, 0xF, 0x0, 0x0, 0x0, .any⟩,
  ⟨0x70008, 1, 4, 1, 4, 0xF, 0x0, 0x0, 0x0, 0x0, .any⟩,
  ⟨0x7000C, 1, 4, 1, 4, 0x0, 0x0, 0x0, 0x0, 0x0, .any⟩,
  ⟨0x70010, 1, 4, 1, 4, 0x0, 0x0, 0x0, 0x0, 0x0, .any⟩,
  ⟨0x70014, 1, 4, 1, 4, 0x0, 0x0, 0x0, 0x0, 0x0, .any⟩,
  ⟨0x70018, 1, 4, 1, 4, 0x0, 0x0, 0x0, 0x0, 0xFFFFFFFF, .any⟩,
  ⟨0x70100, 16, 4, 1, 4, 0x0, 0x0, 0x0, 0x0, 0x0, .any⟩,
  ⟨0x70200, 4, 32, 8, 4, 0x0, 0x0, 0x0, 0x0, 0x0, .any⟩ ]

/-- The USB block's registers. -/
def rowsUSB : List RegRow :=
  [⟨0xA00000, 1, 4, 1, 4, 0x0, 0x0, 0x0, 0x0, 0x0, .any⟩,
  ⟨0xA00004, 1, 4, 1, 4, 0x0, 0xF, 0x0, 0x0, 0x0, .any⟩,
  ⟨0xA00008, 1, 4, 1, 4, 0xF, 0x0, 0x0, 0x0, 0x0, .any⟩,
  ⟨0xA0000C, 1, 4, 1, 4, 0x0, 0x0, 0x0, 0xFFFFFFFF, 0x0, .any⟩,
  ⟨0xA00010, 1, 4, 1, 4, 0xFF, 0x0, 0x0, 0x0, 0x0, .any⟩,
  ⟨0xA00014, 1, 4, 1, 4, 0xFFFF8000, 0x0, 0x0, 0x0, 0x0, .any⟩,
  ⟨0xA00018, 1, 4, 1, 4, 0x0, 0x0, 0x0, 0x0, 0xFFFFFFFF, .any⟩,
  ⟨0xA00020, 1, 4, 1, 4, 0x0, 0x0, 0xFFFF, 0x0, 0x0, .any⟩,
  ⟨0xA00024, 1, 4, 1, 4, 0x0, 0xFFFF, 0x0, 0x0, 0x0, .any⟩,
  ⟨0xA00028, 1, 4, 1, 4, 0x0, 0x0, 0x0, 0x0, 0x0, .any⟩,
  ⟨0xA01000, 16, 64, 1, 4, 0xFFFFFFFF, 0x0, 0x0, 0x0, 0x0, .any⟩,
  ⟨0xA01004, 16, 64, 4, 4, 0xFFFFFFFF, 0x0, 0x0, 0x0, 0x0, .any⟩,
  ⟨0xA01020, 16, 64, 1, 4, 0x0, 0x0, 0x0, 0x0, 0x0, .any⟩,
  ⟨0xA01024, 16, 64, 3, 4, 0x0, 0x0, 0x0, 0x0, 0x0, .any⟩,
  ⟨0xA02000, 8, 32, 1, 4, 0xFFFFFFE0, 0x0, 0x0, 0x0, 0x0, .any⟩,
  ⟨0xA02004, 8, 32, 1, 4, 0xFFFFFFFF, 0x0, 0x0, 0x0, 0x0, .any⟩,
  ⟨0xA02008, 8, 32, 1, 4, 0x80000F00, 0x0, 0x0, 0x0, 0x0, .any⟩,
  ⟨0xA0200C, 8, 32, 1, 4, 0xFFFF, 0x0, 0x0, 0x0, 0x0, .any⟩,
  ⟨0xA02010, 8, 32, 1, 4, 0x0, 0x0, 0x0, 0x0, 0x0, .any⟩,
  ⟨0xA02014, 8, 32, 1, 4, 0x0, 0x3, 0x0, 0x0, 0x0, .any⟩ ]

/-- The DBG block's registers. -/
def rowsDBG : List RegRow :=
  [⟨0xB00000, 1, 4, 1, 4, 0x0, 0x0, 0x0, 0x0, 0x0, .any⟩,
  ⟨0xB00004, 1, 4, 1, 4, 0x3, 0x0, 0x0, 0x0, 0x0, .debug⟩,
  ⟨0xB00008, 1, 4, 1, 4, 0x0, 0x0, 0x0, 0x0, 0xFFFFFFFF, .any⟩ ]

/-- The row that holds offset `a`, if any register lies there. -/
def RegRow.holds (r : RegRow) (a : Nat) : Bool :=
  decide (r.base ≤ a) &&
    (let d := a - r.base
     decide (d / r.s1 < r.n1) && decide ((d % r.s1) % r.s2 = 0) && decide ((d % r.s1) / r.s2 < r.n2))

/-- One row of the reset values that are not zero: base, counts and strides as in `RegRow`, and the value. -/
structure ResetRow where
  base : Nat
  n1 : Nat
  s1 : Nat
  n2 : Nat
  s2 : Nat
  value : Nat
  deriving DecidableEq, Repr

/-- The registers whose reset value is not zero (the Reset column of the register tables; SYS_INFO holds the
model's fuse value, log entry 4). -/
def resetRows : List ResetRow :=
  [⟨0x10010C, 16, 64, 1, 4, 0x1⟩,
  ⟨0x100110, 16, 64, 1, 4, 0x1⟩,
  ⟨0x100114, 16, 64, 1, 4, 0x1⟩,
  ⟨0x100124, 16, 64, 1, 4, 0x10001⟩,
  ⟨0x112018, 128, 32, 1, 4, 0x80020⟩,
  ⟨0x0, 1, 4, 1, 4, 0x1486076B⟩,
  ⟨0x4, 1, 4, 1, 4, 0x2⟩,
  ⟨0x120024, 1, 4, 1, 4, 0x400⟩,
  ⟨0x120100, 4, 64, 1, 4, 0x40000⟩,
  ⟨0x120108, 4, 64, 1, 4, 0x10000⟩,
  ⟨0xA0000, 1, 4, 1, 4, 0x80000000⟩,
  ⟨0x50000C, 1, 4, 1, 4, 0x10⟩,
  ⟨0x501000, 96, 16, 1, 4, 0x1⟩,
  ⟨0x501008, 96, 16, 1, 4, 0x13F⟩,
  ⟨0x600000, 1, 4, 1, 4, 0x1⟩,
  ⟨0x60000C, 1, 4, 1, 4, 0x2⟩,
  ⟨0x600010, 1, 4, 1, 4, 0x3E80064⟩,
  ⟨0x603004, 512, 8, 1, 4, 0x22222222⟩,
  ⟨0x700100, 12, 16, 1, 4, 0x50⟩,
  ⟨0x701000, 48, 128, 1, 4, 0x1B50000⟩  ]
  ++ [⟨0x70100C, 48, 128, 1, 4, 0x10000000⟩,
  ⟨0x701010, 48, 128, 1, 4, 0x8⟩,
  ⟨0x701020, 48, 128, 1, 4, 0xE000000⟩,
  ⟨0x70102C, 48, 128, 1, 4, 0x4⟩,
  ⟨0x701034, 48, 128, 1, 4, 0x4⟩,
  ⟨0x70103C, 48, 128, 1, 4, 0xBC⟩,
  ⟨0x701040, 48, 128, 1, 4, 0x11⟩,
  ⟨0x800010, 1, 4, 1, 4, 0x1007D⟩,
  ⟨0x80001C, 1, 4, 1, 4, 0xA⟩,
  ⟨0x800020, 1, 4, 1, 4, 0x50⟩,
  ⟨0x800140, 16, 4, 1, 4, 0x32⟩,
  ⟨0x800400, 16, 32, 1, 4, 0x40000⟩,
  ⟨0x900018, 1, 4, 1, 4, 0x6401F4⟩,
  ⟨0x90001C, 1, 4, 1, 4, 0x40001⟩,
  ⟨0x201000, 640, 4, 1, 4, 0x14000⟩,
  ⟨0xC00104, 16, 32, 1, 4, 0xC001418⟩,
  ⟨0xC00400, 4, 32, 1, 4, 0x190000⟩,
  ⟨0xC00500, 4, 32, 1, 4, 0x70004⟩,
  ⟨0xC00600, 8, 32, 1, 4, 0x87A⟩,
  ⟨0xC00800, 1, 4, 1, 4, 0x2⟩  ]
  ++ [⟨0x10000, 1, 4, 1, 4, 0x1⟩,
  ⟨0x10004, 1, 4, 1, 4, 0x30000⟩,
  ⟨0x20010, 1, 4, 1, 4, 0x2EE0000⟩,
  ⟨0x20100, 45, 8, 1, 4, 0x1⟩,
  ⟨0x20104, 5, 8, 1, 4, 0x11⟩,
  ⟨0x20104, 45, 8, 1, 4, 0x1⟩,
  ⟨0x30100, 8, 8, 1, 4, 0x8000051E⟩,
  ⟨0x30104, 8, 8, 1, 4, 0x960⟩,
  ⟨0x31004, 512, 8, 1, 4, 0xBB800258⟩,
  ⟨0x4000C, 1, 4, 1, 4, 0x730⟩,
  ⟨0x40010, 1, 4, 1, 4, 0x19⟩,
  ⟨0x40100, 20, 16, 1, 4, 0x80000300⟩,
  ⟨0x40240, 24, 16, 1, 4, 0x300⟩,
  ⟨0x40104, 44, 16, 1, 4, 0x64005F0⟩,
  ⟨0x40108, 44, 16, 1, 4, 0xF6E2710⟩,
  ⟨0x5000C, 1, 4, 1, 4, 0x4E20001E⟩,
  ⟨0x50014, 1, 4, 1, 4, 0x2EE⟩,
  ⟨0x50018, 1, 4, 1, 4, 0xFFFFFFFF⟩,
  ⟨0x60000, 1, 4, 1, 4, 0x80000000⟩,
  ⟨0xA02008, 8, 32, 1, 4, 0x400⟩  ]
  ++ [⟨0xB00000, 1, 4, 1, 4, 0x1000000⟩,
  ⟨0x301004, 256, 128, 1, 4, 0x2⟩ ]

def ResetRow.holds (r : ResetRow) (a : Nat) : Bool :=
  decide (r.base ≤ a) &&
    (let d := a - r.base
     decide (d / r.s1 < r.n1) && decide ((d % r.s1) % r.s2 = 0) && decide ((d % r.s1) / r.s2 < r.n2))

/-- The value the register at offset `a` resets to. -/
def resetWord (a : Nat) : Word :=
  match resetRows.find? (fun r => r.holds a) with
  | some r => BitVec.ofNat 32 r.value
  | none => 0#32

/-- The CSR blocks of Table 24.2: base offset, size, and the register rows. -/
def csrBlocks : List (Nat × Nat × List RegRow) :=
  [(0x0, 0x10000, rowsSYS),
   (0x10000, 0x10000, rowsRST),
   (0x20000, 0x10000, rowsPWR),
   (0x30000, 0x10000, rowsCLK),
   (0x40000, 0x10000, rowsTHM),
   (0x50000, 0x10000, rowsAGE),
   (0x60000, 0x10000, rowsAON),
   (0x70000, 0x10000, rowsSEC),
   (0x80000, 0x10000, rowsCFG),
   (0x90000, 0x10000, rowsCTX),
   (0xA0000, 0x10000, rowsUPS),
   (0x100000, 0x10000, rowsANG),
   (0x110000, 0x10000, rowsEVT)]
  ++ [(0x120000, 0x10000, rowsLGR),
   (0x200000, 0x100000, rowsXBAR),
   (0x300000, 0x10000, rowsMEM),
   (0x400000, 0x10000, rowsHBM),
   (0x500000, 0x10000, rowsSCR),
   (0x600000, 0x10000, rowsNOC),
   (0x700000, 0x10000, rowsLANE),
   (0x800000, 0x10000, rowsVSM),
   (0x900000, 0x10000, rowsTWIN),
   (0xA00000, 0x10000, rowsUSB),
   (0xB00000, 0x10000, rowsDBG),
   (0xC00000, 0x10000, rowsPER)]

/-- The block that holds offset `a`. -/
def csrBlockOf (a : Nat) : Option (List RegRow) :=
  (csrBlocks.find? (fun b => decide (b.1 ≤ a) && decide (a < b.1 + b.2.1))).map (fun b => b.2.2)

/-- The row of the register at offset `a`, none for an unimplemented offset (R7). -/
def regRowOf (a : Nat) : Option RegRow :=
  match csrBlockOf a with
  | some rows => rows.find? (fun r => r.holds a)
  | none => none

end Sys2Proof.Machine
end

