-- ==== Sys2Proof/Machine/State.lean ====
section
/-! DEFINITION. The state of the T4860 as plain data: the register file, the units' state that no register shows, block
by block, and the queue of waiting commands. Every table is an `SMap`: what it does not list is at its reset value. -/

namespace Sys2Proof.Machine

/-- Why the machine stops: for no reason. No rule of the spec stops the device (an integrity halt is a state it stays in and
answers from), so this type has no constructor and no meaning raises a fault. -/
inductive Fault where
  deriving DecidableEq, Repr

/-- Why a command has no meaning. -/
inductive Refusal where
  /-- The command is not modelled: for a refused arm of Dispatch.lean, of which there is none; safe. -/
  | notModelled (mnemonic : String)
  deriving DecidableEq, Repr


/-! ### Angle timebase (spec/02) -/

/-- What an axis holds beside its registers (R23 to R47). Velocities are in 1/65,536 sub-phase unit per tick, which is
1/256 of the velocity LSB of Table 2.1. -/
structure Axis where
  /-- The axis value of the current tick (R23). -/
  value : DWord := 0
  /-- The value at the tick before, for the crossing rule (R49). -/
  prev : DWord := 0
  /-- The part of the value below one sub-phase unit, in 1/65,536 units. -/
  frac : Nat := 0
  /-- The velocity (R33, R35). -/
  vel : Int := 0
  /-- The home value of an encoder axis (R32). -/
  home : DWord := 0
  /-- Counts since home; for SSI the turns observed times CPC plus the position (R32). -/
  count : Int := 0
  /-- The highest count since home (R34). -/
  top : Int := 0
  /-- The last count moved backward (R34). -/
  back : Bool := false
  /-- The time from the last count to the last tick, in 250 ps (R33). -/
  elapsed : Nat := 0
  /-- The instant of the last count or frame since the last tick, in 250 ps from it (R33, R409). -/
  newCount : Option Nat := none
  /-- The count at the tick that took the last one, none before the first (R33). -/
  seenAt : Option Int := none
  /-- A valid count or frame has arrived since the last tick that used one (Table 2.3, R41). -/
  fresh : Bool := false
  /-- A Z pulse waits for the next tick, taken at this count (R32, R41). -/
  zAt : Option Int := none
  /-- A correction by jump waits for the next tick (R32, ZCORR). -/
  zStep : DWord := 0
  /-- The cause code of a source failure waiting for the next tick (Table 2.5), 0 none. -/
  fault : Nat := 0
  /-- The last locked velocity (R40). -/
  lockVel : Int := 0
  /-- The exact remainder of the derived ratio (R36). -/
  rem : Int := 0
  /-- The value holds until the count passes it (R34), or the true position does (R41). -/
  holding : Bool := false
  /-- The true position while `holding` (R41). -/
  truth : DWord := 0
  /-- The JUMP bit of the current tick (R27). -/
  jump : Bool := false
  /-- A disable waits for the next tick (R47). -/
  disPend : Bool := false
  /-- A TRIM write fell in the cycle of the coming step (R46). -/
  trimSkip : Bool := false
  deriving DecidableEq, Repr, Inhabited

/-- The angle bus word of one axis, with the plant time of its tick (Table 2.2). -/
structure BusWord where
  value : DWord := 0
  jump : Bool := false
  dir : Bool := false
  state : Nat := 0
  time : DWord := 0
  deriving DecidableEq, Repr, Inhabited

/-- The angle timebase. -/
structure Ang where
  axes : SMap Axis := []
  /-- The stages written since the last APPLY that took them, by register offset (R43, R44). -/
  stage : SMap (Option Word) := []
  /-- The APPLY requests waiting: tick and mask, in order of writing (R43). -/
  applies : List (Nat × Nat) := []
  /-- The merged mask of the snapshot waiting (R48). -/
  snap : Option Nat := none
  /-- The angle bus words of the last tick and of the tick before (R27), once a tick has been. -/
  bus : List BusWord := []
  busOld : List BusWord := []
  busTick : Nat := 0
  busOldTick : Nat := 0
  deriving DecidableEq, Repr, Inhabited

/-! ### Event units (spec/03) -/

/-- A write to an event unit waiting for its in-force tick (R54): one register, or a 64-bit target of two words. -/
structure EvtPend where
  due : Nat := 0
  addr : Nat := 0
  value : Word := 0
  low : Word := 0
  deriving DecidableEq, Repr, Inhabited

/-- A crossing target in force (R49 to R53), of a scheduler comparator or a region comparator. -/
structure Target where
  /-- The target in force. -/
  at_ : DWord := 0
  /-- Armed and in force. -/
  armed : Bool := false
  /-- A late firing: 2 found already crossed in this tick, 1 due at the next, 0 none (R53). -/
  lateDue : Nat := 0
  /-- A WINDOW comparator's level (Table 3.1, R98). -/
  level : Bool := false
  /-- The window test at the last tick, whatever REQLOCK makes of the level (R98). -/
  inside : Bool := false
  deriving DecidableEq, Repr, Inhabited

/-- A queued pair of an edge unit (R64): targets of source 1, instants of source 2; the item of a ledger pair. -/
structure EdgePair where
  set : DWord := 0
  clr : DWord := 0
  item : Option Nat := none
  deriving DecidableEq, Repr, Inhabited

/-- A scheduled-edge unit (R60 to R65). Instants count 250 ps steps from the first tick. -/
structure Edge where
  set : DWord := 0
  clr : DWord := 0
  /-- The ticks at which SET and CLR came into force (R61). -/
  setTick : Nat := 0
  clrTick : Nat := 0
  armed : Bool := false
  /-- The output level before INV. -/
  out : Bool := false
  /-- The SET edge has fired and its CLR edge is owed (R518). -/
  live : Bool := false
  /-- The instant of the last SET edge (R62). -/
  setAt : Nat := 0
  /-- The SET target fires late: 2 found already crossed in this tick, 1 due at the next, 0 none (R53). -/
  lateDue : Nat := 0
  /-- The instant fixed for the CLR edge owed (R62, R518, source 2). -/
  clrAt : Option Nat := none
  queue : List EdgePair := []
  /-- Pairs the ledger has pushed, which enter the queue at the next tick (R64). -/
  entering : List EdgePair := []
  deriving DecidableEq, Repr, Inhabited

/-- A capture unit (R67 to R69). -/
structure Capture where
  /-- The records of 16 bytes, oldest first (Table 3.3). -/
  fifo : List (BitVec 128) := []
  /-- A record was dropped; the next one stored carries OVF. -/
  ovf : Bool := false
  /-- The next record's index in the posting ring. -/
  ringIdx : Nat := 0
  armed : Bool := false
  isOpen : Bool := false
  /-- An edge was stamped in this window. -/
  stamped : Bool := false
  /-- A JUMP fell in the record's span. -/
  jumped : Bool := false
  deriving DecidableEq, Repr, Inhabited

/-- The event scheduler. -/
structure Evt where
  /-- The settings in force, by register offset, exclusive-or the reset value (R54). -/
  force : SMap Word := []
  pend : List EvtPend := []
  cmps : SMap Target := []
  edges : SMap Edge := []
  caps : SMap Capture := []
  /-- ARM actions that act from the next tick: (capture unit?, unit) (R59). -/
  armNext : List (Bool × Nat) := []
  /-- The edges that fell in the last tick: unit, instant, level after INV (R60). -/
  fell : List (Nat × Nat × Bool) := []
  deriving DecidableEq, Repr, Inhabited


/-! ### Fabric and contexts (spec/04 to spec/06, spec/08) -/

/-- A word-unit result on its way: edges left, the output, and the flags Z, N, C, V (Table 4.4). -/
structure WuRes where
  left : Nat := 0
  out : Option Word := none
  flags : Option (BitVec 4) := none
  deriving DecidableEq, Repr, Inhabited

/-- A word unit (R83 to R88); the even unit of a pair holds the pair's 80-bit accumulator and 32-bit output. -/
structure Wu where
  acc : BitVec 80 := 0
  sat : Bool := false
  pipe : List WuRes := []
  out : Word := 0
  flags : BitVec 4 := 0
  /-- The second cycle of a 32 × 32 multiplication (R87). -/
  busy : Bool := false
  deriving DecidableEq, Repr, Inhabited

/-- A region comparator of a context (R55, R97 to R100). -/
structure RCmp where
  tgt : Target := {}
  /-- The control word in force (R97). -/
  ctl : Half := 0
  period : Word := 0
  /-- Staged target and period words. -/
  stTgt : DWord := 0
  stPer : Word := 0
  /-- Outputs of the COMP frame (R203). -/
  outs : Nat := 0
  deriving DecidableEq, Repr, Inhabited

/-- A comparator-port write waiting for its in-force tick (R97). -/
structure RCmpPend where
  due : Nat := 0
  /-- (region × 8 + slot) × 16 + comparator. -/
  key : Nat := 0
  wsel : Nat := 0
  value : DWord := 0
  deriving DecidableEq, Repr, Inhabited

/-- A damper (R118 to R121). -/
structure Damper where
  engaged : Bool := true
  held : Bool := false
  been : Bool := false
  deriving DecidableEq, Repr, Inhabited

/-- A stored frame and the FCHECK beside it (R197). No bytes is a frame cleared to zero. -/
structure Frame where
  data : List Byte := []
  check : Word := 0
  deriving DecidableEq, Repr, Inhabited

/-- What a region's comparators did at a tick the region has yet to take (R56): the fabric signals that pulse, the levels of
the windows, and the ledger ports strobed (R55). -/
structure Shot where
  tick : Nat := 0
  pulses : Nat := 0
  levels : Nat := 0
  ports : List Nat := []
  deriving DecidableEq, Repr, Inhabited

/-- Region control (R89, R101, R119, R146, spec/04 Table 4.8). -/
structure Region where
  released : Bool := false
  /-- A hold has been asked for and not ended: a configuration write or a fabric reset (R122). -/
  held : Bool := false
  /-- The hold gates the user clocks: from the first CKN0 edge after it was asked for (R122 step 1). -/
  stopped : Bool := false
  /-- The neighbours whose acknowledgement the hold waits for (R122 step 2). -/
  waitAck : List Nat := []
  /-- The frames whose latches the hold corrects (R226), and whether it re-initialises the region (R417). -/
  fixes : List Nat := []
  reinit : Bool := false
  /-- The hold's writes are made: the next CKN0 edge ungates (R122 step 4). -/
  written : Bool := false
  /-- Ungated less than one period of the region's clock ago: 1 after a hold, 2 after a start (R122 step 5, R430). -/
  settling : Nat := 0
  /-- Latch corrections put off until the switch in progress is over (R152, R228). -/
  deferred : List Nat := []
  /-- The sides whose dampers are engaged by a hold, N bit 0 to V bit 4 (SYS_DMPn_STATUS). -/
  sides : Nat := 0
  /-- Half periods of CKN0 since edge 3 or release (R89). -/
  half : Nat := 0
  /-- The angle bus words taken (R29). -/
  taken : List BusWord := []
  takenTick : Nat := 0
  /-- The last edge of a switch: 0 to 2 while it is in progress, 3 until the edge after edge 3 (R145, R146). -/
  edges : Option Nat := none
  /-- The SWTRIG level last sampled (R144). -/
  swtrig : Bool := false
  kick : Bool := false
  wdexp : Bool := false
  wdexpDue : Bool := false
  /-- What the comparators did at ticks not taken yet, the levels of the tick taken, and the CMP outputs (R56). -/
  shots : List Shot := []
  levels : Nat := 0
  cmpOut : Nat := 0
  crd : Half := 0
  crdNext : Half := 0
  /-- The FXI synchroniser (R96). -/
  fxi0 : Bool := false
  fxi1 : Bool := false
  /-- The FXO output register: level and output enable. -/
  fxo : Bool := false
  fxoen : Bool := false
  deriving DecidableEq, Repr, Inhabited

/-- The fabric and the configuration tier. -/
structure Fab where
  /-- Flip-flops by tile: bit 2c FF0 and bit 2c + 1 FF1 of cell c. -/
  ff : SMap (BitVec 64) := []
  /-- Saved flip-flops, by (region × 8 + slot) × 256 + tile (R129). -/
  saved : SMap (BitVec 64) := []
  /-- Switch registers by tile, in the order of R202. -/
  sw : SMap (BitVec 224) := []
  wu : SMap Wu := []
  region : SMap Region := []
  /-- Dampers by tile × 224 + in-wire. -/
  damper : SMap Damper := []
  /-- Stored frames by frame address (Table 8.8). -/
  frames : SMap Frame := []
  /-- Latched frames of active slots that differ from the stored ones, by frame address (R226). -/
  latch : SMap (Option (List Byte)) := []
  rcmp : SMap RCmp := []
  rpend : List RCmpPend := []
  /-- Triggers of switch groups that no edge has taken yet: group, and the instant in ps from which an edge takes it (R144). -/
  trigs : List (Nat × Nat) := []
  deriving DecidableEq, Repr, Inhabited


/-! ### Item ledger (spec/07) -/

/-- A post in a ledger port (Table 7.1), with the tick the region held, its axis values, and the banks then in force. -/
structure LPost where
  stn : Nat := 0
  verd : Nat := 0
  code : Half := 0
  idv : Bool := false
  id : Word := 0
  tick : Nat := 0
  /-- The plant time of that tick, ns. -/
  time : Nat := 0
  values : List DWord := []
  banks : Nat := 0
  deriving DecidableEq, Repr, Inhabited

/-- A ledger port: its queue of up to four posts and its outputs (R162). -/
structure LPort where
  queue : List LPost := []
  /-- Statuses of resolved posts that wait for their ACK, one an edge (Table 7.1). -/
  answers : List Nat := []
  ack : Bool := false
  astat : Nat := 0
  deriving DecidableEq, Repr, Inhabited

/-- A ledger entry (Table 7.6) and what the ledger keeps of the item until its record is made. -/
structure LEntry where
  id : Word := 0
  birth : DWord := 0
  birthTime : Nat := 0
  done : Half := 0
  rej : Half := 0
  reason : Half := 0
  code : Half := 0
  /-- STATE of Table 7.3. -/
  st : Nat := 0
  suspect : Bool := false
  coasted : Bool := false
  bank : Nat := 0
  jump : Bool := false
  /-- GATE pushed. -/
  gated : Bool := false
  /-- CHECK no longer matches (R170). -/
  bad : Bool := false
  /-- The gate pair was refused, missed or late (R168). -/
  gateFail : Bool := false
  /-- 0 COMPLETED, 1 REJECTED, 2 FAILED. -/
  outcome : Nat := 0
  closeTime : Nat := 0
  /-- The record has been released to the report paths. -/
  released : Bool := false
  deriving DecidableEq, Repr, Inhabited

/-- A deadline or a close that waits for earlier posts (R166): the station, or none for a close; `lost` is the close of R171, and
`late` says that the station was posted after the deadline. -/
structure LDue where
  tick : Nat := 0
  entry : Nat := 0
  id : Word := 0
  station : Option Nat := none
  coast : Bool := false
  time : Nat := 0
  late : Bool := false
  lost : Bool := false
  deriving DecidableEq, Repr, Inhabited

/-- A record on its way to the report paths (Table 7.7): its bytes, the entry it frees, the paths that must still accept it. -/
structure LRec where
  recseq : Word := 0
  data : List Byte := []
  entry : Option Nat := none
  ring : Bool := false
  vsm : Bool := false
  deriving DecidableEq, Repr, Inhabited

/-- An item whose station instants still lie ahead, whether it is open, closed or never had an entry (R172). -/
structure LTrack where
  stream : Nat := 0
  id : Word := 0
  birth : DWord := 0
  bank : Nat := 0
  deriving DecidableEq, Repr, Inhabited

/-- A passing of a station by an item (R172). -/
structure LPass where
  stream : Nat := 0
  id : Word := 0
  station : Nat := 0
  region : Nat := 0
  time : Nat := 0
  deriving DecidableEq, Repr, Inhabited

/-- A stream beside its registers. -/
structure LStream where
  enabled : Bool := false
  /-- The tick at which a disable takes effect, and an enable queued behind it (R180). -/
  disDue : Option Nat := none
  enQueued : Bool := false
  /-- k of the last birth since the enable (R156). -/
  last : Option Int := none
  /-- How far the birth axis stands from ORIGIN, in sub-phase units, counted through the axis value's own wraps (R155). -/
  dist : Int := 0
  /-- The ticks of the bank flips, latest last (R164). -/
  flips : List Nat := []
  /-- The birth axis went to LOST (R171). -/
  lost : Bool := false
  /-- Sequence numbers whose items hold entries, oldest first. -/
  items : List Nat := []
  /-- The FULL range: first and last ID, birth time of the first (R159). -/
  full : Option (Word × Word × Nat) := none
  /-- Stamps of PRESCAP since the last pitch point (R157). -/
  stamps : List DWord := []
  /-- Sequence numbers born and not reported, FULL items among them, for the birth mask (R176). -/
  born : List Nat := []
  deriving DecidableEq, Repr, Inhabited

/-- The item ledger. -/
structure Lgr where
  entries : SMap LEntry := []
  ports : SMap LPort := []
  streams : SMap LStream := []
  /-- The copies of banked registers that are not shown, by offset, exclusive-or the reset value (R160). -/
  other : SMap Word := []
  /-- Stations whose shown copy is that of bank 0; the others show bank 1 (R160). -/
  shows0 : SMap Bool := []
  /-- The arbitration token over the ports (R163). -/
  token : Nat := 0
  due : List LDue := []
  /-- SUSPECT_RANGE records that wait, by stream: bytes without RECSEQ and CHECK. -/
  suspects : List (Nat × List Byte) := []
  out : List LRec := []
  track : List LTrack := []
  passes : List LPass := []
  /-- What became of gate pairs: item ID, and whether its SET fired on time (R168). -/
  gateOut : List (Nat × Bool) := []
  /-- The changes since the last MIRROR frame, in the order made: the entry, or 65,536 + n for stream n's counters, and the record of
  Table 15.5 (R177, R376). -/
  changed : List (Nat × List Byte) := []
  deriving DecidableEq, Repr, Inhabited

/-! ### Configuration images, loading, scrubbing (spec/08, spec/09) -/

/-- A load channel (R211). -/
structure LoadCh where
  busy : Bool := false
  /-- The mailbox slot that waits for the answer, none for the start load. -/
  mbx : Option Nat := none
  /-- 0 HBM, 1 XSPIA, 2 XSPIB. -/
  src : Nat := 0
  base : Nat := 0
  /-- The slot map (R204, R220). -/
  map : Nat := 0
  /-- The load is the start sequencer's own (R440). -/
  start : Bool := false
  /-- Waits at check 5 for a fuse request to end (R482). -/
  waiting : Bool := false
  hdr : List Byte := []
  table : List Byte := []
  /-- The segment being processed, and what is left of its decrypted stream. -/
  seg : Nat := 0
  rest : List Byte := []
  /-- The key and IV of the next segment (R191). -/
  key : BitVec 128 := 0
  iv : Nat := 0
  /-- A SUPFW command has been seen (R194). -/
  sup : Bool := false
  /-- CSRW values held for step CSR, in stream order: register offset and value (R199). -/
  held : List (Nat × Word) := []
  /-- ACTIVATE commands: set, region, slot (R200). -/
  acts : List (Nat × Nat × Nat) := []
  deriving DecidableEq, Repr, Inhabited

/-- A flash request in progress on a port (R218). -/
structure FlashOp where
  mbx : Nat := 0
  erase : Bool := false
  offset : Nat := 0
  data : List Byte := []
  deriving DecidableEq, Repr, Inhabited

/-- A SWITCH request that waits for its groups (R219): masks of groups whose trigger is not taken yet, with the instant from which
an edge takes it, of groups switching, switched and refused; NOTEN was met. -/
structure SwReq where
  mbx : Nat := 0
  posted : Nat := 0
  from_ : Nat := 0
  wait : Nat := 0
  switched : Nat := 0
  refused : Nat := 0
  noten : Bool := false
  deriving DecidableEq, Repr, Inhabited

/-- The upset scrubber of one region (R223). -/
structure Scrub where
  /-- The next tile of the pass running. -/
  pos : Option Nat := none
  clean : Bool := true
  /-- Plant time in ns at which the pass began, and at which the last clean pass began. -/
  began : Nat := 0
  lastClean : Nat := 0
  deriving DecidableEq, Repr, Inhabited

/-- The configuration engine and the scrubber beside their registers. -/
structure Cfg where
  ch : SMap LoadCh := []
  ops : SMap FlashOp := []
  swReqs : List SwReq := []
  /-- The command bytes last sent to the flash, by port (R216), and whether SFDP declares the repeated-opcode form. -/
  sent : SMap (List Nat) := []
  repeatExt : SMap Bool := []
  /-- The ports hold their flash reset outputs low (R217). -/
  flashRst : Bool := false
  /-- IMGDIG by slot index (R480). -/
  dig : SMap (List Byte) := []
  /-- Supervisor program memory (SUPFW). -/
  supMem : SMap Byte := []
  /-- The FULL image accepted last: IMGDIG, ARB, SIGNER; and what its stream holds for the start. -/
  fullDig : List Byte := []
  fullArb : Nat := 0
  fullSigner : Option Nat := none
  held : List (Nat × Word) := []
  acts : List (Nat × Nat × Nat) := []
  /-- What the twin answers to a FETCH from it, none for an error response (R441). -/
  twinImg : Option (List Byte) := none
  /-- The status at which the start load ended. -/
  startResult : Option Nat := none
  scrub : SMap Scrub := []
  deriving DecidableEq, Repr, Inhabited


/-! ### Memory-tier banks (spec/10) -/

/-- A bank-port result on its way: the port (region × 16 + k), edges left, and what it will present (R238). -/
structure PortRes where
  port : Nat := 0
  left : Nat := 0
  rdata : DWord := 0
  stat : Nat := 0
  deriving DecidableEq, Repr, Inhabited

/-- What a bank port presents (Table 10.2). -/
structure PortOut where
  rdata : DWord := 0
  rvalid : Bool := false
  stat : Nat := 0
  collided : Bool := false
  deriving DecidableEq, Repr, Inhabited

/-- A request that a column's interface has accepted (R240): the words it has performed, what they returned, and at its end
the STAT. -/
structure BankJob where
  bank : Nat := 0
  req : Req := default
  count : Nat := 0
  data : List Byte := []
  stat : Nat := 0
  ended : Bool := false
  deriving DecidableEq, Repr, Inhabited

/-- A request's operation on a word, as a region's operation of the same edge meets it (R249). -/
structure BankMet where
  bank : Nat := 0
  req : Req := default
  op : Nat := 0
  word : Nat := 0
  mask : Nat := 0
  val : DWord := 0
  old : DWord := 0
  /-- Taken at port A. -/
  isA : Bool := false
  deriving DecidableEq, Repr, Inhabited

/-- The memory tier beside its registers and its bytes. -/
structure Mem where
  /-- The owner value of a handover that waits, by bank (R244). -/
  pend : SMap (Option Nat) := []
  /-- The owner value a bank under march returns to (R253). -/
  before : SMap (Option Nat) := []
  /-- The CRC-8 that a bank's ownership entry carries, by bank (R246). -/
  crc : SMap Byte := []
  /-- The operations in flight at bank ports, and the ports' outputs (R236, R238). -/
  pipe : List PortRes := []
  out : SMap PortOut := []
  /-- The banks of the running march test (R252). -/
  march : List Nat := []
  /-- The mode it runs in: false destructive, true preserving (R252). -/
  preserve : Bool := false
  /-- The column interface's token, by column (R240). -/
  token : SMap Nat := []
  /-- The requests that the column interfaces have accepted, oldest first (R240). -/
  jobs : List BankJob := []
  /-- The operation that a column's interface took at the latest bank-clock edge, by column (R249). -/
  met : SMap (Option BankMet) := []
  /-- Banks that reclaim is to take, the first of them now, with the tick at which its 2 µs end (R248). -/
  reclaims : List (Nat × Nat) := []
  deriving DecidableEq, Repr, Inhabited

/-! ### HBM and scrambler (spec/11) -/

/-- The stacks and the scrambler beside their registers and bytes. -/
structure Hbm where
  /-- The write counter of every line, by line number (R268). -/
  ctr : SMap Nat := []
  /-- The region key source and the tree key (R266). -/
  km : BitVec 128 := 0
  kt : BitVec 128 := 0
  /-- The stack's hold buffer, oldest first, by stack (R275). -/
  hold : SMap (List Req) := []
  /-- Requests that wait at an attachment point behind a write the hold buffer would not take (R275). -/
  waiting : SMap (List Req) := []
  /-- The sweep engine's token, by stack (R273). -/
  token : SMap Nat := []
  /-- The token of a pseudo-channel controller, by stack × 32 + pseudo-channel: 0 NoC requests, 1 counter-tree traffic, 2 the
  sweep engine (R259). -/
  pcTok : SMap Nat := []
  /-- The region a stack's engine sweeps, by stack (R273). -/
  engine : SMap (Option Nat) := []
  /-- Counter-tree nodes whose stored bytes were overwritten, by level × 2^21 + node. -/
  tampered : SMap Bool := []
  /-- Which stacks are taking refresh at double rate (R256), by stack. -/
  fastRefresh : SMap Bool := []
  deriving DecidableEq, Repr, Inhabited

/-! ### Network-on-chip (spec/12) -/

/-- A packet in the mesh (Tables 12.5 to 12.7), at a router's input. -/
structure Packet where
  addr : Nat := 0
  dest : Nat := 0
  src : Nat := 0
  tag : Nat := 0
  ctx : Nat := 0
  posted : Bool := false
  /-- LEN, or DETAIL in an error response. -/
  len : Nat := 0
  /-- OP in a request, STATUS in a response. -/
  op : Nat := 0
  isRsp : Bool := false
  epoch : Bool := false
  iclass : Nat := 0
  data : List Byte := []
  /-- Where it lies: the router, and the input port it came in by (0 N, 1 E, 2 S, 3 W, 4 + p local port p). -/
  router : Nat := 0
  port : Nat := 0
  /-- The initiator whose endpoint SRC names. -/
  ini : Nat := 0
  /-- A debug access by the raw view (R279). -/
  raw : Bool := false
  deriving DecidableEq, Repr, Inhabited

/-- A request an endpoint has been offered and has not answered (R299), or that is held at its target (R300). -/
structure Owed where
  dest : Nat := 0
  req : Req := default
  /-- The region adapter's RTAG, for a region port. -/
  rtag : Nat := 0
  /-- The fabric has taken it (all its beats are presented). -/
  taken : Bool := false
  /-- Its timer is suspended (R300). -/
  suspended : Bool := false
  deriving DecidableEq, Repr, Inhabited

/-- A request its initiator still waits for (R301). -/
structure Issued where
  ini : Nat := 0
  tag : Nat := 0
  op : Nat := 0
  len : Nat := 0
  addr : Nat := 0
  ctx : Nat := 0
  tick : Nat := 0
  /-- The fabric's FTAG, for a region's request (Table 12.9). -/
  ftag : Nat := 0
  /-- Issued before a cold switch or a fabric reset: its response is discarded on arrival (R136, R290). -/
  stale : Bool := false
  deriving DecidableEq, Repr, Inhabited

/-- A packet queued for a region's fabric side: its beats left, the units it frees, the context (none for a request). -/
structure FabPkt where
  beats : List (BitVec 256) := []
  units : Nat := 0
  ctx : Option Nat := none
  started : Bool := false
  deriving DecidableEq, Repr, Inhabited

/-- A region adapter (R289 to R292). -/
structure Adapter where
  /-- Units reserved, by context. -/
  used : SMap Nat := []
  rsp : List FabPkt := []
  req : List FabPkt := []
  /-- The receive path's token: true when the response queue is asked first (Table 12.9). -/
  rspFirst : Bool := false
  deriving DecidableEq, Repr, Inhabited

/-- The network beside its registers. -/
structure Noc where
  pkts : List Packet := []
  owed : List Owed := []
  issued : List Issued := []
  /-- Tags an initiator may not use again yet: initiator × 4,096 + tag, tick at which it may (R301). -/
  quarantine : List (Nat × Nat) := []
  /-- Tokens of the router outputs, by router × 128 + output × 4 + class, and at class 2 the class whose turn it is (R293);
  outputs 0 to 3 are N, E, S, W, and 4 + p is local port p. -/
  token : SMap Nat := []
  /-- A route check is running (R296). -/
  checking : Bool := false
  adapters : SMap Adapter := []
  /-- Requests that wait at endpoint 974, oldest first, and the token over the lanes and the Vasum link layer there (R328). -/
  share : List Packet := []
  shareTok : Nat := 0
  /-- Responses that have left the mesh and lie in their endpoint (R287). -/
  inbox : List Packet := []
  /-- Answers that wait for their askers: initiator × 4,096 + tag, status, detail, data. -/
  arrived : List (Nat × Nat × Nat × List Byte) := []
  deriving DecidableEq, Repr, Inhabited

/-! ### Serial lanes (spec/13) -/

/-- A transmit block that has been asked for (R327): its tag, and what came: nothing yet, the bytes, or an error. -/
structure TxBlk where
  tag : Nat := 0
  got : Option (Option (List Byte)) := none
  deriving DecidableEq, Repr, Inhabited

/-- A serial lane beside its registers. -/
structure Lane where
  /-- The symbol boundary (R310). -/
  bound : Option Nat := none
  /-- The running disparity of the receiver: positive. -/
  rd : Bool := false
  /-- Characters since the last comma. -/
  since : Nat := 0
  /-- Consecutive commas that spoke for keeping and for inverting the polarity (R311, R335). -/
  keep : Nat := 0
  flip : Nat := 0
  /-- Consecutive commas at another boundary (R315). -/
  stray : Nat := 0
  /-- Symbols and code errors in the present window of 1,024 (R315). -/
  winN : Nat := 0
  winE : Nat := 0
  /-- The run of idle symbols (R316), and the characters of an ADAPT set still to come (R334). -/
  idle : Nat := 0
  adapt : Nat := 0
  /-- The last four characters of a Vasum lane, newest first, a K character counted from 256 on; the IDLE sets that its receiver has
  passed on since the last frame, and the characters since it last added or removed one (R337). -/
  last : List Nat := []
  gap : Nat := 0
  slip : Nat := 0
  /-- An IDLE set, or a valid ACK of its port, has come since ALIGN (R336). -/
  idled : Bool := false
  /-- The SOFs that wait for those of the bundle's other lanes, oldest first: characters since each (R338). -/
  sofs : List Nat := []
  /-- The receive block under assembly: entries, the time of the first, code errors, frozen during it (Table 13.4). -/
  entries : List Nat := []
  time : Nat := 0
  errs : Nat := 0
  froze : Bool := false
  /-- Receive blocks that wait for their posts, with their numbers (R326). -/
  buf : List (Nat × List Byte) := []
  bseq : Nat := 0
  ovf : Bool := false
  /-- Transmit blocks asked for, oldest first; the number of the next; what was sent last. -/
  txq : List TxBlk := []
  txk : Nat := 0
  out : List Byte := []
  /-- The running disparity of the transmitter's encoder (positive), and the code groups or words of what was sent last, as they cross
  the pins (R308). -/
  txRd : Bool := false
  pins : List Nat := []
  /-- EN has been cleared and the block in progress is being sent; EN = 1 waits (R313). -/
  stopping : Bool := false
  again : Bool := false
  /-- Valid ALIGN sets received with SEEN = 1, and any valid one at all (R336). -/
  seen : Nat := 0
  heard : Bool := false
  /-- What the far end's last ALIGN set said: LANE of R333. -/
  far : Nat := 0
  deriving DecidableEq, Repr, Inhabited

/-! ### Vasum link (spec/14) -/

/-- What an angle channel last received (R38, R358). -/
structure AngRx where
  value : DWord := 0
  /-- Velocity in velocity LSBs of Table 2.1. -/
  vel : Int := 0
  /-- The plant time of the sample, ns. -/
  time : DWord := 0
  /-- A valid frame has latched the channel. -/
  latched : Bool := false
  run : Nat := 0
  deriving DecidableEq, Repr, Inhabited

/-- A frame (Table 14.2). LEN is the payload's length, but for a READ request, whose LEN is the request's. -/
structure VFrame where
  dest : Nat := 0
  src : Nat := 0
  chan : Nat := 0
  hops : Nat := 0
  seq : Nat := 0
  etag : Nat := 0
  len : Nat := 0
  retx : Bool := false
  addr : Nat := 0
  op : Nat := 0
  detail : Nat := 0
  data : List Byte := []
  deriving DecidableEq, Repr, Inhabited

/-- A port of the link layer beside its registers. -/
structure VPort where
  /-- The SEQ of the next frame sent, and the SEQ expected next, by channel (R341, R342). -/
  txSeq : SMap Nat := []
  rxSeq : SMap Nat := []
  /-- Numbers of replayed channels that have failed and may still come: channel and SEQ (R342). -/
  missing : List (Nat × Nat) := []
  /-- Frames accepted on a replayed channel since its last ACK, by channel (R343). -/
  ackDue : SMap Nat := []
  /-- The replay buffer, oldest first: the frame and how often it has been sent (R343, R344). -/
  replay : List (VFrame × Nat) := []
  /-- Frames that wait for the transmitter, oldest first, and its token over the channels of R352. -/
  wait : List VFrame := []
  token : Nat := 0
  /-- Frames sent since the last WIDEN (R345), and the widening proposed: frame count, width, and whether it was accepted. -/
  frames : Nat := 0
  widen : Option (Nat × Nat × Bool) := none
  /-- The link delay has been measured, and the send time of the last DREQ (R354). -/
  measured : Bool := false
  t1 : DWord := 0
  deriving DecidableEq, Repr, Inhabited

/-- A tunnelled request that waits for its answer (R360, R362). -/
structure TunOut where
  req : Req := default
  etag : Nat := 0
  deriving DecidableEq, Repr, Inhabited

/-- The Vasum link beside its registers. -/
structure Vsm where
  angRx : SMap AngRx := []
  ports : SMap VPort := []
  /-- The route table, by node: VSM_RTDATA of each entry (R349). -/
  route : SMap Word := []
  /-- What the ports have sent, latest first: the device's output; none stands for an IDLE set between frames (R337). -/
  sent : List (Nat × Option VFrame) := []
  /-- The steering rate in 2^-16 ns per tick (R355, Table 14.7a). -/
  rate : Int := 0
  /-- SYNCs in a row within ±4 ns (Table 14.7a). -/
  good : Nat := 0
  /-- The device has held plant time since the last reset of the block (R25). -/
  wasLocked : Bool := false
  /-- Switch commands that wait: plant time and group mask (R359). -/
  switches : List (Nat × Nat) := []
  tunOut : List TunOut := []
  /-- Tunnelled requests being performed: tag, source node, ETAG, OP (R361). -/
  tunIn : List (Nat × Nat × Nat × Nat) := []
  /-- The originator's next ETAG. -/
  etag : Nat := 0
  /-- RECSEQs of ledger records sent and not accepted (R364). -/
  reported : List Word := []
  /-- The source and RECSEQ of the last record written, by report channel (R174, R365). -/
  rptLast : SMap (Option (Nat × Word)) := []
  deriving DecidableEq, Repr, Inhabited

/-! ### Twin operation (spec/15) -/

/-- Something that fell at a tick and that the partner may not have mirrored (R380): a birth with its value, time and JUMP, or a
deadline or close of an item. -/
structure Doubt where
  id : Word := 0
  /-- Plant time of the tick, ns. -/
  tick : Nat := 0
  birth : Option (DWord × Nat × Bool) := none
  due : Option LDue := none
  deriving DecidableEq, Repr, Inhabited

/-- Twin operation beside its registers. -/
structure Twin where
  /-- Posts taken while the partner decides: item and the plant time of the post (R377). -/
  shadow : List (Word × Nat) := []
  /-- MIRROR frames sent and not acknowledged: frame number, entries in it; 65,536 + n stands for stream n's counters (R376). -/
  unacked : List (Nat × List Nat) := []
  /-- The number of the next MIRROR frame, carried as its ETAG. -/
  mirrorNo : Nat := 0
  /-- The counters of each stream as last mirrored (Table 15.5, KIND 1). -/
  sentCtr : SMap (List Nat) := []
  /-- Heartbeats in a row that failed a comparison (R375). -/
  fails : Nat := 0
  /-- The resynchronisation is complete (R385). -/
  synced : Bool := false
  /-- T_ack: the TICK of the last MIRROR frame acknowledged (R377). -/
  tAck : Nat := 0
  /-- The MIRROR payloads of the snapshot under reception, oldest first (R385). -/
  snap : Option (List (List Byte)) := none
  /-- VMASTER settings that wait: plant time, axis, value, velocity in the units of `Axis.vel` (R385). -/
  vmaster : List (Nat × Nat × DWord × Int) := []
  /-- The planned handover's T (R383). -/
  hoT : Option Nat := none
  /-- The primary is lost and LEASE_IN may still fall (R378). -/
  waiting : Bool := false
  /-- The role has been given up: no heartbeat until the device leaves UNPAIRED (R383). -/
  yielded : Bool := false
  /-- Axis values of the last ticks, latest first: plant time and values (R375). -/
  hist : List (Nat × List DWord) := []
  doubt : List Doubt := []
  /-- A RESETREQ has been received in this step (R384). -/
  asked : Bool := false
  deriving DecidableEq, Repr, Inhabited

/-! ### Crossbar and peripherals (spec/16) -/

/-- A pending stage (R401, R404): its word, whether it was written since the last crossbar tick, and the pending word it
had at that tick, if any. -/
structure XStage where
  word : Word := 0
  fresh : Bool := false
  prior : Option Word := none
  deriving DecidableEq, Repr, Inhabited

/-- A pin's glitch filter (R391): the pad's level as last seen, the crossbar tick it has stood since, and the level passed. -/
structure PinFilt where
  raw : Bool := false
  since : Nat := 0
  passed : Bool := false
  deriving DecidableEq, Repr, Inhabited

/-- The crossbar and the pins beside their registers. -/
structure Xbar where
  /-- Pending stages: source n at n, destination n at 1,024 + n. -/
  pend : SMap (Option XStage) := []
  /-- Commits and reclaims that wait: crossbar tick and group (R402, R406). -/
  commits : List (Nat × Nat) := []
  reclaims : List (Nat × Nat) := []
  /-- Pin settings that wait: crossbar tick, pin, word (R389). -/
  pinPend : List (Nat × Nat × Word) := []
  /-- Pin settings in force, exclusive-or the reset value. -/
  pinForce : SMap Word := []
  /-- Pins whose settings failed their check (R407). -/
  pinHeld : SMap Bool := []
  /-- Entries whose check no longer matches: table × 2,048 + (1,024 for a stage) + index, tables as XBAR_TBLERR (R407). -/
  bad : SMap Bool := []
  /-- What drives a pin from outside: 0 nothing, 1 low, 2 high. -/
  ext : SMap Nat := []
  /-- The level a keeper holds (R390). -/
  keep : SMap Bool := []
  /-- The glitch filters of the pins (R391). -/
  filt : SMap PinFilt := []
  /-- The level of a pin after filter and INVIN as last seen (R396). -/
  inp : SMap Bool := []
  /-- The start release has been: the pins have left row 2 (R392, R443). -/
  pinsOn : Bool := false
  /-- The words that the last crossbar tick replaced, by output source: what mapped a source before it (R402). -/
  was : SMap (Option Word) := []
  /-- The edges that edge units placed at pins in the last tick: pin, instant in 250 ps steps, level (R66). -/
  pinEdges : List (Nat × Nat × Bool) := []
  deriving DecidableEq, Repr, Inhabited

/-- An encoder interface beside its registers (R409, R410). -/
structure Enc where
  a : Bool := false
  b : Bool := false
  /-- An SSI position has been received since the unit started. -/
  had : Bool := false
  /-- EN has been cleared with an SSI frame in progress, and a write of EN = 1 that waits for its end (R408). -/
  stopping : Bool := false
  again : Bool := false
  deriving DecidableEq, Repr, Inhabited

/-- An I2C, SPI or UART unit beside its registers (R408 to R413). -/
structure PerUnit where
  /-- Queued commands, frames or bytes, oldest first; the first one is in transfer while `running`. -/
  tx : List Word := []
  rx : List Word := []
  running : Bool := false
  /-- The parts of the first I2C command still to do: START 1, byte 2, STOP 4. -/
  left : Nat := 0
  /-- EN has been cleared and the transfer in progress is completing (R408). -/
  stopping : Bool := false
  /-- A write of EN = 1 that waits for the stop (R408). -/
  again : Bool := false
  /-- The bits of the last byte or frame sent, and for an I2C byte its acknowledge bit, in the order they crossed the line. -/
  wire : List Bool := []
  deriving DecidableEq, Repr, Inhabited

/-- The peripherals: units keyed I2Cn n, SPIn 4 + n, UARTn 8 + n. -/
structure PerBlk where
  enc : SMap Enc := []
  unit : SMap PerUnit := []
  deriving DecidableEq, Repr, Inhabited

/-- The test access port and the debug access port (R492 to R494). Covered pins are numbered as the model lists them: MIOn
n, then 640 RESET_N, 641 DONE, 642 HALT_N, 643 TWINSEL, 644 on the xSPI ports. -/
structure Jtag where
  /-- The instruction in force (Table 22.6). -/
  ir : Nat := 1
  /-- The boundary register's update stage: what it drives on a pin, none for nothing. -/
  drive : SMap (Option Bool) := []
  /-- The boundary register's levels captured last. -/
  capture : SMap Bool := []
  /-- Who controls the pins: 0 Table 16.1, 1 the boundary register, 2 high impedance. -/
  force : Nat := 0
  /-- The DAP register: address, data read, status of the last access (15 while pending), and the access pending: whether it reads, and INC. -/
  addr : Nat := 0
  data : Word := 0
  status : Nat := 0
  wait : Option (Bool × Bool) := none
  deriving DecidableEq, Repr, Inhabited

/-! ### Reset (spec/17) -/

/-- The reset controller beside its registers. -/
structure Rst where
  /-- The sources asserted at power-on or system reach, by bit of Table 17.1. -/
  asserted : List Nat := []
  /-- The reach in force: 0 none, 2 system, 3 power-on (R420). -/
  reach : Nat := 0
  /-- Regions in a fabric reset (R417). -/
  fab : List Nat := []
  /-- Of them, those that the debug port holds until DBG_RSTREQ is 0 (R495). -/
  dbgHeld : List Nat := []
  deriving DecidableEq, Repr, Inhabited

/-! ### Power and clocks (spec/18) -/

/-- Power domains and the VCCL loop beside their registers. -/
structure Pwr where
  /-- The request queued behind a transition, by domain: REQ of PWR_PDn_CTL (R429). -/
  queued : SMap (Option Nat) := []
  /-- The state a domain in CLOSING is on its way to: 0 OFF, 2 RETAIN. -/
  goal : SMap Nat := []
  /-- The VCCL that the supervisor is moving to, mV (R432, R460). -/
  vccl : Nat := 750
  /-- Consecutive readings more than 15 mV off (R433). -/
  misses : Nat := 0
  /-- AVSERR has been set and VCCL is held (R433). -/
  held : Bool := false
  /-- Mailbox slots whose AGEAPPLY waits for VCCL to settle (R460). -/
  waits : List Nat := []
  deriving DecidableEq, Repr, Inhabited

/-! ### Start-up (spec/19) -/

/-- The start sequencer. -/
structure Start where
  /-- The step due, by its code in Table 19.1; none when no start is running. -/
  step : Option Nat := none
  /-- Plant time of the start's beginning, ns. -/
  began : Nat := 0
  /-- The policy action in force (R209): its step, the action's code of Table 8.11 and ARG; none when no action applies. -/
  action : Option (Nat × Nat × Nat) := none
  /-- The start log entry's fields beside TIME, STEP and RESULT: STATUS, consecutive failures, IMGTAG, SOURCE, HBM and FLAGS. -/
  status : Nat := 0
  fails : Nat := 0
  tag : Nat := 0
  source : Nat := 0
  hbm : Nat := 0
  flags : Nat := 0
  /-- RST_LAST and what HALT showed at the beginning of the start (RSTCAUSE and HALT of Table 19.2). -/
  last : Word := 0
  /-- The start log entry begun by this start is in the log. -/
  logged : Bool := false
  /-- A failed start whose retry by RST_CTL waits (R446). -/
  retry : Bool := false
  /-- HBMTRAIN waits for random numbers (R479): the mask of failed stacks. -/
  drawing : Option Nat := none
  /-- Streams whose CSRW value sets EN (R442). -/
  streams : List Nat := []
  /-- Regions and slots that REGIONS has committed (R442). -/
  committed : List (Nat × Nat) := []
  /-- TRIM has failed: the device stays in reset with TRIMERR (R419). -/
  trimErr : Bool := false
  deriving DecidableEq, Repr, Inhabited

/-! ### Temperature and ageing (spec/20) -/

/-- What the THM and AGE blocks hold beside their registers. -/
structure Age where
  /-- Consecutive samples at or above THM_TRIP, or BROKEN, by on-die channel (R453). -/
  hot : SMap Nat := []
  /-- The FMAX that the plan gives a region, where it lowers it, MHz (R459). -/
  fmax : SMap Nat := []
  /-- The last measurement: region, d_wc at 0.75 V in 0.01 ps, and DRIFT in 0.01 ps per 1,000 hours (R458). -/
  meas : List (Nat × Nat × Nat) := []
  deriving DecidableEq, Repr, Inhabited

/-! ### Host attachment (spec/22) -/

/-- One request of a host read or of a DMA descriptor: its tag, and its status and data once they have come. -/
structure HostPart where
  tag : Nat := 0
  got : Option (Nat × List Byte) := none
  deriving DecidableEq, Repr, Inhabited

/-- The descriptor a DMA channel is working on (R490): its 32 bytes, the accesses not yet requested (address, length and
data), and the requests made, in order of address. -/
structure DmaJob where
  desc : List Byte := []
  todo : List (Nat × Nat × List Byte) := []
  parts : List HostPart := []
  deriving DecidableEq, Repr, Inhabited

/-- The host path beside its registers. -/
structure Usb where
  /-- Host reads whose requests have not all been answered (R484). -/
  reads : List (List HostPart) := []
  /-- The descriptors in progress, by channel. -/
  dma : SMap DmaJob := []
  /-- The supervisor's token over the mailbox slots (R488). -/
  token : Nat := 0
  /-- The DMA channels' token at endpoint 62 (R490). -/
  dmaTok : Nat := 0
  /-- What the DMA channels have written to host memory, oldest first: address and bytes (R490). -/
  wrote : List (Nat × List Byte) := []
  deriving DecidableEq, Repr, Inhabited

/-! ### Ember domain and security (spec/21) -/

/-- An entry of the event log (Table 21.3). -/
structure LogEnt where
  time : DWord := 0
  seq : Word := 0
  src : Nat := 0
  info : Nat := 0
  deriving DecidableEq, Repr, Inhabited

/-- A fuse request that runs or waits (R482): its mailbox slot, none for ARBAUTO, and the bits still to blow as (word,
bit), a word of the check array counted from 512 on; attempts made at the first. -/
structure FuseJob where
  mbx : Option Nat := none
  todo : List (Nat × Nat) := []
  tries : Nat := 0
  deriving DecidableEq, Repr, Inhabited

/-- The ember domain and the security engine beside their registers. -/
structure Sec where
  /-- The fuse words and their check array. -/
  fuse : SMap Word := []
  fuseCheck : SMap Byte := []
  jobs : List FuseJob := []
  /-- The battery-backed key (R477). -/
  kb : BitVec 256 := 0
  kbValid : Bool := false
  /-- The event log, oldest first, and the number of the next event (R471). -/
  log : List LogEnt := []
  logSeq : Nat := 0
  /-- The event number of the entry that a read of AON_LOG_ENT0 copied (R472). -/
  logCopy : Option Word := none
  /-- The start log's entries of 32 bytes, latest first (Table 19.2). -/
  starts : List (List Byte) := []
  /-- Consecutive samples that disagree with a comparator's output (R469). -/
  runs : SMap Nat := []
  /-- The latched high word of the counter (R467). -/
  rtcHi : Word := 0
  /-- PD0 runs from VBAT (R462). -/
  onBat : Bool := false
  /-- VBAT in millivolts. -/
  vbat : Nat := 3000
  /-- The marker pattern is absent (R463). -/
  lost : Bool := false
  /-- The crystal's offset at its turnover temperature, in ppb (R466). -/
  ofs : Int := 0
  deriving DecidableEq, Repr, Inhabited

/-! ### The device -/

/-- An answer to an access: a status of Table 12.7 and the bytes read. -/
structure Resp where
  status : Nat := 0
  data : List Byte := []
  deriving DecidableEq, Repr, Inhabited

/-- An entry of the supervisor's fault log (R16). -/
inductive FaultNote where
  | ownership (n : Nat)
  | hbmUE (k : Nat)
  | integrity (kind level node : Nat)
  | nocHeader (r : Nat)
  | portDead (ep : Nat)
  | ledgerEntry (i : Nat)
  | upset (cls g tile kind : Nat)
  | frameCheck (chan status : Nat)
  | xbarTable (table n : Nat) (stage : Bool)
  | frame (port chan : Nat)
  | regulator
  | ember (k : Nat)
  deriving DecidableEq, Repr

/-- The whole device. -/
structure State where
  csr : SMap Word := []
  freeCtr : Nat := 0
  tick : Nat := 0
  xtick : Nat := 0
  rtc : BitVec 80 := 0
  resp : Option Resp := none
  msixSeen : List Nat := []
  msixSent : SMap Nat := []
  faultLog : List FaultNote := []
  mem : SMap Byte := []
  fill : SMap Nat := []
  epoch : Nat := 0
  haltN : Bool := false
  ang : Ang := {}
  evt : Evt := {}
  fab : Fab := {}
  lgr : Lgr := {}
  mt : Mem := {}
  hbm : Hbm := {}
  noc : Noc := {}
  lanes : SMap Lane := []
  vsm : Vsm := {}
  sec : Sec := {}
  cfg : Cfg := {}
  twin : Twin := {}
  xbar : Xbar := {}
  per : PerBlk := {}
  jtag : Jtag := {}
  rst : Rst := {}
  pwr : Pwr := {}
  start : Start := {}
  age : Age := {}
  usb : Usb := {}
  pending : List Instr := []
  deriving DecidableEq, Repr

/-- The device at power-on (R415, R416): every register and every unit at its reset value, memory with nothing listed, the
source POR asserted at power-on reach, and no command waiting. -/
def State.reset : State := { rst := { asserted := [0], reach := 3 } }

end Sys2Proof.Machine
end

