-- ==== Sys2Proof/Machine/Ops.lean ====
section
/-! DEFINITION. The named operations over the state: registers and fields, free values, time, the answer to an access,
the interrupt vectors and the one way a command ends. -/

namespace Sys2Proof.Machine

/-! ### Registers -/

/-- The register at offset `a` of the CSR range. -/
def State.rw (s : State) (a : Nat) : Word := s.csr.get a ^^^ resetWord a

/-- The state with the register at offset `a` holding `v`. -/
def State.wr (s : State) (a : Nat) (v : Word) : State := { s with csr := s.csr.set a (v ^^^ resetWord a) }

/-- A field's value inside a word. -/
def Field.of (f : Field) (v : Word) : Nat := v.toNat / 2 ^ f.lo % 2 ^ f.w

/-- A word with a field's value replaced. -/
def Field.into (f : Field) (v : Word) (x : Nat) : Word :=
  BitVec.ofNat 32 (v.toNat - f.of v * 2 ^ f.lo + x % 2 ^ f.w * 2 ^ f.lo)

/-- A field of a register. -/
def State.g (s : State) (f : Field) : Nat := f.of (s.rw f.addr)

/-- Is a field other than zero? -/
def State.on (s : State) (f : Field) : Bool := decide (s.g f ≠ 0)

/-- The state with a field holding `x`. -/
def State.put (s : State) (f : Field) (x : Nat) : State := s.wr f.addr (f.into (s.rw f.addr) x)

/-- The state with a one-bit field holding `b`. -/
def State.putB (s : State) (f : Field) (b : Bool) : State := s.put f b.toNat

/-- The state with a flag set. -/
def State.raise (s : State) (f : Field) : State := s.put f 1

/-- Bit `b` of a field. -/
def State.bit (s : State) (f : Field) (b : Nat) : Bool := (s.g f).testBit b

/-- The state with bit `b` of a field set. -/
def State.setBit (s : State) (f : Field) (b : Nat) : State := s.put f (s.g f ||| 2 ^ b)

/-- The state with bit `b` of a field clear. -/
def State.clrBit (s : State) (f : Field) (b : Nat) : State :=
  if s.bit f b then s.put f (s.g f - 2 ^ b) else s

/-- Bit `b` of a field made `v`. -/
def State.putBit (s : State) (f : Field) (b : Nat) (v : Bool) : State :=
  if v then s.setBit f b else s.clrBit f b

/-- A counter field counts `k` more and stays at its largest value. -/
def State.bump (s : State) (f : Field) (k : Nat) : State := s.put f (min (2 ^ f.w - 1) (s.g f + k))

/-- A counter field counts `k` more, modulo its width. -/
def State.bumpWrap (s : State) (f : Field) (k : Nat) : State := s.put f (s.g f + k)

/-- The bits a mask selects, of the first `n`. -/
def maskBits (m n : Nat) : List Nat := (List.range n).filter (fun b => m.testBit b)

/-- Fold a change over a list of units. -/
def State.each (s : State) (l : List Nat) (f : State → Nat → State) : State := l.foldl f s

/-! ### Free values -/

/-- The next free value (log entry 1): the state's counter moves on, so no two uses share a value. -/
def State.free (s : State) : BitVec 64 × State :=
  (Config.freeBits s.freeCtr, { s with freeCtr := s.freeCtr + 1 })

/-- A run of free bytes, and the state past their numbers. -/
def State.freeBytes (s : State) (n : Nat) : List Byte × State :=
  ((List.range n).map (fun i => (Config.freeBits (s.freeCtr + i)).setWidth 8), { s with freeCtr := s.freeCtr + n })

/-! ### Time -/

/-- The first tick that begins at least 8 ns after an instant `sub` ps after the current tick, of a train of ticks of
`period` ps of which `n` have passed (R43, R54, R402). -/
def dueAfter (n period sub : Nat) : Nat := n + (sub + 8000 + (period - 1)) / period

/-- The first angle tick at least 8 ns after a write `sub` ps after the current tick (R43, R54). -/
def State.dueTick (s : State) (sub : Nat) : Nat := dueAfter s.tick 4000 sub

/-- The first crossbar tick at least 8 ns after a write `sub` ps after the current one (R402). -/
def State.dueXtick (s : State) (sub : Nat) : Nat := dueAfter s.xtick 2000 sub

/-- Plant time of the current tick in nanoseconds (R26). -/
def State.plantNs (s : State) : DWord := (s.rtc >>> 16).setWidth 64

/-! ### The answer to an access -/

/-- Record the answer an access gets (the port's output): a status of Table 12.7 and the data read. -/
def State.answerWith (s : State) (status : Nat) (data : List Byte) : State :=
  { s with resp := some { status := status, data := data } }

/-- Error-free completion. -/
def stOK : Nat := 0x0
/-- The error response to a writer a register does not accept (R515): access rights. -/
def stERR : Nat := 0x3
/-- The error response to an access outside every block (R7): no destination. -/
def stNONE : Nat := 0x2
/-- The error response to a size or an alignment that R5 does not allow (R284). -/
def stBAD : Nat := 0x4

/-- The bytes of a word, least significant first (R3). -/
def wordBytes (v : Word) : List Byte :=
  [v.setWidth 8, (v >>> 8).setWidth 8, (v >>> 16).setWidth 8, (v >>> 24).setWidth 8]

/-- A number as `n` bytes, least significant first (R3). -/
def natBytes (v : Nat) : Nat → List Byte
  | 0 => []
  | n + 1 => BitVec.ofNat 8 v :: natBytes (v / 256) n

/-- The number that bytes spell, least significant first (R3). -/
def bytesNat : List Byte → Nat
  | [] => 0
  | b :: t => b.toNat + 256 * bytesNat t

/-- The number that bytes spell, most significant first (SIGNKEY and SIG of an image, R181). -/
def bytesNatBE (l : List Byte) : Nat := bytesNat l.reverse

/-! ### Power domains and the supervisor's log -/

/-- `n` bytes of a list, zeros after its end. -/
def padTo (n : Nat) (l : List Byte) : List Byte := (l ++ List.replicate n 0#8).take n

/-- Is power domain `n` ON (R426)? -/
def State.pdOn (s : State) (n : Nat) : Bool := decide (s.g (R.PWR_PD_STATUS.STATE n) = 1)

/-- The logic power domain of region `g` (R75). -/
def logicDomain (g : Nat) : Nat :=
  (if g < 256 then 23 else 31) + 2 * (g % 256 / 16 / 4) + g % 16 / 8

/-- Is region `g`'s logic power domain on? -/
def State.logicOn (s : State) (g : Nat) : Bool := s.pdOn (logicDomain g)

/-- Is the device in integrity halt (R17)? -/
def State.halted (s : State) : Bool := s.on R.RST_STATUS.HALT
/-- LEASE_OUT: high in PRIMARY and SOLO, but low in a halt and while any reset is asserted (R369). -/
def State.leaseShow (s : State) : State :=
  s.putB R.TWIN_STATUS.LEASEOUT
    ((s.g R.TWIN_STATUS.STATE = 2 || s.g R.TWIN_STATUS.STATE = 3) && !s.halted && !s.on R.RST_STATUS.FABBUSY && decide (s.rst.reach = 0))
/-- FABBUSY shows whether a fabric reset is under way; LEASE_OUT follows. -/
def State.fabShow (s : State) : State := (s.putB R.RST_STATUS.FABBUSY (!s.rst.fab.isEmpty)).leaseShow

/-- Do the event units and the ledger run: the start release has been, and there is no halt (R17, R442, R443)? -/
def State.unitsRun (s : State) : Bool := s.xbar.pinsOn && !s.halted

/-- A finding enters the supervisor's fault log (R16). -/
def State.report (s : State) (e : FaultNote) : State := { s with faultLog := s.faultLog ++ [e] }

/-- Both copies of ember content `k` fail their check (R464): the content, in the order of the rows of Table 21.1 without the
real-time counter, reads as the value of its last column. LOCK of a comparator clears only when PD0 is lost (R470). -/
def State.emberFail (s : State) (k : Nat) : State :=
  match k with
  | 0 => s.wr R.AON_RTC_RATE.reg 0#32
  | 1 =>
    let s : State := { s with sec := { s.sec with log := [], logCopy := none, runs := [] } }
    let s := s.put R.AON_LOG_STATUS.FILL 0
    s.each (List.range 4) (fun s n => s.wr (R.AON_CMP_CFG.reg n) (s.rw (R.AON_CMP_CFG.reg n) &&& 0x40000000#32))
  | 2 =>
    let s : State := { s with sec := { s.sec with kb := 0, kbValid := false } }
    s.putB R.SEC_STATUS.KBVALID false
  | 3 => { s with sec := { s.sec with starts := [] } }
  | 4 => s.each (List.range 16) (fun s n => s.put (R.AON_POLICY.ENTRY n) 0)
  | 5 => s.wr R.AON_TWINREC.reg 0#32
  | 6 => { s with csr := s.csr.keep (fun a => !(decide (0x60090 ≤ a) && decide (a < 0x60140))) }
  | _ => s.wr R.AGE_HOURS.reg 0#32

/-! ### Interrupt vectors (R486, Table 22.3) -/

/-- Is some enabled flag of a register up? -/
def State.flagged (s : State) (flags en : Nat) : Bool := decide (s.rw flags &&& s.rw en ≠ 0)

/-- Is some enabled flag of `n` consecutive registers up? -/
def State.flaggedN (s : State) (flags en n : Nat) : Bool :=
  (List.range n).any (fun k => s.flagged (flags + 4 * k) (en + 4 * k))

/-- The blocks whose EVENTS and IRQ_EN lie at offsets 4 and 8, by vector: vector and block base. -/
def eventVectors : List (Nat × Nat) :=
  [(9, 0xA00000), (15, 0x200000), (17, 0x300000), (18, 0x400000), (19, 0x500000), (20, 0x600000), (21, 0x700000),
   (22, 0x800000), (23, 0x900000), (24, 0x80000), (25, 0xA0000), (26, 0x20000), (27, 0x30000), (28, 0x40000),
   (29, 0x50000), (30, 0x60000), (31, 0x70000)]

/-- The summary of vector `v`: the flags of its source under their enables. -/
def State.vectorUp (s : State) (v : Nat) : Bool :=
  if v = 0 then decide (s.rw (R.USB_MBX_DONE.reg) ≠ 0)
  else if v ≤ 8 then
    s.on (R.USB_DMA_STATUS.DONE (v - 1)) || s.on (R.USB_DMA_STATUS.ERR (v - 1))
  else if v = 10 then s.flaggedN (R.SYS_FWD_EXPIRED.reg 0) (R.SYS_FWD_IRQ_EN.reg 0) 16
  else if v = 11 then
    s.flagged R.CTX_SG_DONE.reg R.CTX_SG_DONE_IRQ_EN.reg || s.flagged R.CTX_SG_FAIL.reg R.CTX_SG_FAIL_IRQ_EN.reg
  else if v = 12 then s.flagged R.ANG_EVENTS.reg R.ANG_IRQ_EN.reg
  else if v = 13 then
    s.flaggedN (R.EVT_CMP_FIRED.reg 0) (R.EVT_CMP_IRQ_EN.reg 0) 2
      || s.flaggedN (R.EVT_EDG_FLAG.reg 0) (R.EVT_EDG_IRQ_EN.reg 0) 4
      || s.flaggedN (R.EVT_CAP_READY.reg 0) (R.EVT_CAP_IRQ_EN.reg 0) 4
  else if v = 14 then s.flagged R.LGR_EVENTS.reg R.LGR_IRQ_EN.reg
  else if v = 16 then s.flagged R.PER_EVENTS.reg R.PER_IRQ_EN.reg
  else
    (match eventVectors.find? (fun e => e.1 = v) with
     | some e => s.flagged (e.2 + 4) (e.2 + 8)
     | none => false)
      || (decide (v = 15) && s.flaggedN (R.XBAR_PINIRQ.reg 0) (R.XBAR_PINIRQ_EN.reg 0) 20)

/-- The vectors whose summary is not zero. -/
def State.vectorsUp (s : State) : List Nat := (List.range 32).filter (fun v => s.vectorUp v)

/-- A vector whose summary has become non-zero sends its MSI-X message (R486). -/
def State.signal (s : State) : State :=
  { s with
    msixSeen := s.vectorsUp
    msixSent := (s.vectorsUp.filter (fun v => !s.msixSeen.contains v)).foldl (fun m v => m.upd v (· + 1)) s.msixSent }

/-- The one way a command with a meaning ends: the vectors are looked at and the next state is answered. -/
def done (s : State) : Host.Outcome State Fault Refusal := .next s.signal

end Sys2Proof.Machine
end

