-- ==== Sys2Proof/Machine/Checks.lean ====
section
/-! DEFINITION. The three checks of R184: CRC-32C, CRC-16 and CRC-8, bit by bit. -/

namespace Sys2Proof.Machine

/-- One bit of the reflected Castagnoli register. -/
def crc32cBit (r : Word) : Word := if r.getLsbD 0 then (r >>> 1) ^^^ 0x82F63B78#32 else r >>> 1

/-- One byte into the CRC-32C register. -/
def crc32cByte (r : Word) (b : Byte) : Word :=
  crc32cBit (crc32cBit (crc32cBit (crc32cBit (crc32cBit (crc32cBit (crc32cBit (crc32cBit (r ^^^ b.setWidth 32))))))))

/-- CRC-32C of R184. -/
def crc32c (l : List Byte) : Word := (l.foldl crc32cByte 0xFFFFFFFF#32) ^^^ 0xFFFFFFFF#32

/-- One bit of the CRC-16 register, most significant first. -/
def crc16Bit (r : Half) : Half := if r.getLsbD 15 then (r <<< 1) ^^^ 0x1021#16 else r <<< 1

/-- One byte into the CRC-16 register. -/
def crc16Byte (r : Half) (b : Byte) : Half :=
  crc16Bit (crc16Bit (crc16Bit (crc16Bit (crc16Bit (crc16Bit (crc16Bit (crc16Bit (r ^^^ (b.setWidth 16 <<< 8)))))))))

/-- CRC-16 of R184. -/
def crc16 (l : List Byte) : Half := l.foldl crc16Byte 0xFFFF#16

/-- One bit of the CRC-8 register, most significant first. -/
def crc8Bit (r : Byte) : Byte := if r.getLsbD 7 then (r <<< 1) ^^^ 0x07#8 else r <<< 1

/-- One byte into the CRC-8 register. -/
def crc8Byte (r : Byte) (b : Byte) : Byte :=
  crc8Bit (crc8Bit (crc8Bit (crc8Bit (crc8Bit (crc8Bit (crc8Bit (crc8Bit (r ^^^ b))))))))

/-- CRC-8 of R184. -/
def crc8 (l : List Byte) : Byte := l.foldl crc8Byte 0#8

end Sys2Proof.Machine
end

