-- ==== Sys2Proof/Machine/Angle.lean ====
section
/-! DEFINITION. The angle timebase (spec/02, R23 to R48): encoder conversion and interpolation, virtual masters, derived
and remote axes, lock states, APPLY, trim and snapshots, and the commands that act on an axis. -/

namespace Sys2Proof.Machine

/-! ### Lock states (Table 2.4) and small operations -/

def axDISABLED : Nat := 0
def axACQUIRE : Nat := 1
def axLOCKED : Nat := 2
def axCOAST : Nat := 3
def axLOST : Nat := 4

/-- The axis record of axis `n`. -/
def State.axis (s : State) (n : Nat) : Axis := s.ang.axes.get n

/-- The state with axis `n`'s record replaced. -/
def State.setAxis (s : State) (n : Nat) (a : Axis) : State :=
  { s with ang := { s.ang with axes := s.ang.axes.set n a } }

/-- The lock state of axis `n`. -/
def State.axState (s : State) (n : Nat) : Nat := s.g (R.ANG_AXIS_STATE.STATE n)

/-- A signed difference of two axis values (R24). -/
def sdiff (a b : DWord) : Int := (a - b).toInt

/-- An axis value moved by a signed number of sub-phase units, modulo 2^64 (R24). -/
def moveBy (v : DWord) (d : Int) : DWord := v + BitVec.ofInt 64 d

/-- A lock-state transition flags the axis in ANG_EVENTS (R39). -/
def State.axGoto (s : State) (n st : Nat) : State :=
  if s.axState n = st then s
  else (s.put (R.ANG_AXIS_STATE.STATE n) st).setBit R.ANG_EVENTS.STATE_CHG n

/-- A transition into COAST or LOST records its cause (R39). -/
def State.axGotoCause (s : State) (n st cause : Nat) : State :=
  (s.axGoto n st).put (R.ANG_AXIS_STATE.CAUSE n) cause

/-- The exact place of count `c` after home: floor(c × 2^32 / CPC) (R32). -/
def encPos (cpc : Nat) (c : Int) : Int := c * 4294967296 / (cpc : Int)

/-- The position of count `c` on an axis (R32). -/
def Axis.posAt (a : Axis) (cpc : Nat) (c : Int) : DWord := moveBy a.home (encPos cpc c)

/-- The effective offset of axis `n` as one 64-bit number (Table 2.7). -/
def State.axOffset (s : State) (n : Nat) : DWord :=
  (s.rw (R.ANG_AXIS_OFFSET_HI.reg n)) ++ (s.rw (R.ANG_AXIS_OFFSET_LO.reg n))

/-- The effective offset of axis `n` replaced. -/
def State.setAxOffset (s : State) (n : Nat) (v : DWord) : State :=
  (s.wr (R.ANG_AXIS_OFFSET_LO.reg n) (v.setWidth 32)).wr (R.ANG_AXIS_OFFSET_HI.reg n) ((v >>> 32).setWidth 32)

/-- An axis's step by an offset or a trim: value, home and true position move together (R45, R46). -/
def Axis.shift (a : Axis) (d : DWord) : Axis :=
  { a with value := a.value + d, home := a.home + d, truth := a.truth + d }

/-- Is encoder interface `e` set for SSI (MODE 2 of Table 16.4)? -/
def State.encIsSsi (s : State) (e : Nat) : Bool := decide (s.g (R.PER_ENC_CFG.MODE e) = 2)

/-! ### Motion within a tick -/

/-- The advance of one tick at velocity `v`, with the part below one unit carried (Table 2.1). -/
def Axis.advance (a : Axis) (v : Int) : Axis :=
  let t : Int := (a.frac : Int) + v
  { a with value := moveBy a.value (t / 65536), frac := (t % 65536).toNat }

/-- The velocity of `d` counts in `span` steps of 250 ps, in 1/65,536 sub-phase unit per tick (R33). -/
def countVel (cpc : Nat) (d : Int) (span : Nat) : Int := d * 4503599627370496 / ((cpc * max 1 span : Nat) : Int)

/-- The measured velocity limited to one count per elapsed time while a count is overdue (R33). -/
def limitVel (cpc : Nat) (elapsed : Nat) (v : Int) : Int :=
  max (-(countVel cpc 1 elapsed)) (min (countVel cpc 1 elapsed) v)

/-- The measured velocity at a tick (R33): the counts since the last tick that took one, over the time between the instants of the last
of each; none before the second. DESIGN CHOICE (log entry 3): of several counts in a tick the last one ends the time, and for an SSI
axis one position step is one count. -/
def Axis.measure (a : Axis) (cpc : Nat) : Axis :=
  match a.newCount with
  | some t =>
    { a with newCount := none, seenAt := some a.count, elapsed := 16 - t
             vel := match a.seenAt with
               | some c => countVel cpc (a.count - c) (a.elapsed + t)
               | none => 0 }
  | none => { a with elapsed := a.elapsed + 16, vel := limitVel cpc (a.elapsed + 16) a.vel }

/-- An encoder axis between and at counts (R33, R34): a count ahead of the value moves it there; while it holds, nothing else
moves it (R34, R41); otherwise it interpolates, never past one unit short of the next count. -/
def Axis.encStep (a : Axis) (cpc rev : Nat) : Axis :=
  let p := a.posAt cpc a.count
  let follow := decide (rev = 1) && a.back
  if 0 < sdiff p a.value && (a.holding || !follow) then { a with value := p, frac := 0, holding := false }
  else if a.holding then a
  else if follow then
    -- FOLLOW, moving backward: to the count, then toward the count below
    if 0 < sdiff a.value p then { a with value := p, frac := 0 }
    else
      let b := a.advance a.vel
      let low := moveBy (a.posAt cpc (a.count - 1)) 1
      if sdiff b.value low < 0 then { a with value := low, frac := 0 } else b
  else
    let lim := moveBy (a.posAt cpc (a.count + 1)) (-1)
    if sdiff lim a.value < 0 then a
    else
      let b := a.advance (max 0 a.vel)
      if 0 < sdiff b.value lim then { a with value := lim, frac := 0 } else b

/-- The value `steps` of 250 ps after the tick, the axis moving on at its velocity (R60, R67); one that holds stands still. -/
def Axis.ahead (a : Axis) (steps : Nat) : DWord :=
  if a.holding then a.value else moveBy a.value (((a.frac : Int) + a.vel * steps / 16) / 65536)

/-- A virtual master's velocity moves toward `target` by at most `accel` (R35). -/
def towards (v target accel : Int) : Int :=
  if v < target then min target (v + accel) else max target (v - accel)

/-- A derived axis's step: floor((Δ × NUM + rem) / DEN), the remainder carried (R36). -/
def Axis.derive (a : Axis) (delta num : Int) (den : Nat) : Axis :=
  let t := delta * num + a.rem
  { a with value := moveBy a.value (t / (den : Int)), rem := t % (den : Int) }

/-- The signed numerator of a derived axis. -/
def State.axNum (s : State) (n : Nat) : Int := (s.rw (R.ANG_AXIS_RATIO_NUM.reg n)).toInt

/-- The value a derived axis takes at lock: floor(source × NUM / DEN) + OFFSET (R36). -/
def State.derivedLock (s : State) (n src : Nat) : DWord :=
  BitVec.ofInt 64 (((s.axis src).value.toNat : Int) * s.axNum n / (s.g (R.ANG_AXIS_RATIO_DEN.DEN n) : Int))
    + s.axOffset n

/-- The position a remote axis's channel gives at this tick's plant time (R38): the sample moved on at its velocity. -/
def State.remotePos (s : State) (n ch : Nat) : DWord :=
  let c := s.vsm.angRx.get ch
  moveBy c.value (c.vel * (sdiff s.plantNs c.time) / 1024) + s.axOffset n

/-- Is a remote axis's source valid: time LOCKED and a latched exporter still within its gap limit (R42, R358)? -/
def State.remoteValid (s : State) (ch : Nat) : Bool :=
  decide (s.g R.VSM_STATUS.TSTATE = 2) && (s.vsm.angRx.get ch).latched

/-- Is the source of axis `n` valid for a REARM (R42)? -/
def State.sourceValid (s : State) (n : Nat) : Bool :=
  let src := s.g (R.ANG_AXIS_CFG.SRCSEL n)
  match s.g (R.ANG_AXIS_CFG.KIND n) with
  | 1 => s.on (R.PER_ENC_CFG.EN src) && !s.on (R.PER_ENC_STATUS.FAULT src)
  | 3 => decide (s.axState src = axLOCKED)
  | 4 => s.remoteValid src
  | _ => false

/-- The record of an axis that enters ACQUIRE: counting starts from the retained value (R32, Table 2.4). DESIGN CHOICE (log
entry 8): an SSI axis keeps the retained cycle count, and its absolute position has the offset in force added. -/
def State.acquire (s : State) (n : Nat) (a : Axis) : Axis :=
  let off := s.axOffset n
  let base : DWord :=
    if s.encIsSsi (s.g (R.ANG_AXIS_CFG.SRCSEL n)) then (((a.value - off) >>> 32) <<< 32) + off else a.value
  { a with home := base, count := 0, top := 0, back := false, elapsed := 0, newCount := none, seenAt := none, fresh := false,
           zAt := none, zStep := 0, fault := 0, vel := 0, rem := 0, frac := 0, holding := false }

/-- Leaving LOCKED for a reason with `cause`: COAST, or LOST with COASTLIM 0 (R40). -/
def State.leaveLocked (s : State) (n cause : Nat) : State :=
  if s.g (R.ANG_AXIS_COAST.COASTLIM n) = 0 then s.axGotoCause n axLOST cause else s.axGotoCause n axCOAST cause

/-- The axis with a trusted true position `t` again: ahead it jumps, a little behind it holds, further behind LOST (R41). -/
def State.relock (s : State) (n : Nat) (a : Axis) (t : DWord) : State :=
  let d := sdiff t a.value
  if d ≥ 0 then
    (s.setAxis n { a with value := t, truth := t, frac := 0, holding := false, jump := a.jump || decide (d ≠ 0) }).axGoto n axLOCKED
  else if -d ≤ 268435456 then
    (s.setAxis n { a with truth := t, holding := true }).axGoto n axLOCKED
  else (s.setAxis n { a with vel := 0 }).axGotoCause n axLOST 6

/-- The turn of phase nearest to a reference: the value whose phase is ZPHASE, sub-phase 0, closest to `ref` (R41). -/
def nearestPhase (ref : DWord) (zphase : Nat) : DWord :=
  let d : Int := ((ref.setWidth 32 : Word) - BitVec.ofNat 32 (zphase * 65536)).toInt
  moveBy ref (-d)

/-- A coasting axis advances at its last locked velocity (R40). -/
def Axis.coast (a : Axis) : Axis := { (a.advance a.lockVel) with vel := a.lockVel }

/-- Has an encoder axis turned back beyond its deadband under REV 2 or 3 (R34)? -/
def State.reversed (s : State) (n : Nat) (a : Axis) : Bool :=
  decide (2 ≤ s.g (R.ANG_AXIS_CFG.REV n)) && decide ((s.g (R.ANG_AXIS_HOME.REVDB n) : Int) < a.top - a.count)

/-- One tick of an encoder axis in ACQUIRE, LOCKED or COAST (R32 to R34, R39 to R41). -/
def State.encTick (s : State) (n : Nat) : State :=
  let a := s.axis n
  let cpc := s.g (R.ANG_AXIS_CPC.CPC n)
  let rev := s.g (R.ANG_AXIS_CFG.REV n)
  let ssi := s.encIsSsi (s.g (R.ANG_AXIS_CFG.SRCSEL n))
  let homing := s.on (R.ANG_AXIS_CFG.HOME n) && !ssi
  let zph := s.g (R.ANG_AXIS_HOME.ZPHASE n)
  let st := s.axState n
  if st = axACQUIRE then
    if homing then
      match a.zAt with
      | some c =>
        -- HOME = 1: the first Z pulse sets phase and sub-phase, keeps the cycle and sets JUMP (R32)
        let h : DWord := ((a.value >>> 32) <<< 32) + BitVec.ofNat 64 (zph * 65536)
        let a := { a with home := h, count := a.count - c, top := a.count - c, seenAt := a.seenAt.map (· - c), zAt := none, fresh := false, jump := true,
                          frac := 0, holding := false }
        (s.setAxis n { a with value := a.posAt cpc a.count }).axGoto n axLOCKED
      | none => s.setAxis n { (a.encStep cpc rev) with fresh := false }
    else if a.fresh then
      let p := a.posAt cpc a.count
      let v := if rev = 1 || 0 < sdiff p a.value || ssi then p else a.value
      (s.setAxis n { a with value := v, frac := 0, fresh := false, jump := a.jump || (ssi && decide (v ≠ a.value)) }).axGoto n axLOCKED
    else s
  else if st = axLOCKED then
    if a.fault ≠ 0 then
      let a := { a with lockVel := if a.holding then 0 else a.vel, fault := 0, zStep := 0,
                        fresh := false, zAt := none }
      let s := (s.setAxis n a).leaveLocked n (s.axis n).fault
      if s.axState n = axCOAST then s.setAxis n a.coast else s.setAxis n { a with vel := 0 }
    else if s.reversed n a then (s.setAxis n { a with vel := 0 }).axGotoCause n axLOST 5
    else
      let b := if a.zStep ≠ 0 then { (a.shift a.zStep) with zStep := 0, jump := true } else a
      s.setAxis n { (b.encStep cpc rev) with fresh := false, zAt := none }
  else if st = axCOAST then
    let a := { a with fault := 0 }
    if s.reversed n a then (s.setAxis n { a with vel := 0 }).axGotoCause n axLOST 5
    else if ssi && a.fresh then s.relock n { a with fresh := false } (a.posAt cpc a.count)
    else match homing, a.zAt with
      | true, some c =>
        let t := nearestPhase (a.posAt cpc c) zph
        let a := { a with home := t, count := a.count - c, top := a.count - c, seenAt := a.seenAt.map (· - c), zAt := none, fresh := false }
        s.relock n a (a.posAt cpc a.count)
      | _, _ => s.setAxis n { a.coast with zAt := none }
  else s

/-- One tick of a virtual master (R35); at the tick a partner's VMASTER names, the axis takes its value and velocity (R385). -/
def State.virtualTick (s : State) (n : Nat) : State :=
  let a := s.axis n
  match s.twin.vmaster.find? (fun x => x.2.1 = n && decide (x.1 ≤ s.plantNs.toNat)) with
  | some x =>
    let s : State := { s with twin := { s.twin with vmaster := s.twin.vmaster.filter (fun y => !decide (y = x)) } }
    s.setAxis n { a with value := x.2.2.1, vel := x.2.2.2, frac := 0, jump := true }
  | none =>
  let target : Int := if s.on (R.ANG_AXIS_CTL.VRUN n) then (s.g (R.ANG_AXIS_VEL.VEL n) : Int) * 256 else 0
  let v := towards a.vel target (s.g (R.ANG_AXIS_SLEW.ACCEL n))
  s.setAxis n ({ a with vel := v }.advance v)

/-- A derived axis follows its source's change of this tick (R36 steps 2, 3 and 5). -/
def State.followSource (s : State) (n src : Nat) : State :=
  let a := s.axis n
  let x := s.axis src
  let b := a.derive (sdiff x.value x.prev) (s.axNum n) (s.g (R.ANG_AXIS_RATIO_DEN.DEN n))
  let step := sdiff b.value a.value
  let b := { b with jump := a.jump || (x.jump && decide (step ≠ 0)), vel := step * 65536 }
  if a.holding then
    let t := moveBy a.truth step
    if sdiff t a.value ≥ 0 then s.setAxis n { b with value := t, truth := t, holding := false }
    else s.setAxis n { b with value := a.value, truth := t }
  else s.setAxis n b

/-- One tick of a derived axis: its state follows its source's (R36, R37). DESIGN CHOICE (log entry 8): the remainder is 0 at
lock, and in ACQUIRE the axis already follows its source's changes. -/
def State.derivedTick (s : State) (n : Nat) : State :=
  let src := s.g (R.ANG_AXIS_CFG.SRCSEL n)
  let st := s.axState n
  let sst := s.axState src
  let a := s.axis n
  if sst = axLOST then (s.setAxis n { a with vel := 0 }).axGotoCause n axLOST 4
  else if sst = axDISABLED then (s.setAxis n { a with vel := 0 }).axGotoCause n axLOST 8
  else if st = axACQUIRE && decide (sst = axLOCKED) then
    let v := s.derivedLock n src
    (s.setAxis n { a with value := v, rem := 0, frac := 0, jump := a.jump || decide (v ≠ a.value) }).axGoto n axLOCKED
  else
    let s := s.followSource n src
    if st = axLOCKED && decide (sst = axCOAST) then
      let s := s.leaveLocked n 9
      if s.axState n = axLOST then s.setAxis n { s.axis n with vel := 0 } else s
    else if st = axCOAST && decide (sst = axLOCKED) then s.axGoto n axLOCKED
    else s

/-- One tick of a remote axis (R38 to R41). -/
def State.remoteTick (s : State) (n : Nat) : State :=
  let ch := s.g (R.ANG_AXIS_CFG.SRCSEL n)
  let st := s.axState n
  let a := s.axis n
  let c := s.vsm.angRx.get ch
  let p := s.remotePos n ch
  if st = axACQUIRE then
    if s.g R.VSM_STATUS.TSTATE = 2 && c.latched && decide (2 ≤ c.run) then
      (s.setAxis n { a with value := p, frac := 0, vel := c.vel * 256, fault := 0, jump := a.jump || decide (p ≠ a.value) }).axGoto n axLOCKED
    else s.setAxis n { a with fault := 0 }
  else if st = axLOCKED then
    if a.fault ≠ 0 then
      let a := { a with lockVel := a.vel, fault := 0 }
      let s := (s.setAxis n a).leaveLocked n (s.axis n).fault
      if s.axState n = axCOAST then s.setAxis n a.coast else s.setAxis n { a with vel := 0 }
    else if a.holding && decide (sdiff p a.value < 0) then s.setAxis n { a with vel := c.vel * 256 }
    else s.setAxis n { a with value := p, frac := 0, vel := c.vel * 256, holding := false }
  else if st = axCOAST then
    if s.remoteValid ch && decide (2 ≤ c.run) then s.relock n { a with fault := 0, vel := c.vel * 256 } p
    else s.setAxis n { a.coast with fault := 0 }
  else s

/-- Enable, disable and REARM at a tick (R42, R47, Table 2.5): the state after, and whether the axis moves in it. -/
def State.axEdges (s : State) (n : Nat) : State × Bool :=
  let a := s.axis n
  let st := s.axState n
  let kind := s.g (R.ANG_AXIS_CFG.KIND n)
  if a.disPend then
    let s := s.setAxis n { a with disPend := false, vel := 0, fault := 0, fresh := false, zAt := none, zStep := 0, holding := false }
    (((s.axGoto n axDISABLED).putB (R.ANG_AXIS_STATE.BUSY n) false).putB (R.ANG_AXIS_CTL.REARM n) false, false)
  else
    let rearm := s.on (R.ANG_AXIS_CTL.REARM n)
    let s := if rearm then s.putB (R.ANG_AXIS_CTL.REARM n) false else s
    if st = axDISABLED then
      if s.on (R.ANG_AXIS_CTL.EN n) && decide (1 ≤ kind) && decide (kind ≤ 4) then
        if kind = 2 then ((s.setAxis n { a with vel := 0, frac := 0 }).axGoto n axLOCKED, false)
        else ((s.setAxis n (s.acquire n a)).axGoto n axACQUIRE, false)
      else (s, false)
    else if st = axLOST then
      if rearm && s.sourceValid n then ((s.setAxis n (s.acquire n a)).axGoto n axACQUIRE, false) else (s, false)
    else (s, true)

/-- The trim step of a tick (R46): at most TRIMSLEW of the pending trim, added to value and effective offset. -/
def State.trimTick (s : State) (n : Nat) : State :=
  let a := s.axis n
  let pend := (s.rw (R.ANG_AXIS_TRIM.reg n)).toInt
  let slew : Int := s.g (R.ANG_AXIS_SLEW.TRIMSLEW n)
  if a.trimSkip then s.setAxis n { a with trimSkip := false }
  else if pend = 0 then s
  else
    let step : Int := if pend < 0 then max pend (-slew) else min pend slew
    let d := BitVec.ofInt 64 step
    ((s.setAxis n (a.shift d)).setAxOffset n (s.axOffset n + d)).wr (R.ANG_AXIS_TRIM.reg n) (BitVec.ofInt 32 (pend - step))

/-- What the registers show of an axis after its tick: JUMP, DIR and VMEAS (R33, R34). -/
def State.axShow (s : State) (n : Nat) : State :=
  let a := s.axis n
  let d := sdiff a.value a.prev
  let s := s.putB (R.ANG_AXIS_STATE.JUMP n) a.jump
  let s := if d = 0 then s else s.putB (R.ANG_AXIS_STATE.DIR n) (decide (d < 0))
  s.wr (R.ANG_AXIS_VMEAS.reg n) (BitVec.ofInt 32 ((a.vel + 128) / 256))

/-- One tick of axis `n` (R26). -/
def State.axisTick (s : State) (n : Nat) : State :=
  let r := s.axEdges n
  let s := r.1
  let s :=
    if r.2 then
      match s.g (R.ANG_AXIS_CFG.KIND n) with
      | 1 => (s.setAxis n ((s.axis n).measure (s.g (R.ANG_AXIS_CPC.CPC n)))).encTick n
      | 2 => s.virtualTick n
      | 3 => s.derivedTick n
      | 4 => s.remoteTick n
      | _ => s
    else s
  let st := s.axState n
  let s := if st = axACQUIRE || st = axLOCKED || st = axCOAST then s.trimTick n else s
  s.axShow n

/-! ### APPLY (R43 to R45) -/

/-- The value a staged register would take: its stage, or the value in force (R44). -/
def State.stagedW (s : State) (a : Nat) : Word :=
  match s.ang.stage.get a with
  | some v => v
  | none => s.rw a

/-- The staged registers of axis `n` (R43). -/
def stagedRegs (n : Nat) : List Nat :=
  [R.ANG_AXIS_CFG.reg n, R.ANG_AXIS_CPC.reg n, R.ANG_AXIS_RATIO_NUM.reg n, R.ANG_AXIS_RATIO_DEN.reg n,
   R.ANG_AXIS_OFFSET_LO.reg n, R.ANG_AXIS_OFFSET_HI.reg n, R.ANG_AXIS_HOME.reg n, R.ANG_AXIS_COAST.reg n]

/-- The lowest code of Table 2.6 that axis `n` breaches, 0 for none (R45). -/
def State.applyBreach (s : State) (n : Nat) : Nat :=
  let cfg := s.stagedW (R.ANG_AXIS_CFG.reg n)
  let kind := (R.ANG_AXIS_CFG.KIND n).of cfg
  let sel := (R.ANG_AXIS_CFG.SRCSEL n).of cfg
  let cpc := (R.ANG_AXIS_CPC.CPC n).of (s.stagedW (R.ANG_AXIS_CPC.reg n))
  let den := s.stagedW (R.ANG_AXIS_RATIO_DEN.reg n)
  let changed := decide (kind ≠ s.g (R.ANG_AXIS_CFG.KIND n)) || decide (sel ≠ s.g (R.ANG_AXIS_CFG.SRCSEL n))
    || decide (cpc ≠ s.g (R.ANG_AXIS_CPC.CPC n))
  if kind = 3 && decide (den = 0#32) then 1
  else if kind = 3 && decide (n ≤ sel) then 2
  else if 5 ≤ kind then 3
  else if changed && (decide (s.axState n ≠ axDISABLED) || s.on (R.ANG_AXIS_STATE.BUSY n)) then 4
  else if kind = 1 && decide (cpc = 0) then 5
  else 0

/-- Put the stages of axis `n` into force (R43 to R45). DESIGN CHOICE (log entry 8): a stage written between the ANG_APPLY write and
its tick is taken by that APPLY; an axis whose KIND becomes 0 keeps its retained value, and an OFFSET applied steps it. -/
def State.applyAxis (s : State) (n : Nat) : State :=
  let old := s.axOffset n
  let num := s.rw (R.ANG_AXIS_RATIO_NUM.reg n)
  let den := s.rw (R.ANG_AXIS_RATIO_DEN.reg n)
  let s := s.each (stagedRegs n) (fun s a => s.wr a (s.stagedW a))
  let s := { s with ang := { s.ang with stage := s.ang.stage.keep (fun a => !(stagedRegs n).contains a) } }
  let a := s.axis n
  let a := if num ≠ s.rw (R.ANG_AXIS_RATIO_NUM.reg n) || den ≠ s.rw (R.ANG_AXIS_RATIO_DEN.reg n) then { a with rem := 0 } else a
  let d := s.axOffset n - old
  if d = 0 then s.setAxis n a
  else (s.setAxis n { (a.shift d) with jump := true }).wr (R.ANG_AXIS_TRIM.reg n) 0#32

/-- One APPLY at its tick: checked whole, then applied or refused (R45). -/
def State.applyNow (s : State) (mask : Nat) : State :=
  let s' := match (maskBits mask 16).find? (fun n => decide (s.applyBreach n ≠ 0)) with
    | some n => (s.put R.ANG_STATUS.APPLY_ERR (s.applyBreach n)).put R.ANG_STATUS.ERR_AXIS n
    | none => ((s.each (maskBits mask 16) State.applyAxis).put R.ANG_STATUS.APPLY_ERR 0).put R.ANG_STATUS.ERR_AXIS 0
  s'.raise R.ANG_EVENTS.APPLY_DONE

/-- The APPLYs that fall due at this tick, in order of writing (R43). -/
def State.applyDue (s : State) : State :=
  let due := s.ang.applies.filter (fun e => decide (e.1 ≤ s.tick))
  let s := { s with ang := { s.ang with applies := s.ang.applies.filter (fun e => !decide (e.1 ≤ s.tick)) } }
  due.foldl (fun s e => s.applyNow e.2) s

/-- The snapshot that waits is taken: values of the mask, the tick's plant time, SNAP_DONE (R48). -/
def State.snapTake (s : State) : State :=
  match s.ang.snap with
  | none => s
  | some m =>
    let s := s.each (maskBits m 16) (fun s n =>
      (s.wr (R.ANG_AXIS_POS_LO.reg n) ((s.axis n).value.setWidth 32)).wr (R.ANG_AXIS_POS_HI.reg n) (((s.axis n).value >>> 32).setWidth 32))
    let s := (s.wr R.ANG_SNAP_TIME_LO.reg (s.plantNs.setWidth 32)).wr R.ANG_SNAP_TIME_HI.reg ((s.plantNs >>> 32).setWidth 32)
    { ((s.putB R.ANG_STATUS.SNAP_PEND false).raise R.ANG_EVENTS.SNAP_DONE) with ang := { s.ang with snap := none } }

/-- The axes of one tick (R26, R70 order 1): APPLY, then all sixteen axes in index order, then the snapshot. -/
def State.axesTick (s : State) : State :=
  let s := s.each (List.range 16) (fun s n => s.setAxis n { s.axis n with prev := (s.axis n).value, jump := false })
  let s := s.applyDue
  let s := s.each (List.range 16) State.axisTick
  let s := s.snapTake
  { s with ang := { s.ang with
      busOld := s.ang.bus, busOldTick := s.ang.busTick, busTick := s.tick
      bus := (List.range 16).map (fun n =>
        { value := (s.axis n).value, jump := (s.axis n).jump, dir := s.on (R.ANG_AXIS_STATE.DIR n)
          state := s.axState n, time := s.plantNs }) } }

/-! ### What other blocks tell the timebase -/

/-- The axes of a kind whose source is `src`. -/
def State.axesOf (s : State) (kind src : Nat) : List Nat :=
  (List.range 16).filter (fun n => s.g (R.ANG_AXIS_CFG.KIND n) = kind && decide (s.g (R.ANG_AXIS_CFG.SRCSEL n) = src))

/-- A source failure with `cause` waits for the next tick on every axis of the source that is LOCKED (Table 2.5). -/
def State.failAxes (s : State) (l : List Nat) (cause : Nat) : State :=
  s.each l (fun s n => if s.axState n = axLOCKED then s.setAxis n { s.axis n with fault := cause } else s)

/-- A count of an encoder axis has become `c`, `sub` steps of 250 ps after the last tick (R32 to R34, R409): one below the count before makes an axis that does not FOLLOW hold
its highest point. -/
def State.countTo (s : State) (n : Nat) (c : Int) (sub : Nat) : State :=
  let a := s.axis n
  let back := decide (c < a.count)
  s.setAxis n { a with count := c, top := max a.top c, back := back, newCount := some sub, fresh := true,
                       holding := a.holding || (back && decide (s.g (R.ANG_AXIS_CFG.REV n) ≠ 1)) }

/-- A valid count of an incremental encoder (R32 to R34): the count moves by `d`. -/
def State.countAxes (s : State) (enc : Nat) (d : Int) (sub : Nat) : State :=
  s.each (s.axesOf 1 enc) (fun s n => s.countTo n ((s.axis n).count + d) sub)

/-- A valid SSI position `p` (R32): turn wraps count the cycle. -/
def State.ssiAxes (s : State) (enc p sub : Nat) : State :=
  s.each (s.axesOf 1 enc) (fun s n =>
    let a := s.axis n
    let cpc : Int := s.g (R.ANG_AXIS_CPC.CPC n)
    let last := a.count % cpc
    let turn := a.count - last
    let raw : Int := (p : Int)
    let c := if cpc < 2 * (last - raw) then turn + cpc + raw else if cpc < 2 * (raw - last) then turn - cpc + raw else turn + raw
    if s.axState n = axACQUIRE then
      s.setAxis n { a with count := raw, top := raw, back := false, newCount := some sub, seenAt := none, fresh := true }
    else s.countTo n c sub)

/-! ### Commands -/

/-- COASTLIM_EXPIRY (R40): the limit of a coasting axis has run out. -/
def execCoastlimExpiry (n : Nat) (s : State) : Host.Outcome State Fault Refusal :=
  done (if s.axState n = axCOAST then (s.setAxis n { s.axis n with vel := 0 }).axGotoCause n axLOST 7 else s)

/-- A write of `mask` to ANG_APPLY (R43). -/
def State.angApply (s : State) (mask sub : Nat) : State :=
  { s with ang := { s.ang with applies := s.ang.applies ++ [(s.dueTick sub, mask % 65536)] } }

/-- ANG_APPLY (R43). -/
def execAngApply (mask sub : Nat) (s : State) : Host.Outcome State Fault Refusal := done (s.angApply mask sub)

/-- A write of `mask` to ANG_SNAP: masks written before the tick are merged (R48). -/
def State.angSnap (s : State) (mask : Nat) : State :=
  { (s.putB R.ANG_STATUS.SNAP_PEND true) with
    ang := { s.ang with snap := some ((s.ang.snap.getD 0) ||| mask % 65536) } }

/-- ANG_SNAP (R48). -/
def execAngSnap (mask : Nat) (s : State) : Host.Outcome State Fault Refusal := done (s.angSnap mask)

/-- A write to ANG_AXISn_TRIM replaces the pending trim; in the cycle of a step it wins and that tick takes none (R46). -/
def State.trimWrite (s : State) (n : Nat) (v : Word) (sameCycle : Bool) : State :=
  (s.wr (R.ANG_AXIS_TRIM.reg n) v).setAxis n { s.axis n with trimSkip := sameCycle }

/-- ANG_AXIS_TRIM_WRITE (R46). -/
def execAngAxisTrimWrite (n : Nat) (v : Word) (sameCycle : Bool) (s : State) : Host.Outcome State Fault Refusal :=
  done (s.trimWrite n v sameCycle)

/-- EN = 1 written (R47): at once, or queued behind a disable that has not taken effect. -/
def State.axEnable (s : State) (n : Nat) : State :=
  let s := s.putB (R.ANG_AXIS_CTL.EN n) true
  if (s.axis n).disPend then s.putB (R.ANG_AXIS_STATE.BUSY n) true else s

/-- EN = 0 written (R47): the disable takes effect at the next tick and discards an enable that was queued. -/
def State.axDisable (s : State) (n : Nat) : State :=
  let was := s.on (R.ANG_AXIS_CTL.EN n)
  let s := (s.putB (R.ANG_AXIS_CTL.EN n) false).putB (R.ANG_AXIS_STATE.BUSY n) false
  if was then s.setAxis n { s.axis n with disPend := true } else s

/-- AXIS_ENABLE (R47). -/
def execAxisEnable (n : Nat) (s : State) : Host.Outcome State Fault Refusal := done (s.axEnable n)

/-- AXIS_DISABLE (R47). -/
def execAxisDisable (n : Nat) (s : State) : Host.Outcome State Fault Refusal := done (s.axDisable n)

/-- REARM (R42): reads 1 until the next tick acts on it or discards it. -/
def execRearm (n : Nat) (s : State) : Host.Outcome State Fault Refusal := done (s.putB (R.ANG_AXIS_CTL.REARM n) true)

/-- A rising Z edge of encoder `enc` (R32, R41): homes or re-locks an axis with HOME = 1 at the next tick, and on a
LOCKED one is compared with ZPHASE. -/
def State.zPulse (s : State) (enc : Nat) : State :=
  s.each ((s.axesOf 1 enc).filter (fun n => s.on (R.ANG_AXIS_CFG.HOME n) && !s.encIsSsi enc && s.on (R.PER_ENC_CFG.EN enc))) (fun s n =>
    let a := s.axis n
    let st := s.axState n
    if st = axLOCKED then
      let cpc := s.g (R.ANG_AXIS_CPC.CPC n)
      let p := a.posAt cpc a.count
      let d := sdiff p (nearestPhase p (s.g (R.ANG_AXIS_HOME.ZPHASE n)))
      if (s.g (R.ANG_AXIS_HOME.ZTOL n)) * 4294967296 < d.natAbs * cpc then
        let s := s.bump (R.ANG_AXIS_STATE.ZERR n) 1
        if s.on (R.ANG_AXIS_CFG.ZCORR n) then s.setAxis n { a with zStep := BitVec.ofInt 64 (-d) } else s
      else s
    else s.setAxis n { a with zAt := some a.count })

/-- Z_PULSE (R32). -/
def execZPulse (enc : Nat) (s : State) : Host.Outcome State Fault Refusal := done (s.zPulse enc)

end Sys2Proof.Machine
end

