-- ==== Sys2Proof/Machine/Memory.lean ====
section
/-! DEFINITION. The bytes of the device: HBM, memory-tier banks and the flash behind the xSPI ports, as one canonical list
of cells. What an unlisted byte reads as is the filling of the unit it lies in: zero after a destructive march test or a
flash erase value, and otherwise what nothing has written, a free value (R247, R267; log entry 2). -/

namespace Sys2Proof.Machine

/-- The first address past HBM (Table 24.1). -/
def hbmEnd : Nat := 0x1800000000
/-- Where the memory tier begins (R235). -/
def bankBase : Nat := 0x4000000000
/-- Where the model keeps the bytes of flash A; flash B follows 2^36 above. No device address reaches there. -/
def flashBase : Nat := 0x20000000000

/-- The address of byte `o` of the flash on port `p` (0 XSPIA, 1 XSPIB). -/
def flashAddr (p o : Nat) : Nat := flashBase + p * 0x1000000000 + o

/-- The unit a byte lies in: an HBM stack 0 to 3, a bank 16 + n, or a flash sector of 64 KiB. -/
def memUnit (a : Nat) : Nat :=
  if a < hbmEnd then a / 0x600000000
  else if a < flashBase then 16 + (a - bankBase) / 0x10000
  else 0x10000 + (a - flashBase) / 0x10000

/-- What an unlisted byte reads as, if anything is known: filling 1 is zeros, 2 is ones (erased flash). -/
def State.unlisted (s : State) (a : Nat) : Option Byte :=
  match s.fill.get (memUnit a) with
  | 1 => some 0x00#8
  | 2 => some 0xFF#8
  | _ => none

/-- One byte of memory: listed, or the unit's filling, or a free value for the unit's epoch (R247, R267). -/
def State.byte (s : State) (a : Nat) : Byte :=
  match SMap.find s.mem a with
  | some b => b
  | none =>
    match s.unlisted a with
    | some b => b
    | none => Config.freeByte (s.fill.get (memUnit a)) a

/-- The memory with one byte written, in canonical form. -/
def State.setByte (s : State) (a : Nat) (b : Byte) : State :=
  { s with mem := if s.unlisted a = some b then SMap.del s.mem a else SMap.ins s.mem a b }

/-- `n` bytes from address `a` upward. -/
def State.bytes (s : State) (a : Nat) : Nat → List Byte
  | 0 => []
  | n + 1 => s.byte a :: s.bytes (a + 1) n

/-- Bytes written from address `a` upward. -/
def State.setBytes (s : State) (a : Nat) : List Byte → State
  | [] => s
  | b :: t => (s.setByte a b).setBytes (a + 1) t

/-- A unit's whole contents replaced by a filling (1 zeros, 2 ones, 3 and above undefined). -/
def State.refill (s : State) (unit f : Nat) : State :=
  { s with mem := SMap.keep s.mem (fun a => decide (memUnit a ≠ unit)), fill := s.fill.set unit f }

/-- A unit's contents become undefined: a filling not used before. -/
def State.forget (s : State) (unit : Nat) : State :=
  { (s.refill unit (s.epoch + 3)) with epoch := s.epoch + 1 }

/-- The canonical form of memory: addresses rising, and no cell equal to what its address reads as unlisted. -/
def State.memWf (s : State) : Bool :=
  SMap.rising s.mem && s.mem.all (fun e => decide (s.unlisted e.1 ≠ some e.2))

end Sys2Proof.Machine
end

