-- ==== Sys2Proof/Machine/Bank.lean ====
section
/-! DEFINITION. The memory tier (spec/10, R234 to R255): bank operations, ownership and handover, reclaim, collisions, the
march test. -/

namespace Sys2Proof.Machine

/-! ### Geometry (R234, R235, Table 10.1) -/

/-- The address of word `w` of bank `n`. -/
def bankAddr (n w : Nat) : Nat := bankBase + n * 0x10000 + w * 8
/-- The quadrant of bank `n`: 2 × (y div 8) + (x div 8) of its column. -/
def bankQuad (n : Nat) : Nat := 2 * (n / 16 / 16 / 8) + n / 16 % 16 / 8
/-- Is bank `n` dual-port: bank 0 of its column. -/
def bankDual (n : Nat) : Bool := decide (n % 16 = 0)
/-- The T2 and the T4 region of column `c`. -/
def colLower (c : Nat) : Nat := c
def colUpper (c : Nat) : Nat := c + 256

def ownNONE : Nat := 0
def ownLOWER : Nat := 1
def ownUPPER : Nat := 2
def ownNOC : Nat := 3
def ownSUPER : Nat := 4
def ownMARCH : Nat := 5
def ownFAULT : Nat := 7

/-- Quadrant `q`'s state (Table 10.8). -/
def State.quadState (s : State) (q : Nat) : Nat := s.g R.MEM_STATUS.QSTATE / 8 ^ q % 8

/-- Quadrant `q` takes a state, which MEM_EVENTS.QCHG flags. -/
def State.setQuad (s : State) (q st : Nat) : State :=
  if s.quadState q = st then s
  else (s.put R.MEM_STATUS.QSTATE (s.g R.MEM_STATUS.QSTATE - s.quadState q * 8 ^ q + st * 8 ^ q)).raise R.MEM_EVENTS.QCHG

/-- The four lanes of a word of a bank. -/
def State.bankWord (s : State) (n w : Nat) : DWord := BitVec.ofNat 64 (bytesNat (s.bytes (bankAddr n w) 8))

/-- A word of a bank stored whole. -/
def State.setBankWord (s : State) (n w : Nat) (v : DWord) : State := s.setBytes (bankAddr n w) (natBytes v.toNat 8)

/-! ### Bank operations (Tables 10.3, 10.4) -/

/-- Lane `j` of a word. -/
def lane (v : DWord) (j : Nat) : Half := (v >>> (16 * j)).setWidth 16

/-- A word with the lanes of `m` taken from `v` and the others from `old`. -/
def mergeLanes (old v : DWord) (m : Nat) : DWord :=
  BitVec.ofNat 64 (((List.range 4).map (fun j => (if m.testBit j then lane v j else lane old j).toNat * 2 ^ (16 * j))).sum)

/-- Each enabled lane plus its operand, modulo 2^16. -/
def addLanes (old v : DWord) (m : Nat) : DWord :=
  BitVec.ofNat 64 (((List.range 4).map (fun j => (if m.testBit j then lane old j + lane v j else lane old j).toNat * 2 ^ (16 * j))).sum)

/-- Each enabled lane pair plus its operand pair, modulo 2^32. -/
def addPairs (old v : DWord) (m : Nat) : DWord :=
  let pr (j : Nat) (x : DWord) : Word := (x >>> (32 * j)).setWidth 32
  let one (j : Nat) : Word := if m.testBit (2 * j) then pr j old + pr j v else pr j old
  one 1 ++ one 0

/-- Is a lane mask valid for an operation (R237)? -/
def lanesOk (op m : Nat) : Bool :=
  if op = 5 ∨ op = 6 then m = 3 || m = 12 || m = 15 else decide (m % 16 ≠ 0)

/-- The word an operation stores (Table 10.3). -/
def bankStores (op : Nat) (old v : DWord) (m : Nat) : DWord :=
  match op with
  | 2 => mergeLanes old v m
  | 3 => addLanes old v m
  | 4 => mergeLanes old v m
  | 5 => addPairs old v m
  | 6 => mergeLanes old v m
  | _ => old

/-- What an operation that is performed returns: zero for WRITE, the enabled lanes of the old word otherwise. -/
def bankReturns (op : Nat) (old : DWord) (m : Nat) : DWord := if op = 2 then 0 else mergeLanes 0 old m

/-- Does an operation write (WRITE or atomic)? -/
def bankWrites (op : Nat) : Bool := decide (2 ≤ op) && decide (op ≤ 6)

/-- An operation answered with a STAT other than OK counts in MEM_ERRCNT (its COLLIDE field or its REFUSED field). -/
def State.bankCount (s : State) (st : Nat) : State :=
  if st = 0 then s
  else if st = 2 then (s.bump R.MEM_ERRCNT.COLLIDE 1).raise R.MEM_EVENTS.COLLIDE
  else s.bump R.MEM_ERRCNT.REFUSED 1

/-- The owner fields of a bank's entry as one byte: OWNER_B in bits 6:4, OWNER_A in bits 2:0 (R246). -/
def State.ownerByte (s : State) (n : Nat) : Byte :=
  BitVec.ofNat 8 (s.g (R.MEM_BANK_OWNER.OWNER_B n) * 16 + s.g (R.MEM_BANK_OWNER.OWNER_A n))

/-- Owner fields of bank `n` replaced, with the check that belongs to them (R246). -/
def State.setOwner (s : State) (n v : Nat) : State :=
  let s := (s.put (R.MEM_BANK_OWNER.OWNER_A n) (v % 8)).put (R.MEM_BANK_OWNER.OWNER_B n) (v / 16 % 8)
  { s with mt := { s.mt with crc := s.mt.crc.set n (crc8 [s.ownerByte n]) } }

/-- Does a bank's ownership entry pass its CRC-8 (R246)? -/
def State.ownerOk (s : State) (n : Nat) : Bool := decide (s.mt.crc.get n = crc8 [s.ownerByte n])

/-- A failed ownership check: both owners FAULT, CHKERR and OWNCHK set, reported to the supervisor's log (R246, R16). -/
def State.ownerFault (s : State) (n : Nat) : State :=
  (((s.setOwner n (ownFAULT * 16 + ownFAULT)).raise (R.MEM_BANK_STATUS.CHKERR n)).raise R.MEM_EVENTS.OWNCHK).report (.ownership n)

/-- The state seen by an operation of owner code `who` on a bank, and its STAT when it may not be performed: the checks of
Table 10.4 in its order of causes. `avail` says that the quadrant and the port's clock let it be performed. -/
def State.bankGate (s : State) (n who : Nat) (avail : Bool) : State × Nat :=
  if !avail then (s, 4)
  else if !s.ownerOk n then (s.ownerFault n, 6)
  else
    let a := s.g (R.MEM_BANK_OWNER.OWNER_A n)
    let b := s.g (R.MEM_BANK_OWNER.OWNER_B n)
    if a = ownFAULT || b = ownFAULT then (s, 6)
    else if s.on (R.MEM_BANK_STATUS.FENCED n) then (s, 3)
    else if s.on (R.MEM_BANK_STATUS.BAD n) then (s, 7)
    else if a = who || (bankDual n && decide (b = who)) then (s, 0) else (s, 1)

/-- Does region `g`'s switch clock match the bank clock of its column (R241, R242)? -/
def State.bankClockOk (s : State) (g : Nat) : Bool :=
  let c := g % 256
  let sel := if s.g (R.MEM_COL_CFG.CLKSEL c) = 0 then colLower c else colUpper c
  decide (g = sel) && s.logicOn g
    || (s.logicOn sel && decide (s.g (R.CLK_REGION_CFG.SRC g) = s.g (R.CLK_REGION_CFG.SRC sel)))

/-- Are new operations on a bank performed: its quadrant is ON (Table 10.8)? -/
def State.bankOn (s : State) (n : Nat) : Bool := decide (s.quadState (bankQuad n) = 1)

/-- The owner code that names region `g` in its column. -/
def regionOwner (g : Nat) : Nat := if g < 256 then ownLOWER else ownUPPER

/-- The bank a region's bank port reaches (Table 10.1). -/
def portBank (q : BankReq) : Nat := q.region % 256 * 16 + q.port % 16

/-- One operation on an already admitted bank: the state and the data returned (R239). -/
def State.bankPerform (s : State) (n op w : Nat) (v : DWord) (m : Nat) : State × DWord :=
  let old := s.bankWord n w
  (if bankWrites op then s.setBankWord n w (bankStores op old v m) else s, bankReturns op old m)

/-- A result takes its place in the pipe of a port: presented two edges later (R238). -/
def State.bankResult (s : State) (q : BankReq) (rdata : DWord) (stat : Nat) : State :=
  { s with mt := { s.mt with pipe := s.mt.pipe ++ [{ port := q.region * 16 + q.port % 16, left := 2, rdata := rdata, stat := stat }] } }

/-- The gate of a region's operation. -/
def State.portGate (s : State) (q : BankReq) : State × Nat :=
  s.bankGate (portBank q) (regionOwner q.region) (s.bankOn (portBank q) && s.bankClockOk q.region)

/-- A region's operation clears COLLIDED when it is a READ (Table 10.2). -/
def State.readClears (s : State) (op : Nat) (q : BankReq) : State :=
  if op = 1 then
    { s with mt := { s.mt with out := s.mt.out.upd (q.region * 16 + q.port % 16) (fun p => { p with collided := false }) } }
  else s

/-- A bank-port operation taken at an edge by itself (R236 to R240). -/
def State.bankPort (s : State) (op : Nat) (q : BankReq) : State :=
  if op = 0 then s
  else
    let s := s.readClears op q
    let n := portBank q
    let r := s.portGate q
    let st := if r.2 ≠ 0 then r.2 else if op = 7 || !lanesOk op q.lane then 5 else 0
    if st ≠ 0 then (r.1.bankCount st).bankResult q 0 st
    else
      let p := r.1.bankPerform n op (q.addr % 8192) q.wdata q.lane
      p.1.bankResult q p.2 0

/-- Do two operations touch the same word (R249)? -/
def sameWord (wa ma wb mb : Nat) : Bool := decide (wa = wb) && decide ((ma % 16) &&& (mb % 16) ≠ 0)

/-- Table 10.7: same-word operations of ports A and B on one edge. The word stored, A's RDATA, B's RDATA, and whether B is
discarded with COLLIDE. -/
def meetWord (old : DWord) (opA : Nat) (vA : DWord) (mA : Nat) (opB : Nat) (vB : DWord) (mB : Nat) : DWord × DWord × DWord × Bool :=
  let a := bankStores opA old vA mA
  let ra := bankReturns opA old mA
  let rb := bankReturns opB old mB
  if !bankWrites opA then (bankStores opB old vB mB, ra, rb, false)
  else if !bankWrites opB then (a, ra, rb, false)
  else if 3 ≤ opA ∧ 3 ≤ opB then (bankStores opB a vB mB, ra, bankReturns opB a mB, false)
  else (a, ra, 0, true)

/-- A region's operation is discarded with COLLIDE, or presents its data (R249). -/
def State.metResult (s : State) (q : BankReq) (rdata : DWord) (coll : Bool) : State :=
  if coll then (s.bankCount 2).bankResult q 0 2 else s.bankResult q rdata 0

/-- Is an operation of a region admitted and performed: no STAT keeps it from the array? -/
def State.admits (s : State) (op : Nat) (q : BankReq) : Bool :=
  decide ((s.portGate q).2 = 0) && decide (0 < op) && decide (op < 7) && lanesOk op q.lane

/-- Two operations taken on one edge from ports A and B of a dual-port bank (Table 10.7). `qa` is port A's. -/
def State.bankBoth (s : State) (opA : Nat) (qa : BankReq) (opB : Nat) (qb : BankReq) : State :=
  if !s.admits opA qa || !s.admits opB qb || !sameWord (qa.addr % 8192) qa.lane (qb.addr % 8192) qb.lane then
    (s.bankPort opA qa).bankPort opB qb
  else
    let n := portBank qa
    let w := qa.addr % 8192
    let r := meetWord (s.bankWord n w) opA qa.wdata qa.lane opB qb.wdata qb.lane
    let s := ((s.readClears opA qa).readClears opB qb).setBankWord n w r.1
    (s.metResult qa r.2.1 false).metResult qb r.2.2.1 r.2.2.2

/-- The part of a request's job that its latest operation gave: the data of a READ or an atomic, or COLLIDE (R249). -/
def jobMet (m : BankMet) (rdata : DWord) (coll : Bool) (j : BankJob) : BankJob :=
  if j.req = m.req ∧ j.bank = m.bank then
    if coll then { j with stat := 2, ended := true }
    else
      let k := ((List.range 4).filter (fun i => m.mask.testBit i)).length * 2
      let lo := ((List.range 4).find? (fun i => m.mask.testBit i)).getD 0 * 2
      { j with data := if m.op = 2 then j.data else j.data.take (j.data.length - k) ++ (((natBytes rdata.toNat 8).drop lo).take k) }
  else j

/-- A region's operation meets the one that the column's interface took on the same edge (R249): both are settled as Table
10.7 states, from the word as it stood before the edge. -/
def State.bankMeet (s : State) (op : Nat) (q : BankReq) (m : BankMet) : State :=
  let n := m.bank
  let r := if m.isA then meetWord m.old m.op m.val m.mask op q.wdata q.lane else meetWord m.old op q.wdata q.lane m.op m.val m.mask
  let s := (s.readClears op q).setBankWord n m.word r.1
  let mine := if m.isA then (r.2.2.1, r.2.2.2) else (r.2.1, false)
  let his := if m.isA then (r.2.1, false) else (r.2.2.1, r.2.2.2)
  let s := if his.2 then s.bankCount 2 else s
  let s := { s with mt := { s.mt with jobs := s.mt.jobs.map (jobMet m his.1 his.2) } }
  s.metResult q mine.1 mine.2

/-- A region's operation, alone or meeting the interface's operation of the same edge. -/
def State.bankOne (s : State) (op : Nat) (q : BankReq) : State :=
  match s.mt.met.get (portBank q / 16) with
  | some m =>
    if m.bank = portBank q && s.admits op q && sameWord m.word m.mask (q.addr % 8192) q.lane then s.bankMeet op q m
    else s.bankPort op q
  | none => s.bankPort op q

/-- A bank-port command: an operation, and the operation the other port takes on the same edge, if any (R249). Port A is the
port whose owner field names the region. -/
def State.bankCmd (s : State) (op : Nat) (q : BankReq) (peer : Option (Nat × BankReq)) : State :=
  match peer with
  | none => s.bankOne op q
  | some (op2, q2) =>
    let n := portBank q
    if s.g (R.MEM_BANK_OWNER.OWNER_A n) = regionOwner q2.region then s.bankBoth op2 q2 op q else s.bankBoth op q op2 q2

/-- The results of region `g`'s ports move one edge on: those that fall due are presented; COLLIDED is set by COLLIDE and
cleared by a READ, whose result shows OK data (Table 10.2). -/
def State.bankEdge (s : State) (g : Nat) : State :=
  let mine (r : PortRes) : Bool := decide (r.port / 16 = g)
  let moved := s.mt.pipe.map (fun r => if mine r then { r with left := r.left - 1 } else r)
  let due := moved.filter (fun r => mine r && decide (r.left = 0))
  let out0 := (List.range 16).foldl (fun o k => o.upd (g * 16 + k) (fun p => { p with rvalid := false })) s.mt.out
  let out1 := due.foldl (fun o r =>
    o.upd r.port (fun p => { p with rdata := r.rdata, rvalid := true, stat := r.stat, collided := p.collided || decide (r.stat = 2) })) out0
  { s with mt := { s.mt with pipe := moved.filter (fun r => !(mine r && decide (r.left = 0))), out := out1 } }

/-! ### NoC operations on banks (R235, R240) -/

/-- Is a NoC access to a bank made of whole lanes, and an atomic one inside one word (R235, R284)? -/
def bankAccessOk (op a len : Nat) : Bool :=
  decide (a % 2 = 0) && decide (len % 2 = 0) && (decide (op < 3) || decide (a % 8 + len ≤ 8))

/-- The lanes of a byte range inside one word. -/
def rangeLanes (a len : Nat) : Nat := (2 ^ (len / 2) - 1) * 2 ^ (a % 8 / 2)

/-- The gate of a NoC request: as for the NOC owner, but that the supervisor enters a bank that one of its ports owns (R240). -/
def State.nocGate (s : State) (n : Nat) (avail super : Bool) : State × Nat :=
  let r := s.bankGate n ownNOC avail
  if r.2 = 1 && super && (s.g (R.MEM_BANK_OWNER.OWNER_A n) = ownSUPER || s.g (R.MEM_BANK_OWNER.OWNER_B n) = ownSUPER) then (r.1, 0)
  else r

/-- The bank operation that a request's opcode asks for (R240). -/
def bankOpOf (op : Nat) : Nat := if op = 0 then 1 else if op ≤ 2 then 2 else op

/-- The part of a request's bytes that lies in its word `i`: where it begins, and its length. -/
def wordPart (a len i : Nat) : Nat × Nat :=
  let lo := max a ((a / 8 + i) * 8)
  (lo, min (a + len) ((a / 8 + i) * 8 + 8) - lo)

/-- The words that a request's bytes touch. -/
def wordsOf (a len : Nat) : Nat := (a % 8 + len + 7) / 8

/-- A request takes its next operation at the array (R240): one word of one bank. A STAT other than OK ends it. -/
def State.jobStep (s : State) (j : BankJob) (super : Bool) : State × BankJob :=
  let q := j.req
  let n := j.bank
  let g := s.nocGate n (s.bankOn n || decide (s.quadState (bankQuad n) = 2)) super
  let p := wordPart q.addr q.len j.count
  let op := bankOpOf q.op
  let m := rangeLanes p.1 p.2
  let st := if g.2 ≠ 0 then g.2 else if lanesOk op m then 0 else 5
  if st ≠ 0 then (g.1.bankCount st, { j with stat := st, ended := true })
  else
    let w := (p.1 - bankBase) % 0x10000 / 8
    let v := BitVec.ofNat 64 (bytesNat ((q.data.drop (p.1 - q.addr)).take p.2) * 2 ^ (8 * (p.1 % 8)))
    let old := s.bankWord n w
    let r := s.bankPerform n op w v m
    let isA := decide (s.g (R.MEM_BANK_OWNER.OWNER_A n) = ownNOC || (super && s.g (R.MEM_BANK_OWNER.OWNER_A n) = ownSUPER))
    let met : Option BankMet :=
      if bankDual n then some { bank := n, req := q, op := op, word := w, mask := m, val := v, old := old, isA := isA } else none
    ({ r.1 with mt := { r.1.mt with met := r.1.mt.met.set (n / 16) met } },
     { j with
       count := j.count + 1, ended := decide (wordsOf q.addr q.len ≤ j.count + 1)
       data := if op = 2 then j.data else j.data ++ ((natBytes r.2.toNat 8).drop (p.1 % 8)).take p.2 })

/-- A request of a hardened unit served in one step (log entry 20): the state, STAT, and the data. -/
def State.bankServe (s : State) (op a len : Nat) (data : List Byte) (super : Bool) : State × Nat × List Byte :=
  let r := (List.range (wordsOf a len)).foldl (fun (x : State × BankJob) _ => if x.2.ended then x else x.1.jobStep x.2 super)
    (s, ({ bank := (a - bankBase) / 0x10000, req := { op := op, addr := a, len := len, data := data } } : BankJob))
  ({ r.1 with mt := { r.1.mt with met := s.mt.met.set ((a - bankBase) / 0x100000) none } }, r.2.stat, if r.2.stat = 0 then r.2.data else [])

/-! ### Handover and reclaim (R244 to R248) -/

/-- The refusal code of Table 10.6 for an owner write, 0 when it passes. -/
def State.handoverCode (s : State) (n v : Nat) (super : Bool) : Nat :=
  let a := v % 8
  let b := v / 16 % 8
  let badCode (x : Nat) : Bool := x = 5 || x = 6 || x = 7 || (x = 4 && !super)
  let names (x : Nat) : Bool := (x = ownLOWER && !s.bankClockOk (colLower (n / 16))) || (x = ownUPPER && !s.bankClockOk (colUpper (n / 16)))
  if badCode a || badCode b || (decide (b ≠ 0) && !bankDual n) then 1
  else if a = b && decide (a ≠ 0) then 2
  else if names a || names b then 3
  else if s.on (R.MEM_BANK_STATUS.PEND n) || s.mt.reclaims.any (fun r => r.1 = n) || s.mt.march.contains n then 4
  else if s.on (R.MEM_BANK_STATUS.BAD n) then 5
  else 0

/-- A write to MEM_BANKn_OWNER (R244): checked, then pending; on a FAULT bank it takes effect at once (R246). -/
def State.ownerWrite (s : State) (n v : Nat) (super : Bool) : State :=
  let c := s.handoverCode n v super
  let s := s.put (R.MEM_BANK_STATUS.HERR n) c
  if c ≠ 0 then s.raise R.MEM_EVENTS.HANDERR
  else if s.g (R.MEM_BANK_OWNER.OWNER_A n) = ownFAULT then s.setOwner n v
  else { (s.putB (R.MEM_BANK_STATUS.PEND n) true) with mt := { s.mt with pend := s.mt.pend.set n (some v) } }

/-- Is an operation of an owner of bank `n` in flight: a port result of that owner still in its pipe, or a request that the
column's interface has accepted (R244)? -/
def State.bankBusy (s : State) (n : Nat) : Bool :=
  s.mt.pipe.any (fun r => decide (r.port / 16 % 256 * 16 + r.port % 16 = n) && decide (1 < r.left) && decide (r.stat ≠ 1))
    || s.mt.jobs.any (fun j => decide (j.bank = n) && !j.ended)

/-- HANDOVER_EFFECT (R244): at a bank-clock edge with no old-owner operation in flight the pending owners take effect. -/
def State.handover (s : State) (n : Nat) : State :=
  match s.mt.pend.get n with
  | some v =>
    if s.bankBusy n then s
    else
      let s := (s.setOwner n v).putB (R.MEM_BANK_STATUS.PEND n) false
      { s with mt := { s.mt with pend := s.mt.pend.set n none } }
  | none => s

/-- A write to MEM_RECLAIM (R248): the reclaim begins, or waits until those before it have ended, and its answer with it. A
pending handover is dropped with BUSY (R245). -/
def State.memReclaim (s : State) (n : Nat) : State :=
  let first := s.mt.reclaims.isEmpty
  let s := { s with mt := { s.mt with reclaims := s.mt.reclaims ++ [(n, s.tick + 500)] } }
  if first then s.putB R.MEM_STATUS.RECLBUSY true else s

/-- The answer to a write of MEM_RECLAIM: at once, or when the reclaims before it have ended (R248). -/
def State.reclaimAsk (s : State) (n : Nat) : State :=
  if s.mt.reclaims.isEmpty then (s.memReclaim n).answerWith stOK [] else { s.memReclaim n with resp := none }

/-- A pending handover of bank n is refused with BUSY (R245). -/
def State.handoverDropped (s : State) (n : Nat) : State :=
  if s.on (R.MEM_BANK_STATUS.PEND n) then
    { (((s.put (R.MEM_BANK_STATUS.HERR n) 4).putB (R.MEM_BANK_STATUS.PEND n) false).raise R.MEM_EVENTS.HANDERR) with
      mt := { s.mt with pend := s.mt.pend.set n none } }
  else s

/-- A march test of bank n ends ABORTED (R255). -/
def State.marchAborted (s : State) (n : Nat) : State :=
  if s.mt.march.contains n then
    { s.put (R.MEM_BANK_STATUS.MRES n) 3 with
      mt := { s.mt with march := s.mt.march.filter (· ≠ n), before := s.mt.before.set n none } }
  else s

/-- A reclaim's first bank-clock edge (R248): the bank is fenced, a pending handover is refused with BUSY (R245), and a march
test of the bank ends ABORTED (R255). -/
def State.reclaimFence (s : State) (n : Nat) : State :=
  ((s.putB (R.MEM_BANK_STATUS.FENCED n) true).handoverDropped n).marchAborted n

/-- A reclaim ends (R248): the owner becomes SUPER, RECLAIMED is set, and the next reclaim that waits begins and is answered. -/
def State.reclaimEnd (s : State) (n : Nat) : State :=
  let s := ((s.setOwner n ownSUPER).putB (R.MEM_BANK_STATUS.FENCED n) false).raise R.MEM_EVENTS.RECLAIMED
  match s.mt.reclaims.drop 1 with
  | [] => { (s.putB R.MEM_STATUS.RECLBUSY false) with mt := { s.mt with reclaims := [] } }
  | (m, _) :: more => ({ s with mt := { s.mt with reclaims := (m, s.tick + 500) :: more } } : State).answerWith stOK []

/-! ### March test (R252 to R255) -/

/-- The banks selected in MEM_MARCH_SEL0–127. -/
def State.marchSelected (s : State) : List Nat :=
  (List.range 128).flatMap (fun k => (maskBits (s.rw (R.MEM_MARCH_SEL.reg k)).toNat 32).map (fun b => 32 * k + b))

/-- The refusal code of Table 10.9 for a start. -/
def State.marchRefusal (s : State) (sel : List Nat) : Nat :=
  if !s.mt.march.isEmpty || s.on R.MEM_STATUS.MARCHBUSY then 3
  else if sel.isEmpty then 4
  else if sel.any (fun n =>
      let a := s.g (R.MEM_BANK_OWNER.OWNER_A n)
      let b := s.g (R.MEM_BANK_OWNER.OWNER_B n)
      !((a = ownNONE || a = ownSUPER) && (b = ownNONE || b = ownSUPER)) || s.on (R.MEM_BANK_STATUS.PEND n)) then 1
  else if sel.any (fun n => s.quadState (bankQuad n) ≠ 1) then 2
  else 0

/-- A bank is taken for the march test (R252): its owners are kept and MARCH owns it, both ports of a two-port bank. -/
def State.marchTake (s : State) (n : Nat) : State :=
  let v := (s.rw (R.MEM_BANK_OWNER.reg n)).toNat
  ({ s with mt := { s.mt with before := s.mt.before.set n (some v) } } : State).setOwner n (if bankDual n then 0x55 else 5)

/-- A start of the march test on the banks `sel` (R252, R253): refused, or every bank owned by MARCH. -/
def State.marchStart (s : State) (sel : List Nat) : State :=
  let c := s.marchRefusal sel
  let s := s.put R.MEM_MARCH_STATUS.REFUSED c
  if c ≠ 0 then s.raise R.MEM_EVENTS.MARCHDONE
  else
    let s := s.each sel State.marchTake
    let s := { s with mt := { s.mt with march := sel, preserve := s.on R.MEM_MARCH_CTL.MODE } }
    ((s.putB R.MEM_MARCH_STATUS.BUSY true).putB R.MEM_STATUS.MARCHBUSY true).putB R.MEM_MARCH_CTL.START true

/-- A bank under test gets its owners of before back (R253). -/
def State.marchGive (s : State) (n : Nat) : State :=
  let s := match s.mt.before.get n with
    | some v => s.setOwner n v
    | none => s
  { s with mt := { s.mt with before := s.mt.before.set n none } }

/-- The result of one bank under test (R253). -/
def State.marchJudge (s : State) (destructive : Bool) (failed : List (Nat × Nat)) (n : Nat) : State :=
  let s := if destructive then s.refill (16 + n) 1 else s
  match failed.find? (fun f => f.1 = n) with
  | some f =>
    let s := ((s.put (R.MEM_BANK_STATUS.MRES n) 2).put (R.MEM_BANK_STATUS.FAILWORD n) (f.2 % 8192)).putB (R.MEM_BANK_STATUS.BAD n) true
    if destructive then s
    else (failed.filter (fun f => f.1 = n)).foldl (fun (s : State) f => s.free.2.setBankWord n (f.2 % 8192) s.free.1) s
  | none => ((s.put (R.MEM_BANK_STATUS.MRES n) 1).put (R.MEM_BANK_STATUS.FAILWORD n) 0).putB (R.MEM_BANK_STATUS.BAD n) false

/-- The march test ends (R253): the banks of `fails`, which lists the failing words in the order in which they failed, fail,
the others pass; owners return; contents are zero after the destructive mode, and every failing word of the preserving mode
becomes undefined. -/
def State.marchEnd (s : State) (fails : List (Nat × Nat)) : State :=
  let sel := s.mt.march
  let destructive := !s.mt.preserve
  let failed := fails.filter (fun f => sel.contains f.1)
  let s := s.each sel (fun s n => (s.marchGive n).marchJudge destructive failed n)
  let k := (sel.filter (fun n => failed.any (fun f => f.1 = n))).length
  let s := s.put R.MEM_MARCH_STATUS.FAILCNT k
  let s := if k ≠ 0 then s.raise R.MEM_EVENTS.MARCHFAIL else s
  let s := { s with mt := { s.mt with march := [] } }
  (((s.putB R.MEM_MARCH_STATUS.BUSY false).putB R.MEM_STATUS.MARCHBUSY false).putB R.MEM_MARCH_CTL.START false).raise R.MEM_EVENTS.MARCHDONE

/-- A write to MEM_COLn_CFG (spec/10, MEM registers): ignored with HANDERR while a bank of the column has an owner other
than NONE, SUPER or NOC. -/
def State.colCfgWrite (s : State) (c : Nat) (v : Word) : State :=
  let held := (List.range 16).any (fun k =>
    let n := c * 16 + k
    let bad (x : Nat) : Bool := !(x = ownNONE || x = ownSUPER || x = ownNOC)
    bad (s.g (R.MEM_BANK_OWNER.OWNER_A n)) || bad (s.g (R.MEM_BANK_OWNER.OWNER_B n)))
  if held then s.raise R.MEM_EVENTS.HANDERR else s.put (R.MEM_COL_CFG.CLKSEL c) (v.toNat % 2)

/-! ### Commands -/

/-- BANK_NOP (R236): nothing is done and RVALID stays 0. -/
def execBankNop (_q : BankReq) (s : State) : Host.Outcome State Fault Refusal := done s
/-- BANK_READ (R238). -/
def execBankRead (q : BankReq) (peer : Option (Nat × BankReq)) (s : State) : Host.Outcome State Fault Refusal :=
  done (s.bankCmd 1 q peer)
/-- BANK_WRITE (R238, R249). -/
def execBankWrite (q : BankReq) (peer : Option (Nat × BankReq)) (s : State) : Host.Outcome State Fault Refusal :=
  done (s.bankCmd 2 q peer)
/-- BANK_ADD16 (R236). -/
def execBankAdd16 (q : BankReq) (peer : Option (Nat × BankReq)) (s : State) : Host.Outcome State Fault Refusal :=
  done (s.bankCmd 3 q peer)
/-- BANK_SWAP16 (R236). -/
def execBankSwap16 (q : BankReq) (peer : Option (Nat × BankReq)) (s : State) : Host.Outcome State Fault Refusal :=
  done (s.bankCmd 4 q peer)
/-- BANK_ADD32 (R237). -/
def execBankAdd32 (q : BankReq) (peer : Option (Nat × BankReq)) (s : State) : Host.Outcome State Fault Refusal :=
  done (s.bankCmd 5 q peer)
/-- BANK_SWAP32 (R237). -/
def execBankSwap32 (q : BankReq) (peer : Option (Nat × BankReq)) (s : State) : Host.Outcome State Fault Refusal :=
  done (s.bankCmd 6 q peer)
/-- BANK_BADOP (R237): operation 7 performs nothing and answers BADOP. -/
def execBankBadop (q : BankReq) (s : State) : Host.Outcome State Fault Refusal := done (s.bankPort 7 q)
/-- MEM_BANK_OWNER_WRITE (R244). -/
def execMemBankOwnerWrite (w : Who) (n : Nat) (v : Word) (s : State) : Host.Outcome State Fault Refusal :=
  done (s.ownerWrite n v.toNat (decide (w = .super)))
/-- HANDOVER_EFFECT (R244). -/
def execHandoverEffect (n : Nat) (s : State) : Host.Outcome State Fault Refusal := done (s.handover n)
/-- MEM_RECLAIM (R248, R515): any writer but the supervisor gets an error response. -/
def execMemReclaim (w : Who) (n : Nat) (s : State) : Host.Outcome State Fault Refusal :=
  done (if w = .super then s.reclaimAsk n else s.answerWith stERR [])
/-- MARCH_START (R252). -/
def execMarchStart (s : State) : Host.Outcome State Fault Refusal := done (s.marchStart s.marchSelected)
/-- MARCH_END (R253). -/
def execMarchEnd (fails : List (Nat × Nat)) (s : State) : Host.Outcome State Fault Refusal :=
  done (if s.on R.MEM_STATUS.MARCHBUSY then s.marchEnd fails else s)

end Sys2Proof.Machine
end

