-- ==== Sys2Proof/Machine/Crypto.lean ====
section
/-! DEFINITION. The published standards that R186, R189, R190, R193, R196, R265, R269 and R480 name and do not restate: SM3
(GB/T 32905), SM4 (GB/T 32907), SM2 signatures (GB/T 32918.2 on the curve of GB/T 32918.5) and the LZ4 block format. Their
constants are the standards' own (PRESUMED, log entry 10). -/

namespace Sys2Proof.Machine

/-! ### SM3 -/

/-- The eight words of an SM3 chaining value, word A first. -/
abbrev Sm3 := Word × Word × Word × Word × Word × Word × Word × Word

/-- The initial value of SM3. -/
def sm3Init : Sm3 :=
  (0x7380166F#32, 0x4914B2B9#32, 0x172442D7#32, 0xDA8A0600#32, 0xA96F30BC#32, 0x163138AA#32, 0xE38DEE4D#32, 0xB0FB0E4E#32)

/-- P0, the permutation of the compression. -/
def sm3P0 (x : Word) : Word := x ^^^ x.rotateLeft 9 ^^^ x.rotateLeft 17

/-- P1, the permutation of the message expansion. -/
def sm3P1 (x : Word) : Word := x ^^^ x.rotateLeft 15 ^^^ x.rotateLeft 23

/-- The padded message: a 1 bit, zeros, and the length in bits as eight bytes, big-endian. -/
def sm3Pad (l : List Byte) : List Byte :=
  l ++ 0x80#8 :: List.replicate ((119 - l.length % 64) % 64) 0#8 ++ (natBytes (8 * l.length) 8).reverse

/-- The 68 expanded words of a block, the newest first: W0 to W15 are the block's big-endian words. -/
def sm3Expand (b : List Byte) : List Word :=
  let first := (List.range 16).map (fun i => BitVec.ofNat 32 (bytesNatBE ((b.drop (4 * i)).take 4)))
  (List.range 52).foldl (fun w _ =>
    let v (k : Nat) : Word := w.getD (k - 1) 0#32
    (sm3P1 (v 16 ^^^ v 9 ^^^ (v 3).rotateLeft 15) ^^^ (v 13).rotateLeft 7 ^^^ v 6) :: w) first.reverse

/-- One round: `w` is Wj and `w4` is Wj+4. -/
def sm3Round (j : Nat) (w w4 : Word) : Sm3 → Sm3
  | (a, b, c, d, e, f, g, h) =>
    let t := (if j < 16 then 0x79CC4519#32 else 0x7A879D8A#32).rotateLeft (j % 32)
    let ss1 := (a.rotateLeft 12 + e + t).rotateLeft 7
    let ff := if j < 16 then a ^^^ b ^^^ c else (a &&& b) ||| (a &&& c) ||| (b &&& c)
    let gg := if j < 16 then e ^^^ f ^^^ g else (e &&& f) ||| (~~~e &&& g)
    let tt1 := ff + d + (ss1 ^^^ a.rotateLeft 12) + (w ^^^ w4)
    let tt2 := gg + h + ss1 + w
    (tt1, a, b.rotateLeft 9, c, sm3P0 tt2, e, f.rotateLeft 19, g)

/-- The words of a chaining value. -/
def sm3Words : Sm3 → List Word
  | (a, b, c, d, e, f, g, h) => [a, b, c, d, e, f, g, h]

/-- The compression of one block into the chaining value. -/
def sm3Block (v : Sm3) (b : List Byte) : Sm3 :=
  let w := (sm3Expand b).reverse
  let x := (List.range 64).foldl (fun x j => sm3Round j (w.getD j 0#32) (w.getD (j + 4) 0#32) x) v
  match v, x with
  | (a, b, c, d, e, f, g, h), (a', b', c', d', e', f', g', h') =>
    (a ^^^ a', b ^^^ b', c ^^^ c', d ^^^ d', e ^^^ e', f ^^^ f', g ^^^ g', h ^^^ h')

/-- The 32 bytes of the SM3 digest of a byte string. -/
def sm3Bytes (l : List Byte) : List Byte :=
  let p := sm3Pad l
  let v := (List.range (p.length / 64)).foldl (fun v k => sm3Block v ((p.drop (64 * k)).take 64)) sm3Init
  (sm3Words v).flatMap (fun w => (natBytes w.toNat 4).reverse)

/-! ### SM4 -/

/-- The S-box of SM4, 16 entries in each number, the first leftmost. -/
def sm4Sbox : List Nat :=
 [0xd690e9fecce13db716b614c228fb2c05, 0x2b679a762abe04c3aa44132649860699,
  0x9c4250f491ef987a33540b43edcfac62, 0xe4b31ca9c908e89580df94fa758f3fa6,
  0x4707a7fcf37317ba83593c19e6854fa8, 0x686b81b27164da8bf8eb0f4b70569d35,
  0x1e240e5e6358d1a225227c3b01217887, 0xd40046579fd327524c3602e7a0c4c89e,
  0xeabf8ad240c738b5a3f7f2cef96115a1, 0xe0ae5da49b341a55ad933230f58cb1e3,
  0x1df6e22e8266ca60c02923ab0d534e6f, 0xd5db3745defd8e2f03ff6a726d6c5b51,
  0x8d1baf92bbddbc7f11d95c411f105ad8, 0x0ac13188a5cd7bbd2d74d012b8e5b4b0,
  0x8969974a0c96777e65b9f109c56ec684, 0x18f07dec3adc4d2079ee5f3ed7cb3948]

/-- The S-box on each byte of a word. -/
def sm4Tau (x : Word) : Word :=
  let one (k : Nat) : Nat :=
    let b := x.toNat / 256 ^ k % 256
    sm4Sbox.getD (b / 16) 0 / 256 ^ (15 - b % 16) % 256
  BitVec.ofNat 32 (one 0 + 256 * one 1 + 65536 * one 2 + 16777216 * one 3)

/-- T of the rounds. -/
def sm4T (x : Word) : Word :=
  let b := sm4Tau x
  b ^^^ b.rotateLeft 2 ^^^ b.rotateLeft 10 ^^^ b.rotateLeft 18 ^^^ b.rotateLeft 24

/-- T' of the key schedule. -/
def sm4Tk (x : Word) : Word :=
  let b := sm4Tau x
  b ^^^ b.rotateLeft 13 ^^^ b.rotateLeft 23

/-- Word `k` of a block, the leftmost first. -/
def blockWord (b : BitVec 128) (k : Nat) : Word := (b >>> (32 * (3 - k))).setWidth 32

/-- Constant CKi: byte j, the leftmost first, is (4i + j) × 7 mod 256. -/
def sm4CK (i : Nat) : Word :=
  BitVec.ofNat 32 (((List.range 4).map (fun j => (4 * i + j) * 7 % 256 * 256 ^ (3 - j))).sum)

/-- The round keys rk0 to rk31 of a key. -/
def sm4Keys (key : BitVec 128) : List Word :=
  let k (i : Nat) (fk : Word) : Word := blockWord key i ^^^ fk
  let r := (List.range 32).foldl (fun (x : List Word × Word × Word × Word × Word) i =>
    match x with
    | (l, a, b, c, d) =>
      let n := a ^^^ sm4Tk (b ^^^ c ^^^ d ^^^ sm4CK i)
      (n :: l, b, c, d, n)) ([], k 0 0xA3B1BAC6#32, k 1 0x56AA3350#32, k 2 0x677D9197#32, k 3 0xB27022DC#32)
  r.1.reverse

/-- The rounds with the given round keys, and the reverse-order output. -/
def sm4Rounds (ks : List Word) (b : BitVec 128) : BitVec 128 :=
  let r := ks.foldl (fun (x : Word × Word × Word × Word) k =>
    match x with
    | (x0, x1, x2, x3) => (x1, x2, x3, x0 ^^^ sm4T (x1 ^^^ x2 ^^^ x3 ^^^ k))) (blockWord b 0, blockWord b 1, blockWord b 2, blockWord b 3)
  match r with
  | (x0, x1, x2, x3) => x3 ++ x2 ++ x1 ++ x0

/-- SM4 on one block: key, block. -/
def sm4 (key b : BitVec 128) : BitVec 128 := sm4Rounds (sm4Keys key) b

/-- SM4 decryption of one block: the round keys in reverse order. -/
def sm4Dec (key b : BitVec 128) : BitVec 128 := sm4Rounds (sm4Keys key).reverse b

/-- E8 of R265: rounds 0 to 7 with the standard output transform, (X11, X10, X9, X8). -/
def sm4E8 (key b : BitVec 128) : BitVec 128 := sm4Rounds ((sm4Keys key).take 8) b

/-! ### SM2 signatures -/

/-- The prime of the recommended curve. -/
def sm2P : Nat := 0xFFFFFFFEFFFFFFFFFFFFFFFFFFFFFFFFFFFFFFFF00000000FFFFFFFFFFFFFFFF
/-- Coefficient a of the curve. -/
def sm2A : Nat := 0xFFFFFFFEFFFFFFFFFFFFFFFFFFFFFFFFFFFFFFFF00000000FFFFFFFFFFFFFFFC
/-- Coefficient b of the curve. -/
def sm2B : Nat := 0x28E9FA9E9D9F5E344D5A9E4BCF6509A7F39789F515AB8F92DDBCBD414D940E93
/-- The order n of the base point. -/
def sm2N : Nat := 0xFFFFFFFEFFFFFFFFFFFFFFFFFFFFFFFF7203DF6B21C6052B53BBF40939D54123
/-- The base point G. -/
def sm2G : Option (Nat × Nat) :=
  some (0x32C4AE2C1F1981195F9904466A39C9948FE30BBFF2660BE1715A4589334C74C7,
    0xBC3736A2F4F6779C59BDCEE36B692153D0A9877CC62A474002DF32E52139F0A0)

/-- `b` to the power `e` modulo `m`, for exponents below 2^256. -/
def powMod (b e m : Nat) : Nat :=
  (List.range 256).foldl (fun r i => if e.testBit (255 - i) then r * r % m * b % m else r * r % m) 1

/-- The inverse modulo a prime `m`. -/
def invMod (x m : Nat) : Nat := powMod (x % m) (m - 2) m

/-- The sum of two points of the curve; none is the point at infinity. -/
def sm2Add : Option (Nat × Nat) → Option (Nat × Nat) → Option (Nat × Nat)
  | none, q => q
  | q, none => q
  | some (x1, y1), some (x2, y2) =>
    if x1 = x2 ∧ (y1 + y2) % sm2P = 0 then none
    else
      let l := if x1 = x2 then (3 * x1 * x1 + sm2A) * invMod (2 * y1) sm2P % sm2P
        else (y2 + (sm2P - y1 % sm2P)) * invMod (x2 + (sm2P - x1 % sm2P)) sm2P % sm2P
      let x := (l * l + 2 * sm2P - x1 % sm2P - x2 % sm2P) % sm2P
      some (x, (l * (x1 + sm2P - x) + sm2P - y1 % sm2P) % sm2P)

/-- The multiple [k]P of a point, for k below 2^256. -/
def sm2Mul (k : Nat) (p : Option (Nat × Nat)) : Option (Nat × Nat) :=
  (List.range 256).foldl (fun q i =>
    let q := sm2Add q q
    if k.testBit (255 - i) then sm2Add q p else q) none

/-- A number as 32 bytes, big-endian. -/
def be32 (v : Nat) : List Byte := (natBytes v 32).reverse

/-- The number e of a message: SM3 of ZA and the message, with ENTL and ZA over the identity, the curve and the public key. -/
def sm2E (ident key msg : List Byte) : Nat :=
  let g := sm2G.getD (0, 0)
  let za := sm3Bytes ((natBytes (8 * ident.length) 2).reverse ++ ident ++ be32 sm2A ++ be32 sm2B ++ be32 g.1 ++ be32 g.2 ++ key)
  bytesNatBE (sm3Bytes (za ++ msg))

/-- Signature check: user identity, public key (x, y), message, r and s of 32 bytes each (R186). -/
def sm2Verify (ident key msg sig : List Byte) : Bool :=
  let r := bytesNatBE (sig.take 32)
  let t := bytesNatBE ((sig.drop 32).take 32)
  let p := some (bytesNatBE (key.take 32), bytesNatBE ((key.drop 32).take 32))
  let ok (v : Nat) : Bool := decide (1 ≤ v) && decide (v < sm2N)
  ok r && ok t && decide ((r + t) % sm2N ≠ 0) &&
    match sm2Add (sm2Mul t sm2G) (sm2Mul ((r + t) % sm2N) p) with
    | none => false
    | some q => decide ((sm2E ident key msg + q.1) % sm2N = r)

/-- The public key of a private key: x and y, big-endian. -/
def sm2Public (d : List Byte) : List Byte :=
  match sm2Mul (bytesNatBE d) sm2G with
  | none => List.replicate 64 0#8
  | some q => be32 q.1 ++ be32 q.2

/-- Signature with private key `d` and the random number `k` in 1 to n − 1 (R480): r and s, none where the standard draws another
number. -/
def sm2Sign (d ident msg : List Byte) (k : Nat) : Option (List Byte) :=
  let x := ((sm2Mul k sm2G).getD (0, 0)).1
  let r := (sm2E ident (sm2Public d) msg + x) % sm2N
  let dn := bytesNatBE d
  let t := invMod (1 + dn) sm2N * (k + (sm2N - r * dn % sm2N)) % sm2N
  if r = 0 ∨ r + k = sm2N ∨ t = 0 then none else some (be32 r ++ be32 t)

/-! ### LZ4 blocks (R196) -/

/-- A length after its four bits: bytes are added while they are 255. -/
def lz4More (n : Nat) : List Byte → Option (Nat × List Byte)
  | [] => none
  | b :: l => if b = 255#8 then lz4More (n + 255) l else some (n + b.toNat, l)

/-- A length of a sequence and what follows it. -/
def lz4Count (n : Nat) (l : List Byte) : Option (Nat × List Byte) := if n = 15 then lz4More 15 l else some (n, l)

/-- The sequences of a block in turn, at most `fuel` of them; `out` is what is decoded so far, the newest byte first. A match
offset of 0, or one before the block's own bytes, is an error; the last sequence ends after its literals. -/
def lz4Seq : Nat → List Byte → List Byte → Option (List Byte)
  | 0, _, _ => none
  | _, [], _ => none
  | fuel + 1, t :: l, out =>
    match lz4Count (t.toNat / 16) l with
    | none => none
    | some (n, l) =>
      if l.length < n then none
      else
        let out := (l.take n).reverse ++ out
        match l.drop n with
        | [] => some out.reverse
        | [_] => none
        | a :: b :: l =>
          let o := a.toNat + 256 * b.toNat
          match lz4Count (t.toNat % 16) l with
          | none => none
          | some (m, l) =>
            if o = 0 ∨ out.length < o then none
            else
              let w := (out.take o).reverse
              lz4Seq fuel l (((List.range (m + 4)).map (fun i => w.getD (i % o) 0#8)).reverse ++ out)

/-- Decompression of one block: none for a malformed block. -/
def lz4 (l : List Byte) : Option (List Byte) := lz4Seq (l.length + 1) l []

end Sys2Proof.Machine
end

