-- ==== Sys2Proof/Machine/Hbm.lean ====
section
/-! DEFINITION. HBM and the inline scrambler (spec/11, R256 to R280): the address map, rights, write counters, the counter
tree and its halt, held writes, the sweep. Memory holds plain bytes; the stored bytes of the raw view are computed from
them, the line's counter and the keys. -/

namespace Sys2Proof.Machine

/-! ### The address map (R257, R258, R266) -/

def lineOf (a : Nat) : Nat := a / 4096
def stackOfLine (l : Nat) : Nat := l / 6291456
def pcOfLine (l : Nat) : Nat := l % 32
/-- The attachment point of a line: 8 s + p div 4 (R258). -/
def apOfLine (l : Nat) : Nat := 8 * stackOfLine l + pcOfLine l / 4
def scrOf (a : Nat) : Nat := a / 0x40000000
/-- A line's index within its scramble region. -/
def lineInScr (l : Nat) : Nat := l % 262144
/-- Where the reserved 256 MiB begin. -/
def reservedBase : Nat := 0x17F0000000
/-- Where the counter tree's nodes begin. -/
def treeBase : Nat := 0x17F8000000

/-- A line whose counter stands here is saturated (R273). -/
def ctrSat : Nat := 268435455

/-- Stack `k`'s state in HBM_STATUS: 0 OFF, 1 TRAINING, 2 ON, 3 FAILED, 4 CLOSING. -/
def State.stackState (s : State) (k : Nat) : Nat := s.g R.HBM_STATUS.STATE / 16 ^ k % 16

/-- Stack `k` takes a state, which HBM_EVENTS.STATECHG flags. -/
def State.setStack (s : State) (k st : Nat) : State :=
  if s.stackState k = st then s
  else (s.put R.HBM_STATUS.STATE (s.g R.HBM_STATUS.STATE - s.stackState k * 16 ^ k + st * 16 ^ k)).raise R.HBM_EVENTS.STATECHG

/-- A scramble region's STATE: 0 STEADY, 1 PENDING, 2 SWEEPING, 3 ABSENT. -/
def State.scrState (s : State) (r : Nat) : Nat := s.g (R.SCR_REGION_KEYSEL.STATE r)

/-! ### Classes and rights (Table 11.4, R278, R279) -/

/-- Initiator classes: 0 SUPER, 1 HW, 2 FABRIC, 3 HOST, 4 REMOTE, 5 DEBUG. -/
def clsSUPER : Nat := 0
def clsHW : Nat := 1
def clsFABRIC : Nat := 2
def clsHOST : Nat := 3
def clsREMOTE : Nat := 4
def clsDEBUG : Nat := 5

/-- May a request of a class read or write at an address, in the raw or the plain view (Table 11.4, R279)? -/
def State.hbmPermits (s : State) (cls a : Nat) (write raw : Bool) : Bool :=
  if raw && write then false
  else if cls = clsSUPER then true
  else if reservedBase ≤ a then decide (cls = clsDEBUG) && raw && !write
  else
    let r := scrOf a
    let two (f : Field) : Bool := (s.g f).testBit (if write then 1 else 0)
    if cls = clsHW then two (R.SCR_REGION_ACCESS.HW r)
    else if cls = clsFABRIC then two (R.SCR_REGION_ACCESS.FAB r)
    else if cls = clsHOST then two (R.SCR_REGION_ACCESS.HOST r)
    else if cls = clsREMOTE then two (R.SCR_REGION_ACCESS.REMOTE r)
    else
      let d := s.g (R.SCR_REGION_ACCESS.DBG r)
      if raw then d = 1 || d = 2 else decide (d = 2)

/-! ### The counter tree (Table 11.2, R269) -/

/-- The number of the node at a level that covers line `l`. -/
def nodeOf (level l : Nat) : Nat := l / 2 ^ (4 + 3 * level)

/-- Where a node of level 0 to 3 lies. -/
def nodeAddr (level n : Nat) : Nat :=
  (match level with
   | 0 => 0x17F8000000
   | 1 => 0x17FE000000
   | 2 => 0x17FEC00000
   | _ => 0x17FED80000) + n * 64

/-- The level and number of the node whose bytes hold an address, if one does. -/
def nodeAt (a : Nat) : Option (Nat × Nat) :=
  if a < 0x17F8000000 then none
  else if a < 0x17FE000000 then some (0, (a - 0x17F8000000) / 64)
  else if a < 0x17FEC00000 then some (1, (a - 0x17FE000000) / 64)
  else if a < 0x17FED80000 then some (2, (a - 0x17FEC00000) / 64)
  else if a < 0x17FEDB0000 then some (3, (a - 0x17FED80000) / 64)
  else none

/-- The generation in force for a line (R271). -/
def State.genOf (s : State) (l : Nat) : Nat :=
  let r := l / 262144
  let g := s.g (R.SCR_REGION_KEYSEL.GEN r)
  if s.scrState r = 2 && decide (lineInScr l < s.g (R.SCR_REGION_BOUNDARY.BOUNDARY r)) then g + 1 else g

/-- The 64 bytes of an L0 node: 16 counters of 28 bits, GEN, zero (Table 11.2). -/
def State.node0 (s : State) (n : Nat) : Nat :=
  ((List.range 16).map (fun i => s.hbm.ctr.get (n * 16 + i) * 2 ^ (28 * i))).sum + s.genOf (n * 16) * 2 ^ 448

/-- Four words as one block, the first word leftmost. -/
def block4 (a b c d : Nat) : BitVec 128 := BitVec.ofNat 128 (a % 2 ^ 32 * 2 ^ 96 + b % 2 ^ 32 * 2 ^ 64 + c % 2 ^ 32 * 2 ^ 32 + d % 2 ^ 32)

/-- Block `i` of a node's 64 bytes, its first byte leftmost. -/
def nodeBlock (v i : Nat) : BitVec 128 := BitVec.ofNat 128 (bytesNatBE (natBytes (v / 2 ^ (128 * i)) 16))

/-- The tag of a node: the leftmost 8 bytes of the CBC-MAC over its five blocks, as the number its bytes spell (R269). -/
def State.tagOf (s : State) (level n v : Nat) : Nat :=
  let e (x y : BitVec 128) : BitVec 128 := sm4 s.hbm.kt (x ^^^ y)
  let m := e (e (e (e (e 0 (block4 0x54524545 level n 0)) (nodeBlock v 0)) (nodeBlock v 1)) (nodeBlock v 2)) (nodeBlock v 3)
  bytesNat (natBytes (m >>> 64).toNat 8).reverse

/-- The bytes of a node as one number: counters at level 0, the tags of eight children above. -/
def State.nodeValue (s : State) : Nat → Nat → Nat
  | 0, n => s.node0 n
  | l + 1, n => ((List.range 8).map (fun c => s.tagOf l (n * 8 + c) (s.nodeValue l (n * 8 + c)) * 2 ^ (64 * c))).sum

/-- One byte of the reserved 256 MiB: a node's byte, unless it was overwritten; otherwise memory. -/
def State.reservedByte (s : State) (a : Nat) : Byte :=
  match nodeAt a with
  | some (l, n) =>
    if s.hbm.tampered.get (l * 2097152 + n) then s.byte a else BitVec.ofNat 8 (s.nodeValue l n / 2 ^ (8 * (a % 64)))
  | none => s.byte a

/-- The key of region `r` in generation `g` (R266). -/
def State.regionKey (s : State) (r g : Nat) : BitVec 128 := sm4 s.hbm.km (block4 0x53434B59 r g 0)

/-- The stored byte behind a plain byte of a line (R265). -/
def State.rawByte (s : State) (a : Nat) : Byte :=
  let l := lineOf a
  let j := a % 4096 / 16
  let g := s.genOf l
  let ks := sm4E8 (s.regionKey (scrOf a) g) (block4 l (s.hbm.ctr.get l) (0x53430000 + scrOf a * 256 + j) g)
  s.byte a ^^^ (ks >>> (8 * (15 - a % 16))).setWidth 8

/-- The bytes a read returns: memory, the reserved range unscrambled, or the raw view (R279). -/
def State.hbmBytes (s : State) (a : Nat) (raw : Bool) : Nat → List Byte
  | 0 => []
  | n + 1 =>
    (if reservedBase ≤ a then s.reservedByte a else if raw then s.rawByte a else s.byte a) :: s.hbmBytes (a + 1) raw n

/-- The pseudo-channel that holds an address has FAILED (R262). -/
def State.pcFailed (s : State) (a : Nat) : Bool :=
  let l := lineOf a
  s.bit (R.HBM_STACK_PCFAIL.PCFAIL (stackOfLine l)) (pcOfLine l)

/-- What a walk of the tree for a line finds, from the root store down (R269, Table 11.3): kind, level, node. `e` is what
the stacks and the on-chip stores report of this access. -/
def State.treeFinding (s : State) (l : Nat) (e : HbmErr) : Option (Nat × Nat × Nat) :=
  match e with
  | .node level kind => some (kind, level, nodeOf level l)
  | _ =>
    match [3, 2, 1, 0].find? (fun lv => s.pcFailed (nodeAddr lv (nodeOf lv l)) || decide (s.stackState 3 ≠ 2)) with
    | some lv => some (5, lv, nodeOf lv l)
    | none =>
      match [3, 2, 1, 0].find? (fun lv => s.hbm.tampered.get (lv * 2097152 + nodeOf lv l)) with
      | some lv => some (1, lv, nodeOf lv l)
      | none => none

/-- Integrity halt (R17, R270, R272): the finding is recorded, the NoC stops, HALT_N asserts; the event units stop and the
pins go to SAFE while RST_STATUS.HALT is set. -/
def State.integrityHalt (s : State) (kind level node : Nat) : State :=
  if s.on R.RST_STATUS.HALT then s
  else
    let s := ((s.put R.SCR_HALT_KIND.KIND kind).put R.SCR_HALT_KIND.LEVEL level).put R.SCR_HALT_NODE.NODE node
    let s := ((s.putB R.RST_LAST.HALTED true).put R.RST_LAST.HALTLEVEL level).put R.RST_LAST.HALTKIND kind
    let s := ((s.putB R.RST_STATUS.HALT true).leaseShow).put R.NOC_STATUS.RUN 0
    ({ s with haltN := true }).report (.integrity kind level node)

/-- What a target makes of a request: an answer, a hold (R274), silence after a halt (R270), or an answer to come. -/
inductive SrvOut where
  | answer (status detail : Nat) (data : List Byte)
  | held
  | silent
  | later
  deriving DecidableEq, Repr

/-- A write leaves a line's counter one higher: MAXCTR, NEARSAT and saturation follow (R268, R273, R276, R277). -/
def State.countWrite (s : State) (l : Nat) : State :=
  let c := s.hbm.ctr.get l + 1
  let r := l / 262144
  let s := { s with hbm := { s.hbm with ctr := s.hbm.ctr.set l c } }
  let old := s.g (R.SCR_REGION_MAXCTR.MAXCTR r)
  let s := if old ≤ 0x0F000000 && decide (0x0F000000 < c) then s.raise R.SCR_EVENTS.NEARSAT else s
  let s := if old < c then s.put (R.SCR_REGION_MAXCTR.MAXCTR r) c else s
  if c = ctrSat then
    if s.scrState r = 0 then (s.put (R.SCR_REGION_KEYSEL.STATE r) 1).raise R.SCR_EVENTS.REKEYSTART
    else if s.scrState r = 2 && decide (lineInScr l < s.g (R.SCR_REGION_BOUNDARY.BOUNDARY r)) then s.putB (R.SCR_REGION_KEYSEL.AGAIN r) true
    else s
  else s

/-- Is a line saturated, so that a write to it is held until a sweep has passed it (R274, R276)? -/
def State.saturated (s : State) (l : Nat) : Bool := decide (ctrSat ≤ s.hbm.ctr.get l)

/-- A write performed on memory (R268). In the reserved range no counter is used; bytes of a tree node are tampering. -/
def State.hbmStore (s : State) (a : Nat) (data : List Byte) : State :=
  let s := s.setBytes a data
  if reservedBase ≤ a then
    match nodeAt a with
    | some (l, n) => { s with hbm := { s.hbm with tampered := s.hbm.tampered.set (l * 2097152 + n) true } }
    | none => s
  else s.countWrite (lineOf a)

/-- An error the stack reports on a data access (R263). -/
def State.hbmErrCount (s : State) (a : Nat) (e : HbmErr) : State :=
  let k := stackOfLine (lineOf a) * 32 + pcOfLine (lineOf a)
  match e with
  | .corrected => s.bump (R.HBM_PC_ERR.CE k) 1
  | .dataUE => ((s.bump (R.HBM_PC_ERR.UE k) 1).raise R.HBM_EVENTS.UE).report (.hbmUE k)
  | _ => s

/-- A line that was read with an uncorrected error holds what the stack gave, which the spec leaves open: free values (R263). -/
def State.lineLost (s : State) (l : Nat) : State :=
  let d := s.freeBytes 4096
  d.2.setBytes (l * 4096) d.1

/-- A request that is denied (R278). -/
def State.scrDenied (s : State) : State := (s.bump R.SCR_ERRCNT.DENIED 1).raise R.SCR_EVENTS.DENIED

/-- The next member of a ring of `n` after the token at which `p` holds (R20): the token's own place first. -/
def ringNext (n token : Nat) (p : Nat → Bool) : Option Nat :=
  ((List.range n).map (fun i => (token + i) % n)).find? p

/-- A pseudo-channel controller has granted requester `i` of its ring of three: its token moves to the next (R20, R259). -/
def State.pcGrant (s : State) (pc i : Nat) : State := { s with hbm := { s.hbm with pcTok := s.hbm.pcTok.set pc ((i + 1) % 3) } }

/-- The pseudo-channel of a line, numbered stack × 32 + p. -/
def pcKey (l : Nat) : Nat := stackOfLine l * 32 + pcOfLine l

/-- The pseudo-channels that a walk of the tree uses are granted to the tree's traffic, level by level from the root. -/
def State.treeGrants (s : State) (l : Nat) : State :=
  [3, 2, 1, 0].foldl (fun s lv => s.pcGrant (pcKey (lineOf (nodeAddr lv (nodeOf lv l)))) 1) s

/-- A request to a stack that is not ON (R261). -/
def State.absentCount (s : State) : State := (s.bump R.HBM_ERRCNT.ABSENT 1).raise R.HBM_EVENTS.ABSENT

/-- A request accepted by its pseudo-channel controller (R261 to R279): absent stack, failed pseudo-channel, rights, tree
check, then the access; a write to a saturated line is held. Data read with an uncorrected error is delivered as the stack gives
it: free values (R263). -/
def State.hbmServe (s : State) (cls : Nat) (q : Req) (e : HbmErr) : State × SrvOut :=
  let l := lineOf q.addr
  let k := stackOfLine l
  let write := decide (q.op ≠ 0)
  let s := s.pcGrant (pcKey l) 0
  if s.stackState k ≠ 2 then (s.absentCount, .answer 5 1 [])
  else if s.pcFailed q.addr then (s, .answer 5 2 [])
  else if !s.hbmPermits cls q.addr write q.raw then (s.scrDenied, .answer 3 0 [])
  else if reservedBase ≤ q.addr then
    if write then (s.hbmStore q.addr (q.data.take q.len), .answer 0 0 []) else (s, .answer 0 0 (s.hbmBytes q.addr q.raw q.len))
  else
    match (if q.raw then none else s.treeFinding l e) with
    | some (kind, level, node) => (s.integrityHalt kind level node, .silent)
    | none =>
      let s := (if q.raw then s else s.treeGrants l).hbmErrCount q.addr e
      let ue := decide (e = .dataUE)
      if !write then
        let d := s.freeBytes q.len
        if ue then (d.2, .answer 0 0 d.1) else (s, .answer 0 0 (s.hbmBytes q.addr q.raw q.len))
      else if s.saturated l then (s.bump R.SCR_ERRCNT.HELD 1, .held)
      else
        let s := if ue && decide (q.len < 4096) then s.lineLost l else s
        (s.hbmStore q.addr (q.data.take q.len), .answer 0 0 [])

/-! ### The sweep (R273 to R277) -/

/-- SWEEP_GRANT: the idle engine of stack `k` grants a pending region by token (R273). -/
def State.sweepGrant (s : State) (k : Nat) : State :=
  match s.hbm.engine.get k with
  | some _ => s
  | none =>
    match ringNext 24 (s.hbm.token.get k) (fun i => decide (s.scrState (24 * k + i) = 1)) with
    | none => s
    | some i =>
      let r := 24 * k + i
      let s := { s with hbm := { s.hbm with engine := s.hbm.engine.set k (some r), token := s.hbm.token.set k ((i + 1) % 24) } }
      ((s.put (R.SCR_REGION_KEYSEL.STATE r) 2).put (R.SCR_REGION_BOUNDARY.BOUNDARY r) 0).setBit R.SCR_STATUS.SWEEPING k

/-- The highest counter of a region's lines. -/
def State.maxCounter (s : State) (r : Nat) : Nat :=
  s.hbm.ctr.foldl (fun m e => if e.1 / 262144 = r then max m e.2 else m) 0

/-- The sweep of a region ends: GEN + 1, the key slots change places, STEADY or, with AGAIN, PENDING again (R273, R276). -/
def State.sweepEnd (s : State) (k r : Nat) : State :=
  let again := s.on (R.SCR_REGION_KEYSEL.AGAIN r)
  let s := (s.bumpWrap (R.SCR_REGION_KEYSEL.GEN r) 1).put (R.SCR_REGION_KEYSEL.SLOT r) (1 - s.g (R.SCR_REGION_KEYSEL.SLOT r))
  let s := (s.put (R.SCR_REGION_BOUNDARY.BOUNDARY r) 0).putB (R.SCR_REGION_KEYSEL.AGAIN r) false
  let s := (s.put (R.SCR_REGION_KEYSEL.STATE r) (if again then 1 else 0)).raise R.SCR_EVENTS.REKEYDONE
  let s := if again then s.raise R.SCR_EVENTS.REKEYSTART else s
  let s := (s.clrBit R.SCR_STATUS.SWEEPING k).put (R.SCR_REGION_MAXCTR.MAXCTR r) (s.maxCounter r)
  { s with hbm := { s.hbm with engine := s.hbm.engine.set k none } }

/-- One group of 16 lines is swept: counters 0 under GEN + 1, BOUNDARY on by 16, the end at 262,144 (R273). -/
def State.sweepLines (s : State) (k r : Nat) : State :=
  let b := s.g (R.SCR_REGION_BOUNDARY.BOUNDARY r)
  let s := ((List.range 16).foldl (fun (s : State) i => s.pcGrant (pcKey (r * 262144 + b + i)) 2) s).treeGrants (r * 262144 + b)
  let s := { s with hbm := { s.hbm with ctr := s.hbm.ctr.keep (fun l => !(decide (r * 262144 + b ≤ l) && decide (l < r * 262144 + b + 16))) } }
  let s := s.put (R.SCR_REGION_BOUNDARY.BOUNDARY r) (b + 16)
  if b + 16 = 262144 then s.sweepEnd k r else s

/-! ### Initialisation and loss (R264, R267) -/

/-- The scrambler initialises stack `k` (R267): counters 0, generation 1, contents undefined, its regions STEADY. -/
def State.scrInitStack (s : State) (k : Nat) : State :=
  let s := s.forget k
  let mine (l : Nat) : Bool := decide (stackOfLine l = k)
  let s := { s with hbm := { s.hbm with
    ctr := s.hbm.ctr.keep (fun l => !mine l), hold := s.hbm.hold.set k [], engine := s.hbm.engine.set k none
    tampered := s.hbm.tampered.keep (fun t => !mine (t % 2097152 * 2 ^ (4 + 3 * (t / 2097152)))) } }
  let s := s.clrBit R.SCR_STATUS.SWEEPING k
  s.each (List.range 24) (fun s i =>
    let r := 24 * k + i
    ((s.wr (R.SCR_REGION_KEYSEL.reg r) 1#32).wr (R.SCR_REGION_BOUNDARY.reg r) 0#32).wr (R.SCR_REGION_MAXCTR.reg r) 0#32)

/-- New keys are drawn from the random source (R266, R267): free values. -/
def State.drawKeys (s : State) : State :=
  let a := s.free
  let b := a.2.free
  let c := b.2.free
  let d := c.2.free
  { d.2 with hbm := { d.2.hbm with km := a.1 ++ b.1, kt := c.1 ++ d.1 } }

/-- Stack `k` is lost (R264): its regions read ABSENT, its sweep ends, its contents are gone. -/
def State.stackLost (s : State) (k : Nat) : State :=
  let s := s.scrInitStack k
  s.each (List.range 24) (fun s i => s.put (R.SCR_REGION_KEYSEL.STATE (24 * k + i)) 3)

end Sys2Proof.Machine
end

