-- ==== Sys2Proof/Machine/Noc.lean ====
section
/-! DEFINITION. The network-on-chip (spec/12, R281 to R304): endpoints and decode, packets and routers, completion and
statistics, port states, region adapters, the column interfaces of the memory tier. Requests and responses travel router by
router; what a hardened unit asks for its own work is served within the step that needs it (log entry 20). -/

namespace Sys2Proof.Machine

/-! ### Endpoints (Tables 12.1 to 12.3) -/

/-- The initiator index of the event scheduler, whose capture units post (Table 12.3). -/
def iniCapture : Nat := 516
/-- The initiator index of the item ledger. -/
def iniLedger : Nat := 515
def iniSuper : Nat := 512
def iniConfig : Nat := 513
def iniScrub : Nat := 514
def iniHost : Nat := 517
def iniVasum : Nat := 518
def iniDebug : Nat := 519

/-- The class of an initiator (Table 11.4). -/
def classOf (ini : Nat) : Nat :=
  if ini < 512 then clsFABRIC
  else match ini with
    | 512 => clsSUPER
    | 513 => clsSUPER
    | 514 => clsSUPER
    | 517 => clsHOST
    | 518 => clsREMOTE
    | 519 => clsDEBUG
    | _ => clsHW

/-- The router of a column: (y div 2) × 8 + (x div 2) (R281). -/
def colRouter (c : Nat) : Nat := c / 16 / 2 * 8 + c % 16 / 2
/-- A column's place at its router: (y mod 2) × 2 + (x mod 2) (Table 12.1). -/
def colPlace (c : Nat) : Nat := c / 16 % 2 * 2 + c % 2
/-- The endpoint of region `g`'s adapter. -/
def regionEp (g : Nat) : Nat := colRouter (g % 256) * 16 + 2 * colPlace (g % 256) + g / 256
/-- The endpoint of the bank interface of bank `n`. -/
def bankEp (n : Nat) : Nat := colRouter (n / 16) * 16 + 8 + colPlace (n / 16)
/-- The endpoint of attachment point `p` (Table 12.2). -/
def apEp (p : Nat) : Nat :=
  let k := p % 8
  match p / 8 with
  | 0 => (56 + k) * 16 + 12
  | 1 => k * 16 + 12
  | 2 => if k < 6 then 8 * (k + 1) * 16 + 12 else if k = 6 then 8 * 16 + 13 else 48 * 16 + 13
  | _ => if k < 6 then (8 * (k + 1) + 7) * 16 + 12 else if k = 6 then 15 * 16 + 13 else 55 * 16 + 13
def csrEp : Nat := 447
def configEp : Nat := 462
def vasumEp : Nat := 974

/-- The endpoint of an initiator (Table 12.3). -/
def iniEp (ini : Nat) : Nat :=
  if ini < 512 then regionEp ini
  else match ini with
    | 512 => 446
    | 513 => 462
    | 514 => 463
    | 515 => 574
    | 516 => 590
    | 517 => 62
    | 518 => 974
    | _ => 14

/-- The initiator at an endpoint, if one is there. -/
def iniAt (ep : Nat) : Option Nat := (List.range 520).find? (fun i => decide (iniEp i = ep))

/-! ### Address decode (R283, Table 12.4) and request checks (R284) -/

/-- Where an address leads. -/
inductive Target4 where
  | hbm
  | bank
  | config
  | region (g : Nat)
  | tunnel
  | twinPath
  | csr
  deriving DecidableEq, Repr

/-- The row of Table 12.4 that an address matches. -/
def decodeAddr (a : Nat) : Option Target4 :=
  if a < hbmEnd then some .hbm
  else if 0x4000000000 ≤ a ∧ a < 0x4010000000 then some .bank
  else if 0x5000000000 ≤ a ∧ a < 0x5040000000 then some .config
  else if 0x6000000000 ≤ a ∧ a < 0x6200000000 then some (.region ((a - 0x6000000000) / 0x1000000))
  else if 0xC000000000 ≤ a ∧ a < 0xD000000000 then some .tunnel
  else if 0xD000000000 ≤ a ∧ a < 0xD100000000 then some .twinPath
  else if 0xF000000000 ≤ a ∧ a < 0xF100000000 then some .csr
  else none

/-- Does an address lie in the HBM or in a bank? -/
def inMemory (a : Nat) : Bool :=
  match decodeAddr a with
  | some .hbm | some .bank => true
  | _ => false

/-- The endpoint of a target. -/
def targetEp (t : Target4) (a : Nat) : Nat :=
  match t with
  | .hbm => apEp (apOfLine (lineOf a))
  | .bank => bankEp ((a - bankBase) / 0x10000)
  | .config => configEp
  | .region g => regionEp g
  | .tunnel => vasumEp
  | .twinPath => vasumEp
  | .csr => csrEp

/-- Is a request well formed (R284, with R5 and R235 for its target)? -/
def reqOk (t : Target4) (q : Req) : Bool :=
  decide (q.op ≤ 6) && decide (1 ≤ q.len) && decide (q.len ≤ 4096) && decide (q.addr % 4096 + q.len ≤ 4096)
    && (match t with
        | .bank => bankAccessOk q.op q.addr q.len
        | .csr => decide (q.op ≤ 2) && decide (q.len = 4) && decide (q.addr % 4 = 0)
        | _ => decide (q.op ≤ 2))

/-- May the class address the target at all (Table 12.4)? -/
def mayReach (cls : Nat) (t : Target4) : Bool :=
  match t with
  | .config => decide (cls = clsSUPER)
  | .tunnel => decide (cls ≠ clsREMOTE)
  | .csr => !(cls = clsFABRIC || cls = clsHW || cls = clsREMOTE)
  | _ => true

/-! ### Ports (Table 12.12) -/

def portOFF : Nat := 0
def portOPEN : Nat := 1
def portCLOSING : Nat := 2
def portDEAD : Nat := 3
def portFENCED : Nat := 4

def State.portState (s : State) (ep : Nat) : Nat := s.g (R.NOC_PORT_STATUS.STATE ep)

/-- The number of ports in a state, of those whose STATUS is listed. -/
def State.portsIn (s : State) (st : Nat) : Nat :=
  ((List.range 1024).filter (fun ep => s.portState ep = st)).length

/-- A port takes a state; NOC_STATUS counts the DEAD and the FENCED ones. -/
def State.setPort (s : State) (ep st : Nat) : State :=
  let old := s.portState ep
  let s := s.put (R.NOC_PORT_STATUS.STATE ep) st
  let shift (s : State) (f : Field) (code : Nat) : State :=
    if old ≠ code && decide (st = code) then s.bump f 1
    else if old = code && decide (st ≠ code) then
      (if s.g f = 255 then s.put f (min 255 (s.portsIn code)) else s.put f (s.g f - 1)) else s
  shift (shift s R.NOC_STATUS.DEADPORTS portDEAD) R.NOC_STATUS.FENCEDPORTS portFENCED

/-- The answer a request to a port gets from its state, none when it is delivered. -/
def portAnswer (st : Nat) : Option Nat :=
  match st with
  | 1 => none
  | 3 => some 7
  | 4 => some 8
  | _ => some 6

/-! ### Statistics (R304) -/

/-- The histogram bin of a latency in ns. -/
def histBin (ns : Nat) : Nat :=
  if ns < 128 then 0 else if 8192 ≤ ns then 7 else ((List.range 7).filter (fun k => 1 ≤ k && decide (128 * 2 ^ (k - 1) ≤ ns))).length

/-- A completion counts in its initiator's statistics, unless they are frozen. -/
def State.nocCount (s : State) (i : Issued) (status nbytes : Nat) : State :=
  if s.on R.NOC_STATCTL.FREEZE then s
  else
    let ns := (s.tick - i.tick) * 4
    let s := s.bump (R.NOC_INI_HIST.HISTk i.ini (histBin ns)) 1
    let s := if s.g (R.NOC_INI_MAXLAT.MAXLAT i.ini) < ns then s.put (R.NOC_INI_MAXLAT.MAXLAT i.ini) (min ns (2 ^ 32 - 1)) else s
    let s := s.bump (R.NOC_INI_RDUNITS.RDUNITS i.ini) ((nbytes + 31) / 32)
    let s := if status ≠ 0 then s.bump (R.NOC_INI_ERR.ERRRSP i.ini) 1 else s
    if status = 7 then s.bump (R.NOC_INI_ERR.DEADHIT i.ini) 1 else s

/-! ### Region adapters (R289 to R292) -/

def State.adapter (s : State) (g : Nat) : Adapter := s.noc.adapters.get g
def State.setAdapter (s : State) (g : Nat) (a : Adapter) : State :=
  { s with noc := { s.noc with adapters := s.noc.adapters.set g a } }

/-- The units a request reserves in the response store (R289). -/
def reserveUnits (op len : Nat) : Nat := if op = 0 then (len + 31) / 32 + 1 else if op ≤ 2 then 1 else 2

/-- The units of context `c` reserved, and the adapter's USED field follows. -/
def State.reserve (s : State) (g c : Nat) (d : Int) : State :=
  let a := s.adapter g
  let s := s.setAdapter g { a with used := a.used.upd c (fun u => ((u : Int) + d).toNat) }
  s.put (R.NOC_REGION_CFG.USED g) (((s.adapter g).used.map (·.2)).sum)

/-- 32 bytes as one beat, byte b at bits 8b + 7 : 8b, padded with zero (Table 12.9). -/
def beatOf (l : List Byte) : BitVec 256 := BitVec.ofNat 256 (bytesNat (l.take 32))

/-- Bytes cut into beats. -/
def beatsOf : Nat → List Byte → List (BitVec 256)
  | 0, _ => []
  | n + 1, l => if l.isEmpty then [] else beatOf l :: beatsOf n (l.drop 32)

/-- The active context of region `g`, if it has one (CTX_REGIONn_STATUS). -/
def State.activeCtx (s : State) (g : Nat) : Option Nat :=
  if s.on (R.CTX_REGION_STATUS.HASACT g) then some (s.g (R.CTX_REGION_STATUS.ACT g)) else none

/-- A response reaches a region's adapter (Table 12.9): queued for its context, or discarded when its request is older than a
cold switch or a fabric reset (R136, R290). -/
def State.adapterResponse (s : State) (i : Issued) (status detail : Nat) (data : List Byte) : State :=
  let g := i.ini
  let units := reserveUnits i.op i.len
  if i.stale then (s.reserve g i.ctx (-units)).bump (R.CTX_REGION_STATUS.DISCARD g) 1
  else
    let hdr : BitVec 256 := BitVec.ofNat 256 (i.ftag % 256 + status % 16 * 2 ^ 8 + detail % 256 * 2 ^ 12 + (i.len - 1) * 2 ^ 20)
    let a := s.adapter g
    s.setAdapter g { a with rsp := a.rsp ++ [{ beats := hdr :: beatsOf 128 data, units := units, ctx := some i.ctx }] }

/-- The responses queued for context `c` are discarded and counted (R134, R136, R290). -/
def State.adapterDiscard (s : State) (g c : Nat) : State :=
  let a := s.adapter g
  let mine := a.rsp.filter (fun p => p.ctx = some c)
  let s := s.setAdapter g { a with rsp := a.rsp.filter (fun p => !(p.ctx = some c)) }
  (s.reserve g c (-((mine.map (·.units)).sum : Nat))).bump (R.CTX_REGION_STATUS.DISCARD g) mine.length

/-- Responses that come later for what context `c` has asked are discarded as they arrive (R136, R290). -/
def State.adapterStale (s : State) (g c : Nat) : State :=
  { s with noc := { s.noc with issued := s.noc.issued.map (fun i => if i.ini = g && decide (i.ctx = c) then { i with stale := true } else i) } }

/-! ### Completion (R288, R301) -/

/-- The request still waited for that a response with a tag answers: an initiator has one at most under each tag. -/
def State.issuedOf (s : State) (ini tag : Nat) : Option Issued := s.noc.issued.find? (fun i => i.ini = ini && decide (i.tag = tag))

/-- The answer to a lane data mover's request (R326, R327). Tags 4n + j are lane n's reads, 192 + 4n + j its posts: an error
counts, and what a read brings waits in its block's place unless that has been replaced by fill. -/
def State.laneResponse (s : State) (tag : Nat) (stale : Bool) (status : Nat) (data : List Byte) : State :=
  if tag < 192 then
    if stale then s
    else
      let n := tag / 4
      let s := if status = 0 then s else (s.bump (R.LANE_LANE_ERRCNT.TXUNDER n) 1).raise R.LANE_EVENTS.TXUNDER
      { s with lanes := s.lanes.upd n (fun l => { l with txq := l.txq.map (fun b =>
          if b.tag = tag then { b with got := some (if status = 0 then some data else none) } else b) }) }
  else if status = 0 then s
  else (s.bump (R.LANE_LANE_ERRCNT.POSTERR ((tag - 192) / 4)) 1).raise R.LANE_EVENTS.POSTERR

/-- What came for a request of the Vasum link layer, the host or the debug access port waits for its asker. -/
def State.arrive (s : State) (i : Issued) (status detail : Nat) (data : List Byte) : State :=
  if i.ini = iniHost && i.stale then s
  else if i.ini = iniVasum || i.ini = iniHost || i.ini = iniDebug then
    { s with noc := { s.noc with arrived := s.noc.arrived ++ [(i.ini * 4096 + i.tag, status, detail, data)] } }
  else s

/-- A request is completed at its initiator with a status: counted, and handed to whoever asked. A capture unit's post, whose
`ftag` is the unit, sets POSTERR for an error (R69). -/
def State.complete (s : State) (i : Issued) (status detail : Nat) (data : List Byte) : State :=
  let s := { s with noc := { s.noc with issued := s.noc.issued.erase i } }
  let s := s.nocCount i status data.length
  if i.ini < 512 then s.adapterResponse i status detail data
  else if i.ini = iniVasum && decide (i.tag < 384) then s.laneResponse i.tag i.stale status data
  else if i.ini = iniCapture then (if status = 0 then s else s.raise (R.EVT_CAP_STATUS.POSTERR i.ftag))
  else (s.arrive i status detail data).answerWith status (if status = 5 then [BitVec.ofNat 8 detail] else data)

/-- A packet of a request's header (Table 12.5) lies at a router's local input, or waits in the endpoint behind it. -/
def State.place (s : State) (p : Packet) : State := { s with noc := { s.noc with pkts := s.noc.pkts ++ [p] } }

/-- The flits of a packet: a header flit with the first 112 bytes, then 128 bytes each (R285). -/
def flits (p : Packet) : Nat := 1 + (p.data.length - 112 + 127) / 128

/-- The flits held in an input buffer of a router, by class (R287). -/
def State.bufferUse (s : State) (router port : Nat) (rsp : Bool) : Nat :=
  ((s.noc.pkts.filter (fun p => p.router = router && decide (p.port = port) && (p.isRsp == rsp))).map flits).sum

/-- The member of the ring of R328 that a request of initiator 518 comes from: lane n, or 48 for the Vasum link layer. -/
def shareKey (p : Packet) : Nat := if p.tag < 192 then p.tag / 4 else if p.tag < 384 then (p.tag - 192) / 4 else 48

/-- Endpoint 974 grants one waiting request by rotating token (R328, R20), once its packet has room at the router's input; the
request takes the epoch in force then (R296). -/
def State.shareGrant (s : State) : State :=
  let first (k : Nat) : Option Packet := s.noc.share.find? (fun p => shareKey p = k)
  match (ringNext 49 s.noc.shareTok (fun k => (first k).isSome)).bind (fun k => (first k).map (fun p => (k, p))) with
  | none => s
  | some (k, p) =>
    if 36 < s.bufferUse p.router p.port false + flits p then s
    else
      ({ s with noc := { s.noc with share := s.noc.share.erase p, shareTok := (k + 1) % 49 } } : State).place
        { p with epoch := decide (s.g R.NOC_EPOCH.INJ = 1) }

/-- The requests at endpoint 974 enter the mesh as far as there is room. -/
def State.shareFill (s : State) : State := s.each (List.range s.noc.share.length) (fun s _ => s.shareGrant)

/-- A WRITEP was performed (Table 12.6): it gets no response; its initiator forgets it, the unit that a region's adapter
reserved for one is free, and a tunnelled one is over for the link layer (R361). -/
def State.postedDone (s : State) (q : Req) : State :=
  let s := match s.issuedOf q.ini q.tag with
    | some i => { s with noc := { s.noc with issued := s.noc.issued.erase i } }
    | none => s
  if q.ini < 512 then s.reserve q.ini q.ctx (-1)
  else if q.ini = iniVasum && decide (512 ≤ q.tag) then
    { s with noc := { s.noc with arrived := s.noc.arrived ++ [(q.ini * 4096 + q.tag, 0, 0, [])] } }
  else s

/-- A response packet is placed at the target's router (R288): none for a successful WRITEP (Table 12.6). -/
def State.respond (s : State) (ep : Nat) (q : Req) (status detail : Nat) (data : List Byte) : State :=
  if q.op = 2 && decide (status = 0) then s.postedDone q
  else
    s.place { addr := q.addr, dest := iniEp q.ini, src := iniEp q.ini, tag := q.tag, ctx := q.ctx
              posted := decide (q.op = 2), len := if status = 0 then q.len else detail, op := status, isRsp := true
              epoch := decide (s.g R.NOC_EPOCH.INJ = 1), iclass := classOf q.ini, data := data
              router := ep / 16, port := 4 + ep % 16, ini := q.ini }

/-- Would a tag serve a new request of an initiator: neither in use nor resting (R301)? -/
def State.tagFree (s : State) (ini t : Nat) : Bool :=
  (s.issuedOf ini t).isNone && !s.noc.quarantine.any (fun e => decide (e.1 = ini * 4096 + t) && decide (s.tick < e.2))

/-- The tag of a new request: the one asked for where it is free, else the lowest that is. -/
def State.pickTag (s : State) (ini want : Nat) : Nat :=
  if s.tagFree ini want then want
  else ((List.range (s.noc.issued.length + s.noc.quarantine.length + 1)).find? (s.tagFree ini)).getD want

/-- A request is known to its initiator from its issue until its completion; the data it sends is counted (R304). -/
def State.issue (s : State) (q : Req) (ftag : Nat) : State :=
  let s := if (q.op = 1 || q.op = 2) && !s.on R.NOC_STATCTL.FREEZE then s.bump (R.NOC_INI_WRUNITS.WRUNITS q.ini) ((q.len + 31) / 32) else s
  let i : Issued := { ini := q.ini, tag := q.tag, op := q.op, len := q.len, addr := q.addr, ctx := q.ctx, ftag := ftag, tick := s.tick }
  { s with noc := { s.noc with issued := s.noc.issued ++ [i] } }

/-- The injecting endpoint answers a request itself: it never enters the mesh (R283). -/
def State.answerAtOnce (s : State) (q : Req) (ftag status : Nat) : State :=
  s.complete { ini := q.ini, tag := q.tag, op := q.op, len := q.len, addr := q.addr, ctx := q.ctx, ftag := ftag, tick := s.tick } status 0 []

/-- A request enters the mesh at its initiator's router (R285, R286); at endpoint 974, in its turn (R328). -/
def State.inject (s : State) (q : Req) (ftag ep : Nat) : State :=
  let p : Packet := { addr := q.addr, dest := ep, src := iniEp q.ini, tag := q.tag, ctx := q.ctx
                      posted := decide (q.op = 2), len := q.len, op := q.op
                      epoch := decide (s.g R.NOC_EPOCH.INJ = 1), iclass := classOf q.ini
                      data := if q.op = 0 then [] else q.data.take q.len
                      router := iniEp q.ini / 16, port := 4 + iniEp q.ini % 16, ini := q.ini, raw := q.raw }
  let s := s.issue q ftag
  if q.ini = iniVasum then ({ s with noc := { s.noc with share := s.noc.share ++ [p] } } : State).shareFill else s.place p

/-- A request by its initiator (R283, R284): a fenced endpoint's is answered FENCED (R302), in a halt none enters (R17), and one
that names no destination, that its class may not make or that is malformed is answered at once; every other enters the mesh.
Its tag is free (R301); `ftag` is the fabric's own tag of a region's request. -/
def State.request (s : State) (q : Req) (ftag : Nat) : State :=
  if s.portState (iniEp q.ini) = portFENCED then s.answerAtOnce q ftag 8
  else if s.g R.NOC_STATUS.RUN = 0 then s.answerAtOnce q ftag 6
  else match decodeAddr q.addr with
    | none => (s.bump R.NOC_ERRCNT.DECERR 1).answerAtOnce q ftag 2
    | some t =>
      if !mayReach (classOf q.ini) t then s.answerAtOnce q ftag 3
      else if !reqOk t q then s.answerAtOnce q ftag 4
      else s.inject q ftag (targetEp t q.addr)

/-- The request that a packet's header spells. -/
def reqOf (p : Packet) : Req :=
  { ini := p.ini, op := p.op, addr := p.addr, len := p.len, tag := p.tag, ctx := p.ctx, data := p.data, raw := p.raw }

/-! ### Targets that answer at once -/

/-- A bank's reply as a service outcome: STAT other than 0 is answered with an error response (R240). -/
def bankReply (r : State × Nat × List Byte) : State × SrvOut := (r.1, if r.2.1 = 0 then .answer 0 0 r.2.2 else .answer 5 r.2.1 [])

/-- A request to HBM or to a bank, served (R240, R261 to R279). -/
def State.serveMemory (s : State) (cls : Nat) (t : Target4) (q : Req) (e : HbmErr) : State × SrvOut :=
  match t with
  | .hbm => s.hbmServe cls q e
  | _ =>
    bankReply (s.bankServe q.op q.addr q.len q.data (decide (cls = clsSUPER)))

/-- A target has an answer to a request that its port still owes; one that the port has answered itself, being DEAD or FENCED
by now, is discarded and counted in LATE (R299). A posted write of a hardened unit, tag 4096, has had its answer. -/
def State.settle (s : State) (ep : Nat) (q : Req) (status detail : Nat) (data : List Byte) : State :=
  match s.noc.owed.find? (fun o => o.dest = ep && decide (o.req = q)) with
  | some o => ({ s with noc := { s.noc with owed := s.noc.owed.erase o } } : State).respond ep q status detail data
  | none => if q.tag = 4096 then s else s.bump (R.NOC_PORT_STATUS.LATE ep) 1

/-- A held write is released and performed (R275), or answered with an error when its pseudo-channel has FAILED meanwhile
(R262): its response follows. -/
def State.releaseHeld (s : State) (k : Nat) : State :=
  let h := s.hbm.hold.get k
  let s := { s with hbm := { s.hbm with hold := s.hbm.hold.set k [] } }
  h.foldl (fun s q =>
    if s.saturated (lineOf q.addr) then { s with hbm := { s.hbm with hold := s.hbm.hold.upd k (· ++ [q]) } }
    else
      let bad := s.pcFailed q.addr
      let s := if bad then s else s.hbmStore q.addr (q.data.take q.len)
      s.settle (apEp (apOfLine (lineOf q.addr))) q (if bad then 5 else 0) (if bad then 2 else 0) []) s

/-- Requests that waited at the attachment points of stack `k` go on in order, until one finds the buffer full (R275). -/
def State.releaseWaiting (s : State) (k : Nat) : State :=
  (List.range 8).foldl (fun s i =>
    let ap := 8 * k + i
    let w := s.hbm.waiting.get ap
    let s := { s with hbm := { s.hbm with waiting := s.hbm.waiting.set ap [] } }
    (w.foldl (fun (r : State × Bool) q =>
      let s := r.1
      if r.2 then ({ s with hbm := { s.hbm with waiting := s.hbm.waiting.upd ap (· ++ [q]) } }, true)
      else if (s.saturated (lineOf q.addr)) && decide (q.op ≠ 0) && decide (256 ≤ (s.hbm.hold.get k).length) then
        ({ s with hbm := { s.hbm with waiting := s.hbm.waiting.upd ap (· ++ [q]) } }, true)
      else
        let o := s.hbmServe (classOf q.ini) q .none
        match o.2 with
        | .answer st d data => (o.1.settle (apEp ap) q st d data, false)
        | .held => ({ o.1 with hbm := { o.1.hbm with hold := o.1.hbm.hold.upd k (· ++ [q]) } }, false)
        | _ => (o.1, false)) (s, false)).1) s

/-- A request served at an attachment point, with its response, its hold, or its wait behind a full buffer (R275). -/
def State.serveHbmPort (s : State) (q : Req) (e : HbmErr) : State :=
  let ap := apOfLine (lineOf q.addr)
  let k := stackOfLine (lineOf q.addr)
  let owe (s : State) : State := { s with noc := { s.noc with owed := s.noc.owed ++ [{ dest := apEp ap, req := q, suspended := true }] } }
  if !(s.hbm.waiting.get ap).isEmpty then
    owe { s with hbm := { s.hbm with waiting := s.hbm.waiting.upd ap (· ++ [q]) } }
  else
    let r := s.hbmServe (classOf q.ini) q e
    match r.2 with
    | .answer st d data => r.1.respond (apEp ap) q st d data
    | .held =>
      if 256 ≤ (s.hbm.hold.get k).length then
        owe (({ s with hbm := { s.hbm with waiting := s.hbm.waiting.upd ap (· ++ [q]) } } : State).raise R.SCR_EVENTS.HOLDFULL)
      else owe { r.1 with hbm := { r.1.hbm with hold := r.1.hbm.hold.upd k (· ++ [q]) } }
    | _ => r.1

/-- A service outcome as the answer to a request made within one step: a held write is answered at once and waits in the buffer
as a posted one, under a tag no request has, so that no second answer follows it. -/
def directReply (q : Req) (r : State × SrvOut) : State × Nat × List Byte :=
  match r.2 with
  | .answer st _ data => (r.1, st, data)
  | .held =>
    ({ r.1 with hbm := { r.1.hbm with hold := r.1.hbm.hold.upd (stackOfLine (lineOf q.addr)) (· ++ [{ q with op := 2, tag := 4096 }]) } }, 0, [])
  | _ => (r.1, 6, [])

/-- What a request's port answers in its target's place (Table 12.12), none when the request is delivered. A request to a stack
that is not ON counts as ABSENT and gets that cause, where the port would say CLOSED for the same reason (R261, log entry 21). -/
def State.targetGate (s : State) (t : Target4) (q : Req) : State × Option (Nat × Nat) :=
  let ans := portAnswer (s.portState (targetEp t q.addr))
  if t = .hbm && decide (s.stackState (stackOfLine (lineOf q.addr)) ≠ 2) then
    (s.absentCount, some (if ans = some 7 then (7, 0) else if ans = some 8 then (8, 0) else (5, 1)))
  else (s, ans.map (fun st => (st, 0)))

/-- What a hardened endpoint's request brings when its way through the mesh is part of its own step: the state, the status and
the data. A region, a tunnel or a CSR is never the target of one. -/
def State.directServe (s : State) (ini : Nat) (q : Req) : State × Nat × List Byte :=
  if s.portState (iniEp ini) = portFENCED then (s, 8, [])
  else if s.g R.NOC_STATUS.RUN = 0 then (s, 6, [])
  else match decodeAddr q.addr with
    | none => (s.bump R.NOC_ERRCNT.DECERR 1, 2, [])
    | some t =>
      if !reqOk t q then (s, 4, [])
      else match t with
        | .hbm | .bank =>
          (match s.targetGate t q with
           | (s, some x) => (s, x.1, [])
           | (s, none) => directReply q (s.serveMemory (classOf ini) t q .none))
        | _ => (s, 3, [])

/-- Such a request in its initiator's statistics: its time in the mesh counts as 0 ns (R304, log entry 20). -/
def State.direct (s : State) (ini : Nat) (q : Req) : State × Nat × List Byte :=
  let r := s.directServe ini q
  let t := if (q.op = 1 || q.op = 2) && !s.on R.NOC_STATCTL.FREEZE then r.1.bump (R.NOC_INI_WRUNITS.WRUNITS ini) ((q.len + 31) / 32) else r.1
  (if q.op = 2 && decide (r.2.1 = 0) then t
   else t.nocCount { ini := ini, op := q.op, len := q.len, addr := q.addr, tick := s.tick } r.2.1 r.2.2.length, r.2)

/-- A posted write of a hardened unit (R69, R173): the state and the status of its answer. -/
def State.postWrite (s : State) (ini a : Nat) (data : List Byte) : State × Nat :=
  let r := s.direct ini { ini := ini, op := 2, addr := a, len := data.length, data := data }
  (r.1, r.2.1)

/-! ### Routers (R285 to R297) -/

/-- The route entry of a router for a destination router in a bank (R295). -/
def State.routeEntry (s : State) (router bank dst : Nat) : Nat :=
  (s.rw (R.NOC_RT.reg (router * 2 + bank) (dst / 8))).toNat / 16 ^ (dst % 8) % 16

/-- The output a route code names at a router: 0 N, 1 E, 2 S, 3 W, 4 LOCAL; none for an invalid code. -/
def routeOut (code router dst : Nat) : Option Nat :=
  match code with
  | 0 =>
    if router = dst then some 4
    else if router % 8 < dst % 8 then some 1
    else if dst % 8 < router % 8 then some 3
    else if router / 8 < dst / 8 then some 0 else some 2
  | 1 => some 4
  | 2 => some 0
  | 3 => some 1
  | 4 => some 2
  | 5 => some 3
  | _ => none

/-- The router beyond an output; y grows to the north. None at the edge of the mesh. -/
def neighbour (router out : Nat) : Option Nat :=
  match out with
  | 0 => if router / 8 < 7 then some (router + 8) else none
  | 1 => if router % 8 < 7 then some (router + 1) else none
  | 2 => if 0 < router / 8 then some (router - 8) else none
  | 3 => if 0 < router % 8 then some (router - 1) else none
  | _ => none

/-- The input port at which a packet sent from output `out` arrives. -/
def farPort (out : Nat) : Nat := (out + 2) % 4

/-- The output a packet takes where it stands: 0 to 3, or 4 + p for the LOCAL output to port p. -/
def State.outOf (s : State) (p : Packet) : Option Nat :=
  (routeOut (s.routeEntry p.router p.epoch.toNat (p.dest / 16)) p.router (p.dest / 16)).map (fun o => if o = 4 then 4 + p.dest % 16 else o)

/-- The packet at the head of an input buffer of a class. -/
def State.headOf (s : State) (router port : Nat) (rsp : Bool) : Option Packet :=
  s.noc.pkts.find? (fun p => p.router = router && decide (p.port = port) && (p.isRsp == rsp))

/-- Has what lies beyond a router's output room for a packet: the next buffer of its class, or an endpoint (R287, R288)? -/
def State.roomBeyond (s : State) (router out : Nat) (p : Packet) : Bool :=
  if 4 ≤ out then true
  else match neighbour router out with
    | some nx => decide (s.bufferUse nx (farPort out) p.isRsp + flits p ≤ 36)
    | none => false

/-- The packet a router output would forward for a class: by rotating token in ring order N, E, S, W, local 0–15, of the
heads that leave by this output and for which there is room beyond (R287, R293). -/
def State.candidate (s : State) (router out : Nat) (rsp : Bool) : Option (Nat × Packet) :=
  let ok (port : Nat) : Bool :=
    match s.headOf router port rsp with
    | some p => decide (s.outOf p = some out) && s.roomBeyond router out p
    | none => false
  match ringNext 20 (s.noc.token.get (router * 128 + out * 4 + rsp.toNat)) ok with
  | some port => (s.headOf router port rsp).map (fun p => (port, p))
  | none => none

/-- The first occurrence of a packet is removed. -/
def dropOne (l : List Packet) (p : Packet) : List Packet := l.erase p

/-- Does a router hold a packet of the epoch that is not injected (R297)? -/
def State.holdsOld (s : State) (router : Nat) : Bool :=
  s.noc.pkts.any (fun p => p.router = router && (p.epoch != decide (s.g R.NOC_EPOCH.INJ = 1)))

/-- What a router output grants (R293): the two classes in turn, each by its own token. The class, the input and the packet. -/
def State.granted (s : State) (router out : Nat) : Option (Bool × Nat × Packet) :=
  let first := decide (s.noc.token.get (router * 128 + out * 4 + 2) = 1)
  match s.candidate router out first with
  | some x => some (first, x)
  | none => (s.candidate router out (!first)).map (fun x => (!first, x))

/-- A packet leaves its router by an output: the tokens move on (R20), and what waits at endpoint 974 may follow. -/
def State.leave (s : State) (router out : Nat) (cls : Bool) (port : Nat) (p : Packet) : State :=
  let tk := router * 128 + out * 4
  let s := { s with noc := { s.noc with
    token := (s.noc.token.set (tk + cls.toNat) ((port + 1) % 20)).set (tk + 2) (!cls).toNat
    pkts := dropOne s.noc.pkts p } }
  (s.putB (R.NOC_ROUTER_STATUS.OLDPKT router) (s.holdsOld router)).shareFill

/-- A packet whose header fails its check is discarded, counted and reported (R286). -/
def State.headerFail (s : State) (router : Nat) : State :=
  (((s.bump (R.NOC_ROUTER_STATUS.HDRERR router) 1).bump R.NOC_ERRCNT.HDRERR 1).raise R.NOC_EVENTS.HDRCHK).report (.nocHeader router)

/-- A packet reaches the next router. -/
def State.nextRouter (s : State) (nx out : Nat) (p : Packet) : State :=
  let s := s.place { p with router := nx, port := farPort out }
  s.putB (R.NOC_ROUTER_STATUS.OLDPKT nx) (s.holdsOld nx)

/-- NOC_RESPONSE (R288): a response that has reached its initiator's endpoint is accepted and completes the request; one for
no waiting request, or at a port that takes none, is discarded and counted in LATE (Table 12.12, R301). -/
def State.takeResponse (s : State) (ini tag : Nat) : State :=
  let ep := iniEp ini
  match s.noc.inbox.find? (fun p => p.ini = ini && decide (p.tag = tag)) with
  | none => s
  | some p =>
    let s := { s with noc := { s.noc with inbox := dropOne s.noc.inbox p } }
    if p.op = 1 then s
    else match s.issuedOf ini tag with
      | none => s.bump (R.NOC_PORT_STATUS.LATE ep) 1
      | some i =>
        if s.portState ep = portOFF then s.bump (R.NOC_PORT_STATUS.LATE ep) 1
        else s.complete i p.op (if p.op = 0 then 0 else p.len) p.data

/-! ### Timeouts and reclaim (R299 to R303) -/

/-- Every request a port owes is answered by the router with a status. -/
def State.answerOwed (s : State) (ep status : Nat) : State :=
  let mine := s.noc.owed.filter (fun o => o.dest = ep)
  let s := { s with noc := { s.noc with owed := s.noc.owed.filter (fun o => !(o.dest = ep)) } }
  mine.foldl (fun s o => s.respond ep o.req status 0 []) s

/-- TARGET_TIMEOUT (R299): a port that owes an answer past TGT becomes DEAD. -/
def State.targetTimeout (s : State) (ep : Nat) : State :=
  if s.noc.owed.any (fun o => o.dest = ep && !o.suspended) && (s.portState ep = portOPEN || s.portState ep = portCLOSING) then
    ((((s.setPort ep portDEAD).bump (R.NOC_PORT_STATUS.DEADCNT ep) 1).raise R.NOC_EVENTS.DEAD).report (.portDead ep)).answerOwed ep 7
  else s

/-- INITIATOR_TIMEOUT (R301): the request is completed TIMEOUT by its initiator, and its tag rests for 2 × INI. -/
def State.initiatorTimeout (s : State) (ini tag : Nat) : State :=
  match s.issuedOf ini tag with
  | none => s
  | some i =>
    let s := (s.complete i 9 0 []).raise R.NOC_EVENTS.TIMEOUT
    { s with noc := { s.noc with quarantine := s.noc.quarantine ++ [(ini * 4096 + tag, s.tick + 2 * s.g R.NOC_TMO.INI * 250)] } }

/-- WAIT (R300): after each TGT of suspension the port sends the initiators of its suspended requests an interim WAIT. -/
def State.sendWait (s : State) (ep : Nat) : State :=
  (s.noc.owed.filter (fun o => o.dest = ep && o.suspended)).foldl (fun s o => s.respond ep { o.req with op := 0 } 1 0 []) s

/-- Does an endpoint lie at this port (Tables 12.1 to 12.3)? -/
def epExists (ep : Nat) : Bool :=
  decide (ep % 16 < 12) || (List.range 32).any (fun k => decide (apEp k = ep))
    || [446, 447, 462, 463, 574, 590, 62, 974, 14].contains ep

/-- NOC_RECLAIM (R302): the port is fenced, what it owes is answered FENCED, what it waits for is completed FENCED. A port with no
endpoint stays OFF (R282). -/
def State.nocReclaim (s : State) (ep : Nat) : State :=
  if !epExists ep then s
  else
  let s := (s.setPort ep portFENCED).answerOwed ep 8
  let s := match iniAt ep with
    | some ini => (s.noc.issued.filter (fun (i : Issued) => i.ini = ini)).foldl (fun (s : State) i => s.complete i 8 0 []) s
    | none => s
  s.raise R.NOC_EVENTS.FENCED

/-- The power domain of an endpoint (R298): PD4 for hardened ones, PD6 for the host path. -/
def epDomain (ep : Nat) : Nat :=
  let p := ep % 16
  let r := ep / 16
  let col (j : Nat) : Nat := (r / 8 * 2 + j / 2) * 16 + r % 8 * 2 + j % 2
  if p < 8 then logicDomain (col (p / 2) + p % 2 * 256)
  else if p < 12 then 39 + bankQuad (col (p - 8) * 16)
  else if p < 14 then
    match (List.range 32).find? (fun k => decide (apEp k = ep)) with
    | some k => 7 + k / 8
    | none => 4
  else if ep = 62 then 6 else 4

/-- REVIVE (R299): a port leaves DEAD or FENCED, to the state its domain gives it. -/
def State.revive (s : State) (ep : Nat) : State :=
  if s.portState ep = portDEAD || s.portState ep = portFENCED then
    s.setPort ep (if s.pdOn (epDomain ep) && epExists ep then portOPEN else portOFF)
  else s

/-- PORT_CLOSE_COMPLETE (R298): a CLOSING port with nothing owed and nothing waited for becomes OFF. -/
def State.portClosed (s : State) (ep : Nat) : State :=
  let idle := !s.noc.owed.any (fun o => o.dest = ep)
    && (match iniAt ep with
        | some ini => !s.noc.issued.any (fun i => i.ini = ini)
        | none => true)
  if s.portState ep = portCLOSING && idle then (s.setPort ep portOFF).raise R.NOC_EVENTS.CLOSED else s

/-- Every endpoint of a domain begins to close (R298). -/
def State.closePorts (s : State) (eps : List Nat) : State :=
  s.each eps (fun s ep => if s.portState ep = portOPEN then s.setPort ep portCLOSING else s)

/-- Every endpoint of a domain opens (R298): a DEAD port leaves that state at power-up of its domain (R299), a FENCED one stays
so until REVIVE (R302). -/
def State.openPorts (s : State) (eps : List Nat) : State :=
  s.each eps (fun s ep => if epExists ep && decide (s.portState ep ≠ portFENCED) then s.setPort ep portOPEN else s)

/-- The endpoints of a power domain. -/
def domainPorts (pd : Nat) : List Nat := (List.range 1024).filter (fun ep => epExists ep && decide (epDomain ep = pd))

/-! ### Epochs (R296, R297) -/

/-- The walk from a router to a destination in a bank: 0 when it arrives, else the code of Table 12.11. -/
def State.walk (s : State) (bank dst : Nat) : Nat → Nat → Bool → Nat
  | 0, router, _ => if router = dst ∧ routeOut (s.routeEntry router bank dst) router dst = some 4 then 0 else 3
  | k + 1, router, turned =>
    match routeOut (s.routeEntry router bank dst) router dst with
    | none => 2
    | some 4 => if router = dst then 0 else 3
    | some out =>
      if out = 3 && turned then 4
      else match neighbour router out with
        | none => 5
        | some nx => s.walk bank dst k nx (turned || decide (out ≠ 3))

/-- The lowest refusal code of Table 12.11 that the idle bank meets, 0 for none. -/
def State.flipCheck (s : State) : Nat :=
  if !s.on R.NOC_EPOCH.DRAINED then 1
  else
    let bank := 1 - s.g R.NOC_EPOCH.INJ
    let codes := (List.range 64).flatMap (fun r => (List.range 64).map (fun d => s.walk bank d 14 r false))
    let inv := (List.range 64).any (fun r => (List.range 64).any (fun d => decide (6 ≤ s.routeEntry r bank d)))
    if inv then 2
    else match [3, 4, 5].find? (fun c => codes.contains c) with
      | some c => c
      | none => 0

/-- FLIP_CHECK_END (R296): the epoch flips, or the flip is refused with ERR. -/
def State.flipEnd (s : State) : State :=
  if !s.noc.checking then s
  else
    let s := { s with noc := { s.noc with checking := false } }
    let c := s.flipCheck
    let s := (s.put R.NOC_EPOCH.ERR c).putB R.NOC_EPOCH.FLIP false
    if c ≠ 0 then s.raise R.NOC_EVENTS.FLIPERR
    else
      let s := (s.put R.NOC_EPOCH.INJ (1 - s.g R.NOC_EPOCH.INJ)).raise R.NOC_EVENTS.FLIPPED
      let s := s.putB R.NOC_EPOCH.DRAINED false
      s.each (List.range 64) (fun s r => s.putB (R.NOC_ROUTER_STATUS.OLDPKT r) (s.holdsOld r))

/-- EPOCH_DRAINED (R297): no router holds a packet of the old epoch. -/
def State.drained (s : State) : State :=
  if !s.on R.NOC_EPOCH.DRAINED && !s.noc.pkts.any (fun p => p.epoch != decide (s.g R.NOC_EPOCH.INJ = 1)) then
    (s.putB R.NOC_EPOCH.DRAINED true).raise R.NOC_EVENTS.DRAINED
  else s

/-- A route write (R297): ignored with RTBUSY for the injected bank, or while an old epoch drains. -/
def State.routeWrite (s : State) (n k : Nat) (v : Word) : State :=
  if n % 2 = s.g R.NOC_EPOCH.INJ || !s.on R.NOC_EPOCH.DRAINED then s.raise R.NOC_EVENTS.RTBUSY else s.wr (R.NOC_RT.reg n k) v

/-- A write to NOC_TMO (spec/12): ignored with CFGERR when INI < 2 × TGT or a field is 0. -/
def State.tmoWrite (s : State) (v : Word) : State :=
  let ini := R.NOC_TMO.INI.of v
  let tgt := R.NOC_TMO.TGT.of v
  if ini < 2 * tgt || ini = 0 || tgt = 0 then s.raise R.NOC_EVENTS.CFGERR else s.wr R.NOC_TMO.reg v

/-- A write to NOC_REGIONn_QUOTA: ignored with CFGERR when its fields sum to more than 16. -/
def State.quotaWrite (s : State) (g : Nat) (v : Word) : State :=
  if 16 < ((List.range 8).map (fun c => v.toNat / 16 ^ c % 16)).sum then s.raise R.NOC_EVENTS.CFGERR else s.wr (R.NOC_REGION_QUOTA.reg g) v

/-- STATS_CLEAR (R304): every initiator counter to zero. -/
def State.statsClear (s : State) : State :=
  { s with csr := s.csr.keep (fun a => !(decide (0x604000 ≤ a) && decide (a < 0x604000 + 520 * 0x40))) }

/-! ### The column interfaces of the memory tier (R240, R248) -/

/-- A request is accepted by its column's interface; the port owes its answer. -/
def State.bankAccept (s : State) (q : Req) : State :=
  let n := (q.addr - bankBase) / 0x10000
  { s with
    noc := { s.noc with owed := s.noc.owed ++ [{ dest := bankEp n, req := q }] }
    mt := { s.mt with jobs := s.mt.jobs ++ [{ bank := n, req := q }] } }

/-- A job that is over leaves the interface with its response: OK, or the STAT it met (R240). -/
def State.jobEnd (s : State) (j : BankJob) : State :=
  ({ s with mt := { s.mt with jobs := s.mt.jobs.erase j } } : State).settle (bankEp j.bank) j.req (if j.stat = 0 then 0 else 5) j.stat
    (if j.stat = 0 then j.data else [])

/-- The oldest job of a bank. -/
def State.jobOf (s : State) (n : Nat) : Option BankJob := s.mt.jobs.find? (fun j => j.bank = n)

/-- Column `c`'s interface performs one operation, granted among its 16 banks by rotating token (R20, R240). -/
def State.columnGrant (s : State) (c : Nat) : State :=
  let s := { s with mt := { s.mt with met := s.mt.met.set c none } }
  match ringNext 16 (s.mt.token.get c) (fun k => (s.jobOf (c * 16 + k)).isSome) with
  | none => s
  | some k =>
    match s.jobOf (c * 16 + k) with
    | none => s
    | some j =>
      let r := s.jobStep j (decide (classOf j.req.ini = clsSUPER))
      { r.1 with mt := { r.1.mt with
          token := r.1.mt.token.set c ((k + 1) % 16), jobs := r.1.mt.jobs.map (fun x => if x = j then r.2 else x) } }

/-- A bank's queued requests are answered FENCED, and the bank is fenced (R248). -/
def State.reclaimDrain (s : State) (n : Nat) : State :=
  let mark (j : BankJob) : BankJob := { j with stat := if j.ended then j.stat else 3, ended := true }
  let s : State := { s with mt := { s.mt with jobs := s.mt.jobs.map (fun j => if j.bank = n then mark j else j) } }
  ((s.mt.jobs.filter (fun j => j.bank = n)).foldl (fun s j => s.jobEnd j) s).reclaimFence n

/-- The reclaim in progress goes on at a bank-clock edge of its bank's column (R248): first the bank is fenced; then, with
nothing in flight, its owner becomes SUPER. Both happen at the end of the 2 µs (`late`) whatever the clock does. -/
def State.reclaimEdge (s : State) (c : Nat) (late : Bool) : State :=
  match s.mt.reclaims.head? with
  | none => s
  | some (n, _) =>
    if n / 16 ≠ c then s
    else if s.on (R.MEM_BANK_STATUS.FENCED n) then (if s.bankBusy n && !late then s else s.reclaimEnd n)
    else if late then (s.reclaimDrain n).reclaimEnd n
    else s.reclaimDrain n

/-- A bank-clock edge of column `c`: jobs that are over are answered, one operation is performed, a reclaim goes on. -/
def State.columnEdge (s : State) (c : Nat) : State :=
  (((s.mt.jobs.filter (fun j => j.bank / 16 = c && j.ended)).foldl (fun s j => s.jobEnd j) s).columnGrant c).reclaimEdge c false

/-- The region whose CKN0 is the bank clock of column `c` (R241). -/
def State.bankClock (s : State) (c : Nat) : Nat := if s.g (R.MEM_COL_CFG.CLKSEL c) = 0 then colLower c else colUpper c

/-- At an angle tick: the bank clock of every column whose region has no power (R242), and the end of a reclaim's time. -/
def State.columnsTick (s : State) : State :=
  let cols : List Nat := (s.mt.jobs.map (fun (j : BankJob) => j.bank / 16) ++ s.mt.reclaims.map (fun (r : Nat × Nat) => r.1 / 16)).eraseDups
  let s := (cols.filter (fun c => !s.logicOn (s.bankClock c))).foldl State.columnEdge s
  match s.mt.reclaims.head? with
  | some (n, until_) => if until_ ≤ s.tick then s.reclaimEdge (n / 16) true else s
  | none => s

/-! ### Commands without a target of their own -/

/-- TARGET_TIMEOUT (R299). -/
def execTargetTimeout (ep : Nat) (s : State) : Host.Outcome State Fault Refusal := done (s.targetTimeout ep)
/-- WAIT (R300). -/
def execWait (ep : Nat) (s : State) : Host.Outcome State Fault Refusal := done (s.sendWait ep)
/-- FLIP (R296). -/
def execFlip (s : State) : Host.Outcome State Fault Refusal :=
  done { (s.putB R.NOC_EPOCH.FLIP true) with noc := { s.noc with checking := true } }
/-- FLIP_CHECK_END (R296). -/
def execFlipCheckEnd (s : State) : Host.Outcome State Fault Refusal := done s.flipEnd
/-- EPOCH_DRAINED (R297). -/
def execEpochDrained (s : State) : Host.Outcome State Fault Refusal := done s.drained
/-- REVIVE (R299). -/
def execRevive (ep : Nat) (s : State) : Host.Outcome State Fault Refusal := done (s.revive ep)
/-- PORT_CLOSE_COMPLETE (R298). -/
def execPortCloseComplete (ep : Nat) (s : State) : Host.Outcome State Fault Refusal := done (s.portClosed ep)
/-- STATS_CLEAR (R304). -/
def execStatsClear (s : State) : Host.Outcome State Fault Refusal := done s.statsClear

/-! ### HBM commands that answer requests -/

/-- PC_FAIL (R262): a pseudo-channel that stopped answering is FAILED. -/
def execPcFail (k p : Nat) (s : State) : Host.Outcome State Fault Refusal :=
  done ((s.setBit (R.HBM_STACK_PCFAIL.PCFAIL k) p).raise R.HBM_EVENTS.PCFAIL)
/-- SWEEP_GRANT (R273). -/
def execSweepGrant (k : Nat) (s : State) : Host.Outcome State Fault Refusal := done (s.sweepGrant k)
/-- SWEEP_GROUP (R277): one group, then the held writes and the requests behind them that may go on (R275). -/
def State.sweepGroup (s : State) (k : Nat) (e : HbmErr) : State :=
  match s.hbm.engine.get k with
  | none => s
  | some r =>
    match s.treeFinding (r * 262144 + s.g (R.SCR_REGION_BOUNDARY.BOUNDARY r)) e with
    | some (kind, level, node) => s.integrityHalt kind level node
    | none => ((s.sweepLines k r).releaseHeld k).releaseWaiting k
def execSweepGroup (k : Nat) (e : HbmErr) (s : State) : Host.Outcome State Fault Refusal := done (s.sweepGroup k e)
/-- HBM_REFRESH (R256): a refresh of a pseudo-channel changes nothing that a request can see; the rate is doubled while the
stack reports a temperature above 85 °C, which HBM_EVENTS.HOT flags. -/
def State.hbmRefresh (s : State) (k : Nat) (temp : BitVec 8) : State :=
  let was := s.hbm.fastRefresh.get k
  let hot := decide (85 < temp.toInt)
  let s := (s.put (R.HBM_STACK_TEMP.TEMP k) temp.toNat)
  let s := { s with hbm := { s.hbm with fastRefresh := s.hbm.fastRefresh.set k hot } }
  if hot && !was then s.raise R.HBM_EVENTS.HOT else s
def execHbmRefresh (k : Nat) (temp : BitVec 8) (s : State) : Host.Outcome State Fault Refusal := done (s.hbmRefresh k temp)
/-- HBM_CALIBRATION (R259): requests of the pseudo-channel wait at most 1 µs; nothing else changes. -/
def execHbmCalibration (_k _p : Nat) (s : State) : Host.Outcome State Fault Refusal := done s

end Sys2Proof.Machine
end

