-- ==== Sys2Proof/Machine/Events.lean ====
section
/-! DEFINITION. Events against angle (spec/03, R49 to R71): the crossing rule, comparator targets, scheduled-edge units and
capture units. -/

namespace Sys2Proof.Machine

/-! ### The crossing rule (R49 to R53) -/

/-- Is `t` crossed between two positions: `some true` forward, `some false` backward (R49). -/
def crossing {w : Nat} (prev cur t : BitVec w) : Option Bool :=
  let a := (prev - t).toInt
  let b := (cur - t).toInt
  if a < 0 ∧ 0 ≤ b then some true else if 0 < a ∧ b ≤ 0 then some false else none

/-- Does DIRSEL permit a forward (`true`) or backward crossing (R50)? -/
def permits (dirsel : Nat) (fwd : Bool) : Bool :=
  if dirsel = 1 then !fwd else if dirsel = 2 then true else fwd

/-- Is a target coming into force already crossed, `b` the signed distance of the position beyond it (R53)? -/
def alreadyCrossed (dirsel : Nat) (b : Int) : Bool :=
  if dirsel = 2 then decide (b = 0)
  else if dirsel = 1 then decide (b ≤ 0) else decide (0 ≤ b)

/-- The settings of a crossing target. Modes as EVT_CMPn_CFG: 0 off, 1 ONCE, 2 EVERY, 3 PERIOD; 4 WINDOW. -/
structure TargetCfg where
  axis : Nat
  mode : Nat
  dirsel : Nat
  jskip : Bool
  reqlock : Bool
  late : Bool
  period : Word
  close : Word

/-- What happened to a target in a tick. -/
structure TargetOut where
  fired : Bool := false
  missed : Bool := false
  lateFired : Bool := false

/-- Is the axis frozen, so that it makes no crossing (R52)? -/
def State.frozen (s : State) (n : Nat) : Bool := decide (s.axState n = axDISABLED) || decide (s.axState n = axLOST)

/-- A crossing on axis `n` that may not fire: a jump under JSKIP, or not LOCKED under REQLOCK (R51, R52). -/
def State.barred (s : State) (c : TargetCfg) : Bool :=
  (c.jskip && (s.axis c.axis).jump) || (c.reqlock && decide (s.axState c.axis ≠ axLOCKED))

/-- A PERIOD target that has fallen behind advances by whole periods until it lies ahead (R53): the target, and whether a
period was skipped. -/
def catchUp (t : DWord) (period : Word) (pos : DWord) : DWord × Bool :=
  let b := sdiff pos t
  if period = 0#32 then (t, false)
  else if 0 ≤ b then (moveBy t ((b / (period.toNat : Int) + 1) * (period.toNat : Int)), true)
  else (t, false)

/-- The level of a WINDOW (Table 3.1). -/
def windowLevel (pos : DWord) (op cl : Word) : Bool :=
  decide ((pos.setWidth 32 : Word) - op < cl - op)

/-- Does the window test of a WINDOW comparator hold (Table 3.1)? -/
def State.cmpInside (s : State) (c : TargetCfg) (t : Target) : Bool :=
  t.armed && windowLevel (s.axis c.axis).value (t.at_.setWidth 32) c.close

/-- A WINDOW comparator's level: false off LOCKED under REQLOCK (R98). -/
def State.cmpLevel (s : State) (c : TargetCfg) (t : Target) : Bool :=
  s.cmpInside c t && !(c.reqlock && decide (s.axState c.axis ≠ axLOCKED))

/-- A target comes into force at a tick (R517): R53 is applied to it. -/
def State.enter (s : State) (c : TargetCfg) (t : Target) : Target × TargetOut :=
  let pos := (s.axis c.axis).value
  let t := { t with lateDue := 0, level := false, inside := false }
  if !t.armed then (t, {})
  else if c.mode = 1 then
    if alreadyCrossed c.dirsel (sdiff pos t.at_) then
      if c.late then ({ t with lateDue := 2 }, {}) else ({ t with armed := false }, { missed := true })
    else (t, {})
  else if c.mode = 3 then
    if c.period = 0#32 then ({ t with armed := false }, {})
    else if permits c.dirsel true then
      let r := catchUp t.at_ c.period pos
      ({ t with at_ := r.1 }, { missed := r.2 })
    else (t, {})
  else if c.mode = 4 then ({ t with level := s.cmpLevel c t, inside := s.cmpInside c t }, {})
  else (t, {})

/-- One tick of an armed target (R49 to R53, R516, R98). -/
def State.targetTick (s : State) (c : TargetCfg) (t : Target) : Target × TargetOut :=
  let a := s.axis c.axis
  if c.mode = 4 then
    let lv := s.cmpLevel c t
    ({ t with level := lv, inside := s.cmpInside c t }, { fired := lv && !t.inside })
  else if !t.armed || c.mode = 0 then (t, {})
  else if t.lateDue = 2 then ({ t with lateDue := 1 }, {})
  else if t.lateDue = 1 then
    if c.reqlock && decide (s.axState c.axis ≠ axLOCKED) then ({ t with lateDue := 0, armed := false }, { missed := true })
    else ({ t with lateDue := 0, armed := false }, { fired := true, lateFired := true })
  else if s.frozen c.axis then
    (if c.mode = 3 && permits c.dirsel true then
      let r := catchUp t.at_ c.period a.value
      ({ t with at_ := r.1 }, { missed := r.2 })
     else (t, {}))
  else
    let x := if c.mode = 2 then crossing (a.prev.setWidth 32 : Word) (a.value.setWidth 32) (t.at_.setWidth 32)
      else crossing a.prev a.value t.at_
    let hit := match x with
      | some d => permits c.dirsel d
      | none => false
    let no := s.barred c
    let o : TargetOut := { fired := hit && !no, missed := hit && no }
    if c.mode = 1 then ({ t with armed := t.armed && !hit }, o)
    else if c.mode = 3 then
      let t1 := if hit then { t with at_ := moveBy t.at_ c.period.toNat } else t
      if permits c.dirsel true then
        let r := catchUp t1.at_ c.period a.value
        ({ t1 with at_ := r.1 }, { o with missed := o.missed || r.2 })
      else (t1, o)
    else (t, o)

/-! ### Settings in force (R54) -/

/-- The setting in force of an event-unit register. -/
def State.inForce (s : State) (a : Nat) : Word := s.evt.force.get a ^^^ resetWord a

/-- A setting comes into force. -/
def State.setForce (s : State) (a : Nat) (v : Word) : State :=
  { s with evt := { s.evt with force := s.evt.force.set a (v ^^^ resetWord a) } }

/-- A field of a setting in force. -/
def State.fg (s : State) (f : Field) : Nat := f.of (s.inForce f.addr)

/-- A write waits for its in-force tick: the first that begins at least 8 ns later (R54). -/
def State.evtLater (s : State) (addr : Nat) (value low : Word) (sub : Nat) : State :=
  { s with evt := { s.evt with pend := s.evt.pend ++ [{ due := s.dueTick sub, addr := addr, value := value, low := low }] } }

/-- Does a write to register `a` still wait for its in-force tick? -/
def State.evtWaits (s : State) (a : Nat) : Bool := s.evt.pend.any (fun p => p.addr = a)

/-! ### Scheduler comparators (R58, R59) -/

/-- The settings in force of scheduler comparator `n`. -/
def State.cmpCfg (s : State) (n : Nat) : TargetCfg :=
  { axis := s.fg (R.EVT_CMP_CFG.AXIS n), mode := s.fg (R.EVT_CMP_CFG.MODE n), dirsel := s.fg (R.EVT_CMP_CFG.DIRSEL n),
    jskip := decide (s.fg (R.EVT_CMP_CFG.JSKIP n) = 1), reqlock := decide (s.fg (R.EVT_CMP_CFG.REQLOCK n) = 1),
    late := decide (s.fg (R.EVT_CMP_CFG.LATE n) = 1), period := s.inForce (R.EVT_CMP_PERIOD.reg n), close := 0#32 }

def State.cmp (s : State) (n : Nat) : Target := s.evt.cmps.get n

def State.setCmp (s : State) (n : Nat) (t : Target) : State :=
  { s with evt := { s.evt with cmps := s.evt.cmps.set n t } }

/-- What the registers show of comparator `n`, and the clearing of ARM after a ONCE firing or miss, unless a write to its
CFG still waits, which then takes effect (R54, R516). -/
def State.cmpShow (s : State) (n : Nat) (o : TargetOut) : State :=
  let t := s.cmp n
  let spent := s.fg (R.EVT_CMP_CFG.MODE n) = 1 && !t.armed && decide (s.fg (R.EVT_CMP_CFG.ARM n) = 1)
  let s := if o.missed then s.raise (R.EVT_CMP_STATUS.MISSED n) else s
  let s := if o.lateFired then s.raise (R.EVT_CMP_STATUS.LATEFIRED n) else s
  let s := if o.fired then (s.setBit (R.EVT_CMP_FIRED.FIRED (n / 32)) (n % 32)).bump (R.EVT_CMP_STATUS.FIRECNT n) 1 else s
  let s := if spent then
      let s := s.setForce (R.EVT_CMP_CFG.reg n) ((R.EVT_CMP_CFG.ARM n).into (s.inForce (R.EVT_CMP_CFG.reg n)) 0)
      if s.evtWaits (R.EVT_CMP_CFG.reg n) then s else s.put (R.EVT_CMP_CFG.ARM n) 0
    else s
  let bad := (decide (s.fg (R.EVT_CMP_CFG.MODE n) = 3) && decide (s.inForce (R.EVT_CMP_PERIOD.reg n) = 0#32))
    || decide (5 ≤ s.fg (R.EVT_CMP_ACTION.KIND n))
  (s.putB (R.EVT_CMP_STATUS.ARMED n) (t.armed && decide (s.fg (R.EVT_CMP_CFG.MODE n) ≠ 0))).putB (R.EVT_CMP_STATUS.BADCFG n) bad

/-- Comparator `n`'s target comes into force (R517). -/
def State.cmpEnter (s : State) (n : Nat) : State :=
  let r := s.enter (s.cmpCfg n) (s.cmp n)
  (s.setCmp n r.1).cmpShow n r.2

/-- A written register of comparator `n` comes into force (R54, R517). -/
def State.cmpForce (s : State) (n : Nat) (p : EvtPend) : State :=
  let old := s.inForce p.addr
  let s := s.setForce p.addr p.value
  if p.addr = R.EVT_CMP_ANGLE_HI.reg n then
    (s.setCmp n { s.cmp n with at_ := p.value ++ p.low, armed := decide (s.fg (R.EVT_CMP_CFG.ARM n) = 1) }).cmpEnter n
  else if p.addr = R.EVT_CMP_CFG.reg n then
    let was := decide ((R.EVT_CMP_CFG.ARM n).of old = 1)
    let is := decide (s.fg (R.EVT_CMP_CFG.ARM n) = 1)
    let moved := [R.EVT_CMP_CFG.AXIS n, R.EVT_CMP_CFG.MODE n, R.EVT_CMP_CFG.DIRSEL n].any (fun f => f.of old ≠ f.of p.value)
    if !is then (s.setCmp n { s.cmp n with armed := false, lateDue := 0 }).cmpShow n {}
    else if !was || moved then (s.setCmp n { s.cmp n with armed := true }).cmpEnter n
    else s.cmpShow n {}
  else if p.addr = R.EVT_CMP_PERIOD.reg n then
    let s := if s.fg (R.EVT_CMP_CFG.MODE n) = 3 && decide (p.value = 0#32) then s.setCmp n { s.cmp n with armed := false } else s
    s.cmpShow n {}
  else s.cmpShow n {}

/-- One tick of the scheduler comparators: the state, and the actions of those that fired (kind, target), in order (R58). -/
def State.cmpsTick (s : State) : State × List (Nat × Nat) :=
  (s.evt.cmps.map (·.1)).foldl (fun r n =>
    let s := r.1
    let t := s.targetTick (s.cmpCfg n) (s.cmp n)
    let s := (s.setCmp n t.1).cmpShow n t.2
    if t.2.fired then (s, r.2 ++ [(s.fg (R.EVT_CMP_ACTION.KIND n), s.fg (R.EVT_CMP_ACTION.TARGET n))]) else (s, r.2)) (s, [])

/-! ### Scheduled-edge units (R60 to R65, R518) -/

def State.edge (s : State) (n : Nat) : Edge := s.evt.edges.get n

def State.setEdge (s : State) (n : Nat) (e : Edge) : State :=
  { s with evt := { s.evt with edges := s.evt.edges.set n e } }

/-- A flag of edge unit `n` goes up, and with it the unit's bit in EVT_EDG_FLAG. -/
def State.edgFlag (s : State) (n : Nat) (f : Field) : State :=
  (s.raise f).setBit (R.EVT_EDG_FLAG.FLAG (n / 32)) (n % 32)

/-- The settings of unit `n` that decide crossings. -/
def State.edgCfg (s : State) (n : Nat) : TargetCfg :=
  { axis := s.fg (R.EVT_EDG_CFG.AXIS n), mode := s.fg (R.EVT_EDG_CFG.MODE n), dirsel := s.fg (R.EVT_EDG_CFG.DIRSEL n),
    jskip := decide (s.fg (R.EVT_EDG_CFG.JSKIP n) = 1), reqlock := decide (s.fg (R.EVT_EDG_CFG.REQLOCK n) = 1),
    late := decide (s.fg (R.EVT_EDG_CFG.LATE n) = 1), period := s.inForce (R.EVT_EDG_PERIOD.reg n), close := 0#32 }

/-- The source of unit `n`'s targets (R63). -/
def State.edgSrc (s : State) (n : Nat) : Nat := s.fg (R.EVT_EDG_CFG.SRC n)

/-- The mode a unit works in: register modes, ONCE for a queued pair, off in source 3 (R63, R65). -/
def State.edgMode (s : State) (n : Nat) : Nat :=
  let m := s.fg (R.EVT_EDG_CFG.MODE n)
  if s.edgSrc n = 0 then m else if s.edgSrc n = 3 then 0 else 1

/-- The level of unit `n` after INV, as the crossbar sees it (spec/03, Scheduled-edge units). -/
def State.edgLevel (s : State) (n : Nat) : Bool := xor (s.edge n).out (decide (s.fg (R.EVT_EDG_CFG.INV n) = 1))

/-- The output of unit `n` takes a level at an instant. -/
def State.edgDrive (s : State) (n inst : Nat) (lv : Bool) : State :=
  let s := s.setEdge n { s.edge n with out := lv }
  let s := s.putB (R.EVT_EDG_STATUS.OUT n) lv
  { s with evt := { s.evt with fell := s.evt.fell ++ [(n, inst, s.edgLevel n)] } }

/-- The queue fill and ARMED bit of unit `n` as its STATUS shows them. -/
def State.edgShow (s : State) (n : Nat) : State :=
  let e := s.edge n
  let bad := decide (s.edgSrc n = 3) || (decide (s.edgSrc n = 0) && decide (s.fg (R.EVT_EDG_CFG.MODE n) = 3) && decide (s.inForce (R.EVT_EDG_PERIOD.reg n) = 0#32))
  ((s.put (R.EVT_EDG_STATUS.QFILL n) e.queue.length).putB (R.EVT_EDG_STATUS.ARMED n) (e.armed && decide (s.edgMode n ≠ 0))).putB (R.EVT_EDG_STATUS.BADCFG n) bad

/-- Hardware clears ARM of unit `n`, unless a CFG write still waits (R54, R65, R516). -/
def State.edgDisarm (s : State) (n : Nat) : State :=
  let s := s.setEdge n { s.edge n with armed := false, lateDue := 0, live := false, clrAt := none }
  let s := s.setForce (R.EVT_EDG_CFG.reg n) ((R.EVT_EDG_CFG.ARM n).into (s.inForce (R.EVT_EDG_CFG.reg n)) 0)
  let s := if s.evtWaits (R.EVT_EDG_CFG.reg n) then s else s.put (R.EVT_EDG_CFG.ARM n) 0
  s.edgShow n

/-- The ledger is told what became of a pair it pushed: true when its SET fired on time (R64, R168). -/
def State.gateTell (s : State) (p : EdgePair) (ok : Bool) : State :=
  match p.item with
  | some i => { s with lgr := { s.lgr with gateOut := s.lgr.gateOut ++ [(i, ok)] } }
  | none => s

/-- The targets of unit `n`: its registers', or its head pair's. -/
def State.edgPair (s : State) (n : Nat) : Option EdgePair :=
  let e := s.edge n
  if s.edgSrc n = 0 then some { set := e.set, clr := e.clr } else e.queue.head?

/-- The instant, in 250 ps steps, at which an axis reaches target `t` within tick `s.tick` (R60): interpolated and rounded to
the nearest step, halves up (log entry 8); at the tick's instant for a jump (R51). -/
def State.instantOf {w : Nat} (s : State) (jump : Bool) (prev cur t : BitVec w) : Nat :=
  let d := (cur - prev).toInt
  let x := (t - prev).toInt
  if jump || decide (d = 0) then s.tick * 16
  else ((s.tick - 1) * 16) + (32 * x.natAbs + d.natAbs) / (2 * d.natAbs)

/-- The crossing of a target of unit `n` in this tick in a permitted direction: its instant. -/
def State.edgCross (s : State) (c : TargetCfg) (every : Bool) (t : DWord) : Option Nat :=
  let a := s.axis c.axis
  if s.frozen c.axis then none
  else if every then
    match crossing (a.prev.setWidth 32 : Word) (a.value.setWidth 32) (t.setWidth 32) with
    | some d => if permits c.dirsel d then some (s.instantOf a.jump (a.prev.setWidth 32 : Word) (a.value.setWidth 32) (t.setWidth 32)) else none
    | none => none
  else
    match crossing a.prev a.value t with
    | some d => if permits c.dirsel d then some (s.instantOf a.jump a.prev a.value t) else none
    | none => none

/-- Targets advance by PERIOD after a CLR edge or a SET that does not fire, and catch up (R53, R65). -/
def State.edgAdvance (s : State) (n : Nat) : State :=
  let c := s.edgCfg n
  let e := s.edge n
  let p : Int := c.period.toNat
  let set := moveBy e.set p
  let clr := moveBy e.clr p
  if permits c.dirsel true then
    let r := catchUp set c.period (s.axis c.axis).value
    let s := s.setEdge n { e with set := r.1, clr := clr + (r.1 - set) }
    if r.2 then s.edgFlag n (R.EVT_EDG_STATUS.MISSED n) else s
  else s.setEdge n { e with set := set, clr := clr }

/-- Will the axis cross a target less than 16 ns after this tick, by the angle words 16 ns ahead that the unit works from (R60, R61)? -/
def State.edgNear (s : State) (c : TargetCfg) (t : DWord) : Bool :=
  let a := s.axis c.axis
  !s.frozen c.axis && (match crossing a.value (a.ahead 63) t with
                       | some d => permits c.dirsel d
                       | none => false)

/-- Does a target count as already crossed at this tick (R53, R61)? -/
def State.edgSoon (s : State) (c : TargetCfg) (t : DWord) : Bool :=
  alreadyCrossed c.dirsel (sdiff (s.axis c.axis).value t) || s.edgNear c t

/-- The SET of unit `n` comes into force (R517): R53 and R61 with the unit's LATE field, for ONCE and a queued pair; catch-up for
PERIOD. A source 2 SET is already past when its instant has gone (R64). -/
def State.edgEnter (s : State) (n : Nat) : State :=
  let c := s.edgCfg n
  let e := { s.edge n with lateDue := 0, setTick := s.tick, clrTick := s.tick, live := false, clrAt := none }
  let s := s.setEdge n e
  if !e.armed then s
  else match s.edgMode n with
    | 1 =>
      (match s.edgPair n with
       | none => s
       | some p =>
         let past := if s.edgSrc n = 2 then decide (p.set.toNat < s.tick * 16)
           else s.edgSoon c p.set
         if !past then s
         else if c.late then s.setEdge n { e with lateDue := 2 }
         else
           let s := s.edgFlag n (R.EVT_EDG_STATUS.MISSED n)
           if s.edgSrc n = 0 then s.edgDisarm n
           else (s.setEdge n { e with queue := e.queue.tail }).gateTell p false)
    | 3 =>
      if c.period = 0#32 then s.setEdge n { e with armed := false }
      else if permits c.dirsel true then
        let r := catchUp e.set c.period (s.axis c.axis).value
        let s := s.setEdge n { e with set := r.1, clr := e.clr + (r.1 - e.set) }
        let s := if r.2 then s.edgFlag n (R.EVT_EDG_STATUS.MISSED n) else s
        if s.edgNear c r.1 then (s.edgFlag n (R.EVT_EDG_STATUS.MISSED n)).edgAdvance n else s
      else if s.edgNear c e.set then (s.edgFlag n (R.EVT_EDG_STATUS.MISSED n)).edgAdvance n
      else s
    | _ => s

/-- The CLR of a SET that has fired comes into force at this tick (R518): one already crossed, or too near to be placed under R61,
falls at the instant of the next tick, and so does a fixed instant that has passed. -/
def State.edgClrEnter (s : State) (n : Nat) : State :=
  let c := s.edgCfg n
  let e := { s.edge n with clrTick := s.tick }
  let late := match e.clrAt, s.edgPair n with
    | some t, _ => decide (t ≤ s.tick * 16)
    | none, some p => decide (s.edgMode n ≠ 2) && s.edgSoon c p.clr
    | none, none => false
  if late then (s.edgFlag n (R.EVT_EDG_STATUS.LATEFIRED n)).setEdge n { e with clrAt := some ((s.tick + 1) * 16) } else s.setEdge n e

/-- Bring heads into force until one stays: a pair found past with LATE = 0 is removed and the next comes up (R64). -/
def State.edgHeads (s : State) (n : Nat) : Nat → State
  | 0 => s
  | k + 1 =>
    let q := (s.edge n).queue.length
    if q = 0 then s
    else
      let s := s.edgEnter n
      if (s.edge n).queue.length < q then s.edgHeads n k else s

/-- The head pair is removed: the next one comes into force at this tick (R64). -/
def State.edgPop (s : State) (n : Nat) : State :=
  let e := s.edge n
  (s.setEdge n { e with queue := e.queue.tail, live := false, clrAt := none, lateDue := 0 }).edgHeads n 4

/-- A SET that does not fire (R516): ONCE is consumed, a queued pair removed, PERIOD advanced. -/
def State.edgMiss (s : State) (n : Nat) : State :=
  let s := s.edgFlag n (R.EVT_EDG_STATUS.MISSED n)
  if s.edgSrc n = 0 then
    if s.fg (R.EVT_EDG_CFG.MODE n) = 1 then s.edgDisarm n
    else if s.fg (R.EVT_EDG_CFG.MODE n) = 3 then s.edgAdvance n else s
  else
    match (s.edge n).queue.head? with
    | some p => (s.gateTell p false).edgPop n
    | none => s

/-- The CLR edge owed falls at `inst`, 2 ns after SET at the earliest (R62); then the unit disarms, advances or takes its
next pair (R64, R65). -/
def State.edgClear (s : State) (n inst : Nat) : State :=
  let e := s.edge n
  let early := decide (inst < e.setAt + 8)
  let s := if early then s.edgFlag n (R.EVT_EDG_STATUS.STRETCH n) else s
  let at_ := if early then e.setAt + 8 else inst
  if s.tick * 16 < at_ then s.setEdge n { e with clrAt := some at_ }
  else
    let s := (s.setEdge n { e with live := false, clrAt := none }).edgDrive n at_ false
    if s.edgSrc n = 0 then
      if s.fg (R.EVT_EDG_CFG.MODE n) = 1 then s.edgDisarm n else if s.fg (R.EVT_EDG_CFG.MODE n) = 3 then s.edgAdvance n else s
    else s.edgPop n

/-- The SET edge falls at `inst` (R60, R63); source 2 fixes the CLR instant with it. -/
def State.edgRise (s : State) (n inst : Nat) (p : EdgePair) : State :=
  let e := s.edge n
  let s := s.setEdge n { e with live := true, setAt := inst, lateDue := 0, clrAt := if s.edgSrc n = 2 then some p.clr.toNat else none }
  s.edgDrive n inst true

/-- The CLR owed in this tick (R62, R65, R518): one fixed earlier, one already crossed when its SET fired, or its crossing. -/
def State.edgClrTick (s : State) (n : Nat) (p : EdgePair) (justSet : Bool) : State :=
  let c := s.edgCfg n
  let e := s.edge n
  let pos := (s.axis c.axis).value
  match e.clrAt with
  | some t =>
    if t < e.setAt + 8 then s.edgClear n t
    else if t ≤ s.tick * 16 then s.edgClear n t else s
  | none =>
    if justSet && decide (sdiff p.clr p.set ≤ 0) then s.edgClear n e.setAt
    else match s.edgCross { c with jskip := false } false p.clr with
      | some t =>
        if !justSet && t < e.clrTick * 16 + 64 then
          (s.edgFlag n (R.EVT_EDG_STATUS.LATEFIRED n)).setEdge n { e with clrAt := some ((s.tick + 1) * 16) }
        else s.edgClear n t
      | none =>
        if justSet && alreadyCrossed c.dirsel (sdiff pos p.clr) then s.edgClear n e.setAt else s

/-- One pair of unit `n` in this tick: ONCE, PERIOD and queued pairs (R61, R65). -/
def State.edgPairTick (s : State) (n : Nat) : State :=
  let c := s.edgCfg n
  let e := s.edge n
  let now := s.tick * 16
  match s.edgPair n with
  | none => s
  | some p =>
    if e.live then s.edgClrTick n p false
    else if s.edgMode n = 3 && permits c.dirsel true && !(s.edgCross c false p.set).isSome && decide (0 ≤ sdiff (s.axis c.axis).value p.set) then
      -- SET has fallen behind without a crossing (R53, R65)
      let r := catchUp p.set c.period (s.axis c.axis).value
      (s.edgFlag n (R.EVT_EDG_STATUS.MISSED n)).setEdge n { e with set := r.1, clr := p.clr + (r.1 - p.set) }
    else if e.lateDue = 2 then s.setEdge n { e with lateDue := 1 }
    else if e.lateDue = 1 then
      if s.edgSrc n ≠ 2 && c.reqlock && decide (s.axState c.axis ≠ axLOCKED) then (s.setEdge n { e with lateDue := 0 }).edgMiss n
      else
        let s := ((s.edgRise n now p).edgFlag n (R.EVT_EDG_STATUS.LATEFIRED n)).gateTell p false
        s.edgClrTick n p true
    else if s.edgSrc n = 2 then
      if p.set.toNat ≤ now then (s.edgRise n p.set.toNat p).edgClrTick n p false else s
    else match s.edgCross c false p.set with
      | none => s
      | some t =>
        if s.barred c then s.edgMiss n
        else if t < e.setTick * 16 + 64 then
          -- less than 16 ns after the tick it came into force, and not foreseen at that tick (R61)
          if s.edgMode n = 1 && c.late then s.setEdge n { e with lateDue := 1 } else s.edgMiss n
        else ((s.edgRise n t p).gateTell p true).edgClrTick n p true

/-- One tick of unit `n` in EVERY mode: SET and CLR by themselves, in the order of their instants (R61, R62, R65, R518). -/
def State.edgEveryTick (s : State) (n : Nat) : State :=
  let c := s.edgCfg n
  let setTry (s : State) : State :=
    let e := s.edge n
    match s.edgCross c true e.set with
    | none => s
    | some t =>
      if e.out then s
      else if s.barred c || decide (t < e.setTick * 16 + 64) then s.edgFlag n (R.EVT_EDG_STATUS.MISSED n)
      else (s.setEdge n { e with setAt := t, live := true }).edgDrive n t true
  let clrTry (s : State) : State :=
    let e := s.edge n
    match e.clrAt with
    | some t => if t ≤ s.tick * 16 then (s.setEdge n { e with clrAt := none, live := false }).edgDrive n t false else s
    | none =>
      match s.edgCross { c with jskip := false } true e.clr with
      | none => s
      | some t =>
        if !e.out then s
        else if t < e.clrTick * 16 + 64 then
          (s.edgFlag n (R.EVT_EDG_STATUS.LATEFIRED n)).setEdge n { e with clrAt := some ((s.tick + 1) * 16) }
        else s.edgClear n t
  let e := s.edge n
  let first := match s.edgCross c true e.set, s.edgCross { c with jskip := false } true e.clr with
    | some a, some b => decide (b < a)
    | _, _ => e.clrAt.isSome
  if first then setTry (clrTry s) else clrTry (setTry s)

/-- The pairs that the ledger has pushed enter the queue at this tick (R64). -/
def State.edgEntry (s : State) (n : Nat) : State :=
  let e := s.edge n
  if e.entering.isEmpty then s
  else
    let s := s.setEdge n { e with queue := e.queue ++ e.entering, entering := [] }
    (if e.queue.isEmpty && e.armed then s.edgHeads n 4 else s).edgShow n

/-- One tick of edge unit `n`. Several queued pairs may fall in one tick; one found late in it waits for the next (R53). -/
def State.edgTick (s : State) (n : Nat) : State :=
  let s := s.edgEntry n
  let e := s.edge n
  if !e.armed then s
  else
    let s := match s.edgMode n with
      | 1 => if s.edgSrc n = 0 then s.edgPairTick n else (s.edgPairTick n).each [1, 2, 3] (fun s _ => if (s.edge n).lateDue = 1 then s else s.edgPairTick n)
      | 2 => s.edgEveryTick n
      | 3 => s.edgPairTick n
      | _ => s
    s.edgShow n

/-- One tick of the edge units; the edges that fell in it are in `fell`. -/
def State.edgesTick (s : State) : State := s.each (s.evt.edges.map (·.1)) State.edgTick

/-- Every pair in the queue of unit `n` is discarded; the ledger is told of those it pushed (R64). -/
def State.edgFlush (s : State) (n : Nat) : State :=
  let e := s.edge n
  let s := (e.queue ++ e.entering).foldl (fun s p => if e.live && e.queue.head? = some p then s else s.gateTell p false) s
  s.setEdge n { s.edge n with queue := [], entering := [] }

/-- Arm unit `n` (a CFG write or an ARM action): its targets come into force at this tick (R517, R59), the CLR owed of a SET that
has fired among them (R518). -/
def State.edgArm (s : State) (n : Nat) : State :=
  let s := s.setForce (R.EVT_EDG_CFG.reg n) ((R.EVT_EDG_CFG.ARM n).into (s.inForce (R.EVT_EDG_CFG.reg n)) 1)
  let s := s.setEdge n { s.edge n with armed := true }
  let s := if (s.edge n).live then s.edgClrEnter n else if s.edgSrc n = 0 then s.edgEnter n else s.edgHeads n 4
  s.edgShow n

/-- A written register of edge unit `n` comes into force (R54, R64, R517). A unit disarmed holds its level, and the CLR edge it
owes waits for its next arming (R518; log entry 8). -/
def State.edgForce (s : State) (n : Nat) (p : EvtPend) : State :=
  let old := s.inForce p.addr
  let s := s.setForce p.addr p.value
  let e := s.edge n
  if p.addr = R.EVT_EDG_SET_HI.reg n then
    let s := s.setEdge n { e with set := p.value ++ p.low, setTick := s.tick }
    if s.edgSrc n = 0 && e.armed && !e.live then
      let ct := (s.edge n).clrTick
      let s := s.edgEnter n
      (s.setEdge n { s.edge n with clrTick := ct }).edgShow n
    else s
  else if p.addr = R.EVT_EDG_CLR_HI.reg n then
    let s := s.setEdge n { e with clr := p.value ++ p.low, clrTick := s.tick }
    if s.edgSrc n = 0 && e.armed && e.live then s.edgClrEnter n else s
  else if p.addr = R.EVT_EDG_CFG.reg n then
    let f (x : Field) : Bool := decide (x.of old ≠ x.of p.value)
    let srcChg := f (R.EVT_EDG_CFG.SRC n)
    let was := decide ((R.EVT_EDG_CFG.ARM n).of old = 1)
    let is := decide ((R.EVT_EDG_CFG.ARM n).of p.value = 1)
    let s := if srcChg then
        let s := (s.edgFlush n)
        let s := s.setEdge n { s.edge n with live := false, clrAt := none, lateDue := 0 }
        if (s.edge n).out then s.edgDrive n (s.tick * 16) false else s
      else s
    let moved := f (R.EVT_EDG_CFG.AXIS n) || f (R.EVT_EDG_CFG.DIRSEL n) || srcChg || (f (R.EVT_EDG_CFG.MODE n) && decide (s.edgSrc n = 0))
    if !is then (s.setEdge n { s.edge n with armed := false, lateDue := 0 }).edgShow n
    else if !was || moved then s.edgArm n
    else s.edgShow n
  else s.edgShow n

/-- A pair of source 2 enters unit `n`'s queue, or is refused with OVERFLOW when it is full (R64). A pair that enters an empty
queue of an armed unit comes into force. -/
def State.edgPush (s : State) (n : Nat) (p : EdgePair) : State :=
  let e := s.edge n
  if 4 ≤ e.queue.length then s.edgFlag n (R.EVT_EDG_STATUS.OVERFLOW n)
  else
    let s := s.setEdge n { e with queue := e.queue ++ [p] }
    (if e.queue.isEmpty && e.armed then s.edgHeads n 1 else s).edgShow n

/-- The ledger pushes a pair (R64), which enters at the first tick at or after the push: refused without OVERFLOW unless SRC is 1,
and with it when the queue has no room. Answers whether the pair was taken. -/
def State.edgLedgerPush (s : State) (n : Nat) (p : EdgePair) : State × Bool :=
  let e := s.edge n
  if s.edgSrc n ≠ 1 then (s, false)
  else if 4 ≤ e.queue.length + e.entering.length then (s.edgFlag n (R.EVT_EDG_STATUS.OVERFLOW n), false)
  else (s.setEdge n { e with entering := e.entering ++ [p] }, true)

/-! ### Capture units (R67 to R69) -/

def State.cap (s : State) (n : Nat) : Capture := s.evt.caps.get n

def State.setCap (s : State) (n : Nat) (c : Capture) : State :=
  { s with evt := { s.evt with caps := s.evt.caps.set n c } }

/-- What the registers show of capture unit `n`. -/
def State.capShow (s : State) (n : Nat) : State :=
  let c := s.cap n
  let s := ((s.put (R.EVT_CAP_STATUS.FILL n) c.fifo.length).putB (R.EVT_CAP_STATUS.OPEN n) (c.armed && c.isOpen)).putB (R.EVT_CAP_STATUS.ARMED n) c.armed
  let s := s.putBit (R.EVT_CAP_READY.READY (n / 32)) (n % 32) (!c.fifo.isEmpty)
  let h : BitVec 128 := c.fifo.headD 0
  s.each [0, 1, 2, 3] (fun s k => s.wr (R.EVT_CAP_REC.reg n k) ((h >>> (32 * k)).setWidth 32))

/-- The 16 bytes of a capture record (Table 3.3). -/
def capRecord (n axis : Nat) (value : DWord) (time : Nat) (jump ovf miss rising : Bool) : BitVec 128 :=
  BitVec.ofNat 128 (value.toNat + time % 2 ^ 48 * 2 ^ 64
    + (32768 + n % 128 * 256 + axis % 16 * 16 + jump.toNat * 8 + ovf.toNat * 4 + miss.toNat * 2 + rising.toNat) * 2 ^ 112)

/-- The posting ring's place for the next record of unit `n` (R69). -/
def State.capSlot (s : State) (n : Nat) : Nat :=
  let lo := s.inForce (R.EVT_CAP_DEST_LO.reg n)
  let hi := s.inForce (R.EVT_CAP_DEST_HI.reg n)
  let base := (R.EVT_CAP_DEST_LO.ADDR n).of lo * 16 + (R.EVT_CAP_DEST_HI.ADDR n).of hi * 2 ^ 32
  base + (s.cap n).ringIdx % 2 ^ ((R.EVT_CAP_DEST_HI.RINGLOG n).of hi) * 16

/-- A record of unit `n` is posted (R69): to HBM or a bank within this step; to any other target as a packet, whose error response
comes with the target's answer. -/
def State.capPost (s : State) (n : Nat) (data : List Byte) : State :=
  let a := s.capSlot n
  let q : Req := { ini := iniCapture, op := 2, addr := a, len := data.length, tag := s.pickTag iniCapture 0, data := data }
  if inMemory a then
    let w := s.postWrite iniCapture a data
    if w.2 = stOK then w.1 else w.1.raise (R.EVT_CAP_STATUS.POSTERR n)
  else s.request q n

/-- A record is made (R69): into the FIFO, or dropped with OVF at a full one; with POST it is also written to the ring. DESIGN
CHOICE (log entry 8): one that the FIFO drops is posted too, and the ring's index moves on. -/
def State.capStore (s : State) (n : Nat) (value : DWord) (time : Nat) (miss rising : Bool) : State :=
  let c := s.cap n
  let full := decide (16 ≤ c.fifo.length)
  let r := capRecord n (s.fg (R.EVT_CAP_CFG.AXIS n)) value time c.jumped (c.ovf && !full) miss rising
  let s := if full then (s.setCap n { c with ovf := true }).raise (R.EVT_CAP_STATUS.OVF n)
    else s.setCap n { c with fifo := c.fifo ++ [r], ovf := false }
  let s := if s.fg (R.EVT_CAP_CFG.POST n) = 1 then
      let s := s.capPost n (natBytes r.toNat 16)
      s.setCap n { s.cap n with ringIdx := c.ringIdx + 1 }
    else s
  s.capShow n

/-- Plant time of the current tick plus `sub` steps, in 250 ps units (R67). -/
def State.time250 (s : State) (sub : Nat) : Nat := s.plantNs.toNat * 4 + sub

/-- A window closes (R68): without a stamped edge it sets MISS, and may store a MISS record at the CLOSE position. -/
def State.capClose (s : State) (n : Nat) : State :=
  let c := s.cap n
  let s := s.setCap n { c with isOpen := false }
  let s := if c.stamped then s
    else
      let s := s.raise (R.EVT_CAP_STATUS.MISS n)
      if s.fg (R.EVT_CAP_CFG.MISSREC n) = 1 then
        let pos := (s.axis (s.fg (R.EVT_CAP_CFG.AXIS n))).value
        let cl := s.inForce (R.EVT_CAP_CLOSE.reg n)
        s.capStore n (moveBy pos (-((pos.setWidth 32 : Word) - cl).toInt)) (s.time250 0) true false
      else s
  (s.setCap n { s.cap n with stamped := false }).capShow n

/-- Does the window of unit `n` take edges from now on (R68)? -/
def State.capInside (s : State) (n : Nat) : Bool :=
  s.fg (R.EVT_CAP_CFG.WMODE n) ≠ 1
    || windowLevel (s.axis (s.fg (R.EVT_CAP_CFG.AXIS n))).value (s.inForce (R.EVT_CAP_OPEN.reg n)) (s.inForce (R.EVT_CAP_CLOSE.reg n))

/-- A new arming of unit `n` (R68, R69): the window and span start, the ring starts at record 0. -/
def State.capArm (s : State) (n : Nat) : State :=
  let s := s.setForce (R.EVT_CAP_CFG.reg n) ((R.EVT_CAP_CFG.ARM n).into (s.inForce (R.EVT_CAP_CFG.reg n)) 1)
  (s.setCap n { s.cap n with armed := true, isOpen := s.capInside n, stamped := false, jumped := false, ringIdx := 0 }).capShow n

/-- A written register of capture unit `n` comes into force (R54, R68). DESIGN CHOICE (log entry 8): a WMODE changed on an armed
unit takes edges by the new mode at once, and no window closes by it. -/
def State.capForce (s : State) (n : Nat) (p : EvtPend) : State :=
  let wmode := s.fg (R.EVT_CAP_CFG.WMODE n)
  let s := s.setForce p.addr p.value
  if p.addr = R.EVT_CAP_CFG.reg n then
    let is := decide ((R.EVT_CAP_CFG.ARM n).of p.value = 1)
    if is && !(s.cap n).armed then s.capArm n
    else if !is then (s.setCap n { s.cap n with armed := false, isOpen := false, stamped := false, jumped := false }).capShow n
    else if s.fg (R.EVT_CAP_CFG.WMODE n) ≠ wmode then (s.setCap n { s.cap n with isOpen := s.capInside n }).capShow n
    else s
  else s

/-- Windows of unit `n` at a tick: closings when `closing`, else openings (R68, R70 order 6). DESIGN CHOICE (log entry 8): a JUMP at
the tick that opens a WMODE 1 window lies before the record's span, one at the arming tick within it. -/
def State.capTick (s : State) (closing : Bool) (n : Nat) : State :=
  let c := s.cap n
  let ax := s.fg (R.EVT_CAP_CFG.AXIS n)
  let a := s.axis ax
  let wm := s.fg (R.EVT_CAP_CFG.WMODE n)
  let cl := s.inForce (R.EVT_CAP_CLOSE.reg n)
  let inside := windowLevel a.value (s.inForce (R.EVT_CAP_OPEN.reg n)) cl
  if !c.armed then s
  else if closing then
    let s := s.setCap n { c with jumped := c.jumped || a.jump }
    if wm = 1 then (if c.isOpen && !inside then s.capClose n else s)
    else if wm = 2 then
      if !s.frozen ax && (crossing (a.prev.setWidth 32 : Word) (a.value.setWidth 32) cl).isSome then
        let s := s.capClose n
        let s := s.setCap n { s.cap n with armed := false }
        let s := s.setForce (R.EVT_CAP_CFG.reg n) ((R.EVT_CAP_CFG.ARM n).into (s.inForce (R.EVT_CAP_CFG.reg n)) 0)
        (if s.evtWaits (R.EVT_CAP_CFG.reg n) then s else s.put (R.EVT_CAP_CFG.ARM n) 0).capShow n
      else s
    else s
  else if wm = 1 && !c.isOpen && inside then (s.setCap n { c with isOpen := true, stamped := false, jumped := false }).capShow n
  else s

/-- Capture windows of a tick: closings, with their MISS records, before openings. -/
def State.capsTick (s : State) : State :=
  let l := s.evt.caps.map (·.1)
  (s.each l (State.capTick · true ·)).each l (State.capTick · false ·)

/-! ### What falls due at a tick -/

/-- One write comes into force on the unit it belongs to. -/
def State.forceOne (s : State) (p : EvtPend) : State :=
  let o := p.addr - 0x110000
  if o < 0x2000 then s.cmpForce ((o - 0x1000) / 0x20) p
  else if o < 0x4000 then s.edgForce ((o - 0x2000) / 0x20) p
  else s.capForce ((o - 0x4000) / 0x40) p

/-- The writes whose in-force tick this is (R54), and the ARM actions of the tick before (R59). DESIGN CHOICE (log entry 8): an ARM
action that finds its unit armed changes nothing and brings no target into force again (R517). -/
def State.evtDue (s : State) : State :=
  let arms := s.evt.armNext
  let due := s.evt.pend.filter (fun p => decide (p.due ≤ s.tick))
  let s := { s with evt := { s.evt with armNext := [], pend := s.evt.pend.filter (fun p => !decide (p.due ≤ s.tick)) } }
  let s := due.foldl State.forceOne s
  arms.foldl (fun s a =>
    if a.1 then (if (s.cap a.2).armed then s else (s.put (R.EVT_CAP_CFG.ARM a.2) 1).capArm a.2)
    else (if (s.edge a.2).armed then s else (s.put (R.EVT_EDG_CFG.ARM a.2) 1).edgArm a.2)) s

/-! ### Commands -/

/-- A _HI write commits both words of a 64-bit target (R54). -/
def State.targetCommit (s : State) (hiReg loReg : Nat) (hi : Word) (sub : Nat) : State :=
  (s.wr hiReg hi).evtLater hiReg hi (s.rw loReg) sub

/-- EVT_TARGET_COMMIT (R54): the _HI register of a comparator's target, or of a unit's SET or CLR target. -/
def execEvtTargetCommit (k : TargetReg) (n : Nat) (hi : Word) (sub : Nat) (s : State) : Host.Outcome State Fault Refusal :=
  done (match k with
    | .cmp => s.targetCommit (R.EVT_CMP_ANGLE_HI.reg n) (R.EVT_CMP_ANGLE_LO.reg n) hi sub
    | .edgSet => s.targetCommit (R.EVT_EDG_SET_HI.reg n) (R.EVT_EDG_SET_LO.reg n) hi sub
    | .edgClr => s.targetCommit (R.EVT_EDG_CLR_HI.reg n) (R.EVT_EDG_CLR_LO.reg n) hi sub)

/-- A write to a register of an event unit that acts from its in-force tick, reserved bits read as zero (R6, R54). -/
def State.evtWrite (s : State) (a : Nat) (v : Word) (mask sub : Nat) : State :=
  let v := v &&& BitVec.ofNat 32 mask
  (s.wr a v).evtLater a v 0#32 sub

/-- The fields of EVT_CMPn_CFG. -/
def cmpCfgMask : Nat := 0xFCF3
/-- The fields of EVT_EDGn_CFG. -/
def edgCfgMask : Nat := 0xFFF803
/-- The fields of EVT_CAPn_CFG. -/
def capCfgMask : Nat := 0xFFF000

/-- EVT_CMP_CFG_WRITE (R54, R517). -/
def execEvtCmpCfgWrite (n : Nat) (v : Word) (sub : Nat) (s : State) : Host.Outcome State Fault Refusal :=
  done (s.evtWrite (R.EVT_CMP_CFG.reg n) v cmpCfgMask sub)

/-- EVT_EDG_CFG_WRITE (R54, R64, R517). -/
def execEvtEdgCfgWrite (n : Nat) (v : Word) (sub : Nat) (s : State) : Host.Outcome State Fault Refusal :=
  done (s.evtWrite (R.EVT_EDG_CFG.reg n) v edgCfgMask sub)

/-- EVT_CAP_CFG_WRITE (R54, R68). -/
def execEvtCapCfgWrite (n : Nat) (v : Word) (sub : Nat) (s : State) : Host.Outcome State Fault Refusal :=
  done (s.evtWrite (R.EVT_CAP_CFG.reg n) v capCfgMask sub)

/-- A rising edge at unit `n`'s trigger input, `sub` steps of 250 ps after the current tick (R63): in source 2 it pushes a
pair in time. -/
def State.edgTrigger (s : State) (n sub : Nat) : State :=
  if s.edgSrc n = 2 && s.unitsRun then
    let w := s.inForce (R.EVT_EDG_FAB.reg n)
    let set := s.tick * 16 + sub + max 32 ((R.EVT_EDG_FAB.DELAY n).of w)
    let clr := set + max 8 ((R.EVT_EDG_FAB.WIDTH n).of w)
    s.edgPush n { set := BitVec.ofNat 64 set, clr := BitVec.ofNat 64 clr }
  else s

/-- EDGE_FABRIC_TRIGGER (R63). -/
def execEdgeFabricTrigger (n sub : Nat) (s : State) : Host.Outcome State Fault Refusal := done (s.edgTrigger n sub)

/-- Does capture unit `n` stamp an edge (R67, R68): armed, its window open, the edge selected, and with FIRST none stamped yet? -/
def State.capTakes (s : State) (n : Nat) (rising : Bool) : Bool :=
  let c := s.cap n
  let sel := s.fg (R.EVT_CAP_CFG.EDGE n)
  let taken := decide (sel = 3) || (decide (sel = 1) && rising) || (decide (sel = 2) && !rising)
  c.armed && c.isOpen && taken && !(s.fg (R.EVT_CAP_CFG.FIRST n) = 1 && c.stamped)

/-- The value of capture unit `n`'s axis `sub` steps of 250 ps after the current tick (R67), never past the interpolator's clamp on an
encoder axis (R33). -/
def State.capValue (s : State) (n sub : Nat) : DWord :=
  let x := s.fg (R.EVT_CAP_CFG.AXIS n)
  let a := s.axis x
  let v := a.ahead sub
  if s.g (R.ANG_AXIS_CFG.KIND x) = 1 && decide (s.axState x = axLOCKED) then
    let cpc := s.g (R.ANG_AXIS_CPC.CPC x)
    let up := moveBy (a.posAt cpc (a.count + 1)) (-1)
    let down := if s.g (R.ANG_AXIS_CFG.REV x) = 1 && a.back then moveBy (a.posAt cpc (a.count - 1)) 1 else a.value
    if 0 < sdiff v up then (if 0 < sdiff a.value up then a.value else up) else if sdiff v down < 0 then down else v
  else v

/-- An edge at capture unit `n`'s input, `sub` steps of 250 ps after the current tick (R67, R68). -/
def State.capEdge (s : State) (n : Nat) (rising : Bool) (sub : Nat) : State :=
  if s.capTakes n rising then
    let v := s.capValue n sub
    let s := s.setCap n { s.cap n with stamped := true }
    let s := s.capStore n v (s.time250 sub) false rising
    if s.fg (R.EVT_CAP_CFG.WMODE n) = 1 || s.fg (R.EVT_CAP_CFG.WMODE n) = 2 then s
    else s.setCap n { s.cap n with jumped := false }
  else s

/-- A read of EVT_CAPn_REC3 answers the head's last word and removes the record (R69). -/
def State.capRead (s : State) (n : Nat) : State :=
  let s' := s.answerWith stOK (wordBytes (s.rw (R.EVT_CAP_REC.reg n 3)))
  (s'.setCap n { s.cap n with fifo := (s.cap n).fifo.tail }).capShow n

/-- CAP_REC3_READ (R69). -/
def execCapRec3Read (n : Nat) (s : State) : Host.Outcome State Fault Refusal := done (s.capRead n)

end Sys2Proof.Machine
end

