-- ==== Sys2Proof/Machine/Fabric.lean ====
section
/-! DEFINITION. Tiles and routing (spec/04, spec/05): frames and latches, wires and cells, word units, dampers, region
control, and the fabric's clock edges. A tile is named by region × 256 + ty × 16 + tx. -/

namespace Sys2Proof.Machine

/-! ### Frames (Tables 8.8, 8.9) -/

/-- The frame address of a frame: context, region, tile row and column, kind. -/
def frameAddr (c g ty tx kind : Nat) : Nat :=
  c * 0x20000000 + g / 256 * 0x10000000 + g % 256 / 16 * 0x1000000 + g % 16 * 0x100000 + ty * 0x10000 + tx * 0x1000 + kind * 0x100

/-- The frame of kind `kind` of tile `t` in slot `c`. -/
def tileFrame (c t kind : Nat) : Nat := frameAddr c (t / 256) (t % 256 / 16) (t % 16) kind

/-- The size of a frame kind (Table 8.9), 0 for a kind that is not there. -/
def frameSize (kind : Nat) : Nat :=
  match kind with
  | 0 => 512
  | 1 => 448
  | 2 => 64
  | 8 => 256
  | 9 => 64
  | _ => 0

/-- A stored frame. -/
def State.frame (s : State) (a : Nat) : Frame := s.fab.frames.get a

/-- Does a stored frame match its FCHECK (R197)? -/
def Frame.good (f : Frame) : Bool := decide (crc32c f.data = f.check)

/-- A frame's bytes as the latches hold them: an altered latch, else the stored frame (R223). -/
def State.latched (s : State) (a : Nat) : List Byte := (s.fab.latch.get a).getD (s.frame a).data

/-- Byte `i` of a frame: zero beyond its end, as in a cleared frame. -/
def frameByte (l : List Byte) (i : Nat) : Byte := l.getD i 0#8

/-- `n` bytes of a frame from byte `i` upward, as a number. -/
def frameNat (l : List Byte) (i n : Nat) : Nat := bytesNat ((l.drop i).take n)

/-- The configuration in force of tile `t`, by kind: nothing without an ACTIVE slot. -/
def State.cfgBytes (s : State) (t kind : Nat) : List Byte :=
  match s.activeCtx (t / 256) with
  | some c => s.latched (tileFrame c t kind)
  | none => []

/-- The settings of tile `t` in force. -/
def State.tileSet (s : State) (t : Nat) : Config.TileSet := Config.tileSettings ((s.cfgBytes t 0).drop 264)

/-! ### Regions and neighbours (R74, R105) -/

def State.region (s : State) (g : Nat) : Region := s.fab.region.get g

def State.setRegion (s : State) (g : Nat) (r : Region) : State :=
  { s with fab := { s.fab with region := s.fab.region.set g r } }

/-- Are region `g`'s user clocks gated (SYS_FWDn_STATUS.GATED)? -/
def State.gated (s : State) (g : Nat) : Bool :=
  !(s.region g).released || (s.region g).stopped || s.on (R.SYS_FWD_STATUS.FROZEN g) || !s.on (R.CTX_REGION_STATUS.HASACT g)
    || !s.logicOn g || s.on (R.CLK_REGION_STATUS.CLKLOST g)

/-- GATED follows the gating. -/
def State.gateShow (s : State) (g : Nat) : State := s.putB (R.SYS_FWD_STATUS.GATED g) (s.gated g)

/-- The tile at a tier and a global position. -/
def tileAt (tier y x : Nat) : Nat := (tier * 256 + y / 16 * 16 + x / 16) * 256 + y % 16 * 16 + x % 16
def tileTier (t : Nat) : Nat := t / 65536
def tileY (t : Nat) : Nat := t / 256 % 256 / 16 * 16 + t % 256 / 16
def tileX (t : Nat) : Nat := t / 256 % 16 * 16 + t % 16

/-- The neighbour of a tile on side 0 N, 1 E, 2 S, 3 W, 4 V; none at the die edge (R74, R114). -/
def tileBeside (t side : Nat) : Option Nat :=
  match side with
  | 0 => if 0 < tileY t then some (tileAt (tileTier t) (tileY t - 1) (tileX t)) else none
  | 1 => if tileX t < 255 then some (tileAt (tileTier t) (tileY t) (tileX t + 1)) else none
  | 2 => if tileY t < 255 then some (tileAt (tileTier t) (tileY t + 1) (tileX t)) else none
  | 3 => if 0 < tileX t then some (tileAt (tileTier t) (tileY t) (tileX t - 1)) else none
  | _ => some (tileAt (1 - tileTier t) (tileY t) (tileX t))

/-- The side of wire number `i` (N0–47, E, S, W, then V0–31) and its index on that side. -/
def wireSide (i : Nat) : Nat := min (i / 48) 4
def wireIdx (i : Nat) : Nat := i - 48 * wireSide i
/-- The wire number of index `k` on a side. -/
def wireNo (side k : Nat) : Nat := 48 * side + k

/-- The out-wire that drives in-wire `i` of tile `t`: the neighbour's, on the opposite side. -/
def driverOf (t i : Nat) : Option (Nat × Nat) :=
  let sd := wireSide i
  (tileBeside t sd).map (fun u => (u, wireNo (if sd = 4 then 4 else (sd + 2) % 4) (wireIdx i)))

/-! ### Configuration of the switch (R106, R107, R110, R202, R203) -/

/-- The select field of out-wire `i`. -/
def State.selField (s : State) (t i : Nat) : Nat := frameNat (s.cfgBytes t 1) (2 * i) 2

/-- The REG bit of out-wire `i`. -/
def State.regBit (s : State) (t i : Nat) : Bool := (frameByte (s.cfgBytes t 2) (i / 8)).getLsbD (i % 8)

/-- The clock group of a wire: 3 per planar side, 2 for V, N first. -/
def clockGroup (i : Nat) : Nat := 3 * wireSide i + wireIdx i / 16

/-- The clock network of a wire's switch register. -/
def State.swClock (s : State) (t i : Nat) : Nat :=
  frameNat (s.cfgBytes t 2) 28 4 / 4 ^ clockGroup i % 4

/-- What feeds a multiplexer input: an in-wire, or a position of TO (Table 5.2). -/
inductive MuxIn where
  | wire (i : Nat)
  | to (p : Nat)
  deriving DecidableEq, Repr

/-- Input `b` of the multiplexer of out-wire `i`. -/
def muxInput (i b : Nat) : MuxIn :=
  let sd := wireSide i
  let k := wireIdx i
  if 8 ≤ b then .to ((k + 32 * (b - 8)) % 256)
  else if sd = 4 then
    -- V out-wires: N, E, S, W at v, then at v + 16
    .wire (wireNo (b % 4) (if b < 4 then k else k + 16))
  else
    let opp := (sd + 2) % 4
    let left := (sd + 3) % 4
    let right := (sd + 1) % 4
    match b with
    | 0 => .wire (wireNo opp k)
    | 1 => .wire (wireNo left k)
    | 2 => .wire (wireNo right k)
    | 3 => .wire (wireNo opp ((k + 16) % 48))
    | 4 => .wire (wireNo opp ((k + 32) % 48))
    | 5 => .wire (wireNo 4 (k % 32))
    | 6 => .wire (wireNo left ((k + 24) % 48))
    | _ => .wire (wireNo right ((k + 24) % 48))

/-- The input that a one-hot select field names, none for all zeros. -/
def selInput (f : Nat) : Option Nat := (List.range 16).find? (fun b => f.testBit b)

/-- The park code of an in-wire of tile `t` (R203). -/
def State.parkCode (s : State) (t i : Nat) : Nat :=
  let l := s.cfgBytes t 2
  if wireSide i = 4 then frameNat l 32 8 / 4 ^ wireIdx i % 4
  else
    let faces (sd : Nat) : Bool := match tileBeside t sd with
      | some u => decide (u / 256 ≠ t / 256)
      | none => false
    -- the first border side in the order N, E, S, W takes bytes 51:40, the second 63:52
    let before := ((List.range (wireSide i)).filter faces).length
    if before = 0 then frameNat l 40 12 / 4 ^ wireIdx i % 4 else frameNat l 52 12 / 4 ^ wireIdx i % 4

/-! ### Dampers (R118 to R121) -/

/-- Does in-wire `i` of tile `t` cross a region border? -/
def isBorder (t i : Nat) : Bool :=
  match tileBeside t (wireSide i) with
  | some u => decide (u / 256 ≠ t / 256)
  | none => false

def State.damperOf (s : State) (t i : Nat) : Damper := s.fab.damper.get (t * 224 + i)

/-- What an engaged damper presents (Table 5.5). -/
def State.parked (s : State) (t i : Nat) : Bool :=
  match s.parkCode t i with
  | 1 => false
  | 2 => true
  | _ => (s.damperOf t i).held

/-! ### Port outputs of tiles (Tables 4.8, 7.1, 10.2, 12.8) -/

/-- The words of a region's NoC adapter presented to the fabric: the beat, whether it is a response, whether it is a header. -/
def State.adapterRx (s : State) (g : Nat) : Option (BitVec 256 × Bool × Bool) :=
  let a := s.adapter g
  let r := a.rsp.find? (fun p => p.ctx = s.activeCtx g)
  let q := a.req.head?
  let pick := if a.rspFirst then (match r with
      | some x => some (x, true)
      | none => q.map (fun x => (x, false)))
    else (match q with
      | some x => some (x, false)
      | none => r.map (fun x => (x, true)))
  match pick with
  | some (p, isRsp) => p.beats.head?.map (fun b => (b, isRsp, !p.started))
  | none => none

/-- Position `p` ≥ 192 of the tile output vector of tile `t`. -/
def State.portOut (s : State) (t p : Nat) : Bool :=
  let g := t / 256
  let ty := t % 256 / 16
  let tx := t % 16
  let r := s.region g
  if ty = 0 && decide (tx = 0) then
    if p < 208 then r.crd.getLsbD (p - 192)
    else if p < 224 then r.cmpOut.testBit (p - 208)
    else if p = 224 then s.on (R.CTX_REGION_STATUS.SWPEND g)
    else if p < 228 then (s.g (R.CTX_REGION_STATUS.ACT g)).testBit (p - 225)
    else if p = 228 then r.wdexp else false
  else if ty = 0 && decide (tx = 1) && decide (p = 192) then r.fxi1
  else if ty = 0 && decide (2 ≤ tx) && decide (tx ≤ 5) && decide (p ≤ 196) then
    let q := s.lgr.ports.get (g * 4 + (tx - 2))
    if p = 192 then decide (q.queue.length < 4) && !s.bit (R.LGR_FENCE.FENCE ((g * 4 + (tx - 2)) / 32)) ((g * 4 + (tx - 2)) % 32)
    else if p = 193 then q.ack else q.astat.testBit (p - 194)
  else if decide (8 ≤ tx) && decide (tx ≤ 11) && decide (p ≤ 213) then
    let o := s.mt.out.get (g * 16 + ty)
    if p < 208 then (lane o.rdata (tx - 8)).getLsbD (p - 192)
    else if tx ≠ 8 then false
    else if p = 208 then o.rvalid
    else if p < 212 then o.stat.testBit (p - 209)
    else if p = 212 then
      (let n := g % 256 * 16 + ty
       decide ((s.bankGate n (regionOwner g) (s.bankOn n && s.bankClockOk g)).2 = 0))
    else o.collided
  else if ty = 15 && decide (224 ≤ p) then
    if p < 240 then (match s.adapterRx g with
      | some (b, _, _) => b.getLsbD (16 * tx + (p - 224))
      | none => false)
    else if tx ≠ 0 then false
    else if p = 240 then (s.portState (regionEp g) = portOPEN : Bool)
    else if p = 241 then (s.adapterRx g).isSome
    else if p = 242 then (match s.adapterRx g with
      | some (_, r, _) => r
      | none => false)
    else if p = 243 then (match s.adapterRx g with
      | some (_, _, h) => h
      | none => false)
    else if p = 244 then decide (s.portState (regionEp g) ≠ portOPEN) else false
  else false

/-! ### The value of a wire or a tile output (R76, R78, R106 to R115) -/

/-- A point of the combinational network: an out-wire, a position of TO, or the carry out of a cell. -/
inductive Node where
  | wire (t i : Nat)
  | to (t p : Nat)
  | carry (t c : Nat)
  deriving DecidableEq, Repr

/-- A number for a node. -/
def Node.code : Node → Nat
  | .wire t i => t * 1024 + i
  | .to t p => t * 1024 + 256 + p
  | .carry t c => t * 1024 + 512 + c

/-- What a tile input or a multiplexer takes: a constant, or a node. -/
inductive Src where
  | const (b : Bool)
  | node (n : Node)
  deriving DecidableEq, Repr

/-- In-wire `i` of tile `t`: 0 from beyond the die, the park value behind an engaged damper, else the driver. -/
def State.inWire (s : State) (t i : Nat) : Src :=
  match driverOf t i with
  | none => .const false
  | some (u, j) => if isBorder t i && (s.damperOf t i).engaged then .const (s.parked t i) else .node (.wire u j)

/-- A tile input by its source number: 0–223 an in-wire, 224 + p a position of TO (R109). -/
def State.tileIn (s : State) (t n : Nat) : Src := if n < 224 then s.inWire t n else .node (.to t (n - 224))

/-- What a node depends on within a cycle; a registered point depends on nothing. -/
def State.nodeDeps (s : State) : Node → List Src
  | .wire t i =>
    if s.regBit t i then []
    else match selInput (s.selField t i) with
      | none => []
      | some b => [match muxInput i b with
        | .wire k => s.inWire t k
        | .to p => .node (.to t p)]
  | .to t p =>
    if p < 160 then
      let c := (s.tileSet t).cell (p / 5)
      let five := [c.i0, c.i1, c.i2, c.i3, c.i4].map (s.tileIn t)
      match p % 5 with
      | 0 => if c.mode = 2 then five ++ [if p / 5 = 0 then s.tileIn t (s.tileSet t).cin else .node (.carry t (p / 5 - 1))]
             else five ++ [s.tileIn t c.i5]
      | 1 => five
      | 2 => five
      | _ => []
    else if p = 180 then [.node (.carry t 31)] else []
  | .carry t k =>
    let c := (s.tileSet t).cell k
    (if c.mode = 2 then [c.i0, c.i1, c.i2, c.i3, c.i4].map (s.tileIn t) else [])
      ++ [if k = 0 then s.tileIn t (s.tileSet t).cin else .node (.carry t (k - 1))]

/-- The nodes that a list of sources names. -/
def srcNodes (l : List Src) : List Node := l.filterMap (fun x => match x with
  | .node n => some n
  | .const _ => none)

/-- Is `target` reached from a frontier of nodes by combinational steps? -/
def State.reaches (s : State) (target : Node) : Nat → List Node → List Node → Bool
  | 0, _, _ => false
  | k + 1, front, seen =>
    if front.contains target then true
    else
      let next := ((front.flatMap (fun n => srcNodes (s.nodeDeps n))).filter (fun n => !seen.contains n)).eraseDups
      if next.isEmpty then false else s.reaches target k next (seen ++ next)

/-- More than the nodes of the fabric: 131,072 tiles of 512 nodes. -/
def nodeBound : Nat := 67108864

/-- Does a node lie on a combinational loop (R115)? -/
def State.onLoop (s : State) (n : Node) : Bool := s.reaches n nodeBound (srcNodes (s.nodeDeps n)) []

/-- The 64-bit LUT of cell `c` of tile `t` (R202 of Table 8.9). -/
def State.lut (s : State) (t c : Nat) : DWord := BitVec.ofNat 64 (frameNat (s.cfgBytes t 0) (8 * c) 8)

/-- The value of a node, its inputs through `v`. An undriven wire carries 0, registered or not (R106). DESIGN CHOICE (log entry 9):
outputs that Table 4.2 does not list for a cell's mode read 0. -/
def State.nodeEval (s : State) (v : Src → Bool) : Node → Bool
  | .wire t i =>
    match selInput (s.selField t i) with
    | none => false
    | some b =>
      if s.regBit t i then (s.fab.sw.get t).getLsbD i
      else match muxInput i b with
        | .wire k => v (s.inWire t k)
        | .to p => v (.node (.to t p))
  | .to t p =>
    if p < 160 then
      let c := (s.tileSet t).cell (p / 5)
      let bit (n k : Nat) : Nat := if v (s.tileIn t n) then 2 ^ k else 0
      let five := bit c.i0 0 + bit c.i1 1 + bit c.i2 2 + bit c.i3 3 + bit c.i4 4
      let lut := s.lut t (p / 5)
      match p % 5 with
      | 0 =>
        if c.mode = 2 then
          xor (lut.getLsbD five) (v (if p / 5 = 0 then s.tileIn t (s.tileSet t).cin else .node (.carry t (p / 5 - 1))))
        else if c.mode = 0 then lut.getLsbD (five + bit c.i5 5) else false
      | 1 => if c.mode = 0 then false else lut.getLsbD five
      | 2 => if c.mode = 0 then false else lut.getLsbD (32 + five)
      | 3 => (s.fab.ff.get t).getLsbD (2 * (p / 5))
      | _ => (s.fab.ff.get t).getLsbD (2 * (p / 5) + 1)
    else if p < 176 then (s.fab.wu.get t).out.getLsbD (p - 160)
    else if p < 180 then (s.fab.wu.get t).flags.getLsbD (p - 176)
    else if p = 180 then v (.node (.carry t 31))
    else if p = 181 then (s.fab.wu.get t).sat
    else if p < 192 then false
    else s.portOut t p
  | .carry t k =>
    let c := (s.tileSet t).cell k
    let cin := v (if k = 0 then s.tileIn t (s.tileSet t).cin else .node (.carry t (k - 1)))
    if c.mode = 2 then
      let bit (n k : Nat) : Nat := if v (s.tileIn t n) then 2 ^ k else 0
      let five := bit c.i0 0 + bit c.i1 1 + bit c.i2 2 + bit c.i3 3 + bit c.i4 4
      let lut := s.lut t k
      if lut.getLsbD five then cin else lut.getLsbD (32 + five)
    else cin

/-- Do the latches of a frame of tile `t` fail its FCHECK while the region is quarantined (R226, R227)? -/
def State.faulty (s : State) (t kind : Nat) : Bool :=
  s.on (R.UPS_REGION_STATUS.UNCORR (t / 256)) && (match s.activeCtx (t / 256) with
    | some c => let a := tileFrame c t kind; decide (crc32c (s.latched a) ≠ (s.frame a).check)
    | none => false)

/-- Is a node a combinational path through a faulty frame of a quarantined region (R227)? Registered outputs hold. -/
def State.faultyNode (s : State) : Node → Bool
  | .wire t i => !s.regBit t i && (s.faulty t 1 || s.faulty t 2)
  | .to t p => decide (p < 160) && decide (p % 5 < 3) && s.faulty t 0
  | .carry t _ => s.faulty t 0

/-- The value of a source: a wire on a combinational loop (R115), or a path through a faulty frame (R227), carries a free
value. -/
def State.srcVal (s : State) : Nat → Src → Bool
  | _, .const b => b
  | 0, .node n => Config.freeWire s.freeCtr n.code
  | k + 1, .node n =>
    if s.onLoop n || s.faultyNode n then Config.freeWire s.freeCtr n.code else s.nodeEval (s.srcVal k) n

/-- The value of a tile input in this cycle. -/
def State.inputVal (s : State) (t n : Nat) : Bool := s.srcVal nodeBound (s.tileIn t n)

/-! ### Word units (R83 to R88) -/

/-- The flags of a result and of an addition's carry and overflow: Z, N, C, V. -/
def wuFlags (w : Nat) (r : Nat) (c v : Bool) : BitVec 4 :=
  BitVec.ofNat 4 ((decide (r % 2 ^ w = 0)).toNat + (r.testBit (w - 1)).toNat * 2 + c.toNat * 4 + v.toNat * 8)

/-- The signed reading of a number of `w` bits. -/
def asSigned (w x : Nat) : Int := (BitVec.ofNat w x).toInt

/-- An operand as SGN declares it. -/
def asOperand (sgn : Bool) (w x : Nat) : Int := if sgn then asSigned w x else (x % 2 ^ w : Nat)

/-- An addition of `w` bits with a carry in: the result, carry and overflow. -/
def wuAdd (w a b cin : Nat) : Nat × Bool × Bool :=
  let t := a % 2 ^ w + b % 2 ^ w + cin
  let sv := asSigned w a + asSigned w b + cin
  (t % 2 ^ w, decide (2 ^ w ≤ t), decide (sv < -(2 ^ (w - 1) : Int) ∨ (2 ^ (w - 1) : Int) ≤ sv))

/-- A subtraction as A + NOT B + 1: the result, carry (no borrow) and overflow. -/
def wuSub (w a b : Nat) : Nat × Bool × Bool :=
  let t := a % 2 ^ w + (2 ^ w - 1 - b % 2 ^ w) + 1
  let sv := asSigned w a - asSigned w b
  (t % 2 ^ w, decide (2 ^ w ≤ t), decide (sv < -(2 ^ (w - 1) : Int) ∨ (2 ^ (w - 1) : Int) ≤ sv))

/-- The ALU result of operations 0x0 to 0xB (Table 4.3). -/
def wuAlu (op w : Nat) (sgnA : Bool) (a b cin : Nat) : Nat :=
  let a := a % 2 ^ w
  let b := b % 2 ^ w
  match op with
  | 1 => (wuAdd w a b 0).1
  | 2 => (wuSub w a b).1
  | 3 => (wuAdd w a b cin).1
  | 4 => a &&& b
  | 5 => a ||| b
  | 6 => a ^^^ b
  | 7 => if asOperand sgnA w a ≤ asOperand sgnA w b then a else b
  | 8 => if asOperand sgnA w a ≤ asOperand sgnA w b then b else a
  | 9 => a * 2 ^ (b % 16) % 2 ^ w
  | 10 => if sgnA then (BitVec.ofInt w (asSigned w a / (2 ^ (b % 16) : Nat))).toNat else a / 2 ^ (b % 16)
  | _ => a

/-- The flags of operations 0x0 to 0xB: C and V as of A + B or A − B; for the operations that neither add nor subtract, C and
V are what `open_` gives (Table 4.3 states no carry for them). -/
def wuAluFlags (op w : Nat) (sgnA : Bool) (a b cin : Nat) (open_ : DWord) : BitVec 4 :=
  let x := match op with
    | 1 => some (wuAdd w a b 0)
    | 2 => some (wuSub w a b)
    | 3 => some (wuAdd w a b cin)
    | 11 => some (wuSub w a b)
    | _ => none
  match x with
  | some (r, c, v) => wuFlags w r c v
  | none => wuFlags w (wuAlu op w sgnA a b cin) (open_.getLsbD 0) (open_.getLsbD 1)

/-- An accumulator of `w` bits takes a value (R84): wrapped, or saturated. The second part says that it saturated. -/
def accTake (w : Nat) (satAcc : Bool) (v : Int) : BitVec 80 × Bool :=
  let hi : Int := 2 ^ (w - 1) - 1
  let lo : Int := -(2 ^ (w - 1))
  if satAcc && decide (hi < v) then (BitVec.ofInt 80 (hi % 2 ^ w), true)
  else if satAcc && decide (v < lo) then (BitVec.ofInt 80 (lo % 2 ^ w), true)
  else (BitVec.ofInt 80 (v % 2 ^ w), false)

/-- The accumulator window of `w` bits at SHIFT (R85): rounded to nearest with RND, saturated by SGNA with OSAT. -/
def accWindow (w accW shift : Nat) (rnd osat sgnA : Bool) (acc : BitVec 80) : Nat :=
  let a := asSigned accW acc.toNat
  let a := if rnd && decide (0 < shift) then a + (2 ^ (shift - 1) : Nat) else a
  let x := a / (2 ^ shift : Nat)
  let lo : Int := if sgnA then -(2 ^ (w - 1)) else 0
  let hi : Int := if sgnA then 2 ^ (w - 1) - 1 else 2 ^ w - 1
  let x := if osat then max lo (min hi x) else x
  (BitVec.ofInt w x).toNat

/-- The pipe of a unit moves on by one edge: what falls due reaches the output. Two results due at one edge leave the output
open, the free value `x`. -/
def Wu.advance (u : Wu) (x : DWord) : Wu :=
  let moved := u.pipe.map (fun r => { r with left := r.left - 1 })
  let due := moved.filter (fun r => r.left = 0)
  let u := { u with pipe := moved.filter (fun r => !(r.left = 0)), busy := false }
  let u := match due.filterMap (·.out) with
    | [] => u
    | [o] => { u with out := o }
    | _ => { u with out := x.setWidth 32 }
  match (due.filterMap (·.flags)).getLast? with
  | some f => { u with flags := f }
  | none => u

/-- One edge of the clock of a unit, paired or not, with an operation (R83 to R87): the pipe moves on, CLRACC clears the
accumulator, and the operation enters the pipe with its latency (Table 4.4): its flags after 1, and with OSEL = 2 the window of the
accumulator as this edge leaves it after 3, or 4 in a 32 × 32 pair. `x` and `y` are free values for what the spec leaves open.
DESIGN CHOICE (log entry 9): SAT shows from the edge that samples the operands; a paired MUL has latency 2; in a 32 × 16
multiplication B is the 16-bit operand. -/
def Wu.edge (u : Wu) (c : Config.WuSet) (pair : Bool) (op a b cin : Nat) (clr : Bool) (x y : DWord) : Wu :=
  let w := if pair then 32 else 16
  let accW := if pair then 80 else 48
  let wasBusy := u.busy
  let u := u.advance y
  let u := if clr then { u with acc := 0, sat := false } else u
  if wasBusy then u
  else
    let mul := decide (12 ≤ op)
    let prod := asOperand c.sgnA w a * asOperand c.sgnB (if pair && !c.wide then 16 else w) b
    let acc := asSigned accW u.acc.toNat
    let u :=
      if 13 ≤ op then
        let n := accTake accW c.satAcc (if op = 13 then acc + prod else if op = 14 then acc - prod else prod)
        { u with acc := n.1, sat := n.2 || (u.sat && decide (op ≠ 15)) }
      else u
    let low : Nat := (BitVec.ofInt 16 prod).toNat + (if pair then x.toNat / 65536 % 65536 * 65536 else 0)
    let flags := if mul then none else some (wuAluFlags op w c.sgnA a b cin x)
    let out : Nat := if c.osel = 2 then accWindow w accW c.shift c.rnd c.osat c.sgnA u.acc
      else if c.osel = 0 then (if op = 12 then low else if mul then x.toNat else wuAlu op w c.sgnA a b cin)
      else if mul then low else x.toNat
    let long := if pair && c.wide then 4 else 3
    let lat : Nat := if c.osel = 2 then long else if !mul then 1 else if op = 12 then 2 else long
    let res : WuRes := { left := lat, out := some (BitVec.ofNat 32 out), flags := if lat = 1 then flags else none }
    let early : List WuRes := if mul || lat = 1 then [] else [{ left := 1, flags := flags }]
    { u with pipe := u.pipe ++ early ++ [res], busy := pair && c.wide && mul }

/-- The angle tap of a tile (R93): the 16 bits of its field, with JUMP, DIR and STATE of its axis, of the tick its region has
taken. The word unit takes the 16 bits as operand A (R83); no TO position carries the rest (Table 5.3). -/
structure Tap where
  bits : Half
  jump : Bool
  dir : Bool
  state : Nat

def State.tap (s : State) (t : Nat) : Tap :=
  let ts := s.tileSet t
  let w := (s.region (t / 256)).taken.getD (ts.tapAxis % 16) {}
  let f := ts.tapField % 8
  { bits := if f < 4 then (w.value >>> (16 * f)).setWidth 16 else (w.time >>> (16 * (f - 4))).setWidth 16
    jump := w.jump, dir := w.dir, state := w.state }

/-- Is tile `t` the even tile of a word-unit pair (R87)? -/
def State.wuPair (s : State) (t : Nat) : Bool := decide (t % 2 = 0) && (s.tileSet t).wu.pair

/-- The operands A and B of the unit of tile `t`, `a` and `b` its routed signals: each tile of a pair puts its angle tap or its
constant K in place of its own half (R83, R87). -/
def State.wuA (s : State) (t a : Nat) : Nat :=
  let half (u h : Nat) : Nat := if (s.tileSet u).wu.useTap then (s.tap u).bits.toNat else h % 65536
  half t a + (if s.wuPair t then half (t + 1) (a / 65536) * 65536 else 0)
def State.wuB (s : State) (t b : Nat) : Nat :=
  let half (u h : Nat) : Nat := if (s.tileSet u).wu.useK then (s.tileSet u).wu.k.toNat else h % 65536
  half t b + (if s.wuPair t then half (t + 1) (b / 65536) * 65536 else 0)

/-- The unit of tile `t`, with its pair's, takes an edge with an operation; `p` is the state whose settings and taps it samples.
DESIGN CHOICE (log entry 9): the flags and SAT of a pair also appear at the odd tile. -/
def State.wuStep (s p : State) (t op a b cin : Nat) (clr : Bool) (x y : DWord) : State :=
  let pair := p.wuPair t
  let u := (s.fab.wu.get t).edge (p.tileSet t).wu pair op (p.wuA t a) (p.wuB t b) cin clr x y
  let one := s.fab.wu.set t u
  let both := one.upd (t + 1) (fun v => { v with out := u.out >>> 16, flags := u.flags, sat := u.sat })
  { s with fab := { s.fab with wu := if pair then both else one } }

/-- Does the unit of tile `t` follow its even partner (R87)? -/
def State.wuFollows (s : State) (t : Nat) : Bool := decide (t % 2 = 1) && s.wuPair (t - 1)

/-- An operation of the word unit of tile `t` at an edge of its clock, with the routed operands that the command gives. The odd
unit of a pair follows its partner (R87); a gated unit does nothing. -/
def State.wuOp (s : State) (t op : Nat) (a b : Word) (cin clr : Bool) : State :=
  if s.gated (t / 256) || s.wuFollows t then s
  else
    let x := s.free
    let y := x.2.free
    y.2.wuStep y.2 t op a.toNat b.toNat cin.toNat clr x.1 y.1

/-- The number that a list of tile inputs carries, bit 0 first. -/
def State.inputNat (s : State) (t : Nat) (l : List Nat) : Nat :=
  ((List.range l.length).map (fun i => (s.inputVal t (l.getD i 0)).toNat * 2 ^ i)).sum

/-! ### Region comparators and the comparator port (R55 to R57, R97 to R100) -/

/-- The store's key of comparator `k` of slot `c` of region `g`. -/
def rcKey (g c k : Nat) : Nat := (g * 8 + c) * 16 + k

/-- The settings of a region comparator by its control word and period. -/
def RCmp.cfg (r : RCmp) : TargetCfg :=
  let v := r.ctl.toNat
  let m := v / 1024 % 4
  { axis := v / 4096 % 16, mode := if m = 0 then 0 else if v.testBit 3 then 4 else m, dirsel := v / 256 % 4
    jskip := v.testBit 7, reqlock := v.testBit 6, late := v.testBit 5, period := r.period, close := r.period }

def State.rcmp (s : State) (key : Nat) : RCmp := s.fab.rcmp.get key
def State.setRcmp (s : State) (key : Nat) (r : RCmp) : State :=
  { s with fab := { s.fab with rcmp := s.fab.rcmp.set key r } }

/-- The control word with ARM as the hardware left it. -/
def RCmp.withArm (r : RCmp) (b : Bool) : RCmp :=
  { r with ctl := if b then r.ctl ||| 0x10#16 else r.ctl &&& 0xFFEF#16, tgt := { r.tgt with armed := b } }

/-- A comparator comes into force (R517): when its context is active, R53 is applied. -/
def State.rcEnter (s : State) (key : Nat) : State :=
  let r := s.rcmp key
  let e := s.enter r.cfg r.tgt
  s.setRcmp key ({ r with tgt := e.1 }.withArm e.1.armed)

/-- Is the context of a comparator active? -/
def State.rcActive (s : State) (key : Nat) : Bool := decide (s.activeCtx (key / 128) = some (key / 16 % 8))

/-- A comparator-port write comes into force (R97, R517). -/
def State.rcForce (s : State) (p : RCmpPend) : State :=
  let r := s.rcmp p.key
  let act := s.rcActive p.key
  match p.wsel with
  | 3 =>
    let s := s.setRcmp p.key { r with tgt := { r.tgt with at_ := p.value } }
    if act then s.rcEnter p.key else s
  | 4 =>
    let n : Half := p.value.setWidth 16
    let was := r.ctl.getLsbD 4
    let is := n.getLsbD 4
    let moved := (r.ctl ^^^ n) &&& 0xFF08#16 ≠ 0#16
    let s := s.setRcmp p.key { r with ctl := n, tgt := { r.tgt with armed := is } }
    if act && is && (!was || moved) then s.rcEnter p.key else s
  | _ => s.setRcmp p.key { r with period := p.value.setWidth 32 }

/-- The port writes whose in-force tick this is. -/
def State.rcDue (s : State) : State :=
  let due := s.fab.rpend.filter (fun p => decide (p.due ≤ s.tick))
  let s := { s with fab := { s.fab with rpend := s.fab.rpend.filter (fun p => !decide (p.due ≤ s.tick)) } }
  due.foldl State.rcForce s

/-- A write through the comparator port of region `g` (R97, R99): target and period words are staged; WSEL 3 and 6 commit, a
control word follows at its tick. -/
def State.cmpPortWrite (s : State) (g csel wsel : Nat) (data : Half) (sub : Nat) : State :=
  match s.activeCtx g with
  | none => s
  | some c =>
    let key := rcKey g c (csel % 16)
    let r := s.rcmp key
    let later (s : State) (w : Nat) (v : DWord) : State :=
      { s with fab := { s.fab with rpend := s.fab.rpend ++ [{ due := s.dueTick sub, key := key, wsel := w, value := v }] } }
    let put (old : DWord) (k : Nat) : DWord :=
      BitVec.ofNat 64 (old.toNat - (old.toNat / 2 ^ (16 * k) % 65536) * 2 ^ (16 * k) + data.toNat * 2 ^ (16 * k))
    if wsel < 4 then
      let v := put r.stTgt wsel
      let s := s.setRcmp key { r with stTgt := v }
      if wsel = 3 then later s 3 v else s
    else if wsel = 4 then later s 4 ((data &&& 0xFFF8#16).setWidth 64)
    else if wsel < 7 then
      let v := put (r.stPer.setWidth 64) (wsel - 5)
      let s := s.setRcmp key { r with stPer := v.setWidth 32 }
      if wsel = 6 then later s 6 v else s
    else s

/-- A word of a comparator as it is in force (R97). -/
def RCmp.word (r : RCmp) (wsel : Nat) : Half :=
  if wsel < 4 then (r.tgt.at_ >>> (16 * wsel)).setWidth 16
  else if wsel = 4 then r.ctl
  else if wsel < 7 then (r.period >>> (16 * (wsel - 5))).setWidth 16 else 0#16

/-- What a region's comparators have done so far in this tick is noted for the edge that takes it (R56). -/
def State.shotAdd (s : State) (g pulses levels : Nat) (ports : List Nat) : State :=
  let r := s.region g
  let l := match r.shots.getLast? with
    | some x => if x.tick = s.tick then x else { tick := s.tick }
    | none => { tick := s.tick }
  let x : Shot := { tick := s.tick, pulses := l.pulses ||| pulses, levels := l.levels ||| levels, ports := l.ports ++ ports }
  s.setRegion g { r with shots := r.shots.filter (fun y => y.tick ≠ s.tick) ++ [x] }

/-- One region comparator at a tick (R55, R57, R98): the state, and the region whose switch trigger fired. -/
def State.rcmpTick (s : State) (key : Nat) : State × List Nat :=
  let g := key / 128
  if s.rcActive key && (s.region g).released then
    let c := s.rcmp key
    let o := s.targetTick c.cfg c.tgt
    let fired := o.2.fired
    let s := s.setRcmp key ({ c with tgt := o.1 }.withArm (if c.cfg.mode = 1 then o.1.armed else c.tgt.armed))
    let bit := if c.outs.testBit 0 then 2 ^ (key % 16) else 0
    let window := decide (c.cfg.mode = 4)
    (s.shotAdd g (if fired && !window then bit else 0) (if window && o.1.level then bit else 0)
        (if fired && c.outs.testBit 2 then [c.outs / 8 % 4] else []),
     if fired && c.outs.testBit 1 then [g] else [])
  else (s, [])

/-- The region comparators at a tick: the state, and the regions whose switch trigger fired (order 5 of Table 3.4). -/
def State.rcmpsTick (s : State) : State × List Nat :=
  (s.fab.rcmp.map (·.1)).foldl (fun r key =>
    let o := r.1.rcmpTick key
    (o.1, r.2 ++ o.2)) (s, [])

/-! ### Clock edges (R79 to R82, R89, R110, R118, R149) -/

/-- DIV of network `k` of the active context (Table 8.9, REGION). -/
def State.divOf (s : State) (g k : Nat) : Nat :=
  if k = 0 then 1
  else match s.activeCtx g with
    | some c => frameNat (s.latched (frameAddr c g 0 0 9)) 0 2 / 16 ^ (k - 1) % 16 + 1
    | none => 1

/-- Does network `k` have its rising or its falling edge at this half period (R89)? PRESUMED (log entry 9): a divided clock falls
half its period after it rises, for an odd DIV on a falling edge of CKN0. -/
def State.netEdge (s : State) (g k : Nat) (invert : Bool) : Bool :=
  let d := s.divOf g k
  decide ((s.region g).half % (2 * d) = if invert then d else 0)

/-- The initial flip-flop values of tile `t` in slot `c` (Table 8.9, LOGIC bytes 263:256). -/
def State.initBits (s : State) (c t : Nat) : BitVec 64 := BitVec.ofNat 64 (frameNat (s.frame (tileFrame c t 0)).data 256 8)

/-- The next flip-flops of tile `t` (R79 to R81). -/
def State.nextFF (s : State) (t : Nat) : BitVec 64 :=
  let ts := s.tileSet t
  let old := s.fab.ff.get t
  let ini : BitVec 64 := BitVec.ofNat 64 (frameNat (s.cfgBytes t 0) 256 8)
  let v (n : Nat) : Bool := s.inputVal t n
  let bit (j : Nat) : Bool :=
    let c := j / 2
    let q := ts.quarter (c / 8)
    let cell := ts.cell c
    if !s.netEdge (t / 256) q.clk q.invert then old.getLsbD j
    else
      let sr := match q.sr with
        | some n => v n
        | none => false
      if sr then (match q.srValue with
        | 0 => false
        | 1 => true
        | _ => ini.getLsbD j)
      else
        let ce := match q.ce with
          | some n => v n
          | none => true
        if !ce then old.getLsbD j
        else if j % 2 = 0 then
          (match cell.d0 with
           | 0 => v (224 + 5 * c)
           | 1 => v (224 + 5 * c + 1)
           | _ => v cell.x0)
        else
          (match cell.d1 with
           | 0 => v (224 + 5 * c)
           | 1 => v (224 + 5 * c + 2)
           | _ => v cell.x1)
  BitVec.ofNat 64 (((List.range 64).map (fun j => (bit j).toNat * 2 ^ j)).sum)

/-- The next switch registers of tile `t` (R110): those with REG = 1 sample their multiplexer at an edge of their clock. -/
def State.nextSw (s : State) (t : Nat) : BitVec 224 :=
  let old := s.fab.sw.get t
  let bit (i : Nat) : Bool :=
    if s.regBit t i && s.netEdge (t / 256) (s.swClock t i) false then
      (match selInput (s.selField t i) with
       | none => false
       | some b => match muxInput i b with
         | .wire k => s.inputVal t k
         | .to p => s.inputVal t (224 + p))
    else old.getLsbD i
  BitVec.ofNat 224 (((List.range 224).map (fun i => (bit i).toNat * 2 ^ i)).sum)

/-- The tiles of a region. -/
def tilesOf (g : Nat) : List Nat := (List.range 256).map (fun k => g * 256 + k)

/-- Does a hold, or the period after an ungating, engage the dampers on a source region's wires (R119, R122)? -/
def State.heldSource (s : State) (g : Nat) : Bool := (s.region g).held || decide ((s.region g).settling ≠ 0)
/-- Is it a hold that does (SYS_DMPn_STATUS)? -/
def State.holdShields (s : State) (g : Nat) : Bool := (s.region g).held || decide ((s.region g).settling = 1)
/-- Has a source region no release, no ACTIVE slot or no power (R119)? -/
def State.noSource (s : State) (g : Nat) : Bool :=
  !(s.region g).released || !s.on (R.CTX_REGION_STATUS.HASACT g) || !s.logicOn g

/-- A damper at an edge of the receiving region's CKN0 (R118 to R121). `p` is the state before the edge, whose levels it samples
and whose configuration it goes by; `e` the state that the edge makes of region control, by which holds are judged, and the
configuration too of the source regions in `same`, which switch with the receiver on this edge (R124). -/
def damperNext (p e : State) (same : List Nat) (t i : Nat) : Damper :=
  match driverOf t i with
  | none => p.damperOf t i
  | some (u, j) =>
    let d := p.damperOf t i
    let src := u / 256
    let c := if same.contains src then e else p
    if e.heldSource src || c.noSource src || decide (c.selField u j = 0) then
      (if d.engaged then d
       else { d with engaged := true, held := d.been && p.srcVal nodeBound (.node (.wire u j)) })
    else { d with engaged := false, been := true }

/-- The border in-wires of a region: tile and wire. -/
def borderWires (g : Nat) : List (Nat × Nat) :=
  (tilesOf g).flatMap (fun t => ((List.range 224).filter (isBorder t)).map (fun i => (t, i)))

/-- The neighbouring region on a side, if there is one. -/
def regionBeside (g side : Nat) : Option Nat :=
  match side with
  | 0 => if 0 < g % 256 / 16 then some (g - 16) else none
  | 1 => if g % 16 < 15 then some (g + 1) else none
  | 2 => if g % 256 / 16 < 15 then some (g + 16) else none
  | 3 => if 0 < g % 16 then some (g - 1) else none
  | _ => some ((g + 256) % 512)

/-- The neighbours of a region. -/
def neighboursOf (g : Nat) : List Nat := (List.range 5).filterMap (regionBeside g)

/-- The sides of region `g` on which a hold has engaged its dampers: bit 0 N to bit 4 V. -/
def State.heldSides (s : State) (g : Nat) : Nat :=
  ((List.range 5).map (fun k => match regionBeside g k with
    | some r => if s.holdShields r then 2 ^ k else 0
    | none => 0)).sum

/-- SYS_DMPn_STATUS follows the neighbours and the dampers of region `g`. -/
def State.dmpShow (s : State) (g : Nat) : State :=
  let x := (s.region g).sides
  let s := (((s.putB (R.SYS_DMP_STATUS.N g) (x.testBit 0)).putB (R.SYS_DMP_STATUS.E g) (x.testBit 1)).putB (R.SYS_DMP_STATUS.S g) (x.testBit 2)).putB (R.SYS_DMP_STATUS.W g) (x.testBit 3)
  let s := s.putB (R.SYS_DMP_STATUS.V g) (x.testBit 4)
  let s := s.putB (R.SYS_DMP_STATUS.NOSRC g) ((neighboursOf g).any s.noSource)
  let undriven := (borderWires g).any (fun x => match driverOf x.1 x.2 with
    | some (u, j) => !s.noSource (u / 256) && decide (s.selField u j = 0)
    | none => false)
  s.putB (R.SYS_DMP_STATUS.UNDRIVEN g) undriven

/-- The dampers of region `g` clock (R118). -/
def State.dampersEdge (s p e : State) (same : List Nat) (g : Nat) : State :=
  let d := (borderWires g).map (fun x => (x.1 * 224 + x.2, damperNext p e same x.1 x.2))
  let s := { s with fab := { s.fab with damper := d.foldl (fun m (x : Nat × Damper) => m.set x.1 x.2) s.fab.damper } }
  s.setRegion g { s.region g with sides := e.heldSides g }

/-- The dampers of region `g` have never been transparent since its start release or fabric reset (R121). -/
def State.dampersFresh (s : State) (g : Nat) : State :=
  { s with fab := { s.fab with damper := s.fab.damper.foldl (fun m x =>
      m.set x.1 (if x.1 / 224 / 256 = g then { x.2 with been := false, held := false } else x.2)) [] } }

/-- A hold of region `g` is asked for (R122): it will correct the latches of `fixes`, and re-initialise the region with `reinit`. Every
powered neighbour must acknowledge. -/
def State.holdAsk (s : State) (g : Nat) (fixes : List Nat) (reinit : Bool) : State :=
  let r := s.region g
  s.setRegion g { r with
    held := true, written := false, settling := 0, fixes := r.fixes ++ fixes, reinit := r.reinit || reinit
    waitAck := if r.held then r.waitAck else (neighboursOf g).filter s.logicOn }

/-- The user registers of region `g` clock (R79 to R82, R110): flip-flops and switch registers take together what they sampled from
`p`, the state before the edge. -/
def State.userEdge (s p : State) (g : Nat) : State :=
  let ff := (tilesOf g).map (fun t => (t, p.nextFF t))
  let sw := (tilesOf g).map (fun t => (t, p.nextSw t))
  { s with fab := { s.fab with
      ff := ff.foldl (fun m e => m.set e.1 e.2) s.fab.ff
      sw := sw.foldl (fun m e => m.set e.1 e.2) s.fab.sw } }

/-- The word units of region `g` whose clock has an edge take their operation, sampled from `p` (R83, R109). -/
def State.unitsEdge (s p : State) (g : Nat) : State :=
  (tilesOf g).foldl (fun s t =>
    let c := (p.tileSet t).wu
    if p.netEdge g c.clk c.invert && !p.wuFollows t then
      let two (f : Config.WuSet → List Nat) : Nat :=
        p.inputNat t (f c) % 65536 + (if p.wuPair t then p.inputNat (t + 1) (f (p.tileSet (t + 1)).wu) % 65536 * 65536 else 0)
      let op := match c.opSrc with
        | some l => p.inputNat t l % 16
        | none => c.op % 16
      s.wuStep p t op (two (·.aSrc)) (two (·.bSrc)) (p.inputVal t c.cinSrc).toNat (p.inputVal t c.clrSrc)
        (Config.freeUnit p.freeCtr (2 * t)) (Config.freeUnit p.freeCtr (2 * t + 1))
    else s) s

/-- The port inputs of tiles 0.0 and 0.1 in the order of R96: CSEL 0–3, WSEL 4–6, DATA 7–22, WE 23, KICK 24, SWTRIG 25 at tile
0.0; FXOD 0 and FXOEN 1 at tile 0.1. -/
def State.portIn (s : State) (t k : Nat) : Bool := s.inputVal t ((s.tileSet t).portIn k)

/-- A number read from consecutive port inputs. -/
def State.portNat (s : State) (t lo n : Nat) : Nat :=
  ((List.range n).map (fun k => (s.portIn t (lo + k)).toNat * 2 ^ k)).sum

/-- The number of a region's FXI and FXO, and the region of such a number (R95). -/
def fxPort (g : Nat) : Nat := 2 * (g % 256) + g / 256
def fxRegion (n : Nat) : Nat := n % 2 * 256 + n / 2

/-- The FXO register takes its tile's port inputs as `p` carries them (R96, R150). -/
def State.fxoEdge (s p : State) (g : Nat) : State :=
  s.setRegion g { s.region g with fxo := p.portIn (g * 256 + 1) 0, fxoen := p.portIn (g * 256 + 1) 1 }

/-- What region control does at a rising edge of CKN0, `p` the state before it: the tick of R29 is taken when it is 1 ns old, the
comparators' outputs change with it (R56), CRD moves on (R97), a switch in progress counts (R146), the FXI synchroniser
clocks (R96). -/
def State.controlEdge (s p : State) (g sub : Nat) (fxi : Bool) : State :=
  let r := s.region g
  let bus := if 1000 ≤ sub then s.ang.bus else s.ang.busOld
  let busTick := if 1000 ≤ sub then s.ang.busTick else s.ang.busOldTick
  let due := r.shots.filter (fun x => decide (x.tick ≤ busTick))
  let levels := match due.getLast? with
    | some x => x.levels
    | none => r.levels
  let crdWord : Half := match s.activeCtx g with
    | some c => (s.rcmp (rcKey g c (p.portNat (g * 256) 0 4))).word (p.portNat (g * 256) 4 3)
    | none => 0#16
  let edges := match r.edges with
    | some k => if k < 3 then some (k + 1) else none
    | none => none
  let r := { r with
    taken := if r.takenTick < busTick then bus else r.taken, takenTick := max r.takenTick busTick
    shots := r.shots.filter (fun x => decide (busTick < x.tick)), levels := levels
    cmpOut := due.foldl (fun m x => m ||| x.pulses) levels
    crd := r.crdNext, crdNext := crdWord, edges := edges
    wdexp := r.wdexpDue, wdexpDue := false
    fxi0 := fxi, fxi1 := r.fxi0 }
  let s := s.setRegion g r
  if edges = some 1 then s.putB (R.CTX_REGION_STATUS.SWPEND g) true else s

/-- The ledger ports that comparators strobe at the edge about to come (R55, R56). -/
def State.strobes (s : State) (g sub : Nat) : List Nat :=
  let busTick := if 1000 ≤ sub then s.ang.busTick else s.ang.busOldTick
  ((s.region g).shots.filter (fun x => decide (x.tick ≤ busTick))).flatMap (·.ports)

/-! ### Taking initial values (R82, R88, R111) -/

/-- Flip-flops of region `g` take the initial values of slot `c`. -/
def State.ffInit (s : State) (g c : Nat) : State :=
  { s with fab := { s.fab with ff := (tilesOf g).foldl (fun m t => m.set t (s.initBits c t)) s.fab.ff } }

/-- Switch registers and word-unit registers of region `g` take zero (R88, R111). -/
def State.swWuClear (s : State) (g : Nat) : State :=
  { s with fab := { s.fab with sw := s.fab.sw.keep (fun t => decide (t / 256 ≠ g)), wu := s.fab.wu.keep (fun t => decide (t / 256 ≠ g)) } }

/-- The watchdog of region `g` reloads to TMO (R101, R102). -/
def State.fwdReload (s : State) (g : Nat) : State := s.put (R.SYS_FWD_STATUS.COUNT g) (s.g (R.SYS_FWD_CFG.TMO g))

/-- The comparator store of a slot takes the slot's COMP frame (R134, R203). -/
def State.loadComp (s : State) (g c : Nat) : State :=
  let l := (s.frame (frameAddr c g 0 0 8)).data
  (List.range 16).foldl (fun s k =>
    let ctl : Half := BitVec.ofNat 16 (frameNat l (16 * k + 12) 2)
    let tgt : DWord := BitVec.ofNat 64 (frameNat l (16 * k) 8)
    let per : Word := BitVec.ofNat 32 (frameNat l (16 * k + 8) 4)
    s.setRcmp (rcKey g c k)
      { tgt := { at_ := tgt, armed := ctl.getLsbD 4 }, ctl := ctl, period := per, stTgt := tgt, stPer := per
        outs := frameNat l (16 * k + 14) 2 % 32 }) s

/-- The comparators of a slot come into force as its context becomes active (R57, R517): between two ticks, so that a late target
fires at the next one. Windows that the axis stands in raise their level at once; nothing of the context before is shown. -/
def State.compEnter (s : State) (g c : Nat) : State :=
  let s := s.each (List.range 16) (fun s k =>
    let s := s.rcEnter (rcKey g c k)
    let r := s.rcmp (rcKey g c k)
    s.setRcmp (rcKey g c k) { r with tgt := { r.tgt with lateDue := min 1 r.tgt.lateDue } })
  let lv := ((List.range 16).map (fun k =>
    let r := s.rcmp (rcKey g c k)
    if r.outs.testBit 0 && decide (r.cfg.mode = 4) && r.tgt.level then 2 ^ k else 0)).sum
  s.setRegion g { s.region g with shots := [], levels := lv, cmpOut := lv }

/-- The watchdogs count a microsecond: every 250 angle ticks (R101, R102). At zero FWD_EXPIRY follows. -/
def State.fwdTick (s : State) : State :=
  if s.tick % 250 ≠ 0 then s
  else s.each (List.range 512) (fun s g =>
    if s.gated g || decide (s.g (R.SYS_FWD_CFG.TMO g) = 0) then s
    else if 0 < s.g (R.SYS_FWD_STATUS.COUNT g) then s.put (R.SYS_FWD_STATUS.COUNT g) (s.g (R.SYS_FWD_STATUS.COUNT g) - 1) else s)

/-! ### Commands -/

/-- CMP_PORT_WRITE (R97). -/
def execCmpPortWrite (g csel wsel : Nat) (data : Half) (sub : Nat) (s : State) : Host.Outcome State Fault Refusal :=
  done (s.cmpPortWrite g csel wsel data sub)
/-- WU_PASS (R83): the word unit of tile `t` samples operands for operation 0x0. -/
def execWuPass (t : Nat) (a b : Word) (s : State) : Host.Outcome State Fault Refusal := done (s.wuOp t 0 a b false false)
/-- WU_ADD (R83): the word unit of tile `t` samples operands for operation 0x1. -/
def execWuAdd (t : Nat) (a b : Word) (s : State) : Host.Outcome State Fault Refusal := done (s.wuOp t 1 a b false false)
/-- WU_SUB (R83): the word unit of tile `t` samples operands for operation 0x2. -/
def execWuSub (t : Nat) (a b : Word) (s : State) : Host.Outcome State Fault Refusal := done (s.wuOp t 2 a b false false)
/-- WU_ADDC (R83): the word unit of tile `t` samples operands for operation 0x3. -/
def execWuAddc (t : Nat) (a b : Word) (cin : Bool) (s : State) : Host.Outcome State Fault Refusal := done (s.wuOp t 3 a b cin false)
/-- WU_AND (R83): the word unit of tile `t` samples operands for operation 0x4. -/
def execWuAnd (t : Nat) (a b : Word) (s : State) : Host.Outcome State Fault Refusal := done (s.wuOp t 4 a b false false)
/-- WU_OR (R83): the word unit of tile `t` samples operands for operation 0x5. -/
def execWuOr (t : Nat) (a b : Word) (s : State) : Host.Outcome State Fault Refusal := done (s.wuOp t 5 a b false false)
/-- WU_XOR (R83): the word unit of tile `t` samples operands for operation 0x6. -/
def execWuXor (t : Nat) (a b : Word) (s : State) : Host.Outcome State Fault Refusal := done (s.wuOp t 6 a b false false)
/-- WU_MIN (R83): the word unit of tile `t` samples operands for operation 0x7. -/
def execWuMin (t : Nat) (a b : Word) (s : State) : Host.Outcome State Fault Refusal := done (s.wuOp t 7 a b false false)
/-- WU_MAX (R83): the word unit of tile `t` samples operands for operation 0x8. -/
def execWuMax (t : Nat) (a b : Word) (s : State) : Host.Outcome State Fault Refusal := done (s.wuOp t 8 a b false false)
/-- WU_SHL (R83): the word unit of tile `t` samples operands for operation 0x9. -/
def execWuShl (t : Nat) (a b : Word) (s : State) : Host.Outcome State Fault Refusal := done (s.wuOp t 9 a b false false)
/-- WU_SHR (R83): the word unit of tile `t` samples operands for operation 0xA. -/
def execWuShr (t : Nat) (a b : Word) (s : State) : Host.Outcome State Fault Refusal := done (s.wuOp t 10 a b false false)
/-- WU_CMP (R83): the word unit of tile `t` samples operands for operation 0xB. -/
def execWuCmp (t : Nat) (a b : Word) (s : State) : Host.Outcome State Fault Refusal := done (s.wuOp t 11 a b false false)
/-- WU_MUL (R83): the word unit of tile `t` samples operands for operation 0xC. -/
def execWuMul (t : Nat) (a b : Word) (s : State) : Host.Outcome State Fault Refusal := done (s.wuOp t 12 a b false false)
/-- WU_MAC (R83): the word unit of tile `t` samples operands for operation 0xD. -/
def execWuMac (t : Nat) (a b : Word) (s : State) : Host.Outcome State Fault Refusal := done (s.wuOp t 13 a b false false)
/-- WU_MSU (R83): the word unit of tile `t` samples operands for operation 0xE. -/
def execWuMsu (t : Nat) (a b : Word) (s : State) : Host.Outcome State Fault Refusal := done (s.wuOp t 14 a b false false)
/-- WU_LDACC (R83): the word unit of tile `t` samples operands for operation 0xF. -/
def execWuLdacc (t : Nat) (a b : Word) (s : State) : Host.Outcome State Fault Refusal := done (s.wuOp t 15 a b false false)
/-- CLRACC (R83): an edge of the word unit with CLRACC asserted, on which it samples operands and carry in for operation `op`. -/
def execClracc (t op : Nat) (a b : Word) (cin : Bool) (s : State) : Host.Outcome State Fault Refusal := done (s.wuOp t (op % 16) a b cin true)
/-- KICK (R101): a rising edge reloads the watchdog of region `g`. -/
def execKick (g : Nat) (s : State) : Host.Outcome State Fault Refusal := done (s.fwdReload g)
/-- A write to SYS_FWDn_CFG reloads the count with the new TMO (R101). -/
def State.fwdCfgWrite (s : State) (g : Nat) (v : Word) : State := (s.wr (R.SYS_FWD_CFG.reg g) (v &&& 0x3FFFF#32)).fwdReload g
/-- SYS_FWD_CFG_WRITE (R101). -/
def execSysFwdCfgWrite (g : Nat) (v : Word) (s : State) : Host.Outcome State Fault Refusal := done (s.fwdCfgWrite g v)
/-- A write of 1 to UNFREEZE (R104): it reads 1 until the region's next switch-clock edge acts on it. -/
def State.unfreeze (s : State) (g : Nat) : State := s.putB (R.SYS_FWD_STATUS.UNFREEZE g) true

/-- The edge that acts on UNFREEZE (R104): the region leaves the freeze, its watchdog reloads (R102), and a quarantine ends (R227). -/
def State.thaw (s : State) (g : Nat) : State :=
  if s.on (R.SYS_FWD_STATUS.UNFREEZE g) then
    let was := s.on (R.SYS_FWD_STATUS.FROZEN g)
    let s := ((s.putB (R.SYS_FWD_STATUS.UNFREEZE g) false).putB (R.SYS_FWD_STATUS.FROZEN g) false).putB (R.UPS_REGION_STATUS.UNCORR g) false
    if was then s.fwdReload g else s
  else s
/-- UNFREEZE (R104). -/
def execUnfreeze (g : Nat) (s : State) : Host.Outcome State Fault Refusal := done (s.unfreeze g)
end Sys2Proof.Machine
end

