-- ==== Sys2Proof/Machine/Mailbox.lean ====
section
/-! DEFINITION. The mailbox's slots (spec/22, R487, R488) and the memory accesses the requests make. -/

namespace Sys2Proof.Machine

/-! ### Slots -/

def mbxFREE : Nat := 0
def mbxPOSTED : Nat := 1
def mbxRUNNING : Nat := 2
def mbxANSWERED : Nat := 3

/-- The state of mailbox slot `m` (USB_MBX_STATE). -/
def State.mbxState (s : State) (m : Nat) : Nat := s.g R.USB_MBX_STATE.STATE / 4 ^ m % 4

def State.setMbx (s : State) (m st : Nat) : State :=
  s.put R.USB_MBX_STATE.STATE (s.g R.USB_MBX_STATE.STATE - s.mbxState m * 4 ^ m + st * 4 ^ m)

/-- The request code in slot `m`. -/
def State.mbxCode (s : State) (m : Nat) : Nat := s.g (R.USB_MBX_REQ.REQ m) % 256

/-- Argument `k` of slot `m`. -/
def State.mbxArg (s : State) (m k : Nat) : Nat := s.g (R.USB_MBX_A.A m k)

/-- Is slot `m` running a request of a code? -/
def State.mbxRuns (s : State) (m code : Nat) : Bool :=
  decide (m < 16) && decide (s.mbxState m = mbxRUNNING) && decide (s.mbxCode m = code)

/-- The 40-bit address in arguments `lo` (bits 31:0) and `lo + 1` (bits 39:32). -/
def State.mbxAddr (s : State) (m lo : Nat) : Nat := s.mbxArg m lo + s.mbxArg m (lo + 1) % 256 * 2 ^ 32

/-- A running request is answered (R488 step 4): R0 to R2, then RSP with the echoed TAG, ANSWERED, and the DONE bit. -/
def State.answerMbx (s : State) (m status r0 r1 : Nat) : State :=
  if s.mbxState m = mbxRUNNING then
    let s := (((s.put (R.USB_MBX_R.RES m 0) r0).put (R.USB_MBX_R.RES m 1) r1).put (R.USB_MBX_R.RES m 2) 0)
    let s := s.put (R.USB_MBX_RSP.RSP m) (status % 256 + s.g (R.USB_MBX_REQ.REQ m) / 65536 * 65536)
    (s.setMbx m mbxANSWERED).setBit R.USB_MBX_DONE.DONE m
  else s

/-- The status of a request whose arguments name nothing the device has (Table 9.4). -/
def mbBADREQ : Nat := 0x41

/-! ### Reads and writes of the units that serve requests -/

/-- `n` bytes read from address `a` by initiator `ini`, request by request within 4 KiB spans (R284); none when a request
receives an error response. -/
def State.readSpan (s : State) (ini : Nat) : Nat → Nat → Nat → State × Option (List Byte)
  | 0, _, n => (s, if n = 0 then some [] else none)
  | k + 1, a, n =>
    if n = 0 then (s, some [])
    else
      let m := min n (4096 - a % 4096)
      let r := s.direct ini { ini := ini, op := 0, addr := a, len := m }
      if r.2.1 ≠ 0 then (r.1, none)
      else
        let t := r.1.readSpan ini k (a + m) (n - m)
        (t.1, t.2.map (fun l => r.2.2.take m ++ l))

/-- A read of any length the device makes: at most `n / 4096 + 2` requests. -/
def State.readAt (s : State) (ini a n : Nat) : State × Option (List Byte) := s.readSpan ini (n / 4096 + 2) a n

/-- Bytes written from address `a` by initiator `ini`, request by request within 4 KiB spans: the state and whether every
request was answered OK. -/
def State.writeSpan (s : State) (ini : Nat) : Nat → Nat → List Byte → State × Bool
  | 0, _, l => (s, l.isEmpty)
  | k + 1, a, l =>
    if l.isEmpty then (s, true)
    else
      let m := min l.length (4096 - a % 4096)
      let r := s.direct ini { ini := ini, op := 1, addr := a, len := m, data := l.take m }
      if r.2.1 ≠ 0 then (r.1, false) else r.1.writeSpan ini k (a + m) (l.drop m)

def State.writeAt (s : State) (ini a : Nat) (l : List Byte) : State × Bool := s.writeSpan ini (l.length / 4096 + 2) a l

end Sys2Proof.Machine
end

