-- ==== Sys2Proof/Machine/Context.lean ====
section
/-! DEFINITION. Contexts and switching (spec/06, R129 to R154): slot states, switch groups, triggers, edge 3. -/

namespace Sys2Proof.Machine

/-! ### Slots (Tables 6.2, 6.3) -/

def slotEMPTY : Nat := 0
def slotLOADING : Nat := 1
def slotPROOFED : Nat := 2
def slotACTIVE : Nat := 3
def slotINVALID : Nat := 4

/-- The state of slot `c` of region `g`. -/
def State.slotState (s : State) (g c : Nat) : Nat := s.g (R.CTX_SLOT_STATE.STATE (g * 8 + c))
def State.setSlot (s : State) (g c st : Nat) : State := s.put (R.CTX_SLOT_STATE.STATE (g * 8 + c)) st

/-- Is region `g` a member of switch group `n` (R139)? -/
def State.inGroup (s : State) (n g : Nat) : Bool :=
  s.on (R.CTX_REGION_CTL.MEMBER g) && decide (s.g (R.CTX_REGION_CTL.GROUP g) = n)

/-- The members of switch group `n` in region order. -/
def State.members (s : State) (n : Nat) : List Nat := (List.range 512).filter (s.inGroup n)

/-- Is switch group `n` armed, or between edge 0 and edge 3 (R142)? -/
def State.sgLocks (s : State) (n : Nat) : Bool := s.on (R.CTX_SG_CFG.ARM n) || s.on (R.CTX_SG_STATUS.BUSY n)

/-- Is slot `c` of region `g` locked as the target of an armed or switching group (R142)? -/
def State.slotLocked (s : State) (g c : Nat) : Bool :=
  s.on (R.CTX_REGION_CTL.MEMBER g) && s.sgLocks (s.g (R.CTX_REGION_CTL.GROUP g)) && decide (s.g (R.CTX_REGION_CTL.NEXT g) = c)

/-- Is a region between edge 0 and edge 3 of a switch? -/
def State.switching (s : State) (g : Nat) : Bool := decide ((s.region g).edges.getD 3 < 3)

/-! ### Checks (R143, Table 6.5) -/

/-- The clock source that region `g` has after edge 3: the staged one, if one waits (R436). -/
def State.srcNext (s : State) (g : Nat) : Nat :=
  if s.on (R.CLK_REGION_CFG.PEND g) then s.g (R.CLK_REGION_CFG.STAGE g) else s.g (R.CLK_REGION_CFG.SRC g)

/-- The lowest code that member `g` of a group fails, 0 for none; `g0` is the first member, with whose clock source `g`'s is
compared as it is and as it will be (R143, R436). -/
def State.memberFail (s : State) (g0 g : Nat) : Nat :=
  let st := s.slotState g (s.g (R.CTX_REGION_CTL.NEXT g))
  if st ≠ slotPROOFED && decide (st ≠ slotACTIVE) then 1
  else if s.g (R.CLK_REGION_CFG.SRC g) ≠ s.g (R.CLK_REGION_CFG.SRC g0) || decide (s.srcNext g ≠ s.srcNext g0) then 3
  else if (s.region g).held || !s.logicOn g then 4
  else if s.g (R.CTX_REGION_CTL.KIND g) = 3 then 5 else 0

/-- What the check of group `n` finds with the settings `cfg` of its CFG: code and first failing region. -/
def State.groupFail (s : State) (n : Nat) (cfg : Word) : Nat × Nat :=
  let m := s.members n
  let trig := (R.CTX_SG_CFG.TRIGREG n).of cfg
  match m with
  | [] => (2, if (R.CTX_SG_CFG.EN_SWTRIG n).of cfg = 1 then trig else 0)
  | g0 :: _ =>
    if (R.CTX_SG_CFG.EN_SWTRIG n).of cfg = 1 && !s.inGroup n trig then (2, trig)
    else match m.find? (fun g => decide (s.memberFail g0 g ≠ 0)) with
      | some g => (s.memberFail g0 g, g)
      | none => (0, 0)

/-- A refusal of group `n` with a code at a region (R143). -/
def State.sgRefuse (s : State) (n code g : Nat) : State :=
  (((s.put (R.CTX_SG_STATUS.FAIL n) code).put (R.CTX_SG_STATUS.FAILREG n) g).setBit R.CTX_SG_FAIL.FAIL n)

/-! ### SWITCH requests (R219, R222) -/

def State.setCfg (s : State) (f : Cfg → Cfg) : State := { s with cfg := f s.cfg }

/-- A SWITCH request whose groups have all switched or been refused is answered (R219, R222). -/
def State.swSettle (s : State) : State :=
  let ready := s.cfg.swReqs.filter (fun r => r.wait = 0 && decide (r.posted = 0))
  let s := s.setCfg (fun c => { c with swReqs := c.swReqs.filter (fun r => !(r.wait = 0 && decide (r.posted = 0))) })
  ready.foldl (fun (s : State) r => s.answerMbx r.mbx (if r.noten then 0x42 else 0) r.switched r.refused) s

/-- Group `n` has switched, or its switch was cancelled. -/
def State.swDone (s : State) (n : Nat) (ok : Bool) : State :=
  (s.setCfg (fun c => { c with swReqs := c.swReqs.map (fun r =>
    if r.wait.testBit n then
      { r with wait := r.wait - 2 ^ n, switched := if ok then r.switched + 2 ^ n else r.switched, refused := if ok then r.refused else r.refused + 2 ^ n }
    else r) })).swSettle

/-- An edge at instant `now` has taken the triggers of group `n`, which then switches (`ok`), or does not. -/
def State.swTaken (s : State) (n now : Nat) (ok : Bool) : State :=
  (s.setCfg (fun c => { c with swReqs := c.swReqs.map (fun r =>
    if r.posted.testBit n && decide (r.from_ ≤ now) then
      { r with posted := r.posted - 2 ^ n, wait := if ok then r.wait + 2 ^ n else r.wait, refused := if ok then r.refused else r.refused + 2 ^ n }
    else r) })).swSettle

/-! ### Triggers (R141, R143 to R145) -/

/-- The edge of a switch that the members of group `n` stand at: 0 to 2 in progress, 3 after edge 3. -/
def State.sgEdge (s : State) (n : Nat) : Option Nat := ((s.members n).filterMap (fun g => (s.region g).edges)).head?

/-- A trigger is taken by group `n` on an edge (R141, R143, R145, R146): edge 0 of a switch, one with the trigger that began a switch
on this edge, or nothing. The checks go by `p`, the state at the start of the cycle. The answer says whether the group switches by
it. Nothing happens before the start release (spec/19, State before the release). -/
def State.sgTake (s p : State) (n : Nat) : State × Bool :=
  if !s.xbar.pinsOn then (s, false)
  else match s.sgEdge n with
    | some 0 => (s, true)
    | some k =>
      let s := if k < 3 && !s.on (R.CTX_SG_CFG.ARM n) then s.raise (R.CTX_SG_STATUS.IGNORED n) else s
      (s.raise (R.CTX_SG_STATUS.OVERRUN n), false)
    | none =>
      if !s.on (R.CTX_SG_CFG.ARM n) then (s.raise (R.CTX_SG_STATUS.IGNORED n), false)
      else
        let f := p.groupFail n (s.rw (R.CTX_SG_CFG.reg n))
        if f.1 ≠ 0 then
          let s := s.sgRefuse n f.1 f.2
          (if s.on (R.CTX_SG_CFG.REPEAT n) then s else s.putB (R.CTX_SG_CFG.ARM n) false, false)
        else
          ((s.putB (R.CTX_SG_STATUS.BUSY n) true).each (s.members n) (fun s g => s.setRegion g { s.region g with edges := some 0 }), true)

/-- The triggers of group `n` that an edge at instant `now` finds are taken as one (R145), and with them the requests that made
them. -/
def State.sgTakeAll (s p : State) (n now : Nat) : State :=
  let s := { s with fab := { s.fab with trigs := s.fab.trigs.filter (fun x => !(x.1 = n && decide (x.2 ≤ now))) } }
  let r := s.sgTake p n
  r.1.swTaken n now r.2

/-- The instant, in ps from the first tick, of `sub` ps after the current tick. -/
def State.instant (s : State) (sub : Nat) : Nat := s.tick * 4000 + sub

/-- A trigger of group `n` that the first edge at or after an instant takes (R144). A group none of whose members is powered has no
edge to wait for: its trigger is taken at once. -/
def State.sgPost (s : State) (n at_ : Nat) : State :=
  if (s.members n).any s.logicOn then { s with fab := { s.fab with trigs := s.fab.trigs ++ [(n, at_)] } }
  else s.sgTakeAll s n at_

/-- A trigger that the edge taking the current tick takes: 1 ns after it (R29, R58, R144). -/
def State.sgPostTick (s : State) (n : Nat) : State := s.sgPost n (s.instant 1000)

/-- A write of CTX_SGn_CFG (R141, R143): setting ARM checks the group, and a check that fails leaves ARM at 0. -/
def State.sgCfgWrite (s : State) (n : Nat) (v : Word) : State :=
  let v := v &&& 0xC1FF001F#32
  if (R.CTX_SG_CFG.ARM n).of v = 1 then
    let f := s.groupFail n v
    if f.1 ≠ 0 then (s.wr (R.CTX_SG_CFG.reg n) ((R.CTX_SG_CFG.ARM n).into v 0)).sgRefuse n f.1 f.2
    else s.wr (R.CTX_SG_CFG.reg n) v
  else s.wr (R.CTX_SG_CFG.reg n) v

/-- MEMBERS of every group follows the memberships. -/
def State.membersShow (s : State) (n : Nat) : State := s.putB (R.CTX_SG_STATUS.MEMBERS n) (!(s.members n).isEmpty)

/-- A write to CTX_REGIONn_CTL (R142): refused with WREFUSED for a member of an armed or switching group, or when it would make
the region one. -/
def State.regionCtlWrite (s : State) (g : Nat) (v : Word) : State :=
  let v := v &&& 0x9F003F00#32
  let old := s.g (R.CTX_REGION_CTL.GROUP g)
  let new := (R.CTX_REGION_CTL.GROUP g).of v
  if (s.on (R.CTX_REGION_CTL.MEMBER g) && s.sgLocks old) || ((R.CTX_REGION_CTL.MEMBER g).of v = 1 && s.sgLocks new) then
    s.raise (R.CTX_REGION_STATUS.WREFUSED g)
  else ((s.wr (R.CTX_REGION_CTL.reg g) v).membersShow old).membersShow new

/-- A write of a mask to CTX_SWITCH, `sub` ps after the current tick, triggers each named group with EN_REG set, at the first edge at
least 8 ns later (R144). -/
def State.ctxSwitch (s : State) (mask sub : Nat) : State :=
  s.each (maskBits mask 32) (fun s n => if s.on (R.CTX_SG_CFG.EN_REG n) then s.sgPost n (s.instant (sub + 8000)) else s)

/-- SWTRIG of a region rose at an edge, which takes the trigger of the groups with EN_SWTRIG that name it (R144). -/
def State.swtrig (s : State) (g : Nat) : State :=
  s.each ((List.range 32).filter (fun n => s.on (R.CTX_SG_CFG.EN_SWTRIG n) && decide (s.g (R.CTX_SG_CFG.TRIGREG n) = g)))
    (fun s n => (s.sgTake s n).1)

/-! ### Edge 3 (R136 to R140, R146, R147) -/

/-- The flip-flops of region `g` are saved in slot `c` (R136). -/
def State.ffSave (s : State) (g c : Nat) : State :=
  { s with fab := { s.fab with saved := (tilesOf g).foldl (fun m t => m.set ((g * 8 + c) * 256 + t % 256) (s.fab.ff.get t)) s.fab.saved } }

/-- The flip-flops of region `g` take the saved state of slot `c`. -/
def State.ffRestore (s : State) (g c : Nat) : State :=
  { s with fab := { s.fab with ff := (tilesOf g).foldl (fun m t => m.set t (s.fab.saved.get ((g * 8 + c) * 256 + t % 256))) s.fab.ff } }

/-- A staged clock source takes effect (R436). -/
def State.srcMove (s : State) (g : Nat) : State :=
  let k := s.g (R.CLK_REGION_CFG.STAGE g)
  let s := ((s.put (R.CLK_REGION_CFG.SRC g) k).putB (R.CLK_REGION_CFG.PEND g) false).raise R.CLK_EVENTS.MOVED
  if s.on (R.CLK_FPLL_STATUS.LOCK k) then s.putB (R.CLK_REGION_STATUS.CLKLOST g) false else s

/-- Member `g` at edge 3: Table 6.4, the slot states, and TOGGLE. -/
def State.switchMember (s : State) (g : Nat) : State :=
  let c := s.g (R.CTX_REGION_CTL.NEXT g)
  let old := s.activeCtx g
  let kind := if old = none then 0 else s.g (R.CTX_REGION_CTL.KIND g)
  let savedOk := s.on (R.CTX_SLOT_STATE.SAVEVALID (g * 8 + c))
  -- the old slot: saved state, SAVEVALID, PROOFED
  let s := match old with
    | some o =>
      let s := if kind = 1 then s.ffSave g o else s
      let s := s.putB (R.CTX_SLOT_STATE.SAVEVALID (g * 8 + o)) (decide (kind = 1))
      s.setSlot g o slotPROOFED
    | none => s
  -- the flip-flops, switch registers and word-unit registers
  let s := if kind = 2 then s
    else
      let s := if kind = 1 && decide (old = some c) then s
        else if kind = 1 && savedOk then s.ffRestore g c else s.ffInit g c
      s.swWuClear g
  -- the configuration in force
  let s := { s with fab := { s.fab with latch := s.fab.latch.keep (fun a => decide (a / 0x100000 % 512 ≠ g)) } }
  let s := s.setSlot g c slotACTIVE
  let s := (s.put (R.CTX_REGION_STATUS.ACT g) c).putB (R.CTX_REGION_STATUS.HASACT g) true
  let s := s.putB (R.CTX_REGION_STATUS.SWPEND g) false
  let s := if s.on (R.CLK_REGION_CFG.PEND g) then s.srcMove g else s
  let s := s.setRegion g { s.region g with released := true, edges := some 3, half := 0 }
  let s := ((s.fwdReload g).compEnter g c).gateShow g
  let s := if kind = 0 then (s.adapterDiscard g c).adapterStale g c else s
  match old with
  | some o => if s.on (R.CTX_REGION_CTL.TOGGLE g) then s.put (R.CTX_REGION_CTL.NEXT g) o else s
  | none => s

/-- Edge 3 of a switch of group `n` (R146): every member switches, DONE and SWCNT count it, a one-shot group disarms (R141), and a
SWITCH request is told (R219). -/
def State.switchNow (s : State) (n : Nat) : State :=
  let s := s.each (s.members n) State.switchMember
  let s := (s.putB (R.CTX_SG_STATUS.BUSY n) false).setBit R.CTX_SG_DONE.DONE n
  let s := s.bump (R.CTX_SG_STATUS.SWCNT n) 1
  let s := if s.on (R.CTX_SG_CFG.REPEAT n) then s else s.putB (R.CTX_SG_CFG.ARM n) false
  s.swDone n true

/-- A fabric reset of region `g` cancels a switch in progress of its group in every member, with RESET, and disarms it (R151). -/
def State.switchCancel (s : State) (g : Nat) : State :=
  let n := s.g (R.CTX_REGION_CTL.GROUP g)
  if s.inGroup n g && s.on (R.CTX_SG_STATUS.BUSY n) then
    let s := s.each (s.members n) (fun s r => (s.setRegion r { s.region r with edges := none }).putB (R.CTX_REGION_STATUS.SWPEND r) false)
    let s := s.swDone n false
    ((s.putB (R.CTX_SG_STATUS.BUSY n) false).putB (R.CTX_SG_CFG.ARM n) false).sgRefuse n 7 g
  else s

/-! ### Commands -/

/-- CTX_SWITCH (R144), `sub` ps after the current tick. -/
def execCtxSwitch (mask : Word) (sub : Nat) (s : State) : Host.Outcome State Fault Refusal := done (s.ctxSwitch mask.toNat sub)
/-- SWTRIG (R144), at the CKN0 edge whose FABRIC_CLOCK_EDGE it follows. -/
def execSwtrig (g : Nat) (s : State) : Host.Outcome State Fault Refusal := done (s.swtrig g)
/-- SG_ARM (R143). -/
def execSgArm (n : Nat) (v : Word) (s : State) : Host.Outcome State Fault Refusal := done (s.sgCfgWrite n v)
/-- REGION_CTL_WRITE (R142). -/
def execRegionCtlWrite (g : Nat) (v : Word) (s : State) : Host.Outcome State Fault Refusal := done (s.regionCtlWrite g v)

end Sys2Proof.Machine
end

