-- ==== Sys2Proof/Machine/Ledger.lean ====
section
/-! DEFINITION. The item ledger (spec/07, R155 to R180): births, posts, deadlines and closes, records and report paths. -/

namespace Sys2Proof.Machine

def itFREE : Nat := 0
def itOPEN : Nat := 1
def itMARKED : Nat := 2
def itHELD : Nat := 3

def rsMISSING : Half := 0x8001#16
def rsSUSPECT : Half := 0x8002#16
def rsCOAST : Half := 0x8003#16
def rsRESET : Half := 0x8010#16
def rsHALT : Half := 0x8011#16
def rsPOWER : Half := 0x8012#16
def rsTWIN : Half := 0x8013#16
def rsAXIS : Half := 0x8014#16
def rsGATE : Half := 0x8015#16
def rsCHECK : Half := 0x8016#16

/-! ### Registers and banks (R158, R160) -/

def State.stream (s : State) (n : Nat) : LStream := s.lgr.streams.get n
def State.setStream (s : State) (n : Nat) (x : LStream) : State :=
  { s with lgr := { s.lgr with streams := s.lgr.streams.set n x } }

/-- 2^SIZE of stream `n`; the code 0 stands for 16, which the field has no other way to name. -/
def State.lgrSize (s : State) (n : Nat) : Nat :=
  let z := s.g (R.LGR_STREAM_CFG.SIZE n)
  2 ^ (if z = 0 then 16 else z)

/-- The entry of a sequence number of stream `n` (R158). -/
def State.entryOf (s : State) (n seq : Nat) : Nat := s.g (R.LGR_STREAM_BASE.BASE n) + seq % s.lgrSize n

/-- A banked register of stream `n` in bank `b`: the register shows the idle bank, `other` holds the bank in force. -/
def State.bankedStream (s : State) (n b a : Nat) : Word :=
  if s.g (R.LGR_STREAM_STATUS.BANK n) = b then s.lgr.other.get a ^^^ resetWord a else s.rw a

/-- A register of station `st` in bank `b`. -/
def State.station (s : State) (st b a : Nat) : Word :=
  let shown := if s.lgr.shows0.get st then 0 else 1
  if b = shown then s.rw a else s.lgr.other.get a ^^^ resetWord a

/-- A field of a station's CFG in bank `b`. -/
def State.stField (s : State) (st b : Nat) (f : Field) : Nat := f.of (s.station st b f.addr)
def State.stOn (s : State) (st b : Nat) : Bool := decide (s.stField st b (R.LGR_STATION_CFG.EN st) = 1)
def State.stStream (s : State) (st b : Nat) : Nat := s.stField st b (R.LGR_STATION_CFG.STREAM st)
def State.stOffset (s : State) (st b : Nat) : Nat := (s.station st b (R.LGR_STATION_OFFSET.reg st)).toNat
def State.stWin (s : State) (st b : Nat) : Nat := (s.station st b (R.LGR_STATION_WIN.reg st)).toNat

/-- The stations of stream `n` in bank `b`. -/
def State.stationsOf (s : State) (n b : Nat) : List Nat :=
  (List.range 64).filter (fun st => s.stOn st b && decide (s.stStream st b = n))

/-- The two copies of a register change places. -/
def State.swapCopy (s : State) (a : Nat) : State :=
  let v := s.rw a
  let o := s.lgr.other.get a ^^^ resetWord a
  { (s.wr a o) with lgr := { s.lgr with other := s.lgr.other.set a (v ^^^ resetWord a) } }

/-- Does station `st` follow the flips of stream `n`: its shown copy names the stream, or its other copy is enabled for it? -/
def State.stFollows (s : State) (st n : Nat) : Bool :=
  let shown := if s.lgr.shows0.get st then 0 else 1
  decide (s.stStream st shown = n) || (s.stOn st (1 - shown) && decide (s.stStream st (1 - shown) = n))

/-- A pending bank flip of stream `n` takes effect (R160, R161). -/
def State.bankFlip (s : State) (n : Nat) : State :=
  if !s.on (R.LGR_STREAM_STATUS.APPLYPEND n) then s
  else
    let b := 1 - s.g (R.LGR_STREAM_STATUS.BANK n)
    let s := ((s.swapCopy (R.LGR_STREAM_CLOSE.reg n)).swapCopy (R.LGR_STREAM_GATESET.reg n)).swapCopy (R.LGR_STREAM_GATECLR.reg n)
    -- the idle bank is now 1 − b: stations of the stream show it
    let s := s.each (List.range 64) (fun s st =>
      if s.stFollows st n && decide ((if s.lgr.shows0.get st then 0 else 1) = b) then
        let s := ((s.swapCopy (R.LGR_STATION_CFG.reg st)).swapCopy (R.LGR_STATION_OFFSET.reg st)).swapCopy (R.LGR_STATION_WIN.reg st)
        { s with lgr := { s.lgr with shows0 := s.lgr.shows0.set st (decide (b = 1)) } }
      else s)
    let s := s.setStream n { s.stream n with flips := ((s.stream n).flips ++ [s.tick]).drop ((s.stream n).flips.length - 7) }
    ((s.put (R.LGR_STREAM_STATUS.BANK n) b).putB (R.LGR_STREAM_STATUS.APPLYPEND n) false).raise R.LGR_EVENTS.APPLIED

/-- The bank in force for new births of stream `n` at tick `t`, the latest eight flips undone back to it (R164). -/
def State.bankAt (s : State) (n t : Nat) : Nat :=
  (s.g (R.LGR_STREAM_STATUS.BANK n) + ((s.stream n).flips.filter (fun f => decide (t < f))).length) % 2

/-- May stream `n` apply its idle bank (R160)? -/
def State.applyOk (s : State) (n : Nat) : Bool :=
  let b := 1 - s.g (R.LGR_STREAM_STATUS.BANK n)
  let l := s.stationsOf n b
  let bits := l.map (fun st => s.stField st b (R.LGR_STATION_CFG.BIT st))
  let two := (List.range 64).any (fun st =>
    s.stOn st 0 && s.stOn st 1 && decide (s.stStream st 0 ≠ s.stStream st 1) && (decide (s.stStream st 0 = n) || decide (s.stStream st 1 = n)))
  decide (bits.eraseDups.length = bits.length) && !two

/-- A write of a stream mask to LGR_APPLY (R160, R161). -/
def State.lgrApply (s : State) (mask : Nat) : State :=
  s.each (maskBits mask 4) (fun s n =>
    if s.on (R.LGR_STREAM_STATUS.APPLYPEND n) then s
    else if s.applyOk n then s.putB (R.LGR_STREAM_STATUS.APPLYPEND n) true else s.raise R.LGR_EVENTS.CFGERR)

/-- A write to a banked stream register (R161). -/
def State.bankedWrite (s : State) (n a : Nat) (v : Word) : State :=
  if s.on (R.LGR_STREAM_STATUS.APPLYPEND n) then s.raise R.LGR_EVENTS.CFGERR else s.wr a v

/-- A write to a register of station `st` (R160, R161): CFG, OFFSET or WIN in the idle bank. -/
def State.stationWrite (s : State) (st a : Nat) (v : Word) : State :=
  let shown := if s.lgr.shows0.get st then 0 else 1
  let before := s.stStream st shown
  let isCfg := decide (a = R.LGR_STATION_CFG.reg st)
  let v := if isCfg then v &&& 0xFF0007FF#32 else v
  let after := if isCfg then (R.LGR_STATION_CFG.STREAM st).of v else before
  if s.on (R.LGR_STREAM_STATUS.APPLYPEND before) || s.on (R.LGR_STREAM_STATUS.APPLYPEND after) then s.raise R.LGR_EVENTS.CFGERR
  else
    -- the idle bank is that of the stream the station names
    let idle := 1 - s.g (R.LGR_STREAM_STATUS.BANK after)
    let s := if idle = shown then s
      else
        let s := ((s.swapCopy (R.LGR_STATION_CFG.reg st)).swapCopy (R.LGR_STATION_OFFSET.reg st)).swapCopy (R.LGR_STATION_WIN.reg st)
        { s with lgr := { s.lgr with shows0 := s.lgr.shows0.set st (decide (idle = 0)) } }
    s.wr a v

/-! ### Twin role (Table 15.1, R377) -/

/-- Does the ledger act by itself: not while it holds a mirror (R377)? -/
def State.lgrActs (s : State) : Bool := decide (s.g R.TWIN_STATUS.STATE < 4)
/-- Does this device report records (Table 15.1)? -/
def State.lgrReports (s : State) : Bool :=
  let t := s.g R.TWIN_STATUS.STATE
  t = 0 || t = 2 || t = 3

/-! ### Entries -/

/-- Entry `i`. -/
def State.entry (s : State) (i : Nat) : LEntry := s.lgr.entries.get i

/-- The stream an ID names, and its sequence number (R155). -/
def idStream (id : Word) : Nat := id.toNat / 2 ^ 30
def idSeq (id : Word) : Nat := id.toNat % 2 ^ 30
def mkId (n seq : Nat) : Word := BitVec.ofNat 32 (n * 2 ^ 30 + seq % 2 ^ 30)

/-! ### What a primary mirrors (R376, Table 15.5) -/

/-- Bytes of a ledger entry (Table 7.6). -/
def mirrorBytes (e : LEntry) : List Byte :=
  let l := wordBytes e.id ++ natBytes e.birth.toNat 8 ++ natBytes e.birthTime 6 ++ natBytes e.done.toNat 2 ++ natBytes e.rej.toNat 2
    ++ natBytes e.reason.toNat 2 ++ natBytes e.code.toNat 2
    ++ natBytes (e.st + e.suspect.toNat * 8 + e.coasted.toNat * 16 + e.bank * 32 + e.jump.toNat * 64 + e.gated.toNat * 128) 2 ++ natBytes 0 2
  l ++ natBytes (crc16 l).toNat 2

/-- The counters of stream `n`: NEXTSEQ, OLDEST, RECSEQ, the bank in force, the FULL range. -/
def State.counters (s : State) (n : Nat) : List Nat :=
  let r := match (s.stream n).full with
    | some (f, l, _) => [idSeq f, idSeq l]
    | none => [0xFFFFFFFF, 0xFFFFFFFF]
  [s.g (R.LGR_STREAM_NEXTSEQ.NEXTSEQ n), s.g (R.LGR_STREAM_OLDEST.NEXTSEQ n), s.g R.LGR_RECSEQ.RECSEQ, s.g (R.LGR_STREAM_STATUS.BANK n)] ++ r

/-- A record of 36 bytes for an entry, and for a stream's counters. -/
def State.mirrorEntry (s : State) (i : Nat) : List Byte :=
  let e := s.entry i
  let n := if e.st = itFREE then ((List.range 4).find? (fun n => decide (s.g (R.LGR_STREAM_BASE.BASE n) ≤ i)
    && decide (i < s.g (R.LGR_STREAM_BASE.BASE n) + s.lgrSize n))).getD 0 else idStream e.id
  natBytes 0 1 ++ natBytes n 1 ++ natBytes i 2 ++ mirrorBytes e
def State.mirrorStream (s : State) (n : Nat) : List Byte :=
  natBytes 1 1 ++ natBytes n 1 ++ natBytes 0 2 ++ padTo 32 ((s.counters n).flatMap (fun v => natBytes v 4))

/-- A primary notes a change of stream `n`'s counters for its mirror (R376). -/
def State.ctrNote (s : State) (n : Nat) : State :=
  if s.g R.TWIN_STATUS.STATE = 3 && decide (s.twin.sentCtr.get n ≠ s.counters n) then
    { s with
      lgr := { s.lgr with changed := s.lgr.changed ++ [(65536 + n, s.mirrorStream n)] }
      twin := { s.twin with sentCtr := s.twin.sentCtr.set n (s.counters n) } }
  else s

/-- Entry `i` of stream `n` replaced; the open counts follow, and a primary notes the change for its mirror (R177). -/
def State.setEntry (s : State) (n i : Nat) (e : LEntry) : State :=
  let was := decide ((s.entry i).st ≠ itFREE)
  let is := decide (e.st ≠ itFREE)
  let old := s.mirrorEntry i
  let s : State := { s with lgr := { s.lgr with entries := s.lgr.entries.set i e } }
  let s := if s.g R.TWIN_STATUS.STATE = 3 && decide (s.mirrorEntry i ≠ old) then
      { s with lgr := { s.lgr with changed := s.lgr.changed ++ [(i, s.mirrorEntry i)] } } else s
  if !was && is then (s.put (R.LGR_STREAM_STATUS.OPEN n) (s.g (R.LGR_STREAM_STATUS.OPEN n) + 1)).bump R.LGR_STATUS.OPEN 1
  else if was && !is then
    (s.put (R.LGR_STREAM_STATUS.OPEN n) (s.g (R.LGR_STREAM_STATUS.OPEN n) - 1)).put R.LGR_STATUS.OPEN (s.g R.LGR_STATUS.OPEN - 1)
  else s

/-- The instant in ns, modulo 2^48, at which an axis that moved from `prev` to `cur` in this tick reached `t`. -/
def State.reachNs (s : State) (jump : Bool) (prev cur t : DWord) : Nat :=
  let d := sdiff cur prev
  let back : Int := if jump || decide (d = 0) then 0 else 4 - 4 * sdiff t prev / d
  ((s.plantNs.toNat : Int) - back).toNat % 2 ^ 48

/-! ### Ember record (R176, R473) -/

/-- The oldest unreported sequence number of stream `n`: of an entry, else of the FULL range, else the next. -/
def State.oldestSeq (s : State) (n : Nat) : Nat :=
  let x := s.stream n
  match x.items, x.full with
  | k :: _, _ => k
  | [], some (f, _, _) => idSeq f
  | [], none => s.g (R.LGR_STREAM_NEXTSEQ.NEXTSEQ n)

/-- OLDEST and the stream's open-range record follow a birth or a report. -/
def State.emberOpen (s : State) (n : Nat) : State :=
  let old := s.oldestSeq n
  let s := (s.put (R.LGR_STREAM_OLDEST.NEXTSEQ n) old).ctrNote n
  let s := s.put (R.AON_LGR_OLDEST.OLDEST n) old
  let s := s.put (R.AON_LGR_NEXTSEQ.NEXTSEQ n) (s.g (R.LGR_STREAM_NEXTSEQ.NEXTSEQ n))
  let m : Nat := if s.on (R.LGR_STREAM_CFG.PRES n) then
      ((List.range 64).map (fun i => if (s.stream n).born.contains ((old + i) % 2 ^ 30) then 2 ^ i else 0)).sum
    else 0
  let s := (s.put (R.AON_LGR_MASK_LO.MASK n) m).put (R.AON_LGR_MASK_HI.MASK n) (m / 2 ^ 32)
  s.put R.AON_LGR_RECSEQ.RECSEQ (s.g R.LGR_RECSEQ.RECSEQ)

/-- VALID clears when the stream is disabled and nothing of it is open (R180, R473). -/
def State.emberValid (s : State) (n : Nat) : State :=
  if !s.on (R.LGR_STREAM_CFG.EN n) && !(s.stream n).enabled && decide (s.g (R.LGR_STREAM_STATUS.OPEN n) = 0) && (s.stream n).full.isNone then
    s.putB (R.AON_LGR_OLDEST.VALID n) false
  else s

/-! ### Marking and closing (R165 to R171) -/

/-- The gate pair of an item (R168). -/
def State.gatePair (s : State) (n : Nat) (e : LEntry) : EdgePair :=
  let at_ (a : Nat) : DWord := e.birth + BitVec.ofNat 64 ((s.bankedStream n e.bank a).toNat * 65536)
  { set := at_ (R.LGR_STREAM_GATESET.reg n), clr := at_ (R.LGR_STREAM_GATECLR.reg n), item := some e.id.toNat }

/-- The gate pair is pushed; a refused push fails the item (R168). -/
def State.gatePush (s : State) (n i : Nat) : State :=
  let e := s.entry i
  let r := s.edgLedgerPush (s.g (R.LGR_STREAM_CFG.GATE n)) (s.gatePair n e)
  if r.2 then r.1.setEntry n i { e with gated := true }
  else (r.1.setEntry n i { e with gated := true, gateFail := true }).raise R.LGR_EVENTS.GATEFAIL

/-- An item is marked with a reason (R165, R167, R168): the first reason stands. -/
def State.markItem (s : State) (n i : Nat) (reason : Half) : State :=
  let e := s.entry i
  if e.st ≠ itOPEN && decide (e.st ≠ itMARKED) then s
  else
    let first := decide (e.st = itOPEN)
    let s := s.setEntry n i { e with st := itMARKED, reason := if e.reason = 0#16 then reason else e.reason }
    if first && s.on (R.LGR_STREAM_CFG.GATEEN n) && s.lgrActs then s.gatePush n i else s

/-- An item is closed FAILED with a reason. -/
def State.failItem (s : State) (n i : Nat) (reason : Half) (time : Nat) : State :=
  s.setEntry n i { s.entry i with st := itHELD, outcome := 2, reason := reason, closeTime := time % 2 ^ 48 }

/-- A read of entry `i` of stream `n` (R170): one that fails its check is reported, and the item whose sequence number the entry
holds, rebuilt from the entry's index and the stream's counters, closes FAILED(CHECK); an entry that holds none is FREE. -/
def State.entryCheck (s : State) (n i : Nat) : State :=
  let e := s.entry i
  if !e.bad then s
  else
    let s := ((s.bump R.LGR_ERRCNT.CHKERR 1).raise R.LGR_EVENTS.CHKERR).report (.ledgerEntry i)
    match (s.stream n).items.find? (fun k => decide (s.entryOf n k = i)) with
    | none => s.setEntry n i {}
    | some seq => (s.setEntry n i { e with bad := false, id := mkId n seq }).failItem n i rsCHECK s.plantNs.toNat

/-- Table 7.4 at the close of an item (R169, R171). -/
def State.closeItem (s : State) (n i : Nat) (coast : Bool) (time : Nat) : State :=
  let s := s.entryCheck n i
  let e := s.entry i
  if e.st ≠ itOPEN && decide (e.st ≠ itMARKED) then s
  else
    let s := if coast then
        let s := s.setEntry n i { e with coasted := true }
        if s.on (R.LGR_STREAM_CFG.COASTREJ n) then s.markItem n i rsCOAST else s
      else s
    let e := s.entry i
    let time := time % 2 ^ 48
    if e.gateFail then s.failItem n i rsGATE time
    else if e.st = itMARKED then s.setEntry n i { e with st := itHELD, outcome := 1, closeTime := time }
    else s.setEntry n i { e with st := itHELD, outcome := 0, reason := 0#16, closeTime := time }

/-- A deadline of a required station (R167, R171); `late` says that it was posted, but after the deadline. -/
def State.deadline (s : State) (n i st : Nat) (coast late : Bool) : State :=
  let s := s.entryCheck n i
  let e := s.entry i
  if e.st ≠ itOPEN && decide (e.st ≠ itMARKED) then s
  else
    let s := if coast then
        let s := s.setEntry n i { e with coasted := true }
        if s.on (R.LGR_STREAM_CFG.COASTREJ n) then s.markItem n i rsCOAST else s
      else s
    if !late && (s.entry i).done.getLsbD (s.stField st e.bank (R.LGR_STATION_CFG.BIT st)) then s else s.markItem n i rsMISSING

/-- An open item closes FAILED(AXIS) (R171). -/
def State.axisClose (s : State) (n i time : Nat) : State :=
  let s := s.entryCheck n i
  let e := s.entry i
  if e.st ≠ itOPEN && decide (e.st ≠ itMARKED) then s else (s.failItem n i rsAXIS time).raise R.LGR_EVENTS.AXISFAIL

/-- The regions to which stations of stream `n` are bound. -/
def State.postRegions (s : State) (n : Nat) : List Nat :=
  ([0, 1].flatMap (fun b => (s.stationsOf n b).map (fun st => s.stField st b (R.LGR_STATION_CFG.REGION st)))).eraseDups

/-- Have all posts stamped before tick `k` been applied that can still bear on stream `n` (R166)? None waits in a queue, and every
region that posts for the stream holds tick `k` or a later one, as all do 44 ns after it. -/
def State.postsDone (s : State) (n k : Nat) : Bool :=
  !s.lgr.ports.any (fun p => p.2.queue.any (fun q => decide (q.tick < k)))
    && (decide (k + 11 ≤ s.tick) || (s.postRegions n).all (fun g => decide (k ≤ (s.region g).takenTick)))

/-- Deadlines and closes whose earlier posts have all been applied are evaluated (R166). -/
def State.lgrRun (s : State) : State :=
  let ready := s.lgr.due.takeWhile (fun d => s.postsDone (idStream d.id) d.tick)
  let s := { s with lgr := { s.lgr with due := s.lgr.due.drop ready.length } }
  ready.foldl (fun s d =>
    if (s.entry d.entry).id ≠ d.id then s
    else if d.lost then s.axisClose (idStream d.id) d.entry d.time
    else match d.station with
      | some st => s.deadline (idStream d.id) d.entry st d.coast d.late
      | none => s.closeItem (idStream d.id) d.entry d.coast d.time) s

/-- What became of gate pairs reaches their items (R168): a pair without its pulse on time fails the item, closed or not. -/
def State.gateResults (s : State) : State :=
  let l := s.lgr.gateOut
  let s := { s with lgr := { s.lgr with gateOut := [] } }
  l.foldl (fun s r =>
    let id : Word := BitVec.ofNat 32 r.1
    let n := idStream id
    let i := s.entryOf n (idSeq id)
    let s := s.entryCheck n i
    let e := s.entry i
    if e.id ≠ id || decide (e.st = itFREE) then s
    else if r.2 then s
    else
      let s := s.raise R.LGR_EVENTS.GATEFAIL
      if e.st = itHELD then s.setEntry n i { e with gateFail := true, outcome := 2, reason := if e.outcome = 2 then e.reason else rsGATE }
      else s.setEntry n i { e with gateFail := true }) s

/-! ### Births (R155 to R159) -/

/-- An item with sequence number k is born at pitch point `v` (R156, R158, R159). -/
def State.birth (s : State) (n : Nat) (k : Int) (v : DWord) (time : Nat) (jump : Bool) : State :=
  let s := s.bankFlip n
  let seq := (k % 2 ^ 30).toNat
  let id := mkId n seq
  let i := s.entryOf n seq
  let s := s.entryCheck n i
  let x := s.stream n
  let span := match x.items with
    | o :: _ => decide (s.lgrSize n ≤ (seq + 2 ^ 30 - o) % 2 ^ 30)
    | [] => false
  let noRoom := x.full.isSome || decide ((s.entry i).st ≠ itFREE) || span
  let s := (s.put (R.LGR_STREAM_NEXTSEQ.NEXTSEQ n) ((seq + 1) % 2 ^ 30)).ctrNote n
  let s := if noRoom then
      let full := match x.full with
        | some (f, _, t) => (f, id, t)
        | none => (id, id, time)
      (((s.setStream n { x with last := some k, full := some full, born := x.born ++ [seq], stamps := [] }).raise R.LGR_EVENTS.FULL).putB
        (R.LGR_STREAM_STATUS.OVERFLOW n) true)
    else
      (s.setStream n { x with last := some k, items := x.items ++ [seq], born := x.born ++ [seq], stamps := [] }).setEntry n i
        { id := id, birth := v, birthTime := time, st := itOPEN, bank := s.g (R.LGR_STREAM_STATUS.BANK n), jump := jump }
  let t : LTrack := { stream := n, id := id, birth := v, bank := s.g (R.LGR_STREAM_STATUS.BANK n) }
  ({ s with lgr := { s.lgr with track := s.lgr.track ++ [t] } } : State).emberOpen n

/-- The distance of pitch point k from ORIGIN, and the point itself (R155). -/
def State.pitchUnits (s : State) (n : Nat) : Int := (s.g (R.LGR_STREAM_PITCH.PITCH n) : Int) * 65536
def State.lgrOrigin (s : State) (n : Nat) : DWord := s.rw (R.LGR_STREAM_ORIGIN_HI.reg n) ++ s.rw (R.LGR_STREAM_ORIGIN_LO.reg n)

/-- The births of stream `n` in this tick (R156, R157). -/
def State.births (s : State) (n : Nat) : State :=
  let x := s.stream n
  let a := s.axis (s.g (R.LGR_STREAM_CFG.AXIS n))
  let d := sdiff a.value a.prev
  let p := s.pitchUnits n
  if !x.enabled || x.lost || decide (d ≤ 0) || decide (p = 0) || !s.lgrActs || s.frozen (s.g (R.LGR_STREAM_CFG.AXIS n)) then s
  else
    let o := s.lgrOrigin n
    let p0 := x.dist
    let k0 := p0 / p + 1
    let k1 := (p0 + d) / p
    (List.range (k1 - k0 + 1).toNat).foldl (fun (s : State) (j : Nat) =>
      let k := k0 + (j : Int)
      let v := moveBy o (k * p)
      let ahead := match (s.stream n).last with
        | some l => decide (l < k)
        | none => true
      let stamped := (s.stream n).stamps.any (fun t => decide (0 ≤ sdiff t (moveBy v (-p))) && decide (sdiff t v < 0))
      if !ahead then s
      else if s.on (R.LGR_STREAM_CFG.PRES n) && !stamped then
        -- an empty pitch: older stamps no longer matter
        s.setStream n { s.stream n with stamps := (s.stream n).stamps.filter (fun t => decide (0 ≤ sdiff t v)) }
      else
        let keep := (s.stream n).stamps.filter (fun t => decide (0 ≤ sdiff t v))
        let s := s.birth n k v (s.reachNs a.jump a.prev a.value v) a.jump
        s.setStream n { s.stream n with stamps := keep }) s

/-- A capture unit stamped an edge at an axis value: streams with PRES = 1 that name it take note, enabled or not: the first pitch
point after an enable looks back over its whole pitch (R157). Stamps more than two pitches behind no longer matter. -/
def State.stampStreams (s : State) (cap : Nat) (v : DWord) : State :=
  s.each ((List.range 4).filter (fun n => s.on (R.LGR_STREAM_CFG.PRES n) && decide (s.g (R.LGR_STREAM_CFG.PRESCAP n) = cap)))
    (fun s n => s.setStream n { s.stream n with
      stamps := (s.stream n).stamps.filter (fun t => decide (sdiff v t < 2 * s.pitchUnits n)) ++ [v] })

/-- How far the axis of every stream has come from ORIGIN, this tick's motion added. -/
def State.distTick (s : State) : State :=
  s.each (List.range 4) (fun s n =>
    let a := s.axis (s.g (R.LGR_STREAM_CFG.AXIS n))
    if a.value = a.prev then s else s.setStream n { s.stream n with dist := (s.stream n).dist + sdiff a.value a.prev })

/-- The birth axis of stream `n` is LOST: births stop, and every open item falls due to close at this tick (R171). -/
def State.axisLostClose (s : State) (n : Nat) : State :=
  let open_ := (s.stream n).items.filter (fun k => let e := s.entry (s.entryOf n k); e.st = itOPEN || e.st = itMARKED)
  let l : List LDue := open_.map (fun k => { tick := s.tick, entry := s.entryOf n k, id := mkId n k, time := s.plantNs.toNat, lost := true })
  ({ s with lgr := { s.lgr with due := s.lgr.due ++ l } } : State).setStream n { s.stream n with lost := true }

/-- The station passings of the items of stream `n` in this tick, open or closed (R172); an item all of whose stations lie behind it
is followed no more. -/
def State.trackTick (s : State) (n : Nat) : State :=
  let ax := s.g (R.LGR_STREAM_CFG.AXIS n)
  let a := s.axis ax
  let place (t : LTrack) (st : Nat) : DWord := t.birth + BitVec.ofNat 64 (s.stOffset st t.bank * 65536)
  let pass (t : LTrack) (st : Nat) : LPass :=
    { stream := n, id := t.id, station := st, region := s.stField st t.bank (R.LGR_STATION_CFG.REGION st)
      time := s.reachNs a.jump a.prev a.value (place t st) }
  let mine := s.lgr.track.filter (fun t => decide (t.stream = n))
  if mine.isEmpty || s.frozen ax then s
  else
    let passes := mine.flatMap (fun t =>
      ((s.stationsOf n t.bank).filter (fun st => decide (crossing a.prev a.value (place t st) = some true))).map (pass t))
    let ahead (t : LTrack) : Bool := (s.stationsOf n t.bank).any (fun st => decide (0 < sdiff (place t st) a.value))
    { s with lgr := { s.lgr with
        passes := s.lgr.passes ++ passes, track := s.lgr.track.filter (fun t => decide (t.stream ≠ n) || ahead t) } }

/-- The deadlines and the close that an item of stream `n` meets in this tick. -/
def State.itemEvents (s : State) (n k : Nat) : State :=
  let i := s.entryOf n k
  let e := s.entry i
  let ax := s.g (R.LGR_STREAM_CFG.AXIS n)
  let a := s.axis ax
  let coast := decide (s.axState ax = axCOAST)
  let at_ (o : Nat) : DWord := e.birth + BitVec.ofNat 64 (o * 65536)
  let met (o : Nat) : Bool := decide (crossing a.prev a.value (at_ o) = some true)
  let time (o : Nat) : Nat := s.reachNs a.jump a.prev a.value (at_ o)
  if (e.st ≠ itOPEN && decide (e.st ≠ itMARKED)) || s.frozen ax then s
  else
    let sts := s.stationsOf n e.bank
    let dls := (sts.filter (fun st => decide (s.stField st e.bank (R.LGR_STATION_CFG.REQ st) = 1) && met (s.stOffset st e.bank + s.stWin st e.bank))).map (fun st =>
      ({ tick := s.tick, entry := i, id := e.id, station := some st, coast := coast } : LDue))
    let cl := (s.bankedStream n e.bank (R.LGR_STREAM_CLOSE.reg n)).toNat
    let cls : List LDue := if met cl then [{ tick := s.tick, entry := i, id := e.id, coast := coast, time := time cl }] else []
    { s with lgr := { s.lgr with due := s.lgr.due ++ dls ++ cls } }

/-- May stream `n` be enabled with settings `v` (R157, R158)? -/
def State.streamOk (s : State) (n : Nat) (v : Word) : Bool :=
  let z := (R.LGR_STREAM_CFG.SIZE n).of v
  let z := if z = 0 then 16 else z
  let base := s.g (R.LGR_STREAM_BASE.BASE n)
  let overlap := (List.range 4).any (fun m => m ≠ n && (s.on (R.LGR_STREAM_CFG.EN m) || (s.stream m).enabled)
    && decide (s.g (R.LGR_STREAM_BASE.BASE m) < base + 2 ^ z) && decide (base < s.g (R.LGR_STREAM_BASE.BASE m) + s.lgrSize m))
  decide (4 ≤ z) && decide (base + 2 ^ z ≤ 65536) && !overlap && !((R.LGR_STREAM_CFG.PRES n).of v = 1 && decide (6 < z))
    && decide (s.g (R.LGR_STREAM_PITCH.PITCH n) ≠ 0)

/-- Stream `n` is enabled: from here on its axis is counted from ORIGIN. -/
def State.streamOn (s : State) (n : Nat) : State :=
  let a := s.axis (s.g (R.LGR_STREAM_CFG.AXIS n))
  let x := { s.stream n with enabled := true, last := none, lost := false, dist := sdiff a.value (s.lgrOrigin n) }
  ((s.setStream n x).putB (R.LGR_STREAM_CFG.EN n) true).putB (R.AON_LGR_OLDEST.VALID n) true

/-- A disable that falls due, and the enable queued behind it, which is judged now (R158, R180). -/
def State.streamDue (s : State) (n : Nat) : State :=
  let x := s.stream n
  match x.disDue with
  | some t =>
    if t ≤ s.tick then
      let s := (s.setStream n { x with disDue := none, enabled := false, enQueued := false }).putB (R.LGR_STREAM_STATUS.BUSY n) false
      if !x.enQueued then s.emberValid n
      else if s.streamOk n (s.rw (R.LGR_STREAM_CFG.reg n)) then s.streamOn n
      else ((s.putB (R.LGR_STREAM_CFG.EN n) false).raise R.LGR_EVENTS.CFGERR).emberValid n
    else s
  | none => s

/-- The births of a tick (order 2 of Table 3.4). -/
def State.birthsTick (s : State) : State := s.each (List.range 4) (fun s n => (s.streamDue n).births n)

/-- The station events of a tick (order 3): passings, deadlines, closes, axis losses. -/
def State.stationsTick (s : State) : State :=
  if !s.lgrActs then s
  else
    let s := s.each (List.range 4) (fun s n => (s.trackTick n).each (s.stream n).items (fun s k => s.itemEvents n k))
    let s := s.each (List.range 4) (fun s n =>
      if !(s.stream n).lost && decide (s.axState (s.g (R.LGR_STREAM_CFG.AXIS n)) = axLOST) then s.axisLostClose n else s)
    s.lgrRun

/-! ### Posts (R162 to R165) -/

/-- A post is taken by ledger port `port` (R162): stamped with the tick its region holds; dropped when the queue has no room. -/
def State.ledgerPost (s : State) (port stn verd : Nat) (code : Half) (idv : Bool) (id : Word) : State :=
  let p := s.lgr.ports.get port
  let fenced := s.bit (R.LGR_FENCE.FENCE (port / 32)) (port % 32)
  if fenced || decide (4 ≤ p.queue.length) then s
  else
    let r := s.region (port / 4)
    let post : LPost := { stn := stn % 64, verd := verd % 4, code := code, idv := idv, id := id, tick := r.takenTick, time := ((r.taken.map (fun (w : BusWord) => w.time)).headD 0).toNat, values := r.taken.map (·.value)
                          banks := ((List.range 4).map (fun n => s.bankAt n r.takenTick * 2 ^ n)).sum }
    { s with lgr := { s.lgr with ports := s.lgr.ports.set port { p with queue := p.queue ++ [post] } } }

/-- The item at a station's place at the post tick (R164, item_at): its entry index. -/
def State.itemAt (s : State) (n st b : Nat) (v : DWord) : Option Nat :=
  let p := s.pitchUnits n
  let a := s.axis (s.g (R.LGR_STREAM_CFG.AXIS n))
  let x := (s.stream n).dist + sdiff v a.value - ((s.stOffset st b * 65536 : Nat) : Int) + p / 2
  if p = 0 then none
  else
    let seq := ((x / p) % 2 ^ 30).toNat
    let i := s.entryOf n seq
    let e := s.entry i
    if e.st = itFREE || decide (idSeq e.id ≠ seq) then none else some i

/-- The entry that a post's ID or place leads to, or the status of its refusal (R164). -/
def State.resolveFind (s : State) (q : LPost) : Nat ⊕ Nat :=
  let n? := if s.stOn q.stn 0 then some (s.stStream q.stn 0) else if s.stOn q.stn 1 then some (s.stStream q.stn 1) else none
  match n? with
  | none => .inr 4
  | some n =>
    let b := q.banks / 2 ^ n % 2
    let b := if s.stOn q.stn b && decide (s.stStream q.stn b = n) then b else 1 - b
    let v := q.values.getD (s.g (R.LGR_STREAM_CFG.AXIS n)) 0
    let found : Option Nat :=
      if q.idv then
        (let i := s.entryOf (idStream q.id) (idSeq q.id)
         let e := s.entry i
         if e.id ≠ q.id || decide (e.st = itFREE) then none else some i)
      else match s.itemAt n q.stn b v with
        | none => none
        | some i =>
          if (s.entry i).bank = b then some i
          else match s.itemAt n q.stn (s.entry i).bank v with
            | none => none
            | some j => if (s.entry j).bank = (s.entry i).bank then some j else none
    match found with
    | none => .inr 1
    | some i => .inl i

/-- Whether entry `i` takes a post of a port: 0, or the status of its refusal (R164). -/
def State.resolveJudge (s : State) (port i : Nat) (q : LPost) : Nat :=
  let e := s.entry i
  if e.bad then 6
  else if !s.stOn q.stn e.bank || decide (s.stStream q.stn e.bank ≠ idStream e.id)
      || decide (s.stField q.stn e.bank (R.LGR_STATION_CFG.REGION q.stn) ≠ port / 4)
      || decide (s.stField q.stn e.bank (R.LGR_STATION_CFG.LP q.stn) ≠ port % 4) then 4
  else if e.st = itHELD || s.lgr.due.any (fun d => d.entry = i && d.station.isNone && decide (d.tick ≤ q.tick)) then 2
  else 0

/-- A post that comes after the deadline it was meant for does not undo it (R167). -/
def State.postLate (s : State) (i : Nat) (q : LPost) : State :=
  { s with lgr := { s.lgr with due := s.lgr.due.map (fun (d : LDue) =>
      if d.entry = i && decide (d.station = some q.stn) && decide (d.tick ≤ q.tick) then { d with late := true } else d) } }

/-- A post is applied to its item (R165): the state and the status. -/
def State.applyPost (s : State) (i : Nat) (q : LPost) : State × Nat :=
  let e := s.entry i
  let n := idStream e.id
  let b := s.stField q.stn e.bank (R.LGR_STATION_CFG.BIT q.stn)
  if 2 ≤ q.verd then (s.setEntry n i { e with code := q.code }, 0)
  else if e.done.getLsbD b then (s, 3)
  else
    let one : Half := BitVec.ofNat 16 (2 ^ b)
    let s := s.postLate i q
    let s := s.setEntry n i { e with done := e.done ||| one, rej := if q.verd = 1 then e.rej ||| one else e.rej, code := q.code }
    (if q.verd = 1 then s.markItem n i q.code else s, 0)

/-- What becomes of a post: the state and its status. A failed entry check closes the item (R170). A mirror only looks (R377). -/
def State.resolvePost (s : State) (port : Nat) (q : LPost) : State × Nat :=
  match s.resolveFind q with
  | .inr st => (s, st)
  | .inl i =>
    let st := s.resolveJudge port i q
    if st = 6 then (s.entryCheck (idStream (s.entry i).id) i, 6)
    else if st ≠ 0 then (s, st)
    else if s.lgrActs then s.applyPost i q
    else ({ s with twin := { s.twin with shadow := s.twin.shadow ++ [((s.entry i).id, q.time)] } }, 0)

/-- The head post of port `port` is resolved; its ACK follows (R162 to R164). -/
def State.resolvePort (s : State) (port : Nat) : State :=
  match (s.lgr.ports.get port).queue with
  | [] => s
  | q :: rest =>
    let r := s.resolvePost port q
    let p := r.1.lgr.ports.get port
    ({ r.1 with lgr := { r.1.lgr with
        ports := r.1.lgr.ports.set port { p with queue := rest, answers := p.answers ++ [r.2] }, token := (port + 1) % 2048 } } : State).lgrRun

/-- Does the ledger work: no reset, no halt, and step LEDGER of the start behind it (R175)? -/
def State.lgrWorks (s : State) : Bool :=
  decide (s.rst.reach = 0) && !s.halted && (s.xbar.pinsOn || (match s.start.step with
    | some k => [0x05, 0x06, 0x04, 0x0B].contains k
    | none => false))

/-- The acknowledgements of region `g`'s ledger ports move on at an edge: each a pulse of one cycle with its status (Table 7.1). -/
def State.ledgerAcks (s : State) (g : Nat) : State :=
  s.each (List.range 4) (fun s j =>
    let p := s.lgr.ports.get (g * 4 + j)
    if p.answers.isEmpty && !p.ack then s
    else
      let p := { p with ack := !p.answers.isEmpty, astat := p.answers.headD 0, answers := p.answers.drop 1 }
      { s with lgr := { s.lgr with ports := s.lgr.ports.set (g * 4 + j) p } })

/-- POST_RESOLVE (R163): one post, of the port that the rotating token reaches first. -/
def State.postResolve (s : State) : State :=
  if !s.lgrWorks then s
  else match (s.lgr.ports.filter (fun p => !p.2.queue.isEmpty)).map (·.1) with
  | [] => s
  | l =>
    match l.find? (fun p => decide (s.lgr.token ≤ p)) with
    | some p => s.resolvePort p
    | none => s.resolvePort (l.headD 0)

/-- A write to LGR_FENCEk (R179): every queued post of a fenced port is answered FENCED. -/
def State.fenceWrite (s : State) (k : Nat) (v : Word) : State :=
  let s := s.wr (R.LGR_FENCE.reg k) v
  s.each (maskBits v.toNat 32) (fun s b =>
    let port := 32 * k + b
    let p := s.lgr.ports.get port
    if p.queue.isEmpty then s
    else
      let p := { p with queue := [], answers := p.answers ++ List.replicate p.queue.length 5 }
      { s with lgr := { s.lgr with ports := s.lgr.ports.set port p } }) |>.lgrRun

/-! ### Suspects (R172) -/

/-- The 30 bytes of a SUSPECT_RANGE record but RECSEQ (Table 7.7): bytes 3:0, then 29:8. -/
def suspectBytes (first last : Word) (region st time : Nat) : List Byte :=
  wordBytes first ++ wordBytes last ++ natBytes region 2 ++ natBytes st 2 ++ natBytes (time % 2 ^ 48) 6 ++ natBytes 0 6 ++ natBytes 1 2

/-- An essential upset in region `r` whose last clean pass began at `since` (ns): open items are marked SUSPECT, closed ones are
named in one SUSPECT_RANGE record per stream and station. A ledger that holds a mirror marks nothing (R377). -/
def State.suspectMark (s : State) (r since : Nat) : State :=
  if !s.lgrActs then s else
  let hit := s.lgr.passes.filter (fun p => p.region = r && decide (since ≤ p.time))
  let s := hit.foldl (fun (s : State) p => s.entryCheck p.stream (s.entryOf p.stream (idSeq p.id))) s
  let isOpen (s : State) (p : LPass) : Bool :=
    let e := s.entry (s.entryOf p.stream (idSeq p.id))
    e.id = p.id && (e.st = itOPEN || e.st = itMARKED)
  let s' := hit.foldl (fun s p =>
    if isOpen s p then
      let i := s.entryOf p.stream (idSeq p.id)
      let s := s.setEntry p.stream i { s.entry i with suspect := true }
      if s.on (R.LGR_STREAM_CFG.SUSPREJ p.stream) then s.markItem p.stream i rsSUSPECT else s
    else s) s
  let closed := hit.filter (fun p => !isOpen s p)
  let keys := (closed.map (fun p => (p.stream, p.station))).eraseDups
  let recs := keys.filterMap (fun k =>
    let mine := closed.filter (fun p => p.stream = k.1 && decide (p.station = k.2))
    match mine.head?, mine.getLast? with
    | some a, some b => some (k.1, suspectBytes a.id b.id r k.2 s.plantNs.toNat)
    | _, _ => none)
  let s' := { s' with lgr := { s'.lgr with suspects := s'.lgr.suspects ++ recs } }
  if hit.isEmpty then s' else s'.raise R.LGR_EVENTS.SUSPECT

/-! ### Records and report paths (R173, R174, Table 7.7) -/

/-- A record of 32 bytes from its first four, its RECSEQ and bytes 29:8. -/
def recordBytes (head : List Byte) (recseq : Word) (body : List Byte) : List Byte :=
  let l := head ++ wordBytes recseq ++ body
  l ++ natBytes (crc16 l).toNat 2

/-- Bytes 29:8 of an ITEM record. -/
def itemBody (e : LEntry) : List Byte :=
  natBytes e.birth.toNat 8 ++ natBytes e.closeTime 6 ++ natBytes e.reason.toNat 2 ++ natBytes e.code.toNat 2 ++ natBytes e.done.toNat 2
    ++ natBytes (e.outcome * 4 + e.suspect.toNat * 16 + e.coasted.toNat * 32 + e.bank * 64 + e.jump.toNat * 128) 2

/-- Bytes 29:8 of a FULL_RANGE record. -/
def fullBody (last : Word) (time : Nat) : List Byte :=
  wordBytes last ++ natBytes 0 4 ++ natBytes (time % 2 ^ 48) 6 ++ natBytes 0x8017 2 ++ natBytes 0 4 ++ natBytes 0xA 2

/-- The ring: its size, and the address of record `k`. -/
def State.ringSize (s : State) : Nat := 2 ^ (max 4 (min 20 (s.g R.LGR_RING_BASE_HI.RINGLOG)))
def State.ringAddr (s : State) (k : Nat) : Nat :=
  s.g R.LGR_RING_BASE_LO.ADDR * 32 + s.g R.LGR_RING_BASE_HI.ADDR * 2 ^ 32 + k * 32
def State.ringFull (s : State) : Bool :=
  decide ((s.g R.LGR_RING_WPTR.WPTR + 1) % s.ringSize = s.g R.LGR_RING_RPTR.RPTR % s.ringSize)

/-- A record that every path has accepted frees its entry (R173). -/
def State.recordDone (s : State) (r : LRec) : State :=
  match r.entry with
  | none => s
  | some i =>
    let e := s.entry i
    let n := idStream e.id
    let s := s.setEntry n i {}
    let x := s.stream n
    ((s.setStream n { x with items := x.items.filter (· ≠ idSeq e.id), born := x.born.filter (· ≠ idSeq e.id) }).emberOpen n).emberValid n

/-- Records whose paths are done leave; their entries become FREE. -/
def State.recordsSettle (s : State) : State :=
  let ready := s.lgr.out.filter (fun r => !r.ring && !r.vsm)
  let s := { s with lgr := { s.lgr with out := s.lgr.out.filter (fun r => r.ring || r.vsm) } }
  ready.foldl State.recordDone s

/-- The ring takes the waiting records in order until it is full; a full ring shows RING_STALL (R173). -/
def State.ringDrain (s : State) : State :=
  let s := s.lgr.out.foldl (fun (st : State × Bool) r =>
    let s := st.1
    if !r.ring || st.2 then st
    else if s.ringFull then (s.putB R.LGR_STATUS.RING_STALL true, true)
    else
      let w := s.postWrite iniLedger (s.ringAddr (s.g R.LGR_RING_WPTR.WPTR)) r.data
      if w.2 ≠ stOK then (w.1, true)
      else
        let s := w.1.put R.LGR_RING_WPTR.WPTR ((w.1.g R.LGR_RING_WPTR.WPTR + 1) % w.1.ringSize)
        let s := s.putB R.LGR_STATUS.RING_STALL false
        ({ s with lgr := { s.lgr with out := s.lgr.out.map (fun x => if x.recseq = r.recseq then { x with ring := false } else x) } }, false)) (s, false)
  s.1.recordsSettle

/-- A record is released (R173): it takes the next RECSEQ and goes to every enabled path; with none it counts in UNREP. -/
def State.emitRecord (s : State) (head body : List Byte) (entry : Option Nat) : State :=
  let q : Word := BitVec.ofNat 32 (s.g R.LGR_RECSEQ.RECSEQ)
  let s := (s.bumpWrap R.LGR_RECSEQ.RECSEQ 1).raise R.LGR_EVENTS.CLOSED
  let s := (s.put R.AON_LGR_RECSEQ.RECSEQ (s.g R.LGR_RECSEQ.RECSEQ)).ctrNote (bytesNat head / 2 ^ 30 % 4)
  let ring := s.on R.LGR_CTL.RING_EN
  let vsm := s.on R.LGR_CTL.VSM_EN
  let r : LRec := { recseq := q, data := recordBytes head q body, entry := entry, ring := ring, vsm := vsm }
  if !ring && !vsm then (s.bump R.LGR_ERRCNT.UNREP 1).recordDone r
  else
    let s := { s with lgr := { s.lgr with out := s.lgr.out ++ [r] } }
    (if vsm then s.putB R.LGR_STATUS.VSM_STALL true else s).ringDrain

/-- Is an entry's last change known to the partner, where one must hold it first (R177)? -/
def State.mirrored (s : State) (i : Nat) : Bool :=
  decide (s.g R.TWIN_STATUS.STATE ≠ 3) || (!s.lgr.changed.any (fun c => decide (c.1 = i)) && !s.twin.unacked.any (fun f => f.2.contains i))

/-- The next record of stream `n` that may be released: a SUSPECT_RANGE, the oldest item when it is HELD, or the FULL range when no
item holds an entry (R159, R173): a record follows only when every enabled path has accepted the one before it. -/
def State.recordRelease (s : State) (n : Nat) : State :=
  if !s.lgrReports || !s.lgrWorks then s
  else match s.lgr.suspects.find? (fun x => x.1 = n) with
    | some x =>
      let s := { s with lgr := { s.lgr with suspects := s.lgr.suspects.erase x } }
      s.emitRecord (x.2.take 4) (x.2.drop 4) none
    | none =>
      match (s.stream n).items with
      | k :: _ =>
        let i := s.entryOf n k
        -- released already, and not yet accepted by every path
        if (s.entry i).released then s else
        let s := s.entryCheck n i
        let e := s.entry i
        if e.st = itHELD && s.mirrored i then
          let s := s.setEntry n i { e with released := true }
          s.emitRecord (wordBytes e.id) (itemBody e) (some i)
        else s
      | [] =>
        match (s.stream n).full with
        | none => s
        | some (f, l, t) =>
          if !s.mirrored (65536 + n) then s else
          let x := s.stream n
          let s := s.setStream n { x with full := none, born := x.born.filter (fun k => x.items.contains k) }
          let s := s.putB (R.LGR_STREAM_STATUS.OVERFLOW n) false
          ((s.emitRecord (wordBytes f) (fullBody l t) none).emberOpen n).emberValid n

/-! ### Stream settings (R157, R158, R180) -/

/-- EN = 1 written (R158, R180). -/
def State.streamEnable (s : State) (n : Nat) : State :=
  let x := s.stream n
  if x.disDue.isSome then
    ((s.setStream n { x with enQueued := true }).putB (R.LGR_STREAM_CFG.EN n) true).putB (R.LGR_STREAM_STATUS.BUSY n) true
  else if x.enabled then s
  else if !s.streamOk n (s.rw (R.LGR_STREAM_CFG.reg n)) then s.raise R.LGR_EVENTS.CFGERR
  else s.streamOn n

/-- EN = 0 written (R180): births stop at the first tick at least 8 ns later. -/
def State.streamDisable (s : State) (n sub : Nat) : State :=
  let x := s.stream n
  let s := s.putB (R.LGR_STREAM_CFG.EN n) false
  if x.disDue.isSome then s.setStream n { x with enQueued := false }
  else if x.enabled then (s.setStream n { x with disDue := some (s.dueTick sub) }).putB (R.LGR_STREAM_STATUS.BUSY n) true
  else s

/-- A write of LGR_STREAMn_CFG: the fields but EN are taken only while EN = 0 and OPEN = 0; otherwise a write that changes one of
them is ignored and sets CFGERR. -/
def State.streamCfgWrite (s : State) (n : Nat) (v : Word) (sub : Nat) : State :=
  let v := v &&& 0xF0FFFF7F#32
  let locked := s.on (R.LGR_STREAM_CFG.EN n) || decide (s.g (R.LGR_STREAM_STATUS.OPEN n) ≠ 0)
  let old := s.rw (R.LGR_STREAM_CFG.reg n)
  let en := (R.LGR_STREAM_CFG.EN n).of v = 1
  if locked && decide ((v ^^^ old) &&& 0x7FFFFFFF#32 ≠ 0#32) then s.raise R.LGR_EVENTS.CFGERR
  else
    let s := s.wr (R.LGR_STREAM_CFG.reg n) ((R.LGR_STREAM_CFG.EN n).into v ((R.LGR_STREAM_CFG.EN n).of old))
    if en then s.streamEnable n else s.streamDisable n sub

/-- A write to another unbanked stream register: only while EN = 0 and OPEN = 0. -/
def State.streamRegWrite (s : State) (n a : Nat) (v : Word) : State :=
  if s.on (R.LGR_STREAM_CFG.EN n) || decide (s.g (R.LGR_STREAM_STATUS.OPEN n) ≠ 0) then s.raise R.LGR_EVENTS.CFGERR else s.wr a v

/-! ### After a reset or a power loss (R175, R176, R475) -/

/-- A record that waits for its paths is made again from its entry, in its place (R175). -/
def State.recordRenew (s : State) (i : Nat) : State :=
  let e := s.entry i
  { s with lgr := { s.lgr with out := s.lgr.out.map (fun (r : LRec) =>
      if r.entry = some i then { r with data := recordBytes (wordBytes e.id) r.recseq (itemBody e) } else r) } }

/-- Every OPEN or MARKED entry closes, and every HELD entry not reported is closed again in its place, with HALT or RESET (R175);
an entry whose check fails closes FAILED(CHECK) (R170). -/
def State.ledgerReclose (s : State) (reason : Half) : State :=
  s.each (List.range 4) (fun s n => s.each (s.stream n).items (fun s k =>
    let i := s.entryOf n k
    (if (s.entry i).bad then s.entryCheck n i else s.failItem n i reason s.plantNs.toNat).recordRenew i))

/-- The ITEM record of an item lost with main power (R475). -/
def powerBody (time : Nat) : List Byte :=
  natBytes 0 8 ++ natBytes (time % 2 ^ 48) 6 ++ natBytes 0x8012 2 ++ natBytes 0 4 ++ natBytes 8 2

/-- FAILED(POWER) for every item of the open range that was born (R176, R475); then OLDEST takes NEXTSEQ. A device that does not
report keeps the records until it does (R386). -/
def State.ledgerPower (s : State) (time : Nat) : State :=
  s.each (List.range 4) (fun s n =>
    if !s.on (R.AON_LGR_OLDEST.VALID n) then s
    else
      let old := s.g (R.AON_LGR_OLDEST.OLDEST n)
      let nxt := s.g (R.AON_LGR_NEXTSEQ.NEXTSEQ n)
      let m := s.g (R.AON_LGR_MASK_LO.MASK n) + s.g (R.AON_LGR_MASK_HI.MASK n) * 2 ^ 32
      let cnt := (nxt + 2 ^ 30 - old) % 2 ^ 30
      let s := s.each (List.range cnt) (fun s i =>
        if m ≠ 0 && !m.testBit i then s
        else if s.lgrReports then s.emitRecord (wordBytes (mkId n (old + i))) (powerBody time) none
        else { s with lgr := { s.lgr with suspects := s.lgr.suspects ++ [(n, wordBytes (mkId n (old + i)) ++ powerBody time)] } })
      s.put (R.AON_LGR_OLDEST.OLDEST n) nxt)

/-- An edge at capture unit `n`'s input: stamped by the unit (R67), and seen by the streams that name it (R157); nothing before the
start release and in a halt. -/
def State.captureEdge (s : State) (n : Nat) (rising : Bool) (sub : Nat) : State :=
  if !s.unitsRun then s
  else
  let took := s.capTakes n rising
  let v := s.capValue n sub
  let s := s.capEdge n rising sub
  if took then s.stampStreams n v else s

/-! ### Commands -/

/-- CAPTURE_EDGE (R67). -/
def execCaptureEdge (n : Nat) (rising : Bool) (sub : Nat) (s : State) : Host.Outcome State Fault Refusal :=
  done (s.captureEdge n rising sub)

/-- LGR_APPLY (R160). -/
def execLgrApply (mask : Nat) (s : State) : Host.Outcome State Fault Refusal := done (s.lgrApply mask)
/-- LEDGER_POST (R162). -/
def execLedgerPost (port stn verd : Nat) (code : Half) (idv : Bool) (id : Word) (s : State) : Host.Outcome State Fault Refusal :=
  done (s.ledgerPost port stn verd code idv id)
/-- LGR_FENCE (R179): the supervisor's write. -/
def execLgrFence (k : Nat) (v : Word) (s : State) : Host.Outcome State Fault Refusal := done (s.fenceWrite k v)
/-- STREAM_ENABLE (R158). -/
def execStreamEnable (n : Nat) (s : State) : Host.Outcome State Fault Refusal := done (s.streamEnable n)
/-- STREAM_DISABLE (R180). -/
def execStreamDisable (n sub : Nat) (s : State) : Host.Outcome State Fault Refusal := done (s.streamDisable n sub)

end Sys2Proof.Machine
end

