-- ==== Sys2Proof/Machine/Sec.lean ====
section
/-! DEFINITION. The ember domain and the security engine (spec/21, R462 to R482): the real-time counter on battery, the
comparators and the event log, the fuse array, the keys, and the requests that do not touch a load. -/

namespace Sys2Proof.Machine

def State.setSec (s : State) (f : Sec → Sec) : State := { s with sec := f s.sec }

/-! ### Event log (R471, R472) -/

/-- The bytes of a log entry (Table 21.3). -/
def LogEnt.bytes (e : LogEnt) : List Byte :=
  let b := natBytes e.time.toNat 8 ++ wordBytes e.seq ++ [BitVec.ofNat 8 e.src, BitVec.ofNat 8 e.info]
  b ++ natBytes (crc16 b).toNat 2

/-- An event enters the log; a full log loses its oldest entry (R471). -/
def State.aonLog (s : State) (src info : Nat) : State :=
  let e : LogEnt := { time := s.plantNs, seq := BitVec.ofNat 32 s.sec.logSeq, src := src, info := info }
  let full := decide (64 ≤ s.sec.log.length)
  let s := s.setSec (fun x => { x with log := (if full then x.log.drop 1 else x.log) ++ [e], logSeq := (x.logSeq + 1) % 2 ^ 32 })
  let s := if full then (s.bump R.AON_LOG_STATUS.LOST 1).raise R.AON_EVENTS.LOGOVF else s
  (s.put R.AON_LOG_STATUS.FILL s.sec.log.length).raise R.AON_EVENTS.LOGNEW

/-- A read of AON_LOG_ENT0 (R472): the oldest entry is copied into AON_LOG_ENT0–3; an empty log reads zero. -/
def State.logEnt0Read (s : State) : State :=
  let b := match s.sec.log with
    | e :: _ => e.bytes
    | [] => []
  let s := s.setSec (fun x => { x with logCopy := x.log.head?.map (·.seq) })
  let s := s.each (List.range 4) (fun s k => s.put (R.AON_LOG_ENT.ENT k) (bytesNat ((b.drop (4 * k)).take 4)))
  s.answerWith stOK (wordBytes (s.rw (R.AON_LOG_ENT.reg 0)))

/-- A read of AON_LOG_ENT3 (R472): the copied entry is removed unless it has been replaced. -/
def State.logEnt3Read (s : State) : State :=
  let s := match s.sec.log, s.sec.logCopy with
    | e :: t, some q => if e.seq = q then s.setSec (fun x => { x with log := t }) else s
    | _, _ => s
  let s := (s.setSec (fun x => { x with logCopy := none })).put R.AON_LOG_STATUS.FILL s.sec.log.length
  s.answerWith stOK (wordBytes (s.rw (R.AON_LOG_ENT.reg 3)))

/-- The start log entry that AON_START_SEL selects, word `k` (R473, Table 19.2). -/
def State.startEnt (s : State) (k : Nat) : Word :=
  BitVec.ofNat 32 (bytesNat (((s.sec.starts.getD (s.g R.AON_START_SEL.INDEX) []).drop (4 * k)).take 4))

/-! ### Battery-backed key (R477) -/

/-- KB is erased: both copies to zero, KBVALID clear, logged (R477). -/
def State.kbErase (s : State) : State :=
  let s := s.setSec (fun x => { x with kb := 0, kbValid := false })
  ((s.putB R.SEC_STATUS.KBVALID false).aonLog 6 0).raise R.SEC_EVENTS.KBERASED

/-- The bytes of KB. -/
def State.kbBytes (s : State) : List Byte := (natBytes s.sec.kb.toNat 32).reverse

/-! ### Comparators and the counter on battery (R465, R469, R470) -/

/-- The crystal rate in force, in ppb, within its limits (AON_RTC_RATE). -/
def State.rtcRate (s : State) : Int := max (-200000) (min 200000 (s.rw R.AON_RTC_RATE.reg).toInt)

/-- The level of comparator `n` before its filter with its input at `mv` millivolts: 50 mV of hysteresis (R469). -/
def State.cmpRaw (s : State) (n mv : Nat) : Bool :=
  decide (200 + 100 * s.g (R.AON_CMP_CFG.THR n) ≤ mv + (if s.on (R.AON_CMP_CFG.LEVEL n) then 50 else 0))

/-- Does the sample of comparator `n` change its output, in a direction that EDGE selects (R469)? -/
def State.cmpFires (s : State) (n mv : Nat) : Bool :=
  s.on (R.AON_CMP_CFG.EN n) && s.cmpRaw n mv != s.on (R.AON_CMP_CFG.LEVEL n)
    && decide (s.g (R.AON_CMP_CFG.DEB n) ≤ s.sec.runs.get n)
    && (s.g (R.AON_CMP_CFG.EDGE n)).testBit (if s.cmpRaw n mv then 0 else 1)

/-- Comparator `n` samples its input, at `mv` millivolts, and logs a selected change (R469). -/
def State.cmpSample (s : State) (n mv : Nat) : State :=
  let x := s.cmpRaw n mv
  if !s.on (R.AON_CMP_CFG.EN n) || x == s.on (R.AON_CMP_CFG.LEVEL n) then s.setSec (fun y => { y with runs := y.runs.set n 0 })
  else if s.sec.runs.get n < s.g (R.AON_CMP_CFG.DEB n) then s.setSec (fun y => { y with runs := y.runs.upd n (· + 1) })
  else
    let fires := s.cmpFires n mv
    let s := (s.setSec (fun y => { y with runs := y.runs.set n 0 })).putB (R.AON_CMP_CFG.LEVEL n) x
    if fires then s.aonLog n x.toNat else s

/-- One period of the ember crystal: on battery the counter advances (R465), and the four comparators sample (R469). The
period's events are logged in the order of Table 21.4, so a change that erases KB does so after every comparator (R472). -/
def State.crystalPeriod (s : State) (mv : Nat → Nat) : State :=
  if s.on R.AON_STATUS.XTALFAIL || s.sec.lost then s
  else
    let s := if s.sec.onBat then { s with rtc := s.rtc + BitVec.ofInt 80 (2000000000 - 2 * s.rtcRate) } else s
    let erase := (List.range 4).any (fun n => s.cmpFires n (mv n) && s.on (R.AON_CMP_CFG.ERASE n))
    let s := s.each (List.range 4) (fun s n => s.cmpSample n (mv n))
    if erase then s.kbErase else s

/-- A write to AON_CMPn_CFG: ignored while LOCK = 1 (R470). -/
def State.cmpCfgWrite (s : State) (n : Nat) (v : Word) : State :=
  if s.on (R.AON_CMP_CFG.LOCK n) then s
  else s.wr (R.AON_CMP_CFG.reg n) ((v &&& 0xC0FF0E00#32) ||| (s.rw (R.AON_CMP_CFG.reg n) &&& 0x100#32))

/-! ### Main power, battery, crystal (R462 to R468) -/

/-- DISC follows the counter's source (Table 21.2). -/
def State.discShow (s : State) : State :=
  s.putB R.AON_STATUS.DISC (!s.sec.onBat && (s.g R.VSM_STATUS.TSTATE = 2 || s.g R.VSM_STATUS.TSTATE = 3))

/-- PD0 is lost when it runs from VBAT and VBAT is below 2.3 V (R462). -/
def State.pd0Check (s : State) : State :=
  if s.sec.onBat && decide (s.sec.vbat < 2300) then s.setSec (fun x => { x with lost := true }) else s

/-- PD0 passes to VBAT (R462, R471, R475). -/
def State.mainOff (s : State) : State :=
  let s := s.setSec (fun x => { x with onBat := true })
  (((s.aonLog 4 0).putB R.AON_STATUS.MAINLOST true).discShow).pd0Check

/-- PD0 returns to main power. -/
def State.mainOn (s : State) : State :=
  let s := s.setSec (fun x => { x with onBat := false })
  (if s.sec.lost then s else s.aonLog 5 0).discShow

/-- VBAT at a level in millivolts (R464). -/
def State.vbatAt (s : State) (mv : Nat) : State :=
  let low := decide (mv < 2600)
  let fell := low && !s.on R.AON_STATUS.VBATLOW
  let s := (s.setSec (fun x => { x with vbat := mv })).putB R.AON_STATUS.VBATLOW low
  (if fell then s.raise R.AON_EVENTS.VBATLOW else s).pd0Check

/-- Every ember content at its last column of Table 21.1 (R463). -/
def State.emberDefaults (s : State) : State :=
  let s := { s with csr := s.csr.keep (fun a => !(decide (0x60000 ≤ a) && decide (a < 0x70000))), rtc := 0 }
  let s := s.wr R.AGE_HOURS.reg 0#32
  let s := s.setSec (fun x => { x with
    kb := 0, kbValid := false, log := [], logSeq := 0, logCopy := none, starts := [], runs := [], rtcHi := 0, ofs := 0 })
  s.putB R.AON_STATUS.VBATLOW (decide (s.sec.vbat < 2600))

/-- The marker check at a power-on (R463). -/
def State.markerCheck (s : State) : State :=
  if s.sec.lost then
    -- the loss erased KB and logged it (R477); the log itself is restored to empty with the rest
    ((s.kbErase).setSec (fun x => { x with lost := false })).emberDefaults
  else s.putB R.AON_STATUS.VBATLOST false

/-! ### The crystal's rate (R456, R466) -/

/-- The square of the crystal's distance from its turnover temperature, in 1/256 °C²; zero with THM_CRYS.EN = 0 (R456). -/
def State.crysDev (s : State) : Int :=
  if !s.on R.THM_CRYS.EN then 0
  else
    let t : Int := ((s.rw (R.THM_CH_READ.reg (s.g R.THM_CRYS.CH))).setWidth 16).toInt
    let turn : Int := ((s.rw R.THM_CRYS.reg).setWidth 8).toInt
    (t - 16 * turn) * (t - 16 * turn)

/-- Every 16 s while LOCKED (R466): the measured offset in ppb is written, and OFS is derived, kept in 1/256 ppb. -/
def State.rtcMeasure (s : State) (ppb : Int) : State :=
  if s.g R.VSM_STATUS.TSTATE ≠ 2 then s
  else (s.setSec (fun x => { x with ofs := 256 * ppb + 34 * s.crysDev })).wr R.AON_RTC_RATE.reg (BitVec.ofInt 32 ppb)

/-- Every second while not LOCKED (R456, R466): RATE = OFS − 34 (T − TURN)² ppb. Where that is no whole number of ppb, which
of the two next to it is written is open: a free value. -/
def State.crystalCompensate (s : State) : State :=
  if s.g R.VSM_STATUS.TSTATE = 2 then s
  else
    let x : Int := s.sec.ofs - 34 * s.crysDev
    let r := s.free
    let up : Int := if x % 256 ≠ 0 && r.1.getLsbD 0 then 1 else 0
    r.2.wr R.AON_RTC_RATE.reg (BitVec.ofInt 32 (x / 256 + up))

/-! ### Fuses (Table 21.5, R476, R482) -/

/-- A fuse word. -/
def State.fuseWord (s : State) (w : Nat) : Word := s.sec.fuse.get w

/-- Bit `p` of the array, counted from bit 0 of word 0. -/
def State.fuseBit (s : State) (p : Nat) : Bool := (s.fuseWord (p / 32)).getLsbD (p % 32)

/-- The copies of a bit that is stored three times, from position `p` upward, that read 1. -/
def State.votes (s : State) (p : Nat) : Nat := (s.fuseBit p).toNat + (s.fuseBit (p + 1)).toNat + (s.fuseBit (p + 2)).toNat

/-- A bit read by majority. -/
def State.major (s : State) (p : Nat) : Bool := decide (2 ≤ s.votes p)

/-- Where the three copies of the majority fields begin (Table 21.5). -/
def fuseARB (k : Nat) : Nat := 48 * 32 + 3 * k
def fuseREVOKE (n : Nat) : Nat := 54 * 32 + 3 * n
def fuseSLOTPROG (n : Nat) : Nat := 54 * 32 + 12 + 3 * n
def fuseKFPROG : Nat := 54 * 32 + 24
def fusePOLICY (b : Nat) : Nat := 55 * 32 + 3 * b

/-- Every bit that is stored three times. -/
def fuseVoted : List Nat :=
  (List.range 64).map fuseARB ++ (List.range 4).map fuseREVOKE ++ (List.range 4).map fuseSLOTPROG ++ [fuseKFPROG]
    ++ (List.range 32).map fusePOLICY

/-- The ARB count: the positions that read 1 (R476). -/
def State.arbCount (s : State) : Nat := ((List.range 64).filter (fun k => s.major (fuseARB k))).length

/-- A policy bit (Table 21.6). -/
def State.policyBit (s : State) (b : Nat) : Bool := s.bit R.SEC_POLICY.POLICY b

/-- The bytes of fuse words `w` to `w + n - 1`. -/
def State.fuseBytes (s : State) (w n : Nat) : List Byte := (List.range n).flatMap (fun k => wordBytes (s.fuseWord (w + k)))

/-- Does a word's CRC-8 match (Fuses)? -/
def State.fuseCrcOk (s : State) (w : Nat) : Bool := decide (crc8 (wordBytes (s.fuseWord w)) = s.sec.fuseCheck.get w)

/-- The fuse fields that registers show (SEC registers). The public key and the signer hashes read zero while unprogrammed. -/
def State.fuseShow (s : State) : State :=
  let four (f : Nat → Nat) : Nat := ((List.range 4).map (fun n => (s.major (f n)).toNat * 2 ^ n)).sum
  let s1 := (((s.put R.SEC_STATUS.ARB s.arbCount).put R.SEC_STATUS.REVOKED (four fuseREVOKE)).put R.SEC_STATUS.SLOTPROG
    (four fuseSLOTPROG)).putB R.SEC_STATUS.KFPROG (s.major fuseKFPROG)
  let s1 := s1.put R.SEC_POLICY.POLICY ((List.range 32).map (fun b => (s.major (fusePOLICY b)).toNat * 2 ^ b)).sum
  let s1 := (s1.wr R.SEC_SERIAL_LO.reg (s.fuseWord 0)).wr R.SEC_SERIAL_HI.reg (s.fuseWord 1)
  let d := s.fuseBytes 2 8
  let key := if d.all (fun b => b = 0#8) then [] else sm2Public d
  let s1 := s1.each (List.range 16) (fun t k => t.put (R.SEC_IDPUB.IDPUB k) (bytesNat ((key.drop (4 * k)).take 4)))
  let s1 := s1.each (List.range 4) (fun t n => t.each (List.range 8) (fun t w =>
    t.wr (R.SEC_SIGNER_HASH.reg n w) (if s.major (fuseSLOTPROG n) then s.fuseWord (16 + 8 * n + w) else 0#32)))
  let s1 := s1.putB R.SEC_STATUS.KBVALID s1.sec.kbValid
  s1.putB R.DBG_STATUS.LOCK (s1.policyBit 3)

/-- The words whose CRC the trim load checks (R476): not KF's, nor a signer slot's, while its flag reads 0. -/
def State.fuseCrcWords (s : State) : List Nat :=
  (List.range 512).filter (fun w =>
    if 10 ≤ w ∧ w < 14 then s.major fuseKFPROG
    else if 16 ≤ w ∧ w < 48 then s.major (fuseSLOTPROG ((w - 16) / 8))
    else !(decide (48 ≤ w) && decide (w < 58)) && decide (w ≠ 14) && decide (w ≠ 15) && !(decide (58 ≤ w) && decide (w < 64)))

/-- The trim load's fuse reading (R476): disagreements of copies count in VOTE; the answer says whether every CRC word passed. -/
def State.fuseLoad (s : State) : State × Bool :=
  let split := (fuseVoted.filter (fun p => s.votes p = 1 || s.votes p = 2)).length
  let s := if 0 < split then (s.bump R.SEC_ERRCNT.VOTE split).raise R.SEC_EVENTS.FUSEVOTE else s
  (s.fuseShow, s.fuseCrcWords.all s.fuseCrcOk)

/-- The bits of `v` still to blow in fuse word `w`, then those of its check (R476). -/
def State.blowWord (s : State) (w : Nat) (v : Word) : List (Nat × Nat) :=
  let c := crc8 (wordBytes v)
  ((List.range 32).filter (fun b => v.getLsbD b && !(s.fuseWord w).getLsbD b)).map (fun b => (w, b))
    ++ ((List.range 8).filter (fun b => c.getLsbD b && !(s.sec.fuseCheck.get w).getLsbD b)).map (fun b => (512 + w, b))

/-- The copies of a majority bit still to blow: A, then B, then C (R482). -/
def State.blowThree (s : State) (p : Nat) : List (Nat × Nat) :=
  ([p, p + 1, p + 2].filter (fun q => !s.fuseBit q)).map (fun q => (q / 32, q % 32))

/-- A fuse request ends with a status: BUSY clears when none is left (R482). -/
def State.fuseEnd (s : State) (j : FuseJob) (status : Nat) : State :=
  let s := s.setSec (fun x => { x with jobs := x.jobs.drop 1 })
  let s := ((s.fuseShow).putB R.SEC_STATUS.BUSY (!s.sec.jobs.isEmpty)).raise R.SEC_EVENTS.FUSEDONE
  match j.mbx with
  | some m => s.answerMbx m status 0 0
  | none => s

/-- Requests at the head of the queue with nothing left to blow end OK. -/
def State.fuseSettle (s : State) : Nat → State
  | 0 => s
  | n + 1 => match s.sec.jobs with
    | j :: _ => if j.todo.isEmpty then (s.fuseEnd j 0).fuseSettle n else s
    | [] => s

/-- A fuse request begins (R482). -/
def State.fuseStart (s : State) (m : Option Nat) (todo : List (Nat × Nat)) : State :=
  let s := (s.setSec (fun x => { x with jobs := x.jobs ++ [{ mbx := m, todo := todo }] })).putB R.SEC_STATUS.BUSY true
  s.fuseSettle s.sec.jobs.length

/-- One blow of one copy of one bit, read back (R482): after three attempts that leave it 0, or with VCCAUX out of its
limits, the request ends with FUSEERR. -/
def State.fuseBlow (s : State) (r : Blow) : State :=
  match s.sec.jobs with
  | [] => s
  | j :: rest =>
    match j.todo, r with
    | [], _ => s.fuseSettle s.sec.jobs.length
    | _ :: _, .supply => s.fuseEnd j 0x52
    | (w, b) :: more, .one =>
      let s := s.setSec (fun x => { x with
        fuse := if w < 512 then x.fuse.upd w (· ||| BitVec.ofNat 32 (2 ^ b)) else x.fuse
        fuseCheck := if w < 512 then x.fuseCheck else x.fuseCheck.upd (w - 512) (· ||| BitVec.ofNat 8 (2 ^ b))
        jobs := { j with todo := more, tries := 0 } :: rest })
      s.fuseSettle s.sec.jobs.length
    | _ :: _, .zero =>
      if 2 ≤ j.tries then s.fuseEnd j 0x52 else s.setSec (fun x => { x with jobs := { j with tries := j.tries + 1 } :: rest })

/-! ### Requests (Table 21.8) -/

/-- A request's buffer is read with class SUPER and overwritten with zero (R481); none where a read fails. -/
def State.takeSecret (s : State) (a n : Nat) : State × Option (List Byte) :=
  let r := s.readAt iniSuper a n
  match r.2 with
  | some l => ((r.1.writeAt iniSuper a (List.replicate n 0#8)).1, some l)
  | none => r

/-- KBSET (R477, R481). -/
def State.kbSet (s : State) (m : Nat) : State :=
  if !s.mbxRuns m 0x51 then s
  else if s.policyBit 2 then s.answerMbx m 0x50 0 0
  else if s.sec.kbValid then s.answerMbx m 0x53 0 0
  else
    let r := s.takeSecret (s.mbxAddr m 0) 32
    match r.2 with
    | none => r.1.answerMbx m mbBADREQ 0 0
    | some l =>
      let s := r.1.setSec (fun x => { x with kb := BitVec.ofNat 256 (bytesNatBE l), kbValid := true })
      ((s.putB R.SEC_STATUS.KBVALID true).aonLog 7 0).answerMbx m 0 0 0

/-- KFPROG (R481): the four words of KF with their CRCs, then the flag. -/
def State.kfProg (s : State) (m : Nat) : State :=
  if !s.mbxRuns m 0x53 then s
  else if s.major fuseKFPROG then s.answerMbx m 0x51 0 0
  else
    let r := s.takeSecret (s.mbxAddr m 0) 16
    match r.2 with
    | none => r.1.answerMbx m mbBADREQ 0 0
    | some l =>
      let w (k : Nat) : Word := BitVec.ofNat 32 (bytesNat ((l.drop (4 * k)).take 4))
      r.1.fuseStart (some m) ((List.range 4).flatMap (fun k => r.1.blowWord (10 + k) (w k)) ++ r.1.blowThree fuseKFPROG)

/-- SIGNERPROG (R481): the eight words of the hash with their CRCs, then the flag. -/
def State.signerProg (s : State) (m : Nat) : State :=
  if !s.mbxRuns m 0x54 then s
  else
    let n := s.mbxArg m 0
    if 4 ≤ n then s.answerMbx m mbBADREQ 0 0
    else if s.major (fuseSLOTPROG n) then s.answerMbx m 0x51 0 0
    else
      let r := s.readAt iniSuper (s.mbxAddr m 1) 32
      match r.2 with
      | none => r.1.answerMbx m mbBADREQ 0 0
      | some l =>
        let w (k : Nat) : Word := BitVec.ofNat 32 (bytesNat ((l.drop (4 * k)).take 4))
        r.1.fuseStart (some m)
          ((List.range 8).flatMap (fun k => r.1.blowWord (16 + 8 * n + k) (w k)) ++ r.1.blowThree (fuseSLOTPROG n))

/-- POLICYSET (R481): the bits of the mask not set yet. -/
def State.policySet (s : State) (m : Nat) : State :=
  if !s.mbxRuns m 0x57 then s
  else s.fuseStart (some m) ((maskBits (s.mbxArg m 0) 32).flatMap (fun b => if s.major (fusePOLICY b) then [] else s.blowThree (fusePOLICY b)))

/-- The copies that raise the ARB count to `k`: the lowest positions that do not read 1. -/
def State.arbTodo (s : State) (k : Nat) : List (Nat × Nat) :=
  (((List.range 64).filter (fun i => !s.major (fuseARB i))).take (k - s.arbCount)).flatMap (fun i => s.blowThree (fuseARB i))

/-! ### Commands -/

/-- MAINOFF (R462). -/
def execMainoff (s : State) : Host.Outcome State Fault Refusal := done s.mainOff
/-- MAINON (R462). -/
def execMainon (s : State) : Host.Outcome State Fault Refusal := done s.mainOn
/-- VBAT_LOW (R464): VBAT has fallen to `mv` millivolts. -/
def execVbatLow (mv : Nat) (s : State) : Host.Outcome State Fault Refusal := done (s.vbatAt (min mv 2599))
/-- VBAT_RESTORED (R464): VBAT is back at 2.6 V and `above` millivolts more. -/
def execVbatRestored (above : Nat) (s : State) : Host.Outcome State Fault Refusal := done (s.vbatAt (2600 + above))
/-- XTAL_STOP (R468). -/
def execXtalStop (s : State) : Host.Outcome State Fault Refusal := done (s.putB R.AON_STATUS.XTALFAIL true)
/-- CRYSTAL_RUNS_AGAIN (R468). -/
def execCrystalRunsAgain (s : State) : Host.Outcome State Fault Refusal := done (s.putB R.AON_STATUS.XTALFAIL false)
/-- RTC_MEASURE (R466). -/
def execRtcMeasure (ppb : Int) (s : State) : Host.Outcome State Fault Refusal := done (s.rtcMeasure ppb)
/-- CRYSTAL_COMPENSATION (R456, R466). -/
def execCrystalCompensation (s : State) : Host.Outcome State Fault Refusal := done s.crystalCompensate
/-- AON_RTC_LO_READ (R467). -/
def execAonRtcLoRead (s : State) : Host.Outcome State Fault Refusal :=
  done ((s.setSec (fun x => { x with rtcHi := (s.plantNs >>> 32).setWidth 32 })).answerWith stOK (wordBytes (s.plantNs.setWidth 32)))
/-- AON_CMP_SAMPLE (R469): one period of the ember crystal, the inputs of the four comparators in millivolts. -/
def execAonCmpSample (mv0 mv1 mv2 mv3 : Nat) (s : State) : Host.Outcome State Fault Refusal :=
  done (s.crystalPeriod (fun n => [mv0, mv1, mv2, mv3].getD n 0))
/-- AON_CMP_LOCK (R470): a write to AON_CMPn_CFG with LOCK = 1. -/
def execAonCmpLock (n : Nat) (v : Word) (s : State) : Host.Outcome State Fault Refusal :=
  done (s.cmpCfgWrite n (v ||| 0x40000000#32))
/-- AON_LOG_ENT0_READ (R472). -/
def execAonLogEnt0Read (s : State) : Host.Outcome State Fault Refusal := done s.logEnt0Read
/-- AON_LOG_ENT3_READ (R472). -/
def execAonLogEnt3Read (s : State) : Host.Outcome State Fault Refusal := done s.logEnt3Read
/-- KBSET (R481). -/
def execKbset (m : Nat) (s : State) : Host.Outcome State Fault Refusal := done (s.kbSet m)
/-- KBERASE (R477). -/
def execKberase (m : Nat) (s : State) : Host.Outcome State Fault Refusal :=
  done (if s.mbxRuns m 0x52 then s.kbErase.answerMbx m 0 0 0 else s)
/-- KFPROG (R481). -/
def execKfprog (m : Nat) (s : State) : Host.Outcome State Fault Refusal := done (s.kfProg m)
/-- SIGNERPROG (R481). -/
def execSignerprog (m : Nat) (s : State) : Host.Outcome State Fault Refusal := done (s.signerProg m)
/-- POLICYSET (R481). -/
def execPolicyset (m : Nat) (s : State) : Host.Outcome State Fault Refusal := done (s.policySet m)

end Sys2Proof.Machine
end

