-- ==== Sys2Proof/Machine/Load.lean ====
section
/-! DEFINITION. Configuration images and their loading (spec/08, spec/09, R181 to R222, R232): acceptance, keys, the
command stream, the load channels, the flash ports, and the requests of Table 9.3; with them the fuse and identity requests
that look at images (R480 to R482). -/

namespace Sys2Proof.Machine

def State.loadCh (s : State) (n : Nat) : LoadCh := s.cfg.ch.get n
def State.setLoadCh (s : State) (n : Nat) (x : LoadCh) : State := s.setCfg (fun c => { c with ch := c.ch.set n x })

/-- A number in bytes `i` to `i + n - 1`, least significant first. -/
def fieldAt (l : List Byte) (i n : Nat) : Nat := bytesNat ((l.drop i).take n)

/-- 16 bytes as a block, the first leftmost. -/
def blockOf (l : List Byte) : BitVec 128 := BitVec.ofNat 128 (bytesNatBE (l.take 16))

/-- A block as 16 bytes. -/
def blockBytes (b : BitVec 128) : List Byte := (natBytes b.toNat 16).reverse

/-! ### Header (Table 8.2, R182, R183) -/

/-- The load's status codes (Table 8.10). -/
def ldHEADER : Nat := 0x01
def ldKEYWRAP : Nat := 0x08
def ldBUSY : Nat := 0x0A
def ldTRUNC : Nat := 0x14
def ldSOURCE : Nat := 0x15
def ldCANCEL : Nat := 0x18

/-- Check 1 of Table 8.5. -/
def headerOk (h : List Byte) : Bool :=
  let zero (i n : Nat) : Bool := decide (fieldAt h i n = 0)
  let kind := fieldAt h 6 1
  let tier := fieldAt h 32 1
  let ys := fieldAt h 33 1
  let xs := fieldAt h 34 1
  decide (fieldAt h 0 4 = 0x594C4854) && decide (fieldAt h 4 2 = 1) && decide (crc32c (h.take 252) = BitVec.ofNat 32 (fieldAt h 252 4))
    && (kind = 1 || kind = 2) && zero 17 1 && zero 36 12 && zero 216 36 && decide (tier < 4)
    && decide (tier ≠ 0) && decide (fieldAt h 35 1 ≠ 0) && decide (ys % 16 ≤ ys / 16) && decide (xs % 16 ≤ xs / 16)
    && (decide (kind ≠ 1) || (decide (tier = 3) && decide (ys = 0xF0) && decide (xs = 0xF0)))

/-- Is region `g` inside the image's window (R204)? -/
def inWindow (h : List Byte) (g : Nat) : Bool :=
  let ys := fieldAt h 33 1
  let xs := fieldAt h 34 1
  (fieldAt h 32 1).testBit (g / 256) && decide (ys % 16 ≤ g % 256 / 16) && decide (g % 256 / 16 ≤ ys / 16)
    && decide (xs % 16 ≤ g % 16) && decide (g % 16 ≤ xs / 16)

/-- The slot that an image context maps to. -/
def mapSlot (map c : Nat) : Nat := map / 8 ^ c % 8

/-- The identity map (R220). -/
def identityMap : Nat := 0xFAC688

/-- The slots of a region in the load's slot set (R204). -/
def LoadCh.slots (x : LoadCh) : List Nat := ((maskBits (fieldAt x.hdr 35 1) 8).map (mapSlot x.map)).eraseDups

/-- Is slot `c` of region `g` in the load's slot set? -/
def LoadCh.inSet (x : LoadCh) (g c : Nat) : Bool := inWindow x.hdr g && x.slots.contains c

/-- The load's slot set: regions and slots. -/
def LoadCh.slotSet (x : LoadCh) : List (Nat × Nat) :=
  ((List.range 512).filter (inWindow x.hdr)).flatMap (fun g => x.slots.map (fun c => (g, c)))

/-! ### Parts (R181, Tables 8.3, 8.4) -/

def imgSegs (h : List Byte) : Nat := fieldAt h 18 2
def segOfs (t : List Byte) (k : Nat) : Nat := fieldAt t (48 * k) 4
def segLen (t : List Byte) (k : Nat) : Nat := fieldAt t (48 * k + 4) 4

/-- Do two parts, each an offset and a size, share no byte? -/
def apart (a b : Nat × Nat) : Bool := decide (a.1 + a.2 ≤ b.1) || decide (b.1 + b.2 ≤ a.1)

/-- No two parts of a list overlap. -/
def allApart : List (Nat × Nat) → Bool
  | [] => true
  | a :: t => t.all (apart a) && allApart t

/-- Check 4 of Table 8.5 as far as the header goes: the table and the trailer lie where they can be read. -/
def partsReadable (h : List Byte) : Bool :=
  decide (1 ≤ imgSegs h) && decide (imgSegs h ≤ 1024) && decide (fieldAt h 20 4 + imgSegs h * 48 ≤ fieldAt h 28 4)
    && decide (fieldAt h 24 4 + 128 ≤ fieldAt h 28 4)

/-- Check 4 of Table 8.5: parts placed under R181, trailer fields, segment lengths. -/
def partsOk (h t tr : List Byte) : Bool :=
  let segs := (List.range (imgSegs h)).map (fun k => (segOfs t k, segLen t k))
  let parts := (0, 256) :: (fieldAt h 20 4, imgSegs h * 48) :: (fieldAt h 24 4, 128) :: segs
  parts.all (fun p => decide (p.1 % 16 = 0) && decide (p.1 + p.2 ≤ fieldAt h 28 4)) && allApart parts
    && segs.all (fun p => decide (48 ≤ p.2) && decide (p.2 ≤ 4194304))
    && decide (fieldAt tr 0 4 = 0x454C4854) && decide (fieldAt tr 4 4 = fieldAt h 28 4)

/-! ### Keys (R188 to R191) -/

/-- The signed message of an image (R186). -/
def signedMsg (h t tr : List Byte) : List Byte := h ++ t ++ tr.take 64

/-- The ASCII bytes "THELYS-IMAGE". -/
def idImage : List Byte := [0x54#8, 0x48#8, 0x45#8, 0x4C#8, 0x59#8, 0x53#8, 0x2D#8, 0x49#8, 0x4D#8, 0x41#8, 0x47#8, 0x45#8]
/-- The ASCII bytes "THELYS-QUOTE". -/
def idQuote : List Byte := [0x54#8, 0x48#8, 0x45#8, 0x4C#8, 0x59#8, 0x53#8, 0x2D#8, 0x51#8, 0x55#8, 0x4F#8, 0x54#8, 0x45#8]

/-- Check 6 of Table 8.5 (R186). -/
def signatureOk (h t tr : List Byte) : Bool :=
  sm2Verify idImage ((h.drop 80).take 64) (signedMsg h t tr) ((tr.drop 64).take 64)

/-- The wrap key W (R189). -/
def State.wrapKey (s : State) (keysrc : Nat) : BitVec 128 :=
  if keysrc = 1 then blockOf (s.fuseBytes 10 4) else blockOf (sm3Bytes s.kbBytes)

/-- Check 9 of Table 8.5 (R189): K0 and IV0, none when the key does not unwrap. -/
def State.unwrap (s : State) (h : List Byte) : Option (BitVec 128 × Nat) :=
  let w := (h.drop 48).take 32
  if fieldAt h 16 1 = 0 then (if w.all (fun b => b = 0#8) then some (0, 0) else none)
  else
    let k := s.wrapKey (fieldAt h 16 1)
    let b := blockBytes (sm4Dec k (blockOf w)) ++ blockBytes (sm4Dec k (blockOf (w.drop 16)))
    if b.drop 28 = [0x4B#8, 0x45#8, 0x59#8, 0x30#8] then some (blockOf b, bytesNatBE ((b.drop 16).take 12)) else none

/-- Byte `j` of the keystream of a segment (R190). -/
def keyByte (key : BitVec 128) (iv j : Nat) : Byte :=
  let b := sm4 key (BitVec.ofNat 128 (iv * 2 ^ 32 + j / 16 % 2 ^ 32))
  (b >>> (8 * (15 - j % 16))).setWidth 8

/-- SM4 in counter mode over a segment (R190). -/
def ctrMode (key : BitVec 128) (iv : Nat) (l : List Byte) : List Byte :=
  (l.zip (List.range l.length)).map (fun x => x.1 ^^^ keyByte key iv x.2)

/-! ### Sources (R212) -/

/-- Is a flash port serving a load or a flash request (R212)? -/
def State.portBusy (s : State) (p : Nat) : Bool :=
  (s.cfg.ops.find p).isSome || (List.range 4).any (fun n => (s.loadCh n).busy && decide ((s.loadCh n).src = p + 1))

/-- A port's mode (CFG_STATUS). -/
def State.portMode (s : State) (p : Nat) : Nat := if p = 0 then s.g R.CFG_STATUS.XSPIA_MODE else s.g R.CFG_STATUS.XSPIB_MODE

/-- The bytes that send a command: in 8D-8D-8D mode the opcode and its extension (R216). -/
def State.flashCmd (s : State) (p op : Nat) : List Nat :=
  if s.portMode p = 2 then [op, if s.cfg.repeatExt.get p then op else 255 - op] else [op]

/-- What a port has sent last. -/
def State.flashSend (s : State) (p : Nat) (l : List Nat) : State := s.setCfg (fun c => { c with sent := c.sent.set p l })

/-- Bytes of an image, from its source: 0 HBM, 1 XSPIA, 2 XSPIB, 3 what the twin answers (R441); else the status of R195: SOURCE
for an error response, TRUNC where the source's bytes stop before the last one. A read of flash is command Read or 4-byte Read
(R216). -/
def State.imgRead (s : State) (src a n : Nat) : State × (Nat ⊕ List Byte) :=
  if src = 0 then
    let r := if a + n ≤ hbmEnd then s.readAt iniConfig a n else (s, none)
    (r.1, match r.2 with
      | some l => .inr l
      | none => .inl ldSOURCE)
  else if src = 3 then
    (s, match s.cfg.twinImg with
        | some l => if a + n ≤ l.length then .inr ((l.drop a).take n) else .inl ldTRUNC
        | none => .inl ldSOURCE)
  else
    (s.flashSend (src - 1) (if s.portMode (src - 1) = 2 then s.flashCmd (src - 1) 0xEE else [0x13]),
      if a + n ≤ 2 ^ 32 then .inr (s.bytes (flashAddr (src - 1) a) n) else .inl ldTRUNC)

/-! ### Acceptance (R185 to R189, Table 8.5) -/

/-- Checks 1 to 4, in order: the channel with the header and the table read, the trailer, and the status, 0 for none. -/
def State.acceptParts (s : State) (x : LoadCh) : State × LoadCh × List Byte × Nat :=
  let r := s.imgRead x.src x.base 256
  match r.2 with
  | .inl st => (r.1, x, [], st)
  | .inr h =>
    let x := { x with hdr := h }
    if !headerOk h then (r.1, x, [], ldHEADER)
    else if fieldAt h 8 4 ≠ 0x4860 then (r.1, x, [], 0x02)
    else if s.g R.SYS_INFO.GRADE < fieldAt h 7 1 then (r.1, x, [], 0x03)
    else if !x.start && decide (fieldAt h 6 1 = 1) then (r.1, x, [], mbBADREQ)
    else if x.start && decide (fieldAt h 6 1 ≠ 1) then (r.1, x, [], ldHEADER)
    else if !partsReadable h then (r.1, x, [], 0x09)
    else
      let rt := r.1.imgRead x.src (x.base + fieldAt h 20 4) (imgSegs h * 48)
      let rr := rt.1.imgRead x.src (x.base + fieldAt h 24 4) 128
      match rt.2, rr.2 with
      | .inr t, .inr tr => (rr.1, { x with table := t }, tr, if partsOk h t tr then 0 else 0x09)
      | .inl st, _ => (rr.1, x, [], st)
      | _, .inl st => (rr.1, x, [], st)

/-- Checks 5 to 10, in order: the status, 0 for none, with K0 and IV0. -/
def State.acceptRest (s : State) (x : LoadCh) (tr : List Byte) : Nat × BitVec 128 × Nat :=
  let h := x.hdr
  let n := fieldAt h 15 1
  let src := fieldAt h 16 1
  let none : Nat → Nat × BitVec 128 × Nat := fun st => (st, 0, 0)
  if 4 ≤ n || !s.major (fuseSLOTPROG n) || s.major (fuseREVOKE n) || decide (sm3Bytes ((h.drop 80).take 64) ≠ s.fuseBytes (16 + 8 * n) 8) then none 0x04
  else if !signatureOk h x.table tr then none 0x05
  else if fieldAt h 14 1 < s.arbCount then none 0x06
  else if (src = 0 && s.policyBit 0) || (src = 1 && !s.major fuseKFPROG) || (src = 2 && (!s.sec.kbValid || s.policyBit 2)) || decide (2 < src) then none 0x07
  else match s.unwrap h with
    | .none => none ldKEYWRAP
    | some (k, iv) =>
      if x.slotSet.any (fun e =>
          s.slotState e.1 e.2 = slotACTIVE || s.slotState e.1 e.2 = slotLOADING || s.slotLocked e.1 e.2) then none ldBUSY
      else (0, k, iv)

/-! ### The end of a load (R206, R211) -/

/-- The channel is free again: its registers, the event, and the answer with the channel number. -/
def State.loadEnd (s : State) (n status : Nat) : State :=
  let x := s.loadCh n
  let s := s.setLoadCh n {}
  let s := (s.put (R.CFG_CH_STATUS.STATUS n) status).putB (R.CFG_CH_STATUS.BUSY n) false
  let s := (s.clrBit R.CFG_STATUS.CHBUSY n).setBit R.CFG_EVENTS.LOADEND n
  let s : State := if x.start then
    { (s.setCfg (fun c => { c with startResult := some status, held := x.held, acts := x.acts })) with
      start := { s.start with tag := fieldAt x.hdr 12 2 } }
    else s
  match x.mbx with
  | some m => s.answerMbx m status n 0
  | none => s

/-- The load statuses of a failed check of a command's header, of a frame, or of a frame read back (R16, R134). -/
def frameChecks : List Nat := [0x0C, 0x12, 0x13]

/-- An abort: every slot of the slot set goes to INVALID with LASTERR (R206); a failed frame check is reported (R16). -/
def State.loadAbort (s : State) (n status : Nat) : State :=
  let x := s.loadCh n
  let s := if frameChecks.contains status then s.report (.frameCheck n status) else s
  let s := if x.waiting then s
    else x.slotSet.foldl (fun (t : State) e =>
      (t.setSlot e.1 e.2 slotINVALID).put (R.CTX_SLOT_STATE.LASTERR (e.1 * 8 + e.2)) status) s
  s.loadEnd n status

/-! ### Segments (R190 to R195) -/

/-- Channel `n` enters segment `k`: digest, decryption, key block (R191, R193). -/
def State.segEnter (s : State) (n k : Nat) : State :=
  let x := s.loadCh n
  let r := s.imgRead x.src (x.base + segOfs x.table k) (segLen x.table k)
  match r.2 with
  | .inl st => r.1.loadAbort n st
  | .inr l =>
    let s := (r.1.put (R.CFG_CH_BYTES.BYTES n) (r.1.g (R.CFG_CH_BYTES.BYTES n) + l.length)).put (R.CFG_CH_SEG.SEG n) k
    let last := decide (k + 1 = imgSegs x.hdr)
    let d := if fieldAt x.hdr 16 1 = 0 then l else ctrMode x.key x.iv l
    if sm3Bytes l ≠ (x.table.drop (48 * k + 16)).take 32 then s.loadAbort n 0x0B
    else if fieldAt d 28 4 ≠ (if last then 0 else k + 1) then s.loadAbort n ldKEYWRAP
    else s.setLoadCh n { x with seg := k, rest := d.drop 32, key := blockOf d, iv := bytesNatBE ((d.drop 16).take 12) }

/-- What is left after a command: the rest of the segment, or the next segment, or a stream without END (R195). -/
def State.loadGoOn (s : State) (n : Nat) (rest : List Byte) : State :=
  let x := s.loadCh n
  if !rest.isEmpty then s.setLoadCh n { x with rest := rest }
  else if x.seg + 1 = imgSegs x.hdr then s.loadAbort n 0x14
  else s.segEnter n (x.seg + 1)

/-! ### The start of a load (R205, R211) -/

/-- A slot enters LOADING (R134, R205, R231): frames and SAVEVALID cleared, queued responses discarded, its map no longer
valid. -/
def State.slotLoading (s : State) (g c : Nat) : State :=
  let s := (s.setSlot g c slotLOADING).putB (R.CTX_SLOT_STATE.SAVEVALID (g * 8 + c)) false
  let s := s.adapterDiscard g c
  let s := s.clrBit (R.UPS_MAPVALID.VALID ((g * 8 + c) / 32)) ((g * 8 + c) % 32)
  { s with fab := { s.fab with frames := s.fab.frames.keep (fun a => !(decide (a / 0x20000000 = c) && decide (a / 0x100000 % 512 = g))) } }

/-- An image accepted: its policy table, its key, its slots LOADING, and its first segment. -/
def State.loadOpen (s : State) (n : Nat) (x : LoadCh) (dig : List Byte) : State :=
  let s := if x.start then
    -- an accepted FULL image replaces the policy table (R210)
    (s.setCfg (fun f => { f with fullDig := dig, fullArb := fieldAt x.hdr 14 1, fullSigner := some (fieldAt x.hdr 15 1) })).each (List.range 16)
      (fun t k => t.put (R.AON_POLICY.ENTRY k) (fieldAt x.hdr (144 + 4 * k) 4))
    else s
  let s := s.setLoadCh n x
  let s := x.slotSet.foldl (fun (t : State) e =>
    (t.slotLoading e.1 e.2).setCfg (fun f => { f with dig := f.dig.set (e.1 * 8 + e.2) dig })) s
  s.segEnter n 0

/-- The ten checks of Table 8.5 on the load of channel `n`, and its first segment when it is accepted. A load that reaches
check 5 while a fuse request runs waits (R482). -/
def State.loadAccept (s : State) (n : Nat) : State :=
  let r := s.acceptParts (s.loadCh n)
  let s := r.1.setLoadCh n r.2.1
  let s := s.put (R.CFG_CH_BYTES.BYTES n) (256 + r.2.1.table.length + r.2.2.1.length)
  if r.2.2.2 ≠ 0 then s.loadEnd n r.2.2.2
  else if !s.sec.jobs.isEmpty then s.setLoadCh n { r.2.1 with waiting := true }
  else
    let x := { r.2.1 with waiting := false }
    let c := s.acceptRest x r.2.2.1
    if c.1 ≠ 0 then (s.setLoadCh n { x with waiting := true }).loadEnd n c.1
    else
      s.loadOpen n { x with key := c.2.1, iv := c.2.2 } (sm3Bytes (signedMsg x.hdr x.table r.2.2.1))

/-- Channel `n` takes a load: its registers clear (CFG_CHn), and acceptance begins. -/
def State.loadTake (s : State) (n : Nat) (x : LoadCh) : State :=
  let s := s.setLoadCh n { x with busy := true }
  let s := ((s.putB (R.CFG_CH_STATUS.BUSY n) true).put (R.CFG_CH_STATUS.SOURCE n) x.src).setBit R.CFG_STATUS.CHBUSY n
  let s := ((s.put (R.CFG_CH_BYTES.BYTES n) 0).put (R.CFG_CH_FRAMES.FRAMES n) 0).put (R.CFG_CH_SEG.SEG n) 0
  s.loadAccept n

/-- LOAD (R211 to R214, R219, R220): refused BADREQ, NOCHAN, PORTBUSY or, from a port that cannot read, SOURCE; else taken by
the lowest-numbered free channel. -/
def State.loadRequest (s : State) (m : Nat) : State :=
  if !s.mbxRuns m 0x20 then s
  else
    let src := s.mbxArg m 0
    if 2 < src then s.answerMbx m mbBADREQ 0 0
    else match (List.range 4).find? (fun n => !(s.loadCh n).busy) with
      | none => s.answerMbx m 0x40 0 0
      | some n =>
        if src ≠ 0 && s.portBusy (src - 1) then s.answerMbx m 0x43 0 0
        else if src ≠ 0 && (s.portMode (src - 1) = 0 || s.portMode (src - 1) = 3) then s.answerMbx m ldSOURCE 0 0
        else
          let map := s.mbxArg m 3 % 2 ^ 24
          s.loadTake n { mbx := some m, src := src, base := if src = 0 then s.mbxAddr m 1 else s.mbxArg m 1
                         map := if s.mbxArg m 3 = 0 then identityMap else map }

/-- Loads that waited for a fuse request go on (R482). -/
def State.loadsResume (s : State) : State :=
  if !s.sec.jobs.isEmpty then s
  else s.each (List.range 4) (fun s n => if (s.loadCh n).busy && (s.loadCh n).waiting then s.loadAccept n else s)

/-! ### The command stream (R194 to R204, R208, Tables 8.6, 8.7) -/

/-- A command of the stream: its header's fields and its payload as stored. -/
structure ImgCmd where
  op : Nat := 0
  lz4 : Bool := false
  stored : Nat := 0
  addr : Nat := 0
  fcheck : Word := 0
  arg : Nat := 0
  payload : List Byte := []
  deriving DecidableEq, Repr, Inhabited

/-- The next command of a stream and what follows it, or the status it aborts with (R194, R195). -/
def nextCmd (full : Bool) (l : List Byte) : Nat ⊕ (ImgCmd × List Byte) :=
  let c : ImgCmd := { op := fieldAt l 0 1, lz4 := (fieldAt l 1 1).testBit 0, stored := fieldAt l 2 2, addr := fieldAt l 4 4
                      fcheck := BitVec.ofNat 32 (fieldAt l 8 4), arg := fieldAt l 12 2, payload := (l.drop 16).take (fieldAt l 2 2) }
  if l.length < 16 then .inl 0x14
  else if crc16 (l.take 14) ≠ BitVec.ofNat 16 (fieldAt l 14 2) then .inl 0x0C
  else if !([0, 1, 2, 0x10, 0x11, 0x12, 0x7F].contains c.op) || (!full && [0x10, 0x11, 0x12].contains c.op)
      || (c.lz4 && [0x10, 0x11].contains c.op) then .inl 0x0D
  else if l.length < 16 + c.stored then .inl 0x14
  else .inr (c, l.drop (16 + (c.stored + 3) / 4 * 4))

/-- The frame addresses a BCAST steps through, none when a stepped field passes 15 (R198). -/
def bcastSet (addr arg : Nat) : Option (List Nat) :=
  let field (lo : Nat) : Nat := addr / 2 ^ lo % 16
  let tx := arg % 16
  let ty := arg / 16 % 16
  let rx := arg / 256 % 16
  let ry := arg / 4096 % 16
  if 15 < field 12 + tx || 15 < field 16 + ty || 15 < field 20 + rx || 15 < field 24 + ry then none
  else some ((List.range (ry + 1)).flatMap (fun a => (List.range (rx + 1)).flatMap (fun b =>
    (List.range (ty + 1)).flatMap (fun c => (List.range (tx + 1)).map (fun d =>
      addr + a * 0x1000000 + b * 0x100000 + c * 0x10000 + d * 0x1000)))))

/-- A malformed frame address (R201). -/
def badAddr (a : Nat) : Bool :=
  let kind := a / 256 % 16
  decide (a % 256 ≠ 0) || decide (frameSize kind = 0) || (decide (8 ≤ kind) && decide (a / 0x1000 % 256 ≠ 0))

/-- A frame address with its context replaced through the slot map (R204). -/
def mapAddr (map a : Nat) : Nat := mapSlot map (a / 0x20000000) * 0x20000000 + a % 0x20000000

/-- Is a mapped frame address in the load's slot set? -/
def LoadCh.covers (x : LoadCh) (a : Nat) : Bool := x.inSet (a / 0x100000 % 512) (a / 0x20000000)

/-- A ROUTE frame with a select field of two or more bits (R202). -/
def notOneHot (d : List Byte) : Bool :=
  (List.range 224).any (fun i => decide (1 < ((List.range 16).filter (fun b => (fieldAt d (2 * i) 2).testBit b)).length))

/-- The checks of R208 on the frames a command writes: the status of the first that fails, or the mapped addresses and the
decoded payload. -/
def checkFrames (x : LoadCh) (c : ImgCmd) (set : Option (List Nat)) : Nat ⊕ (List Nat × List Byte) :=
  match set with
  | none => .inl 0x0F
  | some l =>
    if l.any badAddr then .inl 0x0F
    else if !(l.all (fun a => x.covers (mapAddr x.map a))) then .inl 0x10
    else
      let size := frameSize (c.addr / 256 % 16)
      let d := if c.lz4 then Machine.lz4 c.payload else some c.payload
      match d with
      | none => .inl 0x0E
      | some d =>
        if d.length ≠ size then .inl 0x0E
        else if c.addr / 256 % 16 = 1 && notOneHot d then .inl 0x11
        else if crc32c d ≠ c.fcheck then .inl 0x12
        else .inr (l.map (mapAddr x.map), d)

/-- The frames of a command are written with their FCHECK (R197, R208). -/
def State.writeFrames (s : State) (n : Nat) (c : ImgCmd) (set : Option (List Nat)) (rest : List Byte) : State :=
  match checkFrames (s.loadCh n) c set with
  | .inl st => s.loadAbort n st
  | .inr (l, d) =>
    let s := { s with fab := { s.fab with frames := l.foldl (fun m a => m.set a { data := d, check := c.fcheck }) s.fab.frames } }
    (s.put (R.CFG_CH_FRAMES.FRAMES n) (s.g (R.CFG_CH_FRAMES.FRAMES n) + l.length)).loadGoOn n rest

/-- The blocks a CSRW command may not address: SEC, CFG, SCR, RST, DBG, USB (R199). -/
def csrwBarred (a : Nat) : Bool := [0x7, 0x8, 0x50, 0x1, 0xB0, 0xA0].contains (a / 0x10000)

/-- SUPFW (R193, R194): firmware bytes into supervisor program memory. -/
def State.supfw (s : State) (n : Nat) (c : ImgCmd) (rest : List Byte) : State :=
  if crc32c c.payload ≠ c.fcheck then s.loadAbort n 0x12
  else
    let mem := (c.payload.zip (List.range c.stored)).foldl (fun m e => SMap.set m (c.addr + e.2) e.1) s.cfg.supMem
    let s := s.setCfg (fun f => { f with supMem := mem })
    (s.setLoadCh n { s.loadCh n with sup := true }).loadGoOn n rest

/-- CSRW (R199): the values are held for step CSR. -/
def State.csrw (s : State) (n : Nat) (c : ImgCmd) (rest : List Byte) : State :=
  let regs := (List.range (c.stored / 4)).map (fun i => (c.addr + 4 * i, BitVec.ofNat 32 (fieldAt c.payload (4 * i) 4)))
  if crc32c c.payload ≠ c.fcheck then s.loadAbort n 0x12
  else if 0x1000000 ≤ c.addr || regs.any (fun e => csrwBarred e.1) then s.loadAbort n 0x16
  else
    let x := s.loadCh n
    (s.setLoadCh n { x with held := x.held ++ regs }).loadGoOn n rest

/-- ACTIVATE (R194, R200): a start region and its slot. -/
def State.activate (s : State) (n : Nat) (c : ImgCmd) (rest : List Byte) : State :=
  let x := s.loadCh n
  let g := c.addr / 0x100000 % 512
  let slot := mapSlot x.map (c.addr / 0x20000000)
  if c.addr % 0x100000 ≠ 0 then s.loadAbort n 0x0F
  else if !x.inSet g slot then s.loadAbort n 0x10
  else if 1 < c.arg || x.acts.any (fun a => decide (a.1 = c.arg) && decide (a.2.1 = g)) then s.loadAbort n 0x0D
  else (s.setLoadCh n { x with acts := x.acts ++ [(c.arg, g, slot)] }).loadGoOn n rest

/-- END (R134, R194): read-back of every frame of the slot set, then the comparator stores, IMGTAG and PROOFED. -/
def State.endImage (s : State) (n : Nat) : State :=
  let x := s.loadCh n
  if x.seg + 1 ≠ imgSegs x.hdr || (fieldAt x.hdr 6 1 = 1 && !x.sup) then s.loadAbort n 0x0D
  else if s.fab.frames.any (fun e => x.covers e.1 && !e.2.good) then s.loadAbort n 0x13
  else
    let s := x.slotSet.foldl (fun (t : State) e =>
      let t := t.loadComp e.1 e.2
      let k := e.1 * 8 + e.2
      ((t.put (R.CTX_SLOT_STATE.IMGTAG k) (fieldAt x.hdr 12 2)).put (R.CTX_SLOT_STATE.LASTERR k) 0).setSlot e.1 e.2 slotPROOFED) s
    s.loadEnd n 0

/-- A row of the command stream: acts when the next command of channel `n` has opcode `op`; a command that aborts does so at
whichever row comes. -/
def State.loadRow (s : State) (n op : Nat) (act : State → ImgCmd → List Byte → State) : State :=
  let x := s.loadCh n
  if !x.busy || x.waiting then s
  else match nextCmd (decide (fieldAt x.hdr 6 1 = 1)) x.rest with
    | .inl st => s.loadAbort n st
    | .inr (c, rest) => if c.op = op then act s c rest else s

/-- PAD: the rest of the segment is ignored. -/
def State.padRow (s : State) (n : Nat) : State := s.loadRow n 0 (fun s _ _ => s.loadGoOn n [])
def State.frameRow (s : State) (n : Nat) : State := s.loadRow n 1 (fun s c r => s.writeFrames n c (some [c.addr]) r)
def State.bcastRow (s : State) (n : Nat) : State := s.loadRow n 2 (fun s c r => s.writeFrames n c (bcastSet c.addr c.arg) r)
def State.supfwRow (s : State) (n : Nat) : State := s.loadRow n 0x10 (fun s c r => s.supfw n c r)
def State.csrwRow (s : State) (n : Nat) : State := s.loadRow n 0x11 (fun s c r => s.csrw n c r)
def State.activateRow (s : State) (n : Nat) : State := s.loadRow n 0x12 (fun s c r => s.activate n c r)
def State.endRow (s : State) (n : Nat) : State := s.loadRow n 0x7F (fun s _ _ => s.endImage n)

/-! ### Requests of Table 9.3 -/

/-- CANCEL (R219): the load of channel A0 ends with CANCEL. -/
def State.cancelRequest (s : State) (m : Nat) : State :=
  if !s.mbxRuns m 0x21 then s
  else
    let n := s.mbxArg m 0
    if 4 ≤ n then s.answerMbx m mbBADREQ 0 0
    else (if (s.loadCh n).busy then s.loadAbort n ldCANCEL else s).answerMbx m 0 0 0

/-- INVALIDATE (R221): all the slots of the mask or none. -/
def State.invalidateRequest (s : State) (m : Nat) : State :=
  if !s.mbxRuns m 0x22 then s
  else
    let g := s.mbxArg m 0
    let l := maskBits (s.mbxArg m 1) 8
    if 512 ≤ g then s.answerMbx m mbBADREQ 0 0
    else if l.any (fun c => s.slotState g c = slotACTIVE || s.slotLocked g c) then s.answerMbx m ldBUSY 0 0
    else
      let s := s.each (List.range 4) (fun s n =>
        if (s.loadCh n).busy && !(s.loadCh n).waiting && l.any (fun c => s.slotState g c = slotLOADING && (s.loadCh n).inSet g c) then
          s.loadAbort n ldCANCEL else s)
      (s.each l (fun s c => if s.slotState g c = slotPROOFED then s.setSlot g c slotINVALID else s)).answerMbx m 0 0 0

/-- SWITCH (R222): as a write of the mask to CTX_SWITCH; a group without EN_REG is refused with NOTEN, one that is not armed
or fails its check is refused. -/
def State.switchRequest (s : State) (m sub : Nat) : State :=
  if !s.mbxRuns m 0x23 then s
  else
    let l := maskBits (s.mbxArg m 0) 32
    let en (n : Nat) : Bool := s.on (R.CTX_SG_CFG.EN_REG n)
    let mask (l : List Nat) : Nat := (l.map (2 ^ ·)).sum
    let q : SwReq := { mbx := m, posted := mask (l.filter en), from_ := s.instant (sub + 8000), refused := mask (l.filter (fun n => !en n))
                       noten := l.any (fun n => !en n) }
    let s := s.setCfg (fun c => { c with swReqs := c.swReqs ++ [q] })
    (s.ctxSwitch (s.mbxArg m 0) sub).swSettle

/-- Where the essential-bit map of a slot of a region begins (R230). -/
def mapBase (g c : Nat) : Nat := reservedBase + c * 0x1000000 + g * 0x8000

/-- MAP (R231, R232, Table 9.6). -/
def State.mapRequest (s : State) (m : Nat) : State :=
  if !s.mbxRuns m 0x24 then s
  else
    let src := s.mbxArg m 0
    let base := if src = 0 then s.mbxAddr m 1 else s.mbxArg m 1
    let c := s.mbxArg m 3 % 8
    if 2 < src then s.answerMbx m mbBADREQ 0 0
    else if src ≠ 0 && s.portBusy (src - 1) then s.answerMbx m 0x43 0 0
    else if src ≠ 0 && (s.portMode (src - 1) = 0 || s.portMode (src - 1) = 3) then s.answerMbx m ldSOURCE 0 0
    else
      let r := s.imgRead src base 16
      match r.2 with
      | .inl _ => r.1.answerMbx m ldSOURCE 0 0
      | .inr h =>
        let first := fieldAt h 6 2
        let count := fieldAt h 8 2
        let regs := (List.range count).map (fun k => first + k)
        let fits (g : Nat) : Bool := decide (g < 512) && (s.slotState g c = slotPROOFED || s.slotState g c = slotACTIVE)
          && decide (s.g (R.CTX_SLOT_STATE.IMGTAG (g * 8 + c)) = fieldAt h 4 2)
        if fieldAt h 0 4 ≠ 0x4D454854 || count = 0 || 512 < count || !regs.all fits then r.1.answerMbx m 0x44 0 0
        else
          let valid (s : State) (on : Bool) : State :=
            s.each regs (fun s g => s.putBit (R.UPS_MAPVALID.VALID ((g * 8 + c) / 32)) ((g * 8 + c) % 32) on)
          let d := (valid r.1 false).imgRead src (base + 16) (count * 0x8000)
          match d.2 with
          | .inl _ => d.1.answerMbx m ldSOURCE 0 0
          | .inr l =>
            if crc32c l ≠ BitVec.ofNat 32 (fieldAt h 12 4) then d.1.answerMbx m 0x45 0 0
            else
              let w := d.1.writeAt iniSuper (mapBase first c) l
              if w.2 then (valid w.1 true).answerMbx m 0 0 0 else w.1.answerMbx m ldSOURCE 0 0

/-! ### Flash requests (R216, R218) -/

/-- A flash request that a port takes, after its checks: port A0, 0 XSPIA and 1 XSPIB; an offset of a multiple of `unit`. -/
def State.flashRequest (s : State) (m code unit : Nat) (start : State → Nat → State) : State :=
  if !s.mbxRuns m code then s
  else
    let p := s.mbxArg m 0
    if 1 < p || s.mbxArg m 1 % unit ≠ 0 || s.portMode p = 0 then s.answerMbx m mbBADREQ 0 0
    else if s.portBusy p then s.answerMbx m 0x43 0 0
    else if s.portMode p = 3 then (s.raise R.CFG_EVENTS.FLASHERR).answerMbx m 0x46 0 0
    else start s p

/-- FLASHPROG (R218): Write Enable, Page Program, and the polling of write-in-progress. -/
def State.flashProg (s : State) (m : Nat) : State :=
  s.flashRequest m 0x25 256 (fun s p =>
    let r := s.readAt iniConfig (s.mbxAddr m 2) 256
    match r.2 with
    | none => r.1.answerMbx m ldSOURCE 0 0
    | some l =>
      (r.1.flashSend p (r.1.flashCmd p 0x06 ++ r.1.flashCmd p 0x12 ++ r.1.flashCmd p 0x05)).setCfg (fun c =>
        { c with ops := c.ops.ins p { mbx := m, offset := s.mbxArg m 1, data := l } }))

/-- FLASHERASE (R218): Write Enable, Erase 64 KiB, and the polling. -/
def State.flashErase (s : State) (m : Nat) : State :=
  s.flashRequest m 0x26 65536 (fun s p =>
    (s.flashSend p (s.flashCmd p 0x06 ++ s.flashCmd p 0xDC ++ s.flashCmd p 0x05)).setCfg (fun c =>
      { c with ops := c.ops.ins p { mbx := m, erase := true, offset := s.mbxArg m 1 } }))

/-- Free bytes written over a range: what a flash operation that failed has left. -/
def State.scramble (s : State) (a : Nat) : Nat → State
  | 0 => s
  | n + 1 =>
    let r := s.free
    (r.2.setByte a (r.1.setWidth 8)).scramble (a + 1) n

/-- A flash operation ends: programmed bytes are the old ones AND the new, an erased sector reads ones; a failed one is
answered FLASHERR and leaves its bytes open. -/
def State.flashEnd (s : State) (p : Nat) (ok : Bool) : State :=
  match s.cfg.ops.find p with
  | none => s
  | some o =>
    let s := s.setCfg (fun c => { c with ops := c.ops.del p })
    let a := flashAddr p o.offset
    if ok then
      (if o.erase then s.refill (memUnit a) 2
       else s.setBytes a ((o.data.zip (s.bytes a 256)).map (fun x => x.1 &&& x.2))).answerMbx o.mbx 0 0 0
    else
      ((if o.erase then s.forget (memUnit a) else s.scramble a 256).raise R.CFG_EVENTS.FLASHERR).answerMbx o.mbx 0x46 0 0

/-! ### Reclaim (R215) -/

/-- A write to CFG_RECLAIM: every busy channel named stops, its load aborts with RECLAIM (R206). -/
def State.cfgReclaim (s : State) (mask : Nat) : State :=
  s.each (maskBits mask 4) (fun s n => if (s.loadCh n).busy then (s.loadAbort n 0x17).raise R.CFG_EVENTS.RECLAIMED else s)

/-! ### Fuse and identity requests that look at images (R480 to R482) -/

/-- SIGNERREVOKE (Table 21.8). -/
def State.signerRevoke (s : State) (m : Nat) : State :=
  if !s.mbxRuns m 0x55 then s
  else
    let n := s.mbxArg m 0
    let left := (List.range 4).any (fun k => decide (k ≠ n) && s.major (fuseSLOTPROG k) && !s.major (fuseREVOKE k))
    if 4 ≤ n then s.answerMbx m mbBADREQ 0 0
    else if s.cfg.fullSigner = some n || !left then s.answerMbx m 0x54 0 0
    else s.fuseStart (some m) (s.blowThree (fuseREVOKE n))

/-- ARBADVANCE (Table 21.8). -/
def State.arbAdvance (s : State) (m : Nat) : State :=
  if !s.mbxRuns m 0x56 then s
  else if s.cfg.fullArb < s.mbxArg m 0 then s.answerMbx m 0x55 0 0
  else s.fuseStart (some m) (s.arbTodo (s.mbxArg m 0))

/-- The slots that count in RESIDENT, in order of slot index (Table 21.7). -/
def State.resident (s : State) : List Nat :=
  (List.range 4096).filter (fun k => s.slotState (k / 8) (k % 8) = slotPROOFED || s.slotState (k / 8) (k % 8) = slotACTIVE)

/-- The signed part of a quote, bytes 127:0 (Table 21.7). -/
def State.quoteBody (s : State) (nonce : List Byte) : List Byte :=
  let res := s.resident
  let rec38 (k : Nat) : List Byte :=
    natBytes (k / 8) 2 ++ [BitVec.ofNat 8 (k % 8), BitVec.ofNat 8 (s.slotState (k / 8) (k % 8))]
      ++ natBytes (s.g (R.CTX_SLOT_STATE.IMGTAG k)) 2 ++ ((s.cfg.dig.get k) ++ List.replicate 32 0#8).take 32
  natBytes 0x54514854 4 ++ natBytes 1 2 ++ natBytes res.length 2 ++ s.fuseBytes 0 2 ++ nonce ++ natBytes s.plantNs.toNat 8
    ++ [BitVec.ofNat 8 s.arbCount, 0#8, 0#8, 0#8] ++ wordBytes (s.rw R.SEC_POLICY.reg)
    ++ (s.cfg.fullDig ++ List.replicate 32 0#8).take 32 ++ sm3Bytes (res.flatMap rec38)

/-- A fresh number of the random source from 1 to n − 1 (R479): four free values of 64 bits. -/
def State.freeScalar (s : State) : Nat × State :=
  let a := s.free
  let b := a.2.free
  let c := b.2.free
  let d := c.2.free
  ((a.1 ++ b.1 ++ c.1 ++ d.1).toNat % (sm2N - 1) + 1, d.2)

/-- QUOTE (R480): the nonce is read, the quote signed with the identity key and a fresh random value, and written back. While the
random source does not deliver (`rng` false) the request waits (R479), and so it does for a number with which the standard
gives no signature: the next run draws another. -/
def State.quoteRequest (s : State) (m : Nat) (rng : Bool) : State :=
  if !s.mbxRuns m 0x50 then s
  else if !rng then s.putB R.SEC_STATUS.RNGOK false
  else if s.mbxArg m 0 % 256 ≠ 0 then s.answerMbx m mbBADREQ 0 0
  else
    let r := s.readAt iniSuper (s.mbxAddr m 0) 32
    match r.2 with
    | none => r.1.answerMbx m mbBADREQ 0 0
    | some nonce =>
      let f := r.1.freeScalar
      let s := f.2.putB R.SEC_STATUS.RNGOK true
      let b := s.quoteBody nonce
      match sm2Sign (s.fuseBytes 2 8) idQuote b f.1 with
      | none => s
      | some sig =>
        let w := s.writeAt iniSuper (s.mbxAddr m 0) (b ++ sig)
        w.1.answerMbx m (if w.2 then 0 else mbBADREQ) 0 0

/-! ### Commands -/

/-- LOAD (R219). -/
def execLoad (m : Nat) (s : State) : Host.Outcome State Fault Refusal := done (s.loadRequest m)
/-- SWITCH (R222), `sub` ps after the current tick. -/
def execSwitch (m sub : Nat) (s : State) : Host.Outcome State Fault Refusal := done (s.switchRequest m sub)

/-- MAP (R232). -/
def execMap (m : Nat) (s : State) : Host.Outcome State Fault Refusal := done (s.mapRequest m)
/-- FLASHPROG (R218). -/
def execFlashprog (m : Nat) (s : State) : Host.Outcome State Fault Refusal := done (s.flashProg m)
/-- FLASHERASE (R218). -/
def execFlasherase (m : Nat) (s : State) : Host.Outcome State Fault Refusal := done (s.flashErase m)
/-- FLASH_OP_COMPLETE (R218): `ok` says whether the flash reports success. -/
def execFlashOpComplete (p : Nat) (ok : Bool) (s : State) : Host.Outcome State Fault Refusal := done (s.flashEnd p ok)
/-- FLASH_WIP_TIMEOUT (R218). -/
def execFlashWipTimeout (p : Nat) (s : State) : Host.Outcome State Fault Refusal := done (s.flashEnd p false)
/-- FUSE_BLOW (R482); loads that waited at check 5 go on when the last request ends. -/
def execFuseBlow (r : Blow) (s : State) : Host.Outcome State Fault Refusal := done (s.fuseBlow r).loadsResume
/-- SIGNERREVOKE (R481). -/
def execSignerrevoke (m : Nat) (s : State) : Host.Outcome State Fault Refusal := done (s.signerRevoke m)
/-- ARBADVANCE (R481). -/
def execArbadvance (m : Nat) (s : State) : Host.Outcome State Fault Refusal := done (s.arbAdvance m)
/-- QUOTE (R480). -/
def execQuote (m : Nat) (rng : Bool) (s : State) : Host.Outcome State Fault Refusal := done (s.quoteRequest m rng)

end Sys2Proof.Machine
end

