-- ==== Sys2Proof/Machine/Net.lean ====
section
/-! DEFINITION. Requests to a region and the fabric side of its adapter (spec/12, R289 to R292, Tables 12.8 to 12.10). -/

namespace Sys2Proof.Machine

/-- The RTAGs of the requests the adapter of region `g` has presented and not answered. -/
def State.rtagsOf (s : State) (g : Nat) : List Nat :=
  (s.noc.owed.filter (fun o => o.dest = regionEp g && decide (o.rtag < 64))).map (·.rtag)

/-- The packet of a request for the fabric (Table 12.9). -/
def requestBeats (q : Req) (rtag : Nat) : List (BitVec 256) :=
  let hdr : BitVec 256 := BitVec.ofNat 256 (q.addr % 0x1000000 + (q.len - 1) * 2 ^ 24 + q.op * 2 ^ 36 + rtag * 2 ^ 40
    + classOf q.ini * 2 ^ 48 + iniEp q.ini * 2 ^ 52)
  hdr :: (if q.op = 0 then [] else beatsOf 128 (q.data.take q.len))

/-- A request is presented to region `g`'s logic under a free RTAG; with none free it waits (RTAG 64). -/
def State.present (s : State) (g : Nat) (q : Req) : State :=
  match (List.range 64).find? (fun r => !(s.rtagsOf g).contains r) with
  | some r =>
    let a := s.adapter g
    let s := s.setAdapter g { a with req := a.req ++ [{ beats := requestBeats q r }] }
    { s with noc := { s.noc with owed := s.noc.owed ++ [{ dest := regionEp g, req := q, rtag := r }] } }
  | none => { s with noc := { s.noc with owed := s.noc.owed ++ [{ dest := regionEp g, req := q, rtag := 64 }] } }

/-- A request is delivered to region `g`'s adapter (TGTEN). -/
def State.toRegion (s : State) (g : Nat) (q : Req) : State :=
  if s.on (R.NOC_REGION_CFG.TGTEN g) then s.present g q else s.respond (regionEp g) q 0xA 0 []

/-- ADAPTER_RESPONSE_SEND (R292): the fabric answers the request with this RTAG; one not outstanding is dropped and
counted, in LATE when the port has been declared dead (R299). -/
def State.fabricAnswer (s : State) (g rtag status detail : Nat) (data : List Byte) : State :=
  match s.noc.owed.find? (fun o => o.dest = regionEp g && decide (o.rtag = rtag) && decide (rtag < 64)) with
  | none =>
    if s.portState (regionEp g) = portDEAD then s.bump (R.NOC_PORT_STATUS.LATE (regionEp g)) 1
    else s.bump (R.NOC_REGION_CFG.BADRSP g) 1
  | some o =>
    let s := { s with noc := { s.noc with owed := s.noc.owed.filter (fun x => !(x = o)) } }
    let s := if status = 0 then s.respond (regionEp g) o.req 0 0 (if o.req.op = 0 then padTo o.req.len data else [])
      else s.respond (regionEp g) o.req 5 (detail % 256) []
    match s.noc.owed.find? (fun x => x.dest = regionEp g && decide (x.rtag = 64)) with
    | some w => ({ s with noc := { s.noc with owed := s.noc.owed.filter (fun x => !(x = w)) } } : State).present g w.req
    | none => s

/-- The head packet of the active context's response queue. -/
def State.rspHead (s : State) (g : Nat) : Option FabPkt :=
  match s.activeCtx g with
  | some c => (s.adapter g).rsp.find? (fun p => p.ctx = some c)
  | none => none

/-- One beat leaves a packet: the list with the packet's remainder, or without it after its last beat. -/
def beatOff (l : List FabPkt) (p : FabPkt) : List FabPkt :=
  if p.beats.length ≤ 1 then l.erase p else l.map (fun x => if x = p then { x with beats := x.beats.drop 1, started := true } else x)

/-- RXTAKE (R289, R291): the fabric takes the beat presented, responses and requests in turn by packet; the last beat of a
response frees its units. In a halt the network stands (R17). -/
def State.rxTakeBeat (s : State) (g : Nat) : State :=
  if s.g R.NOC_STATUS.RUN = 0 then s
  else
  let a := s.adapter g
  let rsp := s.rspHead g
  let req := a.req.head?
  let useRsp : Bool := match rsp, req with
    | some p, some q => if p.started then true else if q.started then false else a.rspFirst
    | some _, none => true
    | _, _ => false
  match (if useRsp then rsp else req) with
  | none => s
  | some p =>
    let last := decide (p.beats.length ≤ 1)
    let s := s.setAdapter g { a with
      rsp := if useRsp then beatOff a.rsp p else a.rsp
      req := if useRsp then a.req else beatOff a.req p
      rspFirst := if last then !useRsp else a.rspFirst }
    let s := match useRsp && last, p.ctx with
      | true, some c => s.reserve g c (-(p.units : Int))
      | _, _ => s
    s.answerWith stOK (natBytes (p.beats.headD 0#256).toNat 32)

/-! ### The host's requests (R484, R490) -/

/-- Unsupported Request and Completer Abort, as a host read's completion shows them (R484). -/
def stUR : Nat := 0x101
def stCA : Nat := 0x104

/-- How a host read completes when a request of it has a status (R484). -/
def hostStatus (st : Nat) : Nat := if st = 0 then stOK else if st = 2 || st = 3 || st = 4 then stUR else stCA

/-- Does a request of a host path's work wait under a tag? -/
def waitsFor (tag : Nat) (l : List HostPart) : Bool := l.any (fun p => p.got.isNone && decide (p.tag = tag))

/-- What came for a tag, put in its place. -/
def fillPart (tag st : Nat) (data : List Byte) (l : List HostPart) : List HostPart :=
  l.map (fun p => if p.got.isNone && decide (p.tag = tag) then { p with got := some (st, data) } else p)

/-- The first status of a list of parts that is not OK, in order of address. -/
def partsStatus (l : List HostPart) : Nat :=
  ((l.filterMap (fun p => p.got.map (·.1))).find? (fun st => decide (st ≠ 0))).getD 0

/-- The bytes that the parts brought, in order of address. -/
def partsData (l : List HostPart) : List Byte := l.flatMap (fun p => ((p.got.map (·.2)).getD []))

/-- Host reads whose requests have all been answered are completed (R484). -/
def State.hostReads (s : State) : State :=
  let ready := s.usb.reads.filter (fun l => l.all (fun p => p.got.isSome))
  let s := { s with usb := { s.usb with reads := s.usb.reads.filter (fun l => !l.all (fun p => p.got.isSome)) } }
  ready.foldl (fun s l =>
    let st := hostStatus (partsStatus l)
    s.answerWith st (if st = stOK then partsData l else [])) s

/-- A posted write of the host that failed is counted (R484). -/
def State.writeFailed (s : State) : State := (s.bump R.USB_ERRCNT.WRERR 1).raise R.USB_EVENTS.WRERR

/-- What came for a tag of initiator 517: a part of a DMA descriptor, a part of a host read, or a posted write's error. -/
def State.hostPart (s : State) (tag st : Nat) (data : List Byte) : State :=
  match s.usb.dma.find? (fun e => waitsFor tag e.2.parts) with
  | some e => { s with usb := { s.usb with dma := s.usb.dma.upd e.1 (fun j => { j with parts := fillPart tag st data j.parts }) } }
  | none =>
    if s.usb.reads.any (waitsFor tag) then
      ({ s with usb := { s.usb with reads := s.usb.reads.map (fun l => if waitsFor tag l then fillPart tag st data l else l) } } : State)
    else if st = 0 then s else s.writeFailed

/-- What has arrived for the host path is taken in. -/
def State.hostAnswers (s : State) : State :=
  let mine := s.noc.arrived.filter (fun x => x.1 / 4096 = iniHost)
  let s := { s with noc := { s.noc with arrived := s.noc.arrived.filter (fun x => !(x.1 / 4096 = iniHost)) } }
  (mine.foldl (fun s x => s.hostPart (x.1 % 4096) x.2.1 x.2.2.2) s).hostReads

/-- ADAPTER_RESPONSE_SEND (R292). -/
def execAdapterResponseSend (g rtag status detail : Nat) (data : List Byte) (s : State) : Host.Outcome State Fault Refusal :=
  done (s.fabricAnswer g rtag status detail data)
/-- RXTAKE (R291). -/
def execRxtake (g : Nat) (s : State) : Host.Outcome State Fault Refusal := done (s.rxTakeBeat g)

end Sys2Proof.Machine
end

