-- ==== Sys2Proof/Machine/Lanes.lean ====
section
/-! DEFINITION. The serial lanes (spec/13): quads and their PLLs, bring-up, 8b/10b reception, adaptation, eye scan and the
stream data path. -/

namespace Sys2Proof.Machine

/-! ### 8b/10b (R307, R308): the published code, a code group's first received bit in bit 0 -/

/-- The six-bit groups for the low five bits, under negative running disparity. -/
def sixTable : List Nat := [57, 46, 45, 35, 43, 37, 38, 7, 39, 41, 42, 11, 44, 13, 14, 58, 54, 49, 50, 19, 52, 21, 22, 23, 51, 25,
  26, 27, 28, 29, 30, 53]
/-- The four-bit groups for the high three bits, under negative running disparity. -/
def fourTable : List Nat := [13, 9, 10, 3, 11, 5, 6, 7]
/-- The K characters and their code groups under negative running disparity; the other one is the complement. -/
def kTable : List (Nat × Nat) := [(28, 188), (60, 636), (92, 700), (124, 828), (156, 316), (188, 380), (220, 444), (252, 124),
  (247, 87), (251, 91), (253, 93), (254, 94)]

/-- The number of ones in the first `n` bits. -/
def onesIn (n v : Nat) : Nat := ((List.range n).filter (fun b => v.testBit b)).length

/-- The code group of a data character under a running disparity (`true` positive). -/
def encodeData (rd : Bool) (d : Nat) : Nat :=
  let x := d % 32
  let y := d / 32
  let six0 := sixTable.getD x 0
  let six := if rd && (onesIn 6 six0 ≠ 3 || x = 7) then 63 - six0 else six0
  let rd6 := if onesIn 6 six0 = 3 then rd else !rd
  let alt := y = 7 && (if rd6 then x = 11 || x = 13 || x = 14 else x = 17 || x = 18 || x = 20)
  let four0 := if alt then 14 else fourTable.getD y 0
  let four := if rd6 && (onesIn 4 four0 ≠ 2 || y = 3) then 15 - four0 else four0
  six + 64 * four

/-- The character of a code group under a running disparity: its byte and K flag. -/
def decodeGroup (rd : Bool) (code : Nat) : Option (Nat × Bool) :=
  match (List.range 256).find? (fun d => encodeData rd d = code) with
  | some d => some (d, false)
  | none => (kTable.find? (fun e => (if rd then 1023 - e.2 else e.2) = code)).map (fun e => (e.1, true))

/-- The running disparity after a code group. -/
def disparityAfter (rd : Bool) (code : Nat) : Bool := if onesIn 10 code = 5 then rd else decide (5 < onesIn 10 code)

/-- Is it K28.5, under either disparity and so under either polarity (R310)? -/
def isComma (code : Nat) : Bool := code = 380 || code = 643

/-! ### Lane state -/

def stOFF : Nat := 0
def stPLL : Nat := 1
def stCDR : Nat := 2
def stALIGN : Nat := 3
def stUP : Nat := 4
def stRETRAIN : Nat := 5

def State.laneOf (s : State) (n : Nat) : Lane := s.lanes.get n
def State.setLane (s : State) (n : Nat) (l : Lane) : State := { s with lanes := s.lanes.set n l }
def State.updLane (s : State) (n : Nat) (f : Lane → Lane) : State := s.setLane n (f (s.laneOf n))
def State.stage (s : State) (n : Nat) : Nat := s.g (R.LANE_LANE_STATUS.STAGE n)
def State.setStage (s : State) (n st : Nat) : State := s.put (R.LANE_LANE_STATUS.STAGE n) st
/-- The use of a lane, 5 to 7 as 0 (Table 13.2). -/
def State.laneUse (s : State) (n : Nat) : Nat := let u := s.g (R.LANE_LANE_CFG.USE n); if 5 ≤ u then 0 else u
/-- Is the lane in a stream use? -/
def State.isStream (s : State) (n : Nat) : Bool := decide (2 ≤ s.laneUse n)
/-- The power domain of quad `q`. -/
def quadDomain (q : Nat) : Nat := 11 + q
def State.laneErr (s : State) : State := s.raise R.LANE_EVENTS.CFGERR

/-- The block size and the number of blocks a ring word names. -/
def ringBlk (v : Word) : Nat := 256 * 2 ^ min 4 (v.toNat % 8)
def ringLen (v : Word) : Nat := 2 ^ min 10 (v.toNat / 256 % 16)
def ringRegion (v : Word) : Nat := v.toNat / 65536 % 512
/-- A ring's offset, its low bits ignored. -/
def ringBase (ring ofs : Word) : Nat := ofs.toNat % 0x1000000 / ringBlk ring * ringBlk ring
/-- Does a ring lie inside its region's window (R325)? -/
def ringFits (ring ofs : Word) : Bool := decide (ringBase ring ofs + ringLen ring * ringBlk ring ≤ 0x1000000)

/-- The bytes of an entry (Table 13.2). -/
def State.entryBytes (s : State) (n : Nat) : Nat := match s.laneUse n with
  | 2 => 2
  | 3 => 4
  | _ => 8

/-! ### Receive blocks (R325, R326) -/

/-- The block under assembly ends: it is numbered, and buffered for its post or dropped. -/
def State.blockEnd (s : State) (n : Nat) (loss fin : Bool) : State :=
  let l := s.laneOf n
  if l.entries.isEmpty then s
  else
    let w := s.entryBytes n
    let flags := loss.toNat + 2 * l.ovf.toNat + 4 * l.froze.toNat + 8 * s.g (R.LANE_LANE_STATUS.POLINV n) + 16 * fin.toNat
    let hdr := natBytes (l.time % 2 ^ 48) 6 ++ natBytes 0 2 ++ natBytes l.bseq 4 ++ natBytes l.entries.length 2 ++ natBytes flags 2
      ++ natBytes (min 65535 l.errs) 2 ++ natBytes 0 14
    let data := hdr ++ l.entries.reverse.flatMap (fun e => natBytes e w)
    let next := { l with entries := [], errs := 0, froze := false, bseq := (l.bseq + 1) % 2 ^ 32 }
    if 4 ≤ l.buf.length then
      ((s.setLane n { next with ovf := true }).bump (R.LANE_LANE_ERRCNT.RXOVF n) 1).raise R.LANE_EVENTS.RXOVF
    else s.setLane n { next with ovf := false, buf := l.buf ++ [(l.bseq, data)] }

/-- An entry joins the block under assembly; a full block ends. -/
def State.pushEntry (s : State) (n e : Nat) (err : Bool) : State :=
  let l := s.laneOf n
  let frozen := decide (s.g (R.LANE_LANE_STATUS.ADAPTST n) = 1)
  let l := { l with entries := e :: l.entries, time := if l.entries.isEmpty then s.time250 0 else l.time
                    errs := l.errs + err.toNat, froze := l.froze || frozen }
  let s := s.setLane n l
  if (ringBlk (s.rw (R.LANE_LANE_RXRING.reg n)) - 32) / s.entryBytes n ≤ l.entries.length then s.blockEnd n false false else s

/-! ### Adaptation (R316, R317, R320) -/

/-- The equaliser adapts: the values in use become what the receiver finds, which the spec leaves open (free values). -/
def State.eqAdapt (s : State) (n : Nat) : State :=
  if s.on (R.LANE_LANE_ADAPT.MODE n) then s
  else
    let r := s.free
    ((r.2.put (R.LANE_LANE_EQ0.CTLE n) (r.1.toNat % 16)).put (R.LANE_LANE_EQ0.TAP1 n) (r.1.toNat / 16 % 256)).wr
      (R.LANE_LANE_EQ1.reg n) ((r.1 >>> 32).setWidth 32)

/-- An idle or a busy symbol or word (R316, R317); `adapts` for one of a received ADAPT set, which is neither (R334). -/
def State.idleStep (s : State) (n : Nat) (idle adapts : Bool) : State :=
  if s.on (R.LANE_LANE_ADAPT.MODE n) then s
  else if adapts then s.eqAdapt n
  else if idle then
    let l := s.laneOf n
    let thr := if s.laneUse n = 1 then 4096 else s.g (R.LANE_LANE_ADAPT.FRZTHR n)
    let s := s.setLane n { l with idle := l.idle + 1 }
    if thr ≠ 0 && decide (thr ≤ l.idle + 1) then s.put (R.LANE_LANE_STATUS.ADAPTST n) 1 else s.eqAdapt n
  else ((s.updLane n (fun l => { l with idle := 0 })).put (R.LANE_LANE_STATUS.ADAPTST n) 0).eqAdapt n

/-! ### Bring-up and loss -/

/-- A scan in progress ends early (R321). -/
def State.scanAbort (s : State) (n : Nat) : State :=
  if s.on (R.LANE_LANE_ESCAN.START n) then
    (((s.putB (R.LANE_LANE_ESCAN.START n) false).raise (R.LANE_LANE_STATUS.EDONE n)).raise (R.LANE_LANE_STATUS.EABORT n)).raise R.LANE_EVENTS.ESCANDONE
  else s

/-- A lane enters UP (R309, R325, R327). -/
def State.laneUp (s : State) (n : Nat) (inv : Bool) : State :=
  let s := (s.setStage n stUP).putB (R.LANE_LANE_STATUS.POLINV n) inv
  s.updLane n (fun l => { l with
    bseq := 0, txk := 0, txq := [], winN := 0, winE := 0, stray := 0, entries := [], errs := 0, froze := false
    last := [], gap := 0, slip := 0, idled := false, sofs := [] })

/-- A lane leaves what it had of its signal. -/
def State.laneForget (s : State) (n : Nat) : State :=
  let s := s.scanAbort n
  { s with
    lanes := s.lanes.set n { s.laneOf n with
      bound := none, keep := 0, flip := 0, stray := 0, since := 0, winN := 0, winE := 0, idle := 0, adapt := 0, txq := [], seen := 0
      heard := false, far := 0, last := [], gap := 0, slip := 0, idled := false, sofs := [] }
    noc := { s.noc with issued := s.noc.issued.map (fun i => if i.ini = iniVasum && decide (i.tag / 4 = n) then { i with stale := true } else i) } }

/-- Loss of lock (R315): counted and flagged, a stream lane's partial block posted with LOSS, and the lane retrains. -/
def State.loseLock (s : State) (n : Nat) : State :=
  if s.stage n = stUP then
    let s := ((s.bump (R.LANE_LANE_STATUS.LOLCNT n) 1).raise R.LANE_EVENTS.LOL)
    let s := if s.isStream n then s.blockEnd n true false else s
    (s.laneForget n).setStage n stRETRAIN
  else s

/-- The stage of a lane that starts: it waits for the quad PLL, or for its signal when the PLL is locked. -/
def State.laneStart (s : State) (n : Nat) : State :=
  if s.laneUse n = 0 || !s.pdOn (quadDomain (n / 4)) then s
  else
    let s := s.put (R.LANE_LANE_STATUS.ADAPTST n) (if s.on (R.LANE_LANE_ADAPT.MODE n) then 2 else 0)
    s.setStage n (if s.on (R.LANE_QUAD_STATUS.PLLLOCK (n / 4)) then stCDR else stPLL)

/-- The lane reaches OFF (R313), and starts again if EN = 1 waits. -/
def State.laneOff (s : State) (n : Nat) : State :=
  let s := if s.isStream n && decide (s.stage n = stUP) then s.blockEnd n false true else s
  let again := (s.laneOf n).again
  let s := ((s.laneForget n).setStage n stOFF).putB (R.LANE_LANE_STATUS.BUSY n) false
  let s := s.updLane n (fun l => { l with stopping := false, again := false, rd := false })
  if again then s.laneStart n else s

/-- EN = 1 written (R313, R307, R325): refused, started, or queued behind a disable. -/
def State.laneEnable (s : State) (n : Nat) : State :=
  let rx := s.rw (R.LANE_LANE_RXRING.reg n)
  let tx := s.rw (R.LANE_LANE_TXRING.reg n)
  if s.isStream n && !(ringFits rx (s.rw (R.LANE_LANE_RXOFS.reg n)) && ringFits tx (s.rw (R.LANE_LANE_TXOFS.reg n))) then s.laneErr
  else
    let s := s.putB (R.LANE_LANE_CTL.EN n) true
    if (s.laneOf n).stopping then (s.updLane n (fun l => { l with again := true })).putB (R.LANE_LANE_STATUS.BUSY n) true
    else if s.stage n = stOFF then s.laneStart n
    else s

/-- EN = 0 written (R313): the transmitter finishes the block in progress, then the lane goes to OFF. -/
def State.laneDisable (s : State) (n : Nat) : State :=
  let s := s.putB (R.LANE_LANE_CTL.EN n) false
  let l := s.laneOf n
  if l.stopping then s.setLane n { l with again := false }
  else if s.stage n = stOFF then s
  else if s.isStream n && (match l.txq with
      | b :: _ => b.got.isNone
      | [] => false) then
    (s.setLane n { l with stopping := true }).putB (R.LANE_LANE_STATUS.BUSY n) true
  else s.laneOff n

/-- F of quad `q` in units of 10 kHz (R305). -/
def State.pllF (s : State) (q : Nat) : Nat := (if s.bit R.LANE_REFCFG.FREQ (q / 2) then 15625 else 10000) * s.g (R.LANE_QUAD_CFG.N q)
/-- Is the PLL setting one the device starts (R305, R306)? -/
def State.pllOk (s : State) (q : Nat) : Bool :=
  decide (500000 ≤ s.pllF q) && decide (s.pllF q ≤ 1250000) && decide (32 ≤ s.g (R.LANE_QUAD_CFG.N q)) && decide (s.g (R.LANE_QUAD_CFG.N q) ≤ 128)

/-- A quad's PLL fails (R306). -/
def State.pllFail (s : State) (q : Nat) : State :=
  (((s.putB (R.LANE_QUAD_STATUS.PLLLOCK q) false).clrBit R.LANE_STATUS.PLLLOCK q).raise (R.LANE_QUAD_STATUS.PLLERR q)).raise R.LANE_EVENTS.PLLERR

/-- The PLL of quad `q` starts: at its domain's ON, or for a new N (R306). -/
def State.pllStart (s : State) (q : Nat) : State :=
  if s.pllOk q then ((s.putB (R.LANE_QUAD_STATUS.PLLLOCK q) false).clrBit R.LANE_STATUS.PLLLOCK q).putB (R.LANE_QUAD_STATUS.PLLERR q) false
  else s.pllFail q

/-- The PLL of quad `q` locks and its lanes go on to CDR (R306, Table 13.3). -/
def State.pllLock (s : State) (q : Nat) : State :=
  if !s.pdOn (quadDomain q) then s
  else if !s.pllOk q then s.pllFail q
  else
    let s := (((s.putB (R.LANE_QUAD_STATUS.PLLLOCK q) true).setBit R.LANE_STATUS.PLLLOCK q).putB (R.LANE_QUAD_STATUS.PLLERR q) false).setBit R.LANE_STATUS.REFOK (q / 2)
    s.each ((List.range 4).map (fun k => 4 * q + k)) (fun s n => if s.stage n = stPLL then s.setStage n stCDR else s)

/-- Signal detect and CDR lock (R309). -/
def State.cdrLock (s : State) (n : Nat) : State :=
  if s.stage n = stCDR || s.stage n = stRETRAIN then
    let s := s.eqAdapt n
    if s.laneUse n ≤ 2 then s.setStage n stALIGN else s.laneUp n (s.on (R.LANE_LANE_CFG.RXINV n))
  else s

/-- Lanes in RETRAIN are in CDR from the next cycle on (Table 13.3). -/
def State.lanesTick (s : State) : State :=
  s.each (s.lanes.map (·.1)) (fun s n => if s.stage n = stRETRAIN then s.setStage n stCDR else s)

/-! ### Reception -/

/-- The codes of D21.5 and D10.2 (R335). -/
def codeD21_5 : Nat := encodeData false 0xB5
def codeD10_2 : Nat := encodeData false 0x4A

/-- What a character says of the polarity at its place after a comma (R311, R335): keep, invert, restart, or nothing. -/
def State.polVote (s : State) (n since code : Nat) : Option (Option Bool) :=
  if s.laneUse n = 1 then
    if since ≠ 1 then none
    else if code = codeD21_5 then some (some false)
    else if code = codeD10_2 then some (some true)
    else none
  else
    let pos := max 1 (s.g (R.LANE_LANE_CFG.POLPOS n))
    let c := s.g (R.LANE_LANE_CFG.POLCHAR n)
    if since ≠ pos then none
    else if code = encodeData false c || code = encodeData true c then some (some false)
    else if 1023 - code = encodeData false c || 1023 - code = encodeData true c then some (some true)
    else some none

/-- A Vasum lane in ALIGN with its polarity decided enters UP once it has 8 valid ALIGN sets with SEEN = 1 (R336). -/
def State.vsmLaneUp (s : State) (n : Nat) : State :=
  let l := s.laneOf n
  if s.stage n = stALIGN && decide (8 ≤ l.seen) && (decide (8 ≤ l.keep) || decide (8 ≤ l.flip)) then
    (s.laneUp n (decide (8 ≤ l.flip))).put (R.LANE_LANE_STATUS.LPOS n) (l.far % 4)
  else s

/-- Does a code group count as idle on a lane in ALIGN, whose polarity is not decided yet (R316, R334)? -/
def State.alignIdle (s : State) (n since code : Nat) : Bool :=
  if s.laneUse n = 1 then isComma code || (decide (1 ≤ since) && decide (since ≤ 3) && (decide (code = codeD21_5) || decide (code = codeD10_2)))
  else kTable.any (fun e => decide (e.2 = code) || decide (1023 - e.2 = code))

/-- A code group at boundary `b` on a lane in ALIGN (R310, R311). -/
def State.alignStep (s : State) (n code b : Nat) : State :=
  let s := if (s.laneOf n).bound = some b || ((s.laneOf n).bound.isNone && isComma code) then s.idleStep n (s.alignIdle n ((s.laneOf n).since + 1) code) false else s
  let l := s.laneOf n
  let auto := decide (s.laneUse n = 1) || s.on (R.LANE_LANE_CFG.RXPOLAUTO n)
  let first := l.bound.isNone
  if first && !isComma code then s
  else if !first && decide (l.bound ≠ some b) then s
  else
    let rd := disparityAfter l.rd code
    let l := { l with bound := some b, rd := rd }
    if isComma code then
      let s := s.setLane n { l with since := 0 }
      if auto then s else s.laneUp n (s.on (R.LANE_LANE_CFG.RXINV n))
    else
      let since := l.since + 1
      let l := { l with since := since }
      match s.polVote n since code with
      | none => s.setLane n l
      | some none => s.setLane n { l with keep := 0, flip := 0 }
      | some (some inv) =>
        let keep := if inv then 0 else l.keep + 1
        let flip := if inv then l.flip + 1 else 0
        let s := s.setLane n { l with keep := min 8 keep, flip := min 8 flip }
        if s.laneUse n = 1 then (s.putB (R.LANE_LANE_STATUS.POLINV n) (decide (8 ≤ flip))).vsmLaneUp n
        else if 8 ≤ keep || 8 ≤ flip then s.laneUp n inv
        else s

/-- The lanes that a bundle setting joins from `p` on, none where `p` is not the first of them (R322). -/
def State.joined (s : State) (p : Nat) : List Nat :=
  match s.g (R.LANE_QUAD_CFG.BUNDLE (p / 4)) with
  | 1 => if p % 2 = 0 then [p, p + 1] else []
  | 2 => if p % 4 = 0 then [p, p + 1, p + 2, p + 3] else []
  | _ => [p]

/-- The lanes of Vasum port `p`, every one in USE 1 (R331); none where `p` is no port. -/
def State.portLanes (s : State) (p : Nat) : List Nat :=
  let l := s.joined p
  if l.all (fun n => decide (s.laneUse n = 1)) then l else []

/-- The receiver of a Vasum lane passes an IDLE set on (R337): where the ends' rates may have drifted by a set, 4 characters in
13,333 at 300 ppm, it may remove the set or add one, as the drift, which the spec leaves open, has it (a free value). -/
def State.elastic (s : State) (n : Nat) : State :=
  let l := s.laneOf n
  if l.slip < 13333 then s.setLane n { l with gap := l.gap + 1 }
  else
    let r := s.free
    let k := r.1.toNat % 3
    r.2.setLane n { l with gap := l.gap + k, slip := if k = 1 then l.slip else 0 }

/-- The lanes of `n`'s bundle whose SOFs are matched with each other (R323, R338): those UP, at the lowest logical positions. -/
def State.deskewed (s : State) (n : Nat) : List Nat :=
  match (List.range 48).find? (fun p => (s.portLanes p).contains n) with
  | none => []
  | some p =>
    (s.portLanes p).filter (fun m => s.stage m = stUP && decide (s.g (R.LANE_LANE_STATUS.LPOS m) < s.g (R.VSM_PORT_STATUS.WIDTH p)))

/-- The SOF of a frame reaches lane `n` (R338): more than 32 characters after the same frame's SOF on another lane of the bundle it
forces the lane to retrain; SOFs there on every lane are matched. -/
def State.sofArrives (s : State) (n : Nat) : State :=
  let l := s.laneOf n
  let i := l.sofs.length
  let mates := s.deskewed n
  let s := s.setLane n { l with sofs := if mates.contains n then l.sofs ++ [0] else [], gap := 0 }
  if !mates.contains n then s
  else if mates.any (fun m => decide (32 < (s.laneOf m).sofs.getD i 0)) then s.loseLock n
  else
    let k := mates.foldl (fun k m => min k (s.laneOf m).sofs.length) (i + 1)
    s.each mates (fun s m => s.updLane m (fun l => { l with sofs := l.sofs.drop k }))

/-- A character of a Vasum lane in UP, `v` as `Lane.last` counts it: its frames and IDLE sets (R337, R338, Table 14.1). -/
def State.vsmChar (s : State) (n v : Nat) : State :=
  let l := s.laneOf n
  let last := (v :: l.last).take 4
  let s := s.setLane n { l with last := last, slip := min 13333 (l.slip + 1), sofs := l.sofs.map (· + 1) }
  if v = 0x1FB && decide (l.last.head? ≠ some 0x1FB) then s.sofArrives n
  else if last = [0xB5, 0xB5, 0xB5, 0x1BC] then (s.updLane n (fun l => { l with idled := true })).elastic n
  else s

/-- A code group at boundary `b` on an 8b/10b lane in UP (R308, R315, R316, R334). -/
def State.codeStep (s : State) (n code b : Nat) : State :=
  let l := s.laneOf n
  if l.bound ≠ some b then
    if isComma code then
      let s := s.setLane n { l with stray := l.stray + 1 }
      if 4 ≤ l.stray + 1 then s.loseLock n else s
    else s
  else
    let code := if s.on (R.LANE_LANE_STATUS.POLINV n) then 1023 - code else code
    let good := decodeGroup l.rd code
    let err := good.isNone
    let r := s.free
    let s := if err then r.2 else s
    let ch : Nat × Bool := match good, decodeGroup (!l.rd) code with
      | some c, _ => c
      | none, some c => c
      | none, none => (r.1.toNat % 256, r.1.getLsbD 8)
    let isK (v : Nat) : Bool := ch.2 && decide (ch.1 = v)
    let since := if isK 0xBC then 0 else l.since + 1
    let adapt := if isK 0x1C then 127 else l.adapt - 1
    let inAdapt := isK 0x1C || decide (0 < l.adapt)
    let idle := if s.laneUse n = 2 then ch.2
      else isK 0xBC || (!ch.2 && decide (ch.1 = 0xB5) && decide (1 ≤ since) && decide (since ≤ 3))
    let winE := l.winE + err.toNat
    let full := decide (1024 ≤ l.winN + 1)
    let s := s.setLane n { l with
      rd := disparityAfter l.rd code, since := min since 255, adapt := adapt, stray := if isK 0xBC then 0 else l.stray
      winN := if full then 0 else l.winN + 1, winE := if full then 0 else winE }
    let s := if err then s.bump (R.LANE_LANE_ERRCNT.CODEERR n) 1 else s
    let s := s.idleStep n idle (decide (s.laneUse n = 1) && inAdapt)
    let s := if s.laneUse n = 2 then s.pushEntry n (ch.1 + 256 * ch.2.toNat + 512 * err.toNat) err
      else s.vsmChar n (ch.1 + 256 * ch.2.toNat)
    if 16 ≤ winE then s.loseLock n else s

/-- A raw word (Table 13.2, R311, R316). -/
def State.rawStep (s : State) (n word : Nat) : State :=
  let w := if s.laneUse n = 3 then 20 else 40
  let v := word % 2 ^ w
  let v := if s.on (R.LANE_LANE_CFG.RXINV n) then 2 ^ w - 1 - v else v
  let idle := (s.g (R.LANE_LANE_IDLE_LO.IDLE n) + 2 ^ 32 * s.g (R.LANE_LANE_IDLE_HI.IDLE n)) % 2 ^ w
  (s.idleStep n (decide (v = idle)) false).pushEntry n v false

/-- LANE_SYMBOL_RECEIVE (R308): a code group at a symbol boundary, or a raw word. -/
def State.symbol (s : State) (n code b : Nat) : State :=
  if s.laneUse n = 0 then s
  else if s.laneUse n ≤ 2 then
    if s.stage n = stALIGN then s.alignStep n (code % 1024) b
    else if s.stage n = stUP then s.codeStep n (code % 1024) b
    else s
  else if s.stage n = stUP then s.rawStep n code
  else s

/-! ### Ordered sets of a Vasum lane -/

/-- One step of the PRBS-7 generator x^7 + x^6 + 1 (R333). -/
def prbsStep (r : Nat) : Nat := r % 64 * 2 + ((r / 64 % 2) ^^^ (r / 32 % 2))
/-- The generator after `k` steps from all ones. -/
def prbsAt : Nat → Nat
  | 0 => 127
  | k + 1 => prbsStep (prbsAt k)
/-- The characters of an ADAPT set: K28.0, then bytes 0 to 126 of the sequence, first bit in bit 0 (R333). -/
def adaptSet : List Byte :=
  0x1C#8 :: (List.range 127).map (fun i => BitVec.ofNat 8 (((List.range 8).map (fun b => (prbsAt (8 * i + b) / 64 % 2) * 2 ^ b)).sum))

/-! ### Transmit blocks (R327) -/

/-- The fill of a lane as the bytes of a whole block. -/
def State.fillBlock (s : State) (n len : Nat) : List Byte :=
  let f0 := s.g (R.LANE_LANE_FILL0.FILL n)
  let k := s.g (R.LANE_LANE_FILL1.K n)
  let flen := s.g (R.LANE_LANE_FILL1.LEN n)
  let flen := if 1 ≤ flen ∧ flen ≤ 4 then flen else 4
  let unit : List Byte := match s.laneUse n with
    | 2 => (List.range flen).flatMap (fun c => natBytes (f0 / 256 ^ c % 256 + 256 * (k / 2 ^ c % 2)) 2)
    | 3 => natBytes (f0 % 2 ^ 20) 4
    | _ => natBytes (f0 + k * 2 ^ 32) 8
  ((List.replicate (len / unit.length + 1) unit).flatten).take len

/-- The encoder of a transmitter in USE 2 (R308): the code groups of 16-bit entries in order, from a running disparity; bit 9 of an
entry is ignored, and a K character outside the code's table gives the group `bad`. -/
def encodeEntries (bad : Nat) (rd : Bool) (l : List Byte) : Bool × List Nat :=
  let entry (k : Nat) : Nat := bytesNat ((l.drop (2 * k)).take 2)
  let code (rd : Bool) (e : Nat) : Nat :=
    if e.testBit 8 then ((kTable.find? (fun x => x.1 = e % 256)).map (fun x => if rd then 1023 - x.2 else x.2)).getD bad
    else encodeData rd (e % 256)
  let r := (List.range (l.length / 2)).foldl (fun (x : Bool × List Nat) k =>
    let c := code x.1 (entry k)
    (disparityAfter x.1 c, c :: x.2)) (rd, [])
  (r.1, r.2.reverse)

/-- Bytes of a block go out of a stream lane (R307, R308): encoded in USE 2, as words in a raw use, inverted with TXINV. -/
def State.laneSend (s : State) (n : Nat) (bytes : List Byte) : State :=
  let w := if s.laneUse n = 2 then 10 else if s.laneUse n = 3 then 20 else 40
  let size := s.entryBytes n
  let words := (List.range (bytes.length / size)).map (fun k => bytesNat ((bytes.drop (size * k)).take size) % 2 ^ w)
  let odd := decide (s.laneUse n = 2) && (List.range (bytes.length / 2)).any (fun k =>
    let e := bytesNat ((bytes.drop (2 * k)).take 2)
    e.testBit 8 && (kTable.find? (fun x => x.1 = e % 256)).isNone)
  let r := s.free
  let s := if odd then r.2 else s
  let c := if s.laneUse n = 2 then encodeEntries (r.1.toNat % 1024) (s.laneOf n).txRd bytes else ((s.laneOf n).txRd, words)
  let out := if s.on (R.LANE_LANE_CFG.TXINV n) then c.2.map (fun v => 2 ^ w - 1 - v) else c.2
  s.updLane n (fun l => { l with out := bytes, txRd := c.1, pins := out })

/-- The blocks at the head that have been read whole, or failed, are sent: the last one's bytes stand at the output. -/
def State.txDrain (s : State) (n : Nat) : State :=
  let l := s.laneOf n
  let sent := l.txq.takeWhile (fun b => b.got.isSome)
  if sent.isEmpty then s
  else
    let blk := ringBlk (s.rw (R.LANE_LANE_TXRING.reg n))
    let bytes (b : TxBlk) : List Byte :=
      match b.got with
      | some (some d) => d
      | _ => s.fillBlock n blk
    let s := sent.foldl (fun s b => s.laneSend n (bytes b)) (s.setLane n { l with txq := l.txq.drop sent.length })
    if l.stopping then s.laneOff n else s

/-- TX_BLOCK_READ (R327): the next block of the ring is asked of the region, four reads outstanding at most. -/
def State.txRead (s : State) (n : Nat) : State :=
  let s := s.txDrain n
  let l := s.laneOf n
  let tag := 4 * n + l.txk % 4
  if s.stage n = stUP && s.isStream n && !l.stopping && decide (l.txq.length < 4) && (s.issuedOf iniVasum tag).isNone then
    let ring := s.rw (R.LANE_LANE_TXRING.reg n)
    let g := ringRegion ring
    let ofs := ringBase ring (s.rw (R.LANE_LANE_TXOFS.reg n)) + l.txk % ringLen ring * ringBlk ring
    let q : Req := { ini := iniVasum, op := 0, addr := 0x6000000000 + g * 0x1000000 + ofs, len := ringBlk ring, tag := tag }
    (s.setLane n { l with txq := l.txq ++ [{ tag := tag }], txk := l.txk + 1 }).request q 0
  else s

/-- The answer to a lane's read will be discarded. -/
def State.staleTag (s : State) (tag : Nat) : State :=
  { s with noc := { s.noc with issued := s.noc.issued.map (fun i => if i.ini = iniVasum && decide (i.tag = tag) then { i with stale := true } else i) } }

/-- TX_UNDERRUN (R327): the block now due has not been read in time: fill is sent in its place and its answer discarded. -/
def State.txUnderrun (s : State) (n : Nat) : State :=
  let s := s.txDrain n
  let l := s.laneOf n
  match l.txq with
  | b :: rest =>
    let s := (s.setLane n { l with txq := rest }).laneSend n (s.fillBlock n (ringBlk (s.rw (R.LANE_LANE_TXRING.reg n))))
    let s := s.staleTag b.tag
    let s := (s.bump (R.LANE_LANE_ERRCNT.TXUNDER n) 1).raise R.LANE_EVENTS.TXUNDER
    if l.stopping then s.laneOff n else s
  | [] =>
    -- the block now due has not even been asked for
    if s.stage n = stUP && s.isStream n then
      let s := (s.setLane n { l with txk := l.txk + 1 }).laneSend n (s.fillBlock n (ringBlk (s.rw (R.LANE_LANE_TXRING.reg n))))
      (s.bump (R.LANE_LANE_ERRCNT.TXUNDER n) 1).raise R.LANE_EVENTS.TXUNDER
    else s

/-- RX_BLOCK_POST (R325): the oldest buffered block is posted to its place in the region's ring. -/
def State.rxPost (s : State) (n : Nat) : State :=
  let l := s.laneOf n
  match l.buf, (List.range 4).find? (fun j => (s.issuedOf iniVasum (192 + 4 * n + j)).isNone) with
  | (seq, data) :: rest, some j =>
    let ring := s.rw (R.LANE_LANE_RXRING.reg n)
    let g := ringRegion ring
    let ofs := ringBase ring (s.rw (R.LANE_LANE_RXOFS.reg n)) + seq % ringLen ring * ringBlk ring
    let q : Req := { ini := iniVasum, op := 2, addr := 0x6000000000 + g * 0x1000000 + ofs, len := data.length, tag := 192 + 4 * n + j, data := data }
    (s.setLane n { l with buf := rest }).request q 0
  | _, _ => s

/-! ### Register writes with rules of their own (R306, R307, R320, R322, R330) -/

/-- The lanes of a bundle setting. -/
def bundleLanes (q v : Nat) : List Nat := if v = 1 || v = 2 then (List.range 4).map (fun k => 4 * q + k) else []

/-- A write to LANE_QUADq_CFG: N only while every lane is OFF, BUNDLE only over lanes in USE 1. -/
def State.quadCfgWrite (s : State) (q : Nat) (v : Word) : State :=
  let n := (R.LANE_QUAD_CFG.N q).of v
  let b := (R.LANE_QUAD_CFG.BUNDLE q).of v
  let off := (List.range 4).all (fun k => s.stage (4 * q + k) = stOFF)
  let s := if n = s.g (R.LANE_QUAD_CFG.N q) then s
    else if off then
      let s := s.put (R.LANE_QUAD_CFG.N q) n
      if s.pdOn (quadDomain q) then s.pllStart q else s
    else s.laneErr
  if (bundleLanes q b).all (fun k => s.laneUse k = 1) then s.put (R.LANE_QUAD_CFG.BUNDLE q) b else s.laneErr

/-- A write to a register that only an OFF lane takes (R330); a USE of 5 to 7 sets CFGERR (Table 13.2). -/
def State.laneRegWrite (s : State) (n a : Nat) (v mask : Word) : State :=
  if s.stage n = stOFF then
    let s := s.wr a (v &&& mask)
    if a = R.LANE_LANE_CFG.reg n && decide (5 ≤ v.toNat % 8) then s.laneErr else s
  else s.laneErr

/-- A write to EQ0 or EQ1: ignored in MODE 0 (R320). -/
def State.eqWrite (s : State) (n a : Nat) (v mask : Word) : State := if s.on (R.LANE_LANE_ADAPT.MODE n) then s.wr a (v &&& mask) else s

/-- A write to ESCAN (R8, R321): the point's fields, and a START on a lane in UP with no scan running; a scan that runs goes on at
the point it was started with. -/
def State.scanWrite (s : State) (n : Nat) (v : Word) : State :=
  if s.on (R.LANE_LANE_ESCAN.START n) then s.wr (R.LANE_LANE_ESCAN.reg n) ((v &&& 0x1FFF003F#32) ||| 0x80000000#32)
  else
    let start := v.getLsbD 31 && decide (s.stage n = stUP)
    let s := s.wr (R.LANE_LANE_ESCAN.reg n) ((v &&& 0x1FFF003F#32) ||| (if start then 0x80000000#32 else 0#32))
    if start then (s.wr (R.LANE_LANE_ESCNT.reg n) 0#32).putB (R.LANE_LANE_STATUS.EABORT n) false else s

/-- The scan ends (R321). -/
def State.scanEnd (s : State) (n count : Nat) : State :=
  if s.on (R.LANE_LANE_ESCAN.START n) then
    let s := (s.putB (R.LANE_LANE_ESCAN.START n) false).wr (R.LANE_LANE_ESCNT.reg n) (BitVec.ofNat 32 (min count 0xFFFFFFFF))
    ((s.raise (R.LANE_LANE_STATUS.EDONE n)).putB (R.LANE_LANE_STATUS.EABORT n) false).raise R.LANE_EVENTS.ESCANDONE
  else s

/-! ### Commands -/

/-- LANE_ENABLE (R313). -/
def execLaneEnable (n : Nat) (s : State) : Host.Outcome State Fault Refusal := done (s.laneEnable n)
/-- LANE_DISABLE (R313). -/
def execLaneDisable (n : Nat) (s : State) : Host.Outcome State Fault Refusal := done (s.laneDisable n)
/-- PLL_LOCK (R306). -/
def execPllLock (q : Nat) (s : State) : Host.Outcome State Fault Refusal := done (s.pllLock q)
/-- PLL_LOCK_TIMEOUT (R306). -/
def execPllLockTimeout (q : Nat) (s : State) : Host.Outcome State Fault Refusal :=
  done (if s.pdOn (quadDomain q) && !s.on (R.LANE_QUAD_STATUS.PLLLOCK q) then s.pllFail q else s)
/-- CDR_LOCK (R309). -/
def execCdrLock (n : Nat) (s : State) : Host.Outcome State Fault Refusal := done (s.cdrLock n)
/-- LOSS_OF_LOCK (R315). -/
def execLossOfLock (n : Nat) (s : State) : Host.Outcome State Fault Refusal := done (s.loseLock n)
/-- LANE_RETRAIN (R315). -/
def execLaneRetrain (n : Nat) (s : State) : Host.Outcome State Fault Refusal := done (s.loseLock n)
/-- ADAPT_SET_SEND (R318). -/
def execAdaptSetSend (n : Nat) (s : State) : Host.Outcome State Fault Refusal :=
  done (if s.laneUse n = 1 && (s.stage n = stUP || s.stage n = stALIGN) then s.updLane n (fun l => { l with out := adaptSet }) else s)
/-- ESCAN_START (R321). -/
def execEscanStart (n : Nat) (v : Word) (s : State) : Host.Outcome State Fault Refusal := done (s.scanWrite n (v ||| 0x80000000#32))
/-- ESCAN_END (R321). -/
def execEscanEnd (n count : Nat) (s : State) : Host.Outcome State Fault Refusal := done (s.scanEnd n count)
/-- RX_BLOCK_POST (R325). -/
def execRxBlockPost (n : Nat) (s : State) : Host.Outcome State Fault Refusal := done (s.rxPost n)
/-- TX_BLOCK_READ (R327). -/
def execTxBlockRead (n : Nat) (s : State) : Host.Outcome State Fault Refusal := done (s.txRead n)
/-- TX_UNDERRUN (R327). -/
def execTxUnderrun (n : Nat) (s : State) : Host.Outcome State Fault Refusal := done (s.txUnderrun n)

end Sys2Proof.Machine
end

