-- ==== Sys2Proof/Machine/Vasum.lean ====
section
/-! DEFINITION. The Vasum link (spec/14): ports, frames, replay, forwarding, plant time, angle channels, switch commands,
tunnelling and item reports. A frame that a command makes waits at its port's transmitter, which sends at the command's end, in
the order of R352, what the replay buffer has room for. -/

namespace Sys2Proof.Machine

/-! ### Ports (R331, R332, R336) -/

def vsDOWN : Nat := 0
def vsALIGNING : Nat := 1
def vsUP : Nat := 2

def State.vport (s : State) (p : Nat) : VPort := s.vsm.ports.get p
def State.setVport (s : State) (p : Nat) (x : VPort) : State := { s with vsm := { s.vsm with ports := s.vsm.ports.set p x } }
def State.updVport (s : State) (p : Nat) (f : VPort → VPort) : State := s.setVport p (f (s.vport p))
def State.setVsm (s : State) (f : Vsm → Vsm) : State := { s with vsm := f s.vsm }
def State.vstate (s : State) (p : Nat) : Nat := s.g (R.VSM_PORT_STATUS.STATE p)
def State.isUp (s : State) (p : Nat) : Bool := decide (s.vstate p = vsUP)
def State.isTwinPort (s : State) (p : Nat) : Bool := decide (s.g (R.VSM_PORT_CFG.ROLE p) = 1)
def State.node (s : State) : Nat := s.g R.VSM_NODE.NODE

/-- The ports of the device. -/
def State.vports (s : State) : List Nat := (List.range 48).filter (fun p => s.on (R.VSM_PORT_CFG.EN p) && !(s.portLanes p).isEmpty)

/-- The largest power of two not greater than `n`, of lanes up to 4 (R323). -/
def pow2Floor (n : Nat) : Nat := if 4 ≤ n then 4 else if 2 ≤ n then 2 else n

/-- A port takes a state: LINKCHG tells (VSM_EVENTS). -/
def State.setVstate (s : State) (p st : Nat) : State :=
  if s.vstate p = st then s else (s.put (R.VSM_PORT_STATUS.STATE p) st).raise R.VSM_EVENTS.LINKCHG

/-- The width shown of a port, at the port and at its quad when it is a bundle (R323). -/
def State.setWidth (s : State) (p w : Nat) : State :=
  let s := s.put (R.VSM_PORT_STATUS.WIDTH p) w
  if 1 < (s.portLanes p).length then
    if p % 4 = 2 then s.put (R.LANE_QUAD_STATUS.WIDTH1 (p / 4)) w else s.put (R.LANE_QUAD_STATUS.WIDTH0 (p / 4)) w
  else s

/-- The lanes of a port that are UP. -/
def State.lanesUp (s : State) (p : Nat) : Nat := ((s.portLanes p).filter (fun n => s.stage n = stUP)).length

/-- Do the far end's ALIGN sets agree with a port's own width and role, and has an IDLE or an ACK come since (R336)? -/
def State.farMatches (s : State) (p : Nat) : Bool :=
  (s.portLanes p).any (fun n =>
    let l := s.laneOf n
    s.stage n = stUP && decide (2 ^ (l.far / 4 % 4) = (s.portLanes p).length) && (decide (l.far / 16 % 2 = 1) == s.isTwinPort p))
  && (s.portLanes p).any (fun n => s.stage n = stUP && (s.laneOf n).idled)

/-- A port's state follows its lanes: ALIGNING while lanes align, UP when the conditions of R336 hold. -/
def State.portFollow (s : State) (p : Nat) : State :=
  if !s.on (R.VSM_PORT_CFG.EN p) || s.isUp p then s
  else if s.farMatches p then
    (((s.setVport p {}).setVstate p vsUP).setWidth p (pow2Floor (s.lanesUp p)))
  else if (s.portLanes p).any (fun n => s.stage n = stALIGN || s.stage n = stUP) then s.setVstate p vsALIGNING
  else s.setVstate p vsDOWN

/-- A valid ACK has come at a port that is not UP (R336). -/
def State.portHeard (s : State) (p : Nat) : State :=
  if s.isUp p then s
  else (s.each ((s.portLanes p).filter (fun n => decide (s.stage n = stUP))) (fun s n => s.updLane n (fun l => { l with idled := true }))).portFollow p

/-- A port looks at a lane of its own again after what the lane received. -/
def State.laneFollow (s : State) (n : Nat) : State :=
  match (List.range 48).find? (fun p => (s.portLanes p).contains n) with
  | some p => s.portFollow p
  | none => s

/-! ### Frames (R339 to R341) -/

/-- Is a channel replayed (Tables 14.3 and 15.3)? Of channel 0 the FAIL and
RACK kinds are. -/
def replayed (f : VFrame) : Bool :=
  if f.chan = 0 then decide (5 ≤ (f.data.headD 0#8).toNat) && decide ((f.data.headD 0#8).toNat ≤ 6)
  else f.chan = 2 || (decide (0x20 ≤ f.chan) && decide (f.chan ≤ 0x31)) || f.chan = 0x42 || f.chan = 0x43 || f.chan = 0x44 || f.chan = 0x45

/-- Does a channel's payload end in a CRC-16 (Tables 14.3 and 15.3)? -/
def payloadChecked (chan : Nat) : Bool := chan ≤ 2 || (decide (0x10 ≤ chan) && decide (chan ≤ 0x1F)) || chan = 0x40 || chan = 0x41 || chan = 0x43

/-- Is a channel one of Tables 14.3 and 15.3 (R372)? -/
def chanKnown (c : Nat) : Bool :=
  c ≤ 2 || (decide (0x10 ≤ c) && decide (c ≤ 0x1F)) || (decide (0x20 ≤ c) && decide (c ≤ 0x31)) || (decide (0x40 ≤ c) && decide (c ≤ 0x45))

/-- Is a channel carried by a port's role (R331)? -/
def State.carries (s : State) (p chan : Nat) : Bool :=
  let twin := decide (0x40 ≤ chan)
  if s.isTwinPort p then chan = 0 || twin else !twin

/-- A payload with its CRC-16 (R340). -/
def withCrc (l : List Byte) : List Byte := l ++ natBytes (crc16 l).toNat 2

/-- The frame that bytes spell, and whether HCHECK and the payload check hold (Table 14.2, R340). -/
def parseFrame (l : List Byte) : VFrame × Bool × Bool :=
  let at_ (i n : Nat) : Nat := bytesNat ((l.drop i).take n)
  let lw := at_ 10 2
  let chan := at_ 4 1
  let op := at_ 17 1 % 16
  let len := lw % 8192
  let data := if (chan = 0x30 || chan = 0x44) && decide (op = 0) then [] else (l.drop 24).take len
  let f : VFrame := { dest := at_ 0 2, src := at_ 2 2, chan := chan, hops := at_ 5 1, seq := at_ 6 2, etag := at_ 8 2, len := len
                      retx := decide (lw / 8192 % 2 = 1), addr := at_ 12 5, op := op, detail := at_ 18 1, data := data }
  (f, decide (24 ≤ l.length) && decide ((crc16 (l.take 22)).toNat = at_ 22 2)
      && decide (data.length = if (chan = 0x30 || chan = 0x44) && decide (op = 0) then 0 else len),
   !payloadChecked chan || (decide (2 ≤ data.length) && decide (data = withCrc (data.take (data.length - 2)))))

/-- The bytes a replay buffer holds. -/
def replayUse (l : List (VFrame × Nat)) : Nat := (l.map (fun x => 24 + x.1.data.length)).sum

/-- What goes out of a port: a frame and the IDLE set that follows every frame (R337). -/
def State.vOut (s : State) (p : Nat) (f : VFrame) : State := s.setVsm (fun v => { v with sent := (p, none) :: (p, some f) :: v.sent })

/-- A frame goes out of port `p` now, with its SEQ (R341). -/
def State.vEmit (s : State) (p : Nat) (f : VFrame) : State :=
  let x := s.vport p
  let f := { f with seq := x.txSeq.get f.chan, retx := false }
  (s.setVport p { x with
    txSeq := x.txSeq.set f.chan ((f.seq + 1) % 65536)
    frames := if f.chan = 0 && decide (f.data.headD 0#8 = 3#8) then 0 else x.frames + 1
    replay := if replayed f then x.replay ++ [(f, 1)] else x.replay }).vOut p f

/-- The place of a channel in the ring of R352: LINK, TIME, ANGLE, SWITCH, TWIN, REPORT, NOC response, NOC request. -/
def chanRing (c : Nat) : Nat :=
  if c = 0 then 0 else if c = 1 then 1 else if c = 2 then 3 else if c < 0x20 then 2 else if c < 0x30 then 5 else if c = 0x30 then 7
  else if c = 0x31 then 6 else 4

/-- The frame that a port's place of the ring sends next: its first waiting one, but while the replay buffer has no room for its
first waiting one of a replayed channel, the first of another (R343). -/
def VPort.nextOf (x : VPort) (k : Nat) : Option VFrame :=
  let mine := x.wait.filter (fun f => decide (chanRing f.chan = k))
  let full := match mine.find? replayed with
    | some f => decide (65536 < replayUse x.replay + 24 + f.data.length)
    | none => false
  mine.find? (fun f => !(full && replayed f))

/-- A port's transmitter grants one waiting frame among its channels, by rotating token (R352, R20). -/
def State.vGrant (s : State) (p : Nat) : State :=
  let x := s.vport p
  match ringNext 8 x.token (fun k => (x.nextOf k).isSome) with
  | none => s
  | some k =>
    match x.nextOf k with
    | none => s
    | some f => (s.setVport p { x with wait := x.wait.erase f, token := (k + 1) % 8 }).vEmit p f

/-- A frame comes to a port's transmitter. -/
def State.vSend (s : State) (p : Nat) (f : VFrame) : State := s.updVport p (fun x => { x with wait := x.wait ++ [f] })

/-- A control frame of channel 0 (Table 14.4): 12 bytes with the CRC. -/
def controlData (bytes : List Byte) : List Byte := withCrc (padTo 10 bytes)

/-- A link-local control frame (Table 14.4). -/
def State.vControl (s : State) (p kind : Nat) (bytes : List Byte) : State :=
  if s.isUp p then s.vSend p { src := s.node, len := 12, data := controlData (natBytes kind 1 ++ bytes) } else s

/-- A lane of a working bundle is UP again: the transmitter proposes to widen after a count of frames, 3 at least, that the spec
leaves open (R345). -/
def State.proposeWiden (s : State) (p : Nat) : State :=
  let w := pow2Floor (s.lanesUp p)
  if s.isUp p && decide (s.g (R.VSM_PORT_STATUS.WIDTH p) < w) then
    let r := s.free
    let count := r.1.toNat % 65533 + 3
    (r.2.updVport p (fun x => { x with widen := some (count, w, false) })).vControl p 3 (natBytes 0 1 ++ natBytes count 2 ++ natBytes 0 2 ++ natBytes w 1)
  else s

/-- A proposal to widen that has not been accepted when its count of frames less one has been sent is made again (R345). -/
def State.widenDue (s : State) (p : Nat) : State :=
  match (s.vport p).widen with
  | some (c, _, false) => if c ≤ (s.vport p).frames + 1 then (s.proposeWiden p).vGrant p else s
  | _ => s

/-- The transmitters send what waits, as far as it can go. -/
def State.transmit (s : State) : State :=
  s.each s.vports (fun s p => (s.each (List.range (s.vport p).wait.length) (fun s _ => s.vGrant p)).widenDue p)

/-- The route entry of a node: the port, if the entry is valid (R349). -/
def State.routeOf (s : State) (node : Nat) : Option Nat :=
  let w := s.vsm.route.get node
  if w.getLsbD 31 then some (w.toNat % 64) else none

/-- The tree ports that are UP (R350). -/
def State.treePorts (s : State) : List Nat :=
  s.vports.filter (fun p => s.isUp p && !s.isTwinPort p && (s.on (R.VSM_PORT_CFG.DOWN p) || (s.g R.VSM_TIME_CFG.UPPORT = p && s.g R.VSM_TIME_CFG.GM = 0)))

/-- The DOWN ports that are UP (R353, R355). -/
def State.downPorts (s : State) : List Nat := s.vports.filter (fun p => s.isUp p && !s.isTwinPort p && s.on (R.VSM_PORT_CFG.DOWN p))

/-- A failed frame counts at a port, with its channel and SEQ (R342, R344). -/
def State.failCount (s : State) (p chan seq k : Nat) : State :=
  (((s.bump (R.VSM_PORT_ERRCNT.FAILCNT p) k).put (R.VSM_PORT_LASTFAIL.CHAN p) chan).put (R.VSM_PORT_LASTFAIL.SEQ p) seq).raise R.VSM_EVENTS.FAIL

/-! ### What an originator does about a failed frame (R346) -/

/-- A tunnelled request is answered, exactly once (R362): the request's port 974 answers its initiator. -/
def State.tunAnswer (s : State) (etag status detail : Nat) (data : List Byte) : State :=
  match s.vsm.tunOut.find? (fun x => x.etag = etag) with
  | none => s.bump (R.NOC_PORT_STATUS.LATE vasumEp) 1
  | some x =>
    let s := s.setVsm (fun v => { v with tunOut := v.tunOut.filter (fun y => !(y.etag = etag)) })
    s.settle vasumEp x.req status detail data

/-- A frame of this device has failed (R346). -/
def State.originFail (s : State) (chan etag reason : Nat) : State :=
  if chan = 0x30 || chan = 0x44 then (if s.vsm.tunOut.any (fun x => x.etag = etag) then s.tunAnswer etag 5 reason [] else s)
  else if chan = 2 then (s.bump R.VSM_ERRCNT.SWDROP 1).raise R.VSM_EVENTS.SWDROP
  else s

/-- A unicast frame goes on the port its route names; none that can take it is a failure NOROUTE (R344, R349). The failure is
reported by FAIL to the frame's source, or acted on when that is this device. A FAIL or RACK that fails is only counted. -/
def State.vFail (s : State) (p : Nat) (f : VFrame) (reason : Nat) : State :=
  let s := s.failCount p f.chan f.seq 1
  let s := if reason = 0x82 then s.bump R.VSM_ERRCNT.NOROUTE 1 else s
  if !replayed f || decide (f.chan = 0) then s
  else if f.src = s.node then s.originFail f.chan f.etag reason
  else
    let g : VFrame := { dest := f.src, src := s.node, hops := 32, len := 12
                        data := controlData (natBytes 5 1 ++ natBytes f.chan 1 ++ natBytes 0 2 ++ natBytes f.etag 2 ++ natBytes reason 1) }
    match s.routeOf f.src with
    | some r => if s.isUp r then s.vSend r g else s.failCount r 0 0 1
    | none => s.bump R.VSM_ERRCNT.NOROUTE 1

/-- A unicast frame leaves towards its destination; `p` is the port it came by, or 0. -/
def State.vRoute (s : State) (p : Nat) (f : VFrame) : State :=
  match s.routeOf f.dest with
  | some r => if s.isUp r && s.node ≠ 0 then s.vSend r f else s.vFail r f 0x82
  | none => s.vFail p f 0x82

/-- A frame this device originates: unicast by route, or broadcast on every tree port that is UP (R348, R350). -/
def State.originate (s : State) (f : VFrame) : State :=
  let f := { f with src := s.node, hops := 32 }
  if s.node = 0 then s
  else if f.dest = 0xFFFF then s.each s.treePorts (fun s p => s.vSend p f)
  else s.vRoute 0 f

/-- A frame is forwarded (R349, R350): HOPS falls by one, and 0 is a failure HOPS. -/
def State.forwardFrame (s : State) (p : Nat) (f : VFrame) : State :=
  if f.hops = 0 then s.vFail p f 0x84 else s.vRoute p { f with hops := f.hops - 1 }

/-! ### Acknowledgement and replay (R343, R344) -/

/-- The highest SEQ of a channel received in order (R343). On channel 0, where most frames are not replayed and a lost one never
comes again, a missing number does not hold it back. -/
def VPort.inOrder (x : VPort) (chan : Nat) : Nat :=
  let e := x.rxSeq.get chan
  if chan = 0 then (e + 65535) % 65536 else match (x.missing.filter (fun m => m.1 = chan)).map (·.2) with
  | [] => (e + 65535) % 65536
  | l => (l.foldl (fun a b => if (e - a + 65536) % 65536 < (e - b + 65536) % 65536 then b else a) (l.headD 0) + 65535) % 65536

/-- An ACK of a channel is sent (R343). -/
def State.sendAck (s : State) (p chan : Nat) : State :=
  let x := s.vport p
  (s.setVport p { x with ackDue := x.ackDue.set chan 0 }).vControl p 1 (natBytes chan 1 ++ natBytes (x.inOrder chan) 2)

/-- A NAK is sent at once (R343). -/
def State.sendNak (s : State) (p chan seq : Nat) : State := s.vControl p 2 (natBytes chan 1 ++ natBytes seq 2)

/-- SEQ `a` at or before `b` (modulo 2^16). -/
def seqLe (a b : Nat) : Bool := decide ((b + 65536 - a) % 65536 < 32768)

/-- A received ACK frees the frames it covers (R343). -/
def State.onAck (s : State) (p chan seq : Nat) : State :=
  s.updVport p (fun x => { x with replay := x.replay.filter (fun e => !(e.1.chan = chan && seqLe e.1.seq seq)) })

/-- Frames of the replay buffer that satisfy `who` are sent again, or fail with LINK after four sendings (R343, R344). -/
def State.resend (s : State) (p : Nat) (who : VFrame → Bool) : State :=
  let x := s.vport p
  let gone := x.replay.filter (fun e => who e.1 && decide (4 ≤ e.2))
  let again := x.replay.filter (fun e => who e.1 && decide (e.2 < 4))
  let keep := (x.replay.filter (fun e => !(who e.1 && decide (4 ≤ e.2)))).map (fun e => if who e.1 then ({ e.1 with retx := true }, e.2 + 1) else e)
  let s := s.setVport p { x with replay := keep }
  let s := s.bump (R.VSM_PORT_RETX.RETX p) again.length
  let s := again.foldl (fun s e => s.vOut p { e.1 with retx := true }) s
  gone.foldl (fun s e => s.vFail p e.1 0x81) s

/-- A received NAK: from the named SEQ in order; 0xFF names every replayed channel (R343). -/
def State.onNak (s : State) (p chan seq : Nat) : State :=
  s.resend p (fun f => if chan = 0xFF then true else f.chan = chan && seqLe seq f.seq)

/-! ### Ports going down, bundles (R323, R324, R345, R347) -/

/-- Plant time's state (Table 14.7a), shown by the link and the timebase; leaving LOCKED fails the remote axes (cause 3). Plant
time lost after a lock holds the last steered rate, in HOLDOVER and in FREE (R25). -/
def State.setTstate (s : State) (st : Nat) : State :=
  let old := s.g R.VSM_STATUS.TSTATE
  if old = st then s
  else
    let s := (s.put R.VSM_STATUS.TSTATE st).raise R.VSM_EVENTS.TSTCHG
    let lock := decide (st = 2)
    let hold := decide (st = 3) || (decide (st = 0) && s.vsm.wasLocked)
    let s := if s.on R.ANG_STATUS.TICK_LOCK = lock && s.on R.ANG_STATUS.TICK_HOLD = hold then s else s.raise R.ANG_EVENTS.TICK_CHG
    let s := (s.putB R.ANG_STATUS.TICK_LOCK lock).putB R.ANG_STATUS.TICK_HOLD hold
    let s := s.setVsm (fun v => { v with rate := if st = 0 && !v.wasLocked then 0 else v.rate, good := if st = 0 then 0 else v.good
                                         wasLocked := v.wasLocked || lock })
    if old = 2 then s.failAxes ((List.range 16).filter (fun n => s.g (R.ANG_AXIS_CFG.KIND n) = 4)) 3 else s

/-- A port leaves UP (R347), or leaves ALIGNING: its held frames fail. The upstream port down takes time to FREE. -/
def State.portDown (s : State) (p : Nat) : State :=
  let x := s.vport p
  let wasUp := s.isUp p
  let s := ((s.setVport p {}).setVstate p vsDOWN).setWidth p 0
  let s := if wasUp then
      let s := x.replay.foldl (fun s e => s.vFail p e.1 0x81) s
      x.wait.foldl (fun s f => s.vFail p f 0x82) s
    else s
  if s.g R.VSM_TIME_CFG.GM = 0 && decide (s.g R.VSM_TIME_CFG.UPPORT = p) && wasUp then s.setTstate 0 else s

/-- A port's enable (R332). A disable is whole within its own step, so none waits. -/
def State.vportEnable (s : State) (p : Nat) (cfg : Word) : State :=
  (s.wr (R.VSM_PORT_CFG.reg p) ((cfg &&& 0xF0000000#32) ||| 0x80000000#32)).portFollow p

/-- A port's disable (R332). -/
def State.vportDisable (s : State) (p : Nat) (cfg : Word) : State :=
  (s.portDown p).wr (R.VSM_PORT_CFG.reg p) (cfg &&& 0x70000000#32)

/-- Port `p` as bundle `b` of quad `q` begins. -/
def bundlePort (q b : Nat) : Nat := 4 * q + 2 * b

/-- BUNDLE_DEGRADE (R323, R342): at a frame boundary the width is worked out again; the frames in reception on a lost lane fail
by channel and SEQ. -/
def State.degrade (s : State) (q b : Nat) (lost : List (Nat × Nat)) : State :=
  let p := bundlePort q b
  let w := pow2Floor (s.lanesUp p)
  if !s.isUp p || decide (s.g (R.VSM_PORT_STATUS.WIDTH p) ≤ w) then s
  else
    let s := (s.raise R.LANE_EVENTS.DEGRADE).updVport p (fun x => { x with widen := none })
    let s := lost.foldl (fun s e =>
      let rep := replayed { chan := e.1, data := [5#8] }
      let s := (s.failCount p e.1 e.2 1).updVport p (fun x => { x with
        rxSeq := x.rxSeq.set e.1 ((e.2 + 1) % 65536), missing := if rep then x.missing ++ [e] else x.missing })
      if rep then s.sendNak p e.1 e.2 else s) s
    if w = 0 then s.portDown p else s.setWidth p w

/-- BUNDLE_REJOIN (R324, R345): at the agreed boundary the bundle widens. -/
def State.rejoin (s : State) (q b : Nat) : State :=
  let p := bundlePort q b
  match (s.vport p).widen with
  | some (_, w, true) =>
    let s := s.updVport p (fun x => { x with widen := none })
    if s.isUp p && decide (w ≤ pow2Floor (s.lanesUp p)) && decide (s.g (R.VSM_PORT_STATUS.WIDTH p) < w) then
      (s.setWidth p w).raise R.LANE_EVENTS.REJOIN
    else s
  | _ => s

/-- WIDENACK (R345): accepted if it comes before the count less one has been sent; otherwise proposed again. -/
def State.onWidenAck (s : State) (p count : Nat) : State :=
  match (s.vport p).widen with
  | some (c, w, _) =>
    if c = count && decide ((s.vport p).frames + 1 < c) then s.updVport p (fun x => { x with widen := some (c, w, true) })
    else s.proposeWiden p
  | none => s

/-- A valid ALIGN set on a lane (R333, R336); one whose CHK fails is ignored. -/
def State.alignSet (s : State) (n : Nat) (lane chk : Byte) : State :=
  if chk ≠ crc8 [lane] || s.laneUse n ≠ 1 then s
  else
    let was := s.stage n
    let s := s.updLane n (fun l => { l with heard := true, far := lane.toNat, seen := if lane.getLsbD 7 then min 8 (l.seen + 1) else l.seen })
    let s := s.vsmLaneUp n
    let p := (List.range 48).find? (fun p => (s.portLanes p).contains n)
    match p with
    | some p =>
      let up := s.isUp p
      let s := s.portFollow p
      if up && decide (was ≠ stUP) && decide (s.stage n = stUP) then s.proposeWiden p else s
    | none => s

/-! ### Plant time (R353 to R355) -/

/-- The local time in 1/256 ns. -/
def State.stamp (s : State) : DWord := (s.rtc >>> 8).setWidth 64
/-- SYNCINT as it acts, in µs. -/
def State.syncInt (s : State) : Nat := let v := s.g R.VSM_TIME_CFG.SYNCINT; if v = 0 then 125 else max 16 v

/-- A TIME payload (Table 14.6). -/
def timeData (kind hops node : Nat) (a b : DWord) : List Byte :=
  withCrc (natBytes kind 1 ++ natBytes hops 1 ++ natBytes node 2 ++ natBytes a.toNat 8 ++ natBytes b.toNat 8 ++ natBytes 0 2)

/-- A TIME frame goes out of a port. -/
def State.sendTime (s : State) (p : Nat) (data : List Byte) : State :=
  if s.isUp p then s.vSend p { src := s.node, chan := if s.isTwinPort p then 0x41 else 1, len := 24, data := data } else s

/-- Does the device take plant time from its partner's heartbeats (R374)? -/
def State.twinTime (s : State) : Bool := decide (4 ≤ s.g R.TWIN_STATUS.STATE)
/-- The twin port (R366). -/
def State.twinPort (s : State) : Nat := s.g R.TWIN_CFG.PORT

/-- SYNC_SEND (R353): the grandmaster sends SYNC on its DOWN ports. -/
def State.syncSend (s : State) : State :=
  if s.on R.VSM_TIME_CFG.GM then s.each s.downPorts (fun s p => s.sendTime p (timeData 1 1 s.node s.stamp 0#64)) else s

/-- A DREQ goes out of port `p`, if it is UP (R354). -/
def State.dreqOn (s : State) (p : Nat) : State :=
  if s.isUp p then (s.updVport p (fun x => { x with t1 := s.stamp })).sendTime p (timeData 2 0 0 0#64 0#64) else s

/-- DREQ_SEND (R354): on UPPORT, and on the twin port while time is taken from the partner (R374). -/
def State.dreqSend (s : State) : State :=
  let s := if s.on R.VSM_TIME_CFG.GM then s else s.dreqOn (s.g R.VSM_TIME_CFG.UPPORT)
  if s.twinTime then s.dreqOn s.twinPort else s

/-- A received DREQ is answered with the times of its receipt and of the answer (R354). -/
def State.onDreq (s : State) (p : Nat) : State := s.sendTime p (timeData 3 0 0 s.stamp s.stamp)

/-- A received DRSP gives the link delay (R354); one on another port than UPPORT is discarded (R353). -/
def State.onDrsp (s : State) (p : Nat) (t2 t3 : DWord) : State :=
  if !(s.twinTime && decide (p = s.twinPort)) && (s.on R.VSM_TIME_CFG.GM || decide (s.g R.VSM_TIME_CFG.UPPORT ≠ p)) then s.failCount p 1 0 1
  else
    let d : Int := ((s.stamp - (s.vport p).t1) - (t3 - t2)).toInt / 2 + (s.rw (R.VSM_PORT_ASYM.reg p)).toInt
    (s.wr (R.VSM_PORT_DELAY.reg p) (BitVec.ofInt 32 d)).updVport p (fun x => { x with measured := true })

/-- A reference of plant time is applied (R355, Table 14.7a): the reference's time at the sending, corrected, and the delay of
port `p`; `span` is the interval of references in µs. -/
def State.syncApply (s : State) (p span : Nat) (sent : DWord) : State :=
  if !(s.vport p).measured then s
  else
    let d := (s.rw (R.VSM_PORT_DELAY.reg p)).signExtend 64
    let off : Int := (sent + d - s.stamp).toInt
    let s := s.put R.VSM_TIME_OFS.OFFSET (BitVec.ofInt 32 (max (-2147483648) (min 2147483647 off))).toNat
    let st := s.g R.VSM_STATUS.TSTATE
    let near := decide (off.natAbs ≤ 1024)
    let enter := st = 0 || st = 3
    let step := enter && decide (256000 < off.natAbs)
    let s := if step then
        let t : State := { s with rtc := (s.rtc + BitVec.ofInt 80 (off * 256)) }
        (t.raise R.VSM_EVENTS.STEP).aonLog 8 (decide (0 < off)).toNat
      else s
    let rate : Int := if step then 0 else max (-52) (min 52 (off * 256 / (span * 250 : Nat)))
    let good := if near then s.vsm.good + 1 else 0
    let s := s.setVsm (fun v => { v with rate := rate, good := if enter then 0 else min 16 good })
    if enter then s.setTstate 1
    else if st = 1 then (if 16 ≤ good then s.setTstate 2 else s)
    else if 25600 < off.natAbs then s.setTstate 3
    else s

/-- A received SYNC (R355): applied, unless the time comes from the partner (R374), and forwarded on the DOWN ports. -/
def State.onSync (s : State) (p hops node : Nat) (origin corr : DWord) : State :=
  if s.on R.VSM_TIME_CFG.GM || decide (s.g R.VSM_TIME_CFG.UPPORT ≠ p) then s.failCount p 1 0 1
  else
    let d := (s.rw (R.VSM_PORT_DELAY.reg p)).signExtend 64
    let s := (s.put R.VSM_GM.GMNODE node).put R.VSM_GM.GMHOPS (min 32 hops)
    let s := if s.twinTime then s else s.syncApply p s.syncInt (origin + corr)
    if hops < 32 then s.each s.downPorts (fun s q => s.sendTime q (timeData 1 (hops + 1) node origin (corr + d))) else s

/-- HOLDOVER (R355): no valid SYNC for 8 × SYNCINT. -/
def State.holdover (s : State) : State := if s.g R.VSM_STATUS.TSTATE = 2 && !s.on R.VSM_TIME_CFG.GM then s.setTstate 3 else s

/-- A write to VSM_TIME_CFG: the grandmaster's time is LOCKED, and a device with no UPPORT UP is FREE (R353, Table 14.7a). -/
def State.timeCfgWrite (s : State) (v : Word) : State :=
  let was := s.on R.VSM_TIME_CFG.GM
  let s := s.wr R.VSM_TIME_CFG.reg (v &&& 0xBFFFFFFF#32)
  if s.on R.VSM_TIME_CFG.GM then (s.setVsm (fun x => { x with rate := 0 })).setTstate 2
  else if was || !s.isUp (s.g R.VSM_TIME_CFG.UPPORT) then s.setTstate 0
  else s

/-! ### Angle channels and switch commands (R357 to R359) -/

/-- ANGLE_EXPORT (R357): channel `k` broadcasts its axis as of the last tick, but not in SYNCING, STANDBY and DETACHED (R382). -/
def State.angleExport (s : State) (k : Nat) : State :=
  let n := s.g (R.VSM_ANGTX.AXIS k)
  if s.on (R.VSM_ANGTX.EN k) && decide (s.g R.VSM_STATUS.TSTATE = 2) && !s.twinTime then
    let a := s.axis n
    let st := s.axState n + 8 * a.jump.toNat + 16 * s.g (R.ANG_AXIS_STATE.DIR n)
    s.originate { dest := 0xFFFF, chan := 0x10 + k, len := 32
                  data := withCrc (natBytes a.value.toNat 8 ++ natBytes (BitVec.ofInt 32 (a.vel / 256)).toNat 4 ++ natBytes s.plantNs.toNat 8
                    ++ natBytes st 1 ++ natBytes 0 9) }
  else s

/-- A received ANGLE frame (R358). -/
def State.onAngle (s : State) (k src : Nat) (value : DWord) (vel : Word) (time : DWord) (st : Nat) : State :=
  let c := s.vsm.angRx.get k
  if s.g R.VSM_STATUS.TSTATE ≠ 2 then s
  else if c.latched && decide (s.g (R.VSM_ANGRX.SRCNODE k) ≠ src) then s.raise R.VSM_EVENTS.ANGCONF
  else if st % 8 ≠ axLOCKED ∧ st % 8 ≠ axCOAST then s.setVsm (fun v => { v with angRx := v.angRx.set k { c with run := 0 } })
  else
    (s.put (R.VSM_ANGRX.SRCNODE k) src).setVsm (fun v => { v with
      angRx := v.angRx.set k { value := value, vel := vel.toInt, time := time, latched := true, run := min 2 (c.run + 1) } })

/-- GAPLIM_EXPIRY (R358): the latch clears and the channel's axes fail with cause 2. -/
def State.gapExpiry (s : State) (k : Nat) : State :=
  let c := s.vsm.angRx.get k
  if c.latched then
    ((s.put (R.VSM_ANGRX.SRCNODE k) 0).setVsm (fun v => { v with angRx := v.angRx.set k { c with latched := false, run := 0 } })).failAxes (s.axesOf 4 k) 2
  else s

/-- A switch command is discarded (R359). -/
def State.swDrop (s : State) (f : Field) : State := (s.bump R.VSM_ERRCNT.SWDROP 1).raise f

/-- A received SWITCH frame (R359). -/
def State.onSwitch (s : State) (mask time : Nat) : State :=
  let gs := (maskBits mask 32).filter (fun n => s.on (R.CTX_SG_CFG.EN_VSM n))
  if s.g R.VSM_STATUS.TSTATE ≠ 2 then s.swDrop R.VSM_EVENTS.SWUNLOCK
  else if time < s.plantNs.toNat + 200 then
    s.each (gs.filter (fun n => s.on (R.CTX_SG_CFG.ARM n))) (fun s n =>
      let s := s.sgRefuse n 6 ((s.members n).headD 0)
      if s.on (R.CTX_SG_CFG.REPEAT n) then s else s.putB (R.CTX_SG_CFG.ARM n) false)
  else if 8 ≤ s.vsm.switches.length then s.swDrop R.VSM_EVENTS.SWDROP
  else s.setVsm (fun v => { v with switches := v.switches ++ [(time, mask)] })

/-- SWITCH_AT_TICK (R359): the commands whose tick has come trigger their groups, or are discarded; triggers that coincide are
one (R145). -/
def State.switchAtTick (s : State) : State :=
  let now := s.plantNs.toNat
  let due := s.vsm.switches.filter (fun x => decide (x.1 ≤ now))
  let s := s.setVsm (fun v => { v with switches := v.switches.filter (fun x => !decide (x.1 ≤ now)) })
  if s.g R.VSM_STATUS.TSTATE ≠ 2 then due.foldl (fun s _ => s.swDrop R.VSM_EVENTS.SWUNLOCK) s
  else
    let mask := due.foldl (fun m x => m ||| x.2) 0
    s.each ((maskBits mask 32).filter (fun n => s.on (R.CTX_SG_CFG.EN_VSM n))) State.sgPostTick

/-! ### Tunnelling (R360 to R363) -/

/-- A request to a tunnel window (R360, R363): DECERR, BUSY, or sent as a tunnelled request; window TWIN_PEERWIN.WIN sends to the
partner (R385). -/
def State.tunnel (s : State) (q : Req) : State :=
  let o := q.addr - 0xC000000000
  let w := o / 0x100000000
  if !s.on (R.VSM_WIN.EN w) then s.respond vasumEp q 2 0 []
  else if 512 ≤ s.vsm.tunOut.length then s.respond vasumEp q 5 0x86 []
  else
    let etag := s.vsm.etag
    let s : State := { s with noc := { s.noc with owed := s.noc.owed ++ [({ dest := vasumEp, req := q } : Owed)] } }
    let s := s.setVsm (fun v => { v with etag := (v.etag + 1) % 65536, tunOut := v.tunOut ++ [({ req := q, etag := etag } : TunOut)] })
    let f : VFrame := { etag := etag, len := q.len, addr := s.g (R.VSM_WIN.REMBASE w) * 2 ^ 32 + o % 0x100000000, op := q.op
                        data := if q.op = 0 then [] else q.data.take q.len }
    if s.on R.TWIN_PEERWIN.EN && decide (s.g R.TWIN_PEERWIN.WIN = w) then
      (if s.isUp s.twinPort then s.vSend s.twinPort { f with src := s.node, chan := 0x44 } else s.originFail 0x44 etag 0x82)
    else if s.node = 0 then s.originFail 0x30 etag 0x82
    else s.originate { f with dest := s.g (R.VSM_WIN.NODE w), chan := 0x30 }

/-- A tunnelled request performed here is no longer waited for. -/
def State.tunInDrop (s : State) (tag : Nat) : State := s.setVsm (fun v => { v with tunIn := v.tunIn.filter (fun x => !(x.1 = tag)) })

/-- The answer to a tunnelled request goes back on channel 0x31, or on 0x45 to the partner, which the model numbers 0x10000. -/
def State.tunReply (s : State) (src : Nat) (f : VFrame) : State :=
  if src = 0x10000 then (if s.isUp s.twinPort then s.vSend s.twinPort { f with src := s.node, chan := 0x45 } else s)
  else s.originate { f with dest := src, chan := 0x31 }

/-- What has been answered to the tunnelled requests performed here goes back on channel 0x31 (R361); a successful
WRITEP is answered OK when it is performed. The transmitters send what waits. -/
def State.vsmAnswers (s : State) : State :=
  let mine := s.noc.arrived.filter (fun a => a.1 / 4096 = iniVasum)
  let s : State := { s with noc := { s.noc with arrived := s.noc.arrived.filter (fun a => !(a.1 / 4096 = iniVasum)) } }
  (mine.foldl (fun s a =>
    match s.vsm.tunIn.find? (fun x => x.1 = a.1 % 4096) with
    | some (tag, src, etag, _) =>
      (s.tunInDrop tag).tunReply src { etag := etag, op := a.2.1, detail := a.2.2.1, len := a.2.2.2.length, data := a.2.2.2 }
    | none => s) s).transmit

/-- The flash port of the last start that was released, as its start log entry records it (R441, Table 19.2): 0 XSPIA, 1 XSPIB. -/
def State.lastBoot (s : State) : Option Nat :=
  match s.sec.starts.find? (fun e => e.getD 13 1#8 = 0#8) with
  | some e => (match (e.getD 20 0#8).toNat % 4 with
    | 1 => some 0
    | 2 => some 1
    | _ => none)
  | none => none

/-- The partner's request to the twin image path (R441): a READ served from flash while PRIMARY or SOLO, else NOTGT. -/
def State.serveImage (s : State) (etag op addr len : Nat) : State :=
  match (if op = 0 && (s.g R.TWIN_STATUS.STATE = 3 || s.g R.TWIN_STATUS.STATE = 2) then s.lastBoot else none) with
  | some p =>
    let d := s.bytes (flashAddr p (addr - 0xD000000000)) len
    s.tunReply 0x10000 { etag := etag, op := 0, len := len, data := d }
  | none => s.tunReply 0x10000 { etag := etag, op := 0xA }

/-- An arriving tunnelled request (R361): performed as initiator 518, or answered NOTGT. The model numbers the partner 0x10000. -/
def State.onTunnelled (s : State) (src etag op addr len : Nat) (data : List Byte) : State :=
  let answer (s : State) (st : Nat) : State := s.tunReply src { etag := etag, op := st }
  if src = 0x10000 && decide (0xD000000000 ≤ addr) && decide (addr < 0xD100000000) then s.serveImage etag op addr len
  else if !s.on R.VSM_TUN.TUNEN then answer s 0xA
  else match (List.range 2048).find? (fun i => (s.issuedOf iniVasum (512 + i)).isNone && !s.vsm.tunIn.any (fun x => x.1 = 512 + i)) with
    | none => answer s 7
    | some i =>
      let tag := 512 + i
      let q : Req := { ini := iniVasum, op := op, addr := addr, len := len, tag := tag, data := data }
      let s := s.setVsm (fun v => { v with tunIn := v.tunIn ++ [(tag, src, etag, op)] })
      (s.request q 0).vsmAnswers

/-! ### Item reports (R364, R365) -/

/-- Records wait for the Vasum path in frames of up to 16, sent in order on the ledger's report channel (R364). -/
def reportFrames (dest chan : Nat) : Nat → List LRec → List VFrame
  | 0, _ => []
  | k + 1, l =>
    if l.isEmpty then []
    else
      let d := (l.take 16).flatMap (·.data)
      { dest := dest, chan := 0x20 + chan, len := d.length, data := d } :: reportFrames dest chan k (l.drop 16)

/-- The ledger's records that the Vasum path has not accepted are sent: those never sent, or all from the oldest (R364, R365). -/
def State.sendReports (s : State) (all : Bool) : State :=
  let l := s.lgr.out.filter (fun r => r.vsm && (all || !s.vsm.reported.contains r.recseq))
  let s := s.setVsm (fun v => { v with reported := v.reported ++ (l.map (·.recseq)).filter (fun q => !v.reported.contains q) })
  (reportFrames (s.g R.LGR_VSM_DEST.NODE) (s.g R.LGR_VSM_DEST.CHANNEL) l.length l).foldl State.originate s

/-- A RACK covers the records up to its RECSEQ (R364): they are accepted by the path. -/
def State.onRack (s : State) (chan : Nat) (recseq : Word) : State :=
  if chan ≠ s.g R.LGR_VSM_DEST.CHANNEL then s
  else
    let covered (q : Word) : Bool := decide ((recseq - q).toNat < 2 ^ 31)
    let s : State := { s with lgr := { s.lgr with out := s.lgr.out.map (fun (r : LRec) => if covered r.recseq then { r with vsm := false } else r) } }
    let s := s.setVsm (fun v => { v with reported := v.reported.filter (fun q => !covered q) })
    (s.putB R.LGR_STATUS.VSM_STALL (s.lgr.out.any (·.vsm))).recordsSettle

/-- Records cut from a REPORT payload, 32 bytes each. -/
def cutRecords : Nat → List Byte → List (List Byte)
  | 0, _ => []
  | k + 1, l => if l.length < 32 then [] else l.take 32 :: cutRecords k (l.drop 32)

/-- Has the receiver of report channel `c` this record of a source already (R174): its RECSEQ is not beyond the last it wrote? -/
def State.rptSeen (s : State) (c src : Nat) (q : Word) : Bool :=
  match s.vsm.rptLast.get c with
  | some l => decide (l.1 = src) && decide ((l.2 - q).toNat < 2 ^ 31)
  | none => false

/-- One record of a REPORT frame is written to the ring of its channel; none when the ring is full or the write fails. -/
def State.rptWrite (s : State) (c : Nat) (rec_ : List Byte) : State × Bool :=
  let size := 2 ^ max 4 (min 20 (s.g (R.VSM_RPT_CFG.RINGLOG c)))
  let base := s.g (R.VSM_RPT_BASE_LO.ADDR c) * 32 + s.g (R.VSM_RPT_BASE_HI.ADDR c) * 2 ^ 32
  let w := s.g (R.VSM_RPT_WPTR.WPTR c)
  if (w + 1) % size = s.g (R.VSM_RPT_RPTR.RPTR c) % size then (s, false)
  else
    let o := s.postWrite iniVasum (base + w % size * 32) rec_
    if o.2 ≠ stOK then (o.1, false) else (o.1.put (R.VSM_RPT_WPTR.WPTR c) ((w + 1) % size), true)

/-- A received REPORT frame (R365): written to the ring of its channel record by record, those it has already left out (R174), and
RACKed. -/
def State.onReport (s : State) (c src : Nat) (data : List Byte) : State :=
  if !s.on (R.VSM_RPT_CFG.EN c) || decide (s.g (R.VSM_RPT_CFG.SRC c) ≠ src) then s
  else
    let r := (cutRecords 128 data).foldl (fun (st : State × Option Nat × Bool) rec_ =>
      let q := bytesNat ((rec_.drop 4).take 4)
      if st.2.2 then st
      else if st.1.rptSeen c src (BitVec.ofNat 32 q) then (st.1, some q, false)
      else
        let o := st.1.rptWrite c rec_
        if !o.2 then (o.1, st.2.1, true)
        else (o.1.setVsm (fun v => { v with rptLast := v.rptLast.set c (some (src, BitVec.ofNat 32 q)) }), some q, false)) (s, none, false)
    match r.2.1 with
    | some seq => r.1.originate { dest := src, len := 12, data := controlData (natBytes 6 1 ++ natBytes c 1 ++ natBytes seq 4) }
    | none => r.1

/-! ### Register writes with rules of their own (R348, R362) -/

/-- A write to VSM_NODE: only while every port is DOWN, and not 0xFFFF. -/
def State.nodeWrite (s : State) (v : Word) : State :=
  if (List.range 48).all (fun p => s.vstate p = vsDOWN) && decide (v.toNat % 65536 ≠ 0xFFFF) then s.wr R.VSM_NODE.reg (v &&& 0xFFFF#32)
  else s.raise R.VSM_EVENTS.CFGERR

/-- A write to VSM_TUN: a TMO not below NOC_TMO.TGT is ignored. -/
def State.tunWrite (s : State) (v : Word) : State :=
  if (v.toNat % 65536) < s.g R.NOC_TMO.TGT then s.wr R.VSM_TUN.reg (v &&& 0x8000FFFF#32) else s.raise R.VSM_EVENTS.CFGERR

/-- A write to VSM_RTDATA sets the entry VSM_RTSEL names. -/
def State.rtWrite (s : State) (v : Word) : State := s.setVsm (fun x => { x with route := x.route.set (s.g R.VSM_RTSEL.NODE) (v &&& 0x8000003F#32) })

/-! ### Commands -/

/-- LANE_SYMBOL_RECEIVE (R308); an IDLE set may bring the lane's port UP (R336). -/
def execLaneSymbolReceive (n code b : Nat) (s : State) : Host.Outcome State Fault Refusal := done ((s.symbol n code b).laneFollow n)
/-- BUNDLE_DEGRADE (R323). -/
def execBundleDegrade (q b : Nat) (lost : List (Nat × Nat)) (s : State) : Host.Outcome State Fault Refusal := done (s.degrade q b lost).transmit
/-- BUNDLE_REJOIN (R324). -/
def execBundleRejoin (q b : Nat) (s : State) : Host.Outcome State Fault Refusal := done (s.rejoin q b)
/-- VSM_PORT_ENABLE (R332). -/
def execVsmPortEnable (p : Nat) (cfg : Word) (s : State) : Host.Outcome State Fault Refusal := done (s.vportEnable p cfg)
/-- VSM_PORT_DISABLE (R332). -/
def execVsmPortDisable (p : Nat) (cfg : Word) (s : State) : Host.Outcome State Fault Refusal := done (s.vportDisable p cfg).transmit
/-- ALIGN_SET_RECEIVE (R336). -/
def execAlignSetReceive (n : Nat) (lane chk : Byte) (s : State) : Host.Outcome State Fault Refusal := done (s.alignSet n lane chk).transmit
/-- ACK_SEND (R343). -/
def execAckSend (p chan : Nat) (s : State) : Host.Outcome State Fault Refusal := done (if (s.vport p).ackDue.get chan ≠ 0 then s.sendAck p chan else s).transmit
/-- NAK (R343). -/
def execNak (p chan seq : Nat) (s : State) : Host.Outcome State Fault Refusal := done (s.onNak p chan seq).transmit
/-- RETRANSMIT_TIMEOUT (R343): the frame with this channel and SEQ has not been acknowledged 20 µs after it was sent. -/
def execRetransmitTimeout (p chan seq : Nat) (s : State) : Host.Outcome State Fault Refusal :=
  done (s.resend p (fun f => f.chan = chan && decide (f.seq = seq))).transmit
/-- WIDEN (R345): answered with WIDENACK. -/
def execWiden (p count width : Nat) (s : State) : Host.Outcome State Fault Refusal :=
  done (if width ≤ pow2Floor (s.lanesUp p) then s.vControl p 4 (natBytes 0 1 ++ natBytes count 2) else s).transmit
/-- WIDENACK (R345). -/
def execWidenack (p count : Nat) (s : State) : Host.Outcome State Fault Refusal := done (s.onWidenAck p count).transmit
/-- FAIL (R346). -/
def execFail (chan etag reason : Nat) (s : State) : Host.Outcome State Fault Refusal := done (s.originFail chan etag reason).transmit
/-- RACK (R364). -/
def execRack (chan : Nat) (recseq : Word) (s : State) : Host.Outcome State Fault Refusal := done (s.onRack chan recseq).transmit
/-- SYNC_SEND (R353). -/
def execSyncSend (s : State) : Host.Outcome State Fault Refusal := done s.syncSend.transmit
/-- SYNC (R355). -/
def execSync (p hops node : Nat) (origin corr : DWord) (s : State) : Host.Outcome State Fault Refusal := done (s.onSync p hops node origin corr).transmit
/-- DREQ_SEND (R354). -/
def execDreqSend (s : State) : Host.Outcome State Fault Refusal := done s.dreqSend.transmit
/-- DREQ (R354). -/
def execDreq (p : Nat) (s : State) : Host.Outcome State Fault Refusal := done (s.onDreq p).transmit
/-- DRSP (R354). -/
def execDrsp (p : Nat) (t2 t3 : DWord) (s : State) : Host.Outcome State Fault Refusal := done (s.onDrsp p t2 t3)
/-- HOLDOVER (R355). -/
def execHoldover (s : State) : Host.Outcome State Fault Refusal := done s.holdover
/-- ANGLE_EXPORT (R357). -/
def execAngleExport (k : Nat) (s : State) : Host.Outcome State Fault Refusal := done (s.angleExport k).transmit
/-- ANGLE_FRAME (R358). -/
def execAngleFrame (k src : Nat) (value : DWord) (vel : Word) (time : DWord) (st : Nat) (s : State) : Host.Outcome State Fault Refusal :=
  done (s.onAngle k src value vel time st)
/-- GAPLIM_EXPIRY (R358). -/
def execGaplimExpiry (k : Nat) (s : State) : Host.Outcome State Fault Refusal := done (s.gapExpiry k)
/-- SWITCH_COMMAND (R359). -/
def execSwitchCommand (mask time : Nat) (s : State) : Host.Outcome State Fault Refusal := done (s.onSwitch mask time)
/-- SWITCH_AT_TICK (R359). -/
def execSwitchAtTick (s : State) : Host.Outcome State Fault Refusal := done s.switchAtTick
/-- TUNNELLED_REQUEST_ARRIVE (R361). -/
def execTunnelledRequestArrive (src etag op addr len : Nat) (data : List Byte) (s : State) : Host.Outcome State Fault Refusal :=
  done (s.onTunnelled src etag op addr len data).transmit
/-- TUNNEL_RESPONSE (R362). -/
def execTunnelResponse (etag status detail : Nat) (data : List Byte) (s : State) : Host.Outcome State Fault Refusal :=
  done (s.tunAnswer etag status detail data).transmit
/-- TUNNEL_TIMEOUT (R362). -/
def execTunnelTimeout (etag : Nat) (s : State) : Host.Outcome State Fault Refusal :=
  done (if s.vsm.tunOut.any (fun x => x.etag = etag) then s.tunAnswer etag 5 0x83 [] else s).transmit
/-- REPORT_FRAME_RECEIVE (R365). -/
def execReportFrameReceive (c src : Nat) (data : List Byte) (s : State) : Host.Outcome State Fault Refusal := done (s.onReport c src data).transmit
/-- REPORT_RESEND (R365). -/
def execReportResend (s : State) : Host.Outcome State Fault Refusal := done (s.sendReports true).transmit

end Sys2Proof.Machine
end

