-- ==== Sys2Proof/Machine/Twin.lean ====
section
/-! DEFINITION. Twin operation (spec/15): the pair's states, heartbeats, the mirrored ledger, takeover and handover. -/

namespace Sys2Proof.Machine

/-! ### States (Table 15.1, R370) -/

def twOFF : Nat := 0
def twUNPAIRED : Nat := 1
def twSOLO : Nat := 2
def twPRIMARY : Nat := 3
def twSYNCING : Nat := 4
def twSTANDBY : Nat := 5
def twDETACHED : Nat := 6

def State.twState (s : State) : Nat := s.g R.TWIN_STATUS.STATE
def State.setTwinBlk (s : State) (f : Twin → Twin) : State := { s with twin := f s.twin }
/-- Is the twin port UP? -/
def State.twinUp (s : State) : Bool := s.isUp s.twinPort && s.isTwinPort s.twinPort

/-- A transition of Table 15.2: STATECHG, and LEASE_OUT follows the state (R369, R370). -/
def State.setTwin (s : State) (st : Nat) : State :=
  if s.twState = st then s
  else
    let s := ((s.put R.TWIN_STATUS.STATE st).raise R.TWIN_EVENTS.STATECHG).leaseShow
    let s := if st = twUNPAIRED then s else (s.putB R.TWIN_STATUS.LINKFAULT false).setTwinBlk (fun t => { t with yielded := false })
    let s := if 4 ≤ st then s else s.putB R.TWIN_STATUS.TLOCK false
    s.setTwinBlk (fun t => { t with waiting := false, fails := 0, unacked := if st = twPRIMARY then t.unacked else [] })

/-- A CONTROL frame goes to the partner (Table 15.6). -/
def State.twinControl (s : State) (kind axis tick : Nat) (value : DWord) (vel : Word) : State :=
  if s.twinUp then
    s.vSend s.twinPort { src := s.node, chan := 0x43, len := 32
                         data := withCrc (natBytes kind 1 ++ natBytes axis 1 ++ natBytes 0 6 ++ natBytes tick 8 ++ natBytes value.toNat 8
                           ++ wordBytes vel ++ natBytes 0 2) }
  else s

/-- Own activity of the ledger stops: what it had still to evaluate is left to the mirror (R377). -/
def State.mirrorBegin (s : State) : State :=
  let s : State := { s with lgr := { s.lgr with due := [], changed := [] } }
  s.setTwinBlk (fun t => { t with shadow := [], doubt := [], tAck := s.plantNs.toNat, sentCtr := [] })

/-- SYNCING is entered: the ledger is asked for (R385). -/
def State.twinSync (s : State) : State :=
  let s := ((s.setTwin twSYNCING).put R.TWIN_STATUS.DETREASON 0).mirrorBegin
  (s.setTwinBlk (fun t => { t with synced := false, snap := some [], vmaster := [] })).twinControl 1 0 0 0 0

/-- An UNPAIRED device whose SEL is 1 enters SOLO at once when LEASE_IN is low and the twin port is not UP (Table 15.2). -/
def State.twinFollow (s : State) : State :=
  if s.twState = twUNPAIRED && s.on R.TWIN_STATUS.SEL && !s.on R.TWIN_STATUS.LEASEIN && !s.twinUp && !s.halted then s.setTwin twSOLO else s

/-! ### Mirror (R376, R377, Table 15.5) -/

/-- The outcome that an entry's fields tell of a HELD item: FAILED for the machine's own failure reasons, REJECTED for another
reason or a reject, else COMPLETED (Table 7.4, Table 7.5). -/
def outcomeOf (st : Nat) (reason rej : Half) : Nat :=
  if st ≠ itHELD then 0
  else if 0x8010#16 ≤ reason && reason ≤ 0x8017#16 then 2
  else if reason ≠ 0#16 || rej ≠ 0#16 then 1
  else 0

/-- The entry that 32 bytes spell; its close time, which they do not carry, is `close`. -/
def entryOfBytes (l : List Byte) (close : Nat) : LEntry :=
  let at_ (i n : Nat) : Nat := bytesNat ((l.drop i).take n)
  let fl := at_ 26 2
  let st := fl % 8
  let reason : Half := BitVec.ofNat 16 (at_ 22 2)
  let rej : Half := BitVec.ofNat 16 (at_ 20 2)
  if st = itFREE then {}
  else
    { id := BitVec.ofNat 32 (at_ 0 4), birth := BitVec.ofNat 64 (at_ 4 8), birthTime := at_ 12 6, done := BitVec.ofNat 16 (at_ 18 2)
      rej := rej, reason := reason, code := BitVec.ofNat 16 (at_ 24 2), st := st, suspect := fl.testBit 3, coasted := fl.testBit 4
      bank := fl / 32 % 2, jump := fl.testBit 6, gated := fl.testBit 7
      outcome := outcomeOf st reason rej, closeTime := if st = itHELD then close else 0 }

/-- MIRROR frames of up to 113 records. -/
def State.mirrorSend (s : State) : Nat → List (Nat × List Byte) → State
  | 0, _ => s
  | k + 1, l =>
    if l.isEmpty then s
    else
      let a := l.take 113
      let no := s.twin.mirrorNo
      let d := natBytes s.plantNs.toNat 8 ++ natBytes a.length 2 ++ natBytes 0 2 ++ a.flatMap (·.2)
      let s := s.setTwinBlk (fun t => { t with mirrorNo := (no + 1) % 65536, unacked := t.unacked ++ [(no, a.map (·.1))] })
      (s.vSend s.twinPort { src := s.node, chan := 0x42, etag := no, len := d.length, data := d }).mirrorSend k (l.drop 113)

/-- A primary sends what has changed since its last MIRROR frame, in the order of the changes (R376). -/
def State.mirrorFlush (s : State) : State :=
  if s.twState ≠ twPRIMARY || !s.twinUp then s
  else ({ s with lgr := { s.lgr with changed := [] } } : State).mirrorSend s.lgr.changed.length s.lgr.changed

/-- A list with `k` put before the first number that is younger, ages counted from `o`. -/
def insertSeq (o k : Nat) : List Nat → List Nat
  | [] => [k]
  | x :: t => if (k + 2 ^ 30 - o) % 2 ^ 30 < (x + 2 ^ 30 - o) % 2 ^ 30 then k :: x :: t else x :: insertSeq o k t

/-- The sequence numbers with entries follow the mirrored entries, oldest first. -/
def State.mirrorItems (s : State) (n : Nat) : State :=
  let o := s.g (R.LGR_STREAM_OLDEST.NEXTSEQ n)
  let l := (s.lgr.entries.filter (fun e => decide (e.2.st ≠ itFREE) && decide (idStream e.2.id = n))).map (fun e => idSeq e.2.id)
  let l := l.foldl (fun a k => insertSeq o k a) []
  let x := s.stream n
  let range := match x.full with
    | some (f, z, _) => (List.range (min 128 ((idSeq z + 2 ^ 30 - idSeq f) % 2 ^ 30 + 1))).map (fun j => (idSeq f + j) % 2 ^ 30)
    | none => []
  (s.setStream n { x with items := l, born := l ++ range }).emberOpen n

/-- An entry that has come by the mirror: its item's stations are followed from here on, unless they are already (R172). -/
def State.mirrorTrack (s : State) (n i : Nat) : State :=
  let e := s.entry i
  if e.st = itFREE || s.lgr.track.any (fun t => decide (t.id = e.id)) then s
  else { s with lgr := { s.lgr with track := s.lgr.track ++ [{ stream := n, id := e.id, birth := e.birth, bank := e.bank }] } }

/-- One record of a MIRROR frame (R377): an entry whose CHECK holds is written as received. -/
def State.mirrorRecord (s : State) (r : List Byte) : State :=
  let at_ (i n : Nat) : Nat := bytesNat ((r.drop i).take n)
  let n := at_ 1 1 % 4
  let b := (r.drop 4).take 32
  if at_ 0 1 = 0 then
    let i := at_ 2 2
    if (crc16 (b.take 30)).toNat = at_ 34 2 then
      let f := s.free
      ((f.2.setEntry n i (entryOfBytes b ((f.1.setWidth 48).toNat))).mirrorItems n).mirrorTrack n i
    else ((s.bump R.LGR_ERRCNT.CHKERR 1).raise R.LGR_EVENTS.CHKERR).report (.ledgerEntry i)
  else if at_ 0 1 = 1 then
    let s := (s.put (R.LGR_STREAM_NEXTSEQ.NEXTSEQ n) (at_ 4 4)).put (R.LGR_STREAM_OLDEST.NEXTSEQ n) (at_ 8 4)
    let s := s.put R.LGR_RECSEQ.RECSEQ (at_ 12 4)
    let s := if s.g (R.LGR_STREAM_STATUS.BANK n) = at_ 16 4 % 2 then s
      else (s.putB (R.LGR_STREAM_STATUS.APPLYPEND n) true).bankFlip n
    let x := s.stream n
    let f := s.free
    let full := if at_ 20 4 = 0xFFFFFFFF then none
      else match x.full with
        | some (a, _, t) => if idSeq a = at_ 20 4 % 2 ^ 30 then some (a, mkId n (at_ 24 4), t) else some (mkId n (at_ 20 4), mkId n (at_ 24 4), (f.1.setWidth 48).toNat)
        | none => some (mkId n (at_ 20 4), mkId n (at_ 24 4), (f.1.setWidth 48).toNat)
    let s := (f.2.setStream n { x with full := full }).putB (R.LGR_STREAM_STATUS.OVERFLOW n) full.isSome
    s.mirrorItems n
  else s

/-- The records of a MIRROR payload. -/
def State.mirrorApply (s : State) (d : List Byte) : State :=
  (List.range (bytesNat ((d.drop 8).take 2))).foldl (fun s i => s.mirrorRecord ((d.drop (12 + 36 * i)).take 36)) s

/-- A MIRROR frame (R377, R385): applied, or kept for the snapshot's end; acknowledged at once. -/
def State.onMirror (s : State) (d : List Byte) : State :=
  if s.twState < 4 then s
  else
    let s := match s.twin.snap with
      | some l => s.setTwinBlk (fun t => { t with snap := some (l ++ [d]) })
      | none => s.mirrorApply d
    let t := bytesNat (d.take 8)
    (s.setTwinBlk (fun x => { x with
      tAck := t, shadow := x.shadow.filter (fun y => decide (t < y.2)), doubt := x.doubt.filter (fun y => decide (t < y.tick)) })).sendAck s.twinPort 0x42

/-- SNAPEND (R385, R386): the ledger held before goes, its entries and the records it still kept count in DISCARDED. -/
def State.onSnapEnd (s : State) : State :=
  match s.twin.snap with
  | none => s
  | some l =>
    let old := (s.lgr.entries.filter (fun e => decide (e.2.st ≠ itFREE))).length + s.lgr.suspects.length
    let s := s.bump R.TWIN_ERRCNT.DISCARDED old
    let s : State := { s with lgr := { s.lgr with entries := [], suspects := [], due := [] } }
    let s := s.put R.LGR_STATUS.OPEN 0
    let s := s.each (List.range 4) (fun s n =>
      ((s.setStream n { s.stream n with items := [], born := [], full := none }).put (R.LGR_STREAM_STATUS.OPEN n) 0).putB (R.LGR_STREAM_STATUS.OVERFLOW n) false)
    (l.foldl State.mirrorApply s).setTwinBlk (fun t => { t with snap := none, synced := true, fails := 0 })

/-- RESYNCREQ (R385): every entry, every stream's counters, SNAPEND, and VMASTER for each virtual master compared. -/
def State.onResyncReq (s : State) : State :=
  let s := if s.twState = twSOLO && s.twinUp then s.setTwin twPRIMARY else s
  if s.twState ≠ twPRIMARY then s
  else
    let all := (s.lgr.entries.filter (fun e => decide (e.2.st ≠ itFREE))).map (fun e => (e.1, s.mirrorEntry e.1))
    let ctrs := (List.range 4).map (fun n => (65536 + n, s.mirrorStream n))
    let s : State := { s with lgr := { s.lgr with changed := s.lgr.changed ++ all ++ ctrs } }
    let s := (s.setTwinBlk (fun t => { t with sentCtr := (List.range 4).foldl (fun m n => m.set n (s.counters n)) [] })).mirrorFlush
    let s := s.twinControl 2 0 0 0 0
    s.each ((maskBits (s.g R.TWIN_AXCHK.AXMASK) 16).filter (fun n => s.g (R.ANG_AXIS_CFG.KIND n) = 2)) (fun s n =>
      let a := s.axis n
      s.twinControl 3 n (s.plantNs.toNat + 10000) (moveBy a.value ((a.vel * 2500 + a.frac) / 65536)) (BitVec.ofInt 32 (a.vel / 256)))

/-- VMASTER (R385). -/
def State.onVmaster (s : State) (axis tick : Nat) (value : DWord) (vel : Word) : State :=
  if s.twState < 4 then s else s.setTwinBlk (fun t => { t with vmaster := t.vmaster ++ [(tick, axis, value, vel.toInt * 256)] })

/-- What a standby works out at each tick (R380): births, deadlines and closes that fall, from a copy of the ledger that acts. The
axis values are kept for the comparison of R375. -/
def State.mirrorTick (s : State) : State :=
  let s := s.each (List.range 4) State.streamDue
  let now := s.plantNs.toNat
  let bare : State := s.each (List.range 4) (fun s n => s.setStream n { s.stream n with items := [], born := [], full := none })
  let bare := ({ bare with lgr := { bare.lgr with entries := [] } } : State).put R.TWIN_STATUS.STATE twSOLO
  let after := bare.each (List.range 4) State.births
  let born : List Doubt := (List.range 4).flatMap (fun n => (after.stream n).born.map (fun k =>
    let e := after.entry (after.entryOf n k)
    { id := mkId n k, tick := now, birth := some (e.birth, e.birthTime, e.jump) }))
  let ev := ({ s with lgr := { s.lgr with due := [] } } : State).each (List.range 4) (fun s n => (s.trackTick n).each (s.stream n).items (fun s k => s.itemEvents n k))
  let dues : List Doubt := ev.lgr.due.map (fun d => { id := d.id, tick := now, due := some d })
  let lostNow := (List.range 4).filter (fun n => !(s.stream n).lost && decide (s.axState (s.g (R.LGR_STREAM_CFG.AXIS n)) = axLOST))
  let lost : List Doubt := lostNow.flatMap (fun n => (s.stream n).items.map (fun k => { id := mkId n k, tick := now }))
  let s := s.each (List.range 4) (fun s n => s.setStream n { s.stream n with
    last := (after.stream n).last, stamps := (after.stream n).stamps, lost := (s.stream n).lost || lostNow.contains n })
  let s : State := { s with lgr := { s.lgr with passes := ev.lgr.passes, track := ev.lgr.track } }
  s.setTwinBlk (fun t => { t with doubt := t.doubt ++ born ++ dues ++ lost })

/-- The axis values of this tick enter the history while twin operation is enabled. -/
def State.histTick (s : State) : State :=
  if s.on R.TWIN_CFG.EN then
    s.setTwinBlk (fun t => { t with hist := (s.plantNs.toNat, (List.range 16).map (fun n => (s.axis n).value)) :: t.hist.take 127 })
  else s

/-! ### Takeover (R378 to R381) -/

/-- The births in doubt enter the ledger, in order: the device works them out as the partner did (R380). -/
def State.doubtBirths (s : State) : State :=
  s.twin.doubt.foldl (fun s d =>
    match d.birth with
    | some (v, t, j) =>
      let n := idStream d.id
      let k := idSeq d.id
      if (s.stream n).born.contains k then s
      else
        let last := (s.stream n).last
        let s := s.birth n (k : Int) v t j
        s.setStream n { s.stream n with last := last }
    | none => s) s

/-- Doubtful items close FAILED(TWIN) (R380). -/
def State.doubtClose (s : State) : State :=
  let ids := ((s.twin.doubt.filter (fun d => decide (s.twin.tAck < d.tick))).map (·.id)
    ++ (s.twin.shadow.filter (fun x => decide (s.twin.tAck < x.2))).map (·.1)).eraseDups
  ids.foldl (fun s id =>
    let n := idStream id
    let i := s.entryOf n (idSeq id)
    let e := s.entry i
    if e.id = id && (e.st = itOPEN || e.st = itMARKED) then s.failItem n i rsTWIN s.plantNs.toNat else s) s

/-- The gate pairs of MARKED items whose pair the old primary had pushed are pushed here (R381). -/
def State.regate (s : State) : State :=
  s.each (List.range 4) (fun s n => s.each (s.stream n).items (fun s k =>
    let i := s.entryOf n k
    if (s.entry i).st = itMARKED && (s.entry i).gated then s.gatePush n i else s))

/-- RSTPEER: RESETREQ goes to the partner (R384). -/
def State.askReset (s : State) : State := s.twinControl 6 0 0 0 0

/-- A takeover (R379). -/
def State.takeover (s : State) : State :=
  let unsynced := decide (s.twState ≠ twSTANDBY)
  let s := s.setTwin twSOLO
  let s := if unsynced then s.put R.TWIN_STATUS.DETREASON 5 else s
  let s := s.doubtBirths.doubtClose.regate
  let s := s.setTwinBlk (fun t => { t with doubt := [], shadow := [], snap := none, vmaster := [], hoT := none })
  let s := (s.putB R.TWIN_STATUS.HOPEND false).raise R.TWIN_EVENTS.TAKEOVER
  let s := (s.wr R.TWIN_LASTTO_LO.reg (s.plantNs.setWidth 32)).wr R.TWIN_LASTTO_HI.reg ((s.plantNs >>> 32).setWidth 32)
  if s.on R.TWIN_CFG.AUTORST then s.askReset else s

/-- May a device in this state take over (R378)? -/
def State.takesOver (s : State) : Bool :=
  s.twState = twSTANDBY || ((s.twState = twSYNCING || s.twState = twDETACHED) && s.on R.TWIN_CFG.TAKEUNSYNC)

/-- The partner is declared lost (R378). -/
def State.primaryLost (s : State) : State :=
  if s.twState = twPRIMARY then (s.raise R.TWIN_EVENTS.PEERLOST).setTwin twSOLO
  else if s.twState < 4 || s.twin.waiting then s
  else
    let s := s.raise R.TWIN_EVENTS.PEERLOST
    if s.on R.TWIN_CFG.LEASEEN && s.on R.TWIN_STATUS.LEASEIN then s.setTwinBlk (fun t => { t with waiting := true })
    else if s.takesOver then s.takeover else s

/-- LEASE_IN is still high 1 µs after the loss (R378). -/
def State.leaseTimeout (s : State) : State :=
  if s.twin.waiting then
    (((s.setTwin twUNPAIRED).putB R.TWIN_STATUS.LINKFAULT true).raise R.TWIN_EVENTS.LINKFAULT)
  else s

/-- LEASE_IN has a new level (R369): a device that waits for it to fall takes over. Without LEASEEN the pin is not sampled. -/
def State.leaseIn (s : State) (high : Bool) : State :=
  if !s.on R.TWIN_CFG.LEASEEN then s
  else
    let s := s.putB R.TWIN_STATUS.LEASEIN high
    if !high && s.twin.waiting then
      let s := s.setTwinBlk (fun t => { t with waiting := false })
      if s.takesOver then s.takeover else s
    else s.twinFollow

/-! ### Heartbeats (R373 to R375) -/

/-- CTXSUM of Table 15.4. -/
def State.ctxSum (s : State) : Word :=
  crc32c ((List.range 512).flatMap (fun g =>
    if s.on (R.CTX_REGION_STATUS.HASACT g) then
      let c := s.g (R.CTX_REGION_STATUS.ACT g)
      natBytes g 2 ++ natBytes c 1 ++ natBytes (s.g (R.CTX_SLOT_STATE.IMGTAG (g * 8 + c))) 2
    else []))

/-- HEARTBEAT_SEND (R373). The axes sent are those of the last tick. -/
def State.heartbeatSend (s : State) : State :=
  if !s.on R.TWIN_CFG.EN || !s.twinUp || s.halted || s.on R.RST_STATUS.FABBUSY || s.twin.yielded then s
  else
    let hb := natBytes s.stamp.toNat 8
      ++ natBytes (s.twState + (s.on R.TWIN_STATUS.SEL).toNat * 8 + (s.on R.TWIN_STATUS.LEASEOUT).toNat * 16 + (s.on R.TWIN_STATUS.TLOCK).toNat * 32) 1
      ++ natBytes 0 1 ++ natBytes (((s.vport s.twinPort).txSeq.get 0x42 + 65535) % 65536) 2 ++ wordBytes s.ctxSum ++ natBytes s.plantNs.toNat 8
      ++ natBytes (s.g R.TWIN_AXCHK.AXMASK) 2 ++ natBytes 0 2 ++ (List.range 16).flatMap (fun n => natBytes (s.axis n).value.toNat 8) ++ natBytes 0 2
    s.vSend s.twinPort { src := s.node, chan := 0x40, len := 160, data := withCrc hb }

/-- The axis values held at a plant time: those of the last tick not after it. -/
def State.histAt (s : State) (t : Nat) : Option (List DWord) := (s.twin.hist.find? (fun h => decide (h.1 ≤ t))).map (·.2)

/-- The first comparison of R375 that a heartbeat fails: 1 CTXSUM, 2 AXIS, 3 TIME, 0 none. -/
def State.lockstep (s : State) (d : List Byte) : Nat :=
  let at_ (i n : Nat) : Nat := bytesNat ((d.drop i).take n)
  let tol : Int := (s.g R.TWIN_AXCHK.AXTOL : Int) * 65536
  let axesOk := match s.histAt (at_ 16 8) with
    | some vs => (maskBits (s.g R.TWIN_AXCHK.AXMASK) 16).all (fun n =>
        decide ((sdiff (vs.getD n 0) (BitVec.ofNat 64 (at_ (28 + 8 * n) 8))).natAbs ≤ tol.toNat))
    | none => decide (s.g R.TWIN_AXCHK.AXMASK = 0)
  if s.ctxSum.toNat ≠ at_ 12 4 then 1 else if !axesOk then 2 else if !s.on R.TWIN_STATUS.TLOCK then 3 else 0

/-- A heartbeat is compared (R375). -/
def State.lockstepCheck (s : State) (d : List Byte) : State :=
  match s.lockstep d with
  | 0 => s.setTwinBlk (fun t => { t with fails := 0 })
  | r =>
    let s := (s.bump R.TWIN_ERRCNT.DIFFCNT 1).setTwinBlk (fun t => { t with fails := t.fails + 1 })
    if s.twState = twSTANDBY && decide (2 ≤ s.twin.fails) then
      ((s.setTwin twDETACHED).put R.TWIN_STATUS.DETREASON r).raise R.TWIN_EVENTS.DETACHED
    else s

/-- A received heartbeat (R370, R374, R375). -/
def State.onHeartbeat (s : State) (d : List Byte) : State :=
  if !s.on R.TWIN_CFG.EN then s
  else
    let b8 := bytesNat ((d.drop 8).take 1)
    let peer := b8 % 8
    let sel := b8.testBit 3
    let s := s.putB R.TWIN_STATUS.PEERSEL sel
    let s := if s.twinTime then
        let s := s.syncApply s.twinPort 1 (BitVec.ofNat 64 (bytesNat (d.take 8)))
        s.putB R.TWIN_STATUS.TLOCK (decide (s.g R.VSM_STATUS.TSTATE = 2))
      else s
    if s.twState = twUNPAIRED then
      (if (peer = twPRIMARY || peer = twSOLO) && s.twinUp then
        (if sel = s.on R.TWIN_STATUS.SEL then s.put R.TWIN_STATUS.DETREASON 4 else s.twinSync)
       else s)
    else if s.twState = twSOLO && decide (peer = twSYNCING) && s.twinUp then s.setTwin twPRIMARY
    else if s.twState = twSYNCING || s.twState = twSTANDBY then s.lockstepCheck d
    else s

/-- CONVERGE ms of passed checks have gone by since the resynchronisation was complete (R385). -/
def State.converged (s : State) : State :=
  if s.twState = twSYNCING && s.twin.synced && decide (s.twin.fails = 0) then (s.setTwin twSTANDBY).raise R.TWIN_EVENTS.READY else s

/-! ### Handover, yield, reset of the partner (R383, R384) -/

/-- A write of HANDOVER (R383). -/
def State.handoverRequest (s : State) : State :=
  let t := (s.rw R.TWIN_HOTIME_LO.reg).toNat + (s.rw R.TWIN_HOTIME_HI.reg).toNat * 2 ^ 32
  if s.twState ≠ twPRIMARY || decide (t % 4 ≠ 0) then s.raise R.TWIN_EVENTS.HOERR
  else (s.setTwinBlk (fun x => { x with hoT := some t })).twinControl 4 0 t 0 0

/-- CONTROL HANDOVER (R383). -/
def State.onHandover (s : State) (t : Nat) : State :=
  if s.twState = twSTANDBY && decide (s.plantNs.toNat + 100000 ≤ t) then
    ((s.setTwinBlk (fun x => { x with hoT := some t })).putB R.TWIN_STATUS.HOPEND true).twinControl 5 0 t 0 0
  else s.raise R.TWIN_EVENTS.HOERR

/-- CONTROL HOACK (R383). -/
def State.onHoack (s : State) : State :=
  if s.twState = twPRIMARY && s.twin.hoT.isSome then s.putB R.TWIN_STATUS.HOPEND true else s

/-- At T the roles swap (R383). The new primary's ledger holds the births it worked out, and evaluates the deadlines and closes
that the mirror had not yet shown. -/
def State.handoverAtT (s : State) : State :=
  match s.twin.hoT with
  | none => s
  | some _ =>
    let acc := s.on R.TWIN_STATUS.HOPEND
    let s := (s.putB R.TWIN_STATUS.HOPEND false).setTwinBlk (fun t => { t with hoT := none })
    if s.twState = twPRIMARY then
      (if acc then ((s.setTwin twSTANDBY).raise R.TWIN_EVENTS.HANDOVER).mirrorBegin else s.raise R.TWIN_EVENTS.HOERR)
    else if s.twState = twSTANDBY && acc then
      let s := ((s.setTwin twPRIMARY).raise R.TWIN_EVENTS.HANDOVER).doubtBirths
      let s : State := { s with lgr := { s.lgr with due := s.twin.doubt.filterMap (·.due) } }
      let s := s.regate.setTwinBlk (fun t => { t with doubt := [], shadow := [], sentCtr := [] })
      s.lgrRun.mirrorFlush
    else s

/-- A write of YIELD (R383). -/
def State.yieldRole (s : State) : State :=
  if s.twState = twPRIMARY then (s.setTwin twUNPAIRED).setTwinBlk (fun t => { t with yielded := true }) else s

/-! ### Enabling (R370, R371, R387) -/

/-- TWIN_CFG with EN = 1 written (R370, R387): PORT and LEASEEN are taken only in OFF. -/
def State.twinCfgWrite (s : State) (v : Word) : State :=
  let old := s.rw R.TWIN_CFG.reg
  let off := decide (s.twState = twOFF)
  let fixed : Word := 0x4000003F#32
  let s := if !off && decide ((v ^^^ old) &&& fixed ≠ 0#32) then s.raise R.TWIN_EVENTS.CFGERR else s
  let kept := if off then v &&& fixed else old &&& fixed
  let s := s.wr R.TWIN_CFG.reg (kept ||| (v &&& 0x38000000#32) ||| (old &&& 0x80000000#32))
  if v.getLsbD 31 then
    (if off then ((s.raise R.TWIN_CFG.EN).setTwin twUNPAIRED).twinFollow else s)
  else if off then s
  else if s.twState = twSOLO || s.twState = twPRIMARY then s.raise R.TWIN_EVENTS.CFGERR
  else
    let s := (s.put R.TWIN_CFG.EN 0).setTwin twOFF
    (s.putB R.TWIN_STATUS.HOPEND false).setTwinBlk (fun t => { mirrorNo := t.mirrorNo })

/-- A write to TWIN_LEASE, TWIN_AXCHK or a share mask (R387): only in OFF. -/
def State.twinFixedWrite (s : State) (a : Nat) (v : Word) : State :=
  if s.twState = twOFF then s.wr a v else s.raise R.TWIN_EVENTS.CFGERR

/-! ### Commands -/

/-- TWIN_ENABLE (R370): TWIN_CFG written with EN = 1. -/
def execTwinEnable (cfg : Word) (s : State) : Host.Outcome State Fault Refusal := done (s.twinCfgWrite (cfg ||| 0x80000000#32)).transmit
/-- TWIN_DISABLE (R371): TWIN_CFG written with EN = 0. -/
def execTwinDisable (cfg : Word) (s : State) : Host.Outcome State Fault Refusal := done (s.twinCfgWrite (cfg &&& 0x7FFFFFFF#32)).transmit
/-- SOLOWAIT_EXPIRY (R370). -/
def execSolowaitExpiry (s : State) : Host.Outcome State Fault Refusal :=
  done (if s.twState = twUNPAIRED && !s.on R.TWIN_STATUS.LEASEIN && !s.twinUp && !s.halted then s.setTwin twSOLO else s).transmit
/-- HEARTBEAT_SEND (R373). -/
def execHeartbeatSend (s : State) : Host.Outcome State Fault Refusal := done s.heartbeatSend.transmit
/-- HEARTBEAT (R375). -/
def execHeartbeat (data : List Byte) (s : State) : Host.Outcome State Fault Refusal := done (s.onHeartbeat data).transmit
/-- PRIMARY_LOST (R378). -/
def execPrimaryLost (s : State) : Host.Outcome State Fault Refusal := done s.primaryLost.transmit
/-- LEASE_WAIT_TIMEOUT (R378). -/
def execLeaseWaitTimeout (s : State) : Host.Outcome State Fault Refusal := done s.leaseTimeout.transmit
/-- LEASE_IN_CHANGE (R369). -/
def execLeaseInChange (high : Bool) (s : State) : Host.Outcome State Fault Refusal := done (s.leaseIn high).transmit
/-- MIRROR (R377). -/
def execMirror (data : List Byte) (s : State) : Host.Outcome State Fault Refusal := done (s.onMirror data).transmit
/-- RESYNCREQ (R385). -/
def execResyncreq (s : State) : Host.Outcome State Fault Refusal := done s.onResyncReq.transmit
/-- SNAPEND (R385). -/
def execSnapend (s : State) : Host.Outcome State Fault Refusal := done s.onSnapEnd
/-- VMASTER (R385). -/
def execVmaster (axis : Nat) (tick : DWord) (value : DWord) (vel : Word) (s : State) : Host.Outcome State Fault Refusal :=
  done (s.onVmaster axis tick.toNat value vel)
/-- HANDOVER (R383). -/
def execHandover (t : DWord) (s : State) : Host.Outcome State Fault Refusal := done (s.onHandover t.toNat).transmit
/-- HOACK (R383). -/
def execHoack (s : State) : Host.Outcome State Fault Refusal := done s.onHoack
/-- HANDOVER_REQUEST (R383). -/
def execHandoverRequest (s : State) : Host.Outcome State Fault Refusal := done s.handoverRequest.transmit
/-- HANDOVER_AT_T (R383). -/
def execHandoverAtT (s : State) : Host.Outcome State Fault Refusal := done s.handoverAtT.transmit
/-- YIELD (R383). -/
def execYield (s : State) : Host.Outcome State Fault Refusal := done s.yieldRole.transmit
/-- RESYNC (R370). -/
def execResync (s : State) : Host.Outcome State Fault Refusal := done (if s.twState = twDETACHED then s.twinSync else s).transmit
/-- RSTPEER (R384). -/
def execRstpeer (s : State) : Host.Outcome State Fault Refusal := done s.askReset.transmit
/-- CONVERGE_COMPLETE (R385). -/
def execConvergeComplete (s : State) : Host.Outcome State Fault Refusal := done s.converged.transmit

end Sys2Proof.Machine
end

