-- ==== Sys2Proof/Machine/Link.lean ====
section
/-! DEFINITION. A received frame (spec/14, R340 to R350; spec/15, R372): checked, numbered, delivered or forwarded. With it the
commands whose effects reach both the link and the ledger or the network. -/

namespace Sys2Proof.Machine

/-! ### Sequence numbers (R342, R343) -/

/-- The numbers from `a` up to but not including `b`, modulo 2^16. -/
def seqsBetween (a b : Nat) : List Nat := (List.range ((b + 65536 - a) % 65536)).map (fun i => (a + i) % 65536)

/-- Failed numbers of a channel are counted and recorded, and the first is NAKed when the channel is replayed. -/
def State.seqFail (s : State) (p chan : Nat) (rep : Bool) (l : List Nat) : State :=
  match l with
  | [] => s
  | k :: _ =>
    let s := s.failCount p chan ((l.getLast?).getD k) l.length
    if rep then (s.updVport p (fun x => { x with missing := x.missing ++ l.map (fun q => (chan, q)) })).sendNak p chan k else s

/-- A frame's number is judged; `ok` says that the frame passed its checks. The result says whether the frame is accepted. -/
def State.seqTake (s : State) (p : Nat) (f : VFrame) (ok : Bool) : State × Bool :=
  let x := s.vport p
  let rep := replayed f
  let exp := x.rxSeq.get f.chan
  if x.missing.contains (f.chan, f.seq) then
    (if ok then (s.setVport p { x with missing := x.missing.filter (fun m => !(m.1 = f.chan && decide (m.2 = f.seq))) }, true)
     else (s.sendNak p f.chan f.seq, false))
  else if (f.seq + 65536 - exp) % 65536 < 32768 then
    let gap := seqsBetween exp f.seq
    let s := s.setVport p { x with rxSeq := x.rxSeq.set f.chan ((f.seq + 1) % 65536) }
    (s.seqFail p f.chan (rep || decide (f.chan = 0)) (if ok then gap else gap ++ [f.seq]), ok)
  else (if rep then s.sendAck p f.chan else s, false)

/-- An accepted frame of a replayed channel is owed an ACK, sent at the sixteenth (R343). -/
def State.ackOwe (s : State) (p : Nat) (f : VFrame) : State :=
  if replayed f then
    let n := (s.vport p).ackDue.get f.chan + 1
    let s := s.updVport p (fun x => { x with ackDue := x.ackDue.set f.chan n })
    if 16 ≤ n then s.sendAck p f.chan else s
  else s

/-! ### Delivery -/

/-- A received ACK; MIRROR frames it covers are acknowledged (R376). -/
def State.linkAck (s : State) (p chan seq : Nat) : State :=
  let nos (s : State) : List Nat := ((s.vport p).replay.filter (fun e => e.1.chan = 0x42)).map (fun e => e.1.etag)
  let before := nos s
  let s := s.onAck p chan seq
  if chan = 0x42 then
    let after := nos s
    s.setTwinBlk (fun t => { t with unacked := t.unacked.filter (fun u => !(before.contains u.1 && !after.contains u.1)) })
  else s

/-- RESETREQ (R384): the request is noted; whether it is acted on is for the reset controller. -/
def State.resetReqOk (s : State) : Bool :=
  s.on R.TWIN_CFG.ACCRST && (s.halted || !(s.twState = twSOLO || s.twState = twPRIMARY))

/-- A CONTROL frame (Table 15.6). -/
def State.onControl (s : State) (d : List Byte) : State :=
  let at_ (i n : Nat) : Nat := bytesNat ((d.drop i).take n)
  match at_ 0 1 with
  | 1 => s.onResyncReq
  | 2 => s.onSnapEnd
  | 3 => s.onVmaster (at_ 1 1) (at_ 8 8) (BitVec.ofNat 64 (at_ 16 8)) (BitVec.ofNat 32 (at_ 24 4))
  | 4 => s.onHandover (at_ 8 8)
  | 5 => s.onHoack
  | 6 => s.setTwinBlk (fun t => { t with asked := true })
  | _ => s

/-- A frame on channel 0 (Table 14.4). -/
def State.deliverLink (s : State) (p : Nat) (f : VFrame) : State :=
  let at_ (i n : Nat) : Nat := bytesNat ((f.data.drop i).take n)
  match at_ 0 1 with
  | 1 => s.linkAck p (at_ 1 1) (at_ 2 2)
  | 2 => s.onNak p (at_ 1 1) (at_ 2 2)
  | 3 => if at_ 6 1 ≤ pow2Floor (s.lanesUp p) then s.vControl p 4 (natBytes 0 1 ++ natBytes (at_ 2 2) 2) else s
  | 4 => s.onWidenAck p (at_ 2 2)
  | 5 => if f.dest = s.node then s.originFail (at_ 1 1) (at_ 4 2) (at_ 6 1) else s.forwardFrame p f
  | 6 => if f.dest = s.node then s.onRack (at_ 1 1) (BitVec.ofNat 32 (at_ 2 4)) else s.forwardFrame p f
  | _ => s

/-- A frame on the TIME or the TWTIME channel (Table 14.6). -/
def State.deliverTime (s : State) (p : Nat) (f : VFrame) : State :=
  let at_ (i n : Nat) : Nat := bytesNat ((f.data.drop i).take n)
  match at_ 0 1 with
  | 1 => if f.chan = 1 then s.onSync p (at_ 1 1) (at_ 2 2) (BitVec.ofNat 64 (at_ 4 8)) (BitVec.ofNat 64 (at_ 12 8)) else s
  | 2 => s.onDreq p
  | 3 => s.onDrsp p (BitVec.ofNat 64 (at_ 4 8)) (BitVec.ofNat 64 (at_ 12 8))
  | _ => s

/-- A frame for this device is acted on, by channel (Tables 14.3 and 15.3). -/
def State.deliver (s : State) (p : Nat) (f : VFrame) : State :=
  let at_ (i n : Nat) : Nat := bytesNat ((f.data.drop i).take n)
  if f.chan = 2 then s.onSwitch (at_ 0 4) (at_ 4 8)
  else if f.chan < 0x20 then
    s.onAngle (f.chan - 0x10) f.src (BitVec.ofNat 64 (at_ 0 8)) (BitVec.ofNat 32 (at_ 8 4)) (BitVec.ofNat 64 (at_ 12 8)) (at_ 20 1)
  else if f.chan < 0x30 then s.onReport (f.chan - 0x20) f.src f.data
  else if f.chan = 0x30 then s.onTunnelled f.src f.etag f.op f.addr f.len f.data
  else if f.chan = 0x31 then s.tunAnswer f.etag f.op f.detail f.data
  else if f.chan = 0x40 then s.onHeartbeat f.data
  else if f.chan = 0x42 then s.onMirror f.data
  else if f.chan = 0x43 then s.onControl f.data
  else if f.chan = 0x44 then s.onTunnelled 0x10000 f.etag f.op f.addr f.len f.data
  else if f.chan = 0x45 then (if p = s.twinPort then s.tunAnswer f.etag f.op f.detail f.data else s)
  else s

/-- A broadcast frame (R350): delivered, and forwarded on the other tree ports that are UP. -/
def State.broadcast (s : State) (p : Nat) (f : VFrame) : State :=
  if !s.treePorts.contains p then s.failCount p f.chan f.seq 1
  else
    let s := s.deliver p f
    if s.node = 0 then s
    else if f.hops = 0 then s.vFail p f 0x84
    else s.each (s.treePorts.filter (· ≠ p)) (fun s q => s.vSend q { f with hops := f.hops - 1 })

/-- Where an accepted frame goes (R349, R350, R372). -/
def State.frameGo (s : State) (p : Nat) (f : VFrame) : State :=
  if f.chan = 0 then s.deliverLink p f
  else if f.chan = 1 || f.chan = 0x41 then s.deliverTime p f
  else if 0x40 ≤ f.chan then s.deliver p f
  else if f.dest = 0xFFFF then s.broadcast p f
  else if f.dest = s.node && s.node ≠ 0 then s.deliver p f
  else s.forwardFrame p f

/-- FRAME_RECEIVE (R340): header and payload without SOF, padding and EOF. -/
def State.frameReceive (s : State) (p : Nat) (raw : List Byte) : State :=
  let r := parseFrame raw
  let f := r.1
  let s := if f.chan = 0 && decide (f.data.headD 0#8 = 1#8) && r.2.1 && r.2.2 then s.portHeard p else s
  if !s.isUp p then s
  else
    if !r.2.1 then ((s.bump (R.VSM_PORT_ERRCNT.HDRERR p) 1).report (.frame p f.chan)).sendNak p 0xFF 0
    else if !r.2.2 || !chanKnown f.chan then
      let s := (s.bump (R.VSM_PORT_ERRCNT.CTLERR p) 1).report (.frame p f.chan)
      if chanKnown f.chan then (s.seqTake p f false).1 else s
    else if !s.carries p f.chan then s.failCount p f.chan f.seq 1
    else
      let x := s.seqTake p f true
      if x.2 then (x.1.ackOwe p f).frameGo p f else x.1

/-! ### Commands -/

/-- ACK (R343). -/
def execAck (p chan seq : Nat) (s : State) : Host.Outcome State Fault Refusal := done ((s.portHeard p).linkAck p chan seq).transmit
/-- PORT_DOWN (R347). -/
def execPortDown (p : Nat) (s : State) : Host.Outcome State Fault Refusal :=
  done (if s.vstate p = vsDOWN then s else (s.portDown p).twinFollow).transmit
/-- TUNNEL_REQUEST (R360). -/
def execTunnelRequest (q : Req) (s : State) : Host.Outcome State Fault Refusal := done (s.tunnel q).transmit
/-- POST_RESOLVE (R163, R164). -/
def execPostResolve (s : State) : Host.Outcome State Fault Refusal := done s.postResolve.mirrorFlush.transmit
/-- RECORD_RELEASE (R173): a record for the Vasum path is sent. -/
def execRecordRelease (n : Nat) (s : State) : Host.Outcome State Fault Refusal := done ((s.recordRelease n).mirrorFlush.sendReports false).transmit
/-- NOC_RESPONSE: a response reaches its initiator. -/
def execNocResponse (ini tag : Nat) (s : State) : Host.Outcome State Fault Refusal := done (s.takeResponse ini tag).vsmAnswers.hostAnswers
/-- INITIATOR_TIMEOUT (R301). -/
def execInitiatorTimeout (ini tag : Nat) (s : State) : Host.Outcome State Fault Refusal := done (s.initiatorTimeout ini tag).vsmAnswers.hostAnswers
/-- NOC_RECLAIM (R302): the supervisor's. -/
def execNocReclaim (w : Who) (ep : Nat) (s : State) : Host.Outcome State Fault Refusal :=
  done (if w = .super then ((s.nocReclaim ep).answerWith stOK []).vsmAnswers.hostAnswers else s.answerWith stERR [])

end Sys2Proof.Machine
end

