-- ==== Sys2Proof/Machine/Xbar.lean ====
section
/-! DEFINITION. The crossbar and the machine I/O pins (spec/16, R388 to R407): staged tables, commit groups, reclaim, table
checks, pin state, readback and pin interrupts. -/

namespace Sys2Proof.Machine

/-! ### Tables and stages -/

/-- The crossbar's state changed. -/
def State.setXbar (s : State) (f : Xbar → Xbar) : State := { s with xbar := f s.xbar }

/-- The keys of source `n` and of destination `n`. -/
def xKey (input : Bool) (n : Nat) : Nat := if input then 1024 + n else n
/-- The register in force and the stage register of a key. -/
def xForceReg (k : Nat) : Nat := if k < 1024 then R.XBAR_SRC_DEST.reg k else R.XBAR_IN_SEL.reg (k - 1024)
def xStageReg (k : Nat) : Nat := if k < 1024 then R.XBAR_SRC_STAGE.reg k else R.XBAR_IN_STAGE.reg (k - 1024)
/-- The mark under which a table entry's failed check is kept. -/
def xBadKey (table n : Nat) (stage : Bool) : Nat := table * 2048 + (if stage then 1024 else 0) + n
/-- The bad mark of a stage. -/
def xStageBad (k : Nat) : Nat := xBadKey (k / 1024) (k % 1024) true

/-- The fields of XBAR_SRCn_DEST and of XBAR_INn_SEL. -/
def xMask (k : Nat) : Word := if k < 1024 then 0xF7FF07FF#32 else 0xF0001BFF#32

/-- The commit group a stage word names. -/
def groupOf (v : Word) : Nat := v.toNat / 2 ^ 28

/-- Does an enabled field name a pin above 639 or a source above 0x2C3 (R401)? -/
def badStage (k : Nat) (v : Word) : Bool :=
  let x := v.toNat
  if k < 1024 then (v.getLsbD 10 && decide (639 < x % 1024)) || (v.getLsbD 26 && decide (639 < x / 65536 % 1024))
  else v.getLsbD 12 && decide ((if v.getLsbD 11 then 0x2C3 else 639) < x % 1024)

/-- XBAR_STATUS.PEND shows the groups with a pending stage. -/
def State.xbarShow (s : State) : State :=
  let gs := s.xbar.pend.filterMap (fun e => e.2.map (fun x => groupOf x.word))
  s.put R.XBAR_STATUS.PEND ((List.range 16).foldl (fun m g => if gs.contains g then m + 2 ^ g else m) 0)

/-- May `who` write the stages of group `g` and commit it (R405, R406)? -/
def State.groupAllows (s : State) (g : Nat) (who : Who) : Bool :=
  let sup := decide (who = .super) || decide (who = .image)
  if s.xbar.reclaims.any (fun e => decide (e.2 = g)) then sup
  else match s.g (R.XBAR_CG_CTL.OWNER g) with
    | 0 => true
    | 1 => decide (who = .host)
    | 2 => decide (who = .debug)
    | _ => sup

/-- A refused write or commit bit counts (R405). -/
def State.xDeny (s : State) : State := (s.bump R.XBAR_ERRCNT.DENIED 1).raise R.XBAR_EVENTS.DENIED

/-- A refused write: counted, and an error response (R405). -/
def State.xRefuse (s : State) : State := s.xDeny.answerWith stERR []

/-- A discarded commit counts (R406, R407). -/
def State.xDrop (s : State) : State := (s.bump R.XBAR_ERRCNT.DROPPED 1).raise R.XBAR_EVENTS.DROPPED

/-- A failed table check is recorded, counted and reported (R407). -/
def State.tableFail (s : State) (table n : Nat) (stage : Bool) : State :=
  let s := ((s.put R.XBAR_TBLERR.TABLE table).putB R.XBAR_TBLERR.STAGE stage).put R.XBAR_TBLERR.INDEX n
  ((s.bump R.XBAR_TBLERR.COUNT 1).raise R.XBAR_EVENTS.TBLCHK).report (.xbarTable table n stage)

/-- A pending stage after a write of `v` (R401, R404). -/
def XStage.write (x : Option XStage) (v : Word) : XStage :=
  match x with
  | none => { word := v, fresh := true }
  | some x => { word := v, fresh := true, prior := if x.fresh then x.prior else some x.word }

/-- A write to XBAR_SRCn_DEST or XBAR_INn_SEL (R401, R405): ignored with CFGERR, refused, or staged. -/
def State.stageWrite (s : State) (who : Who) (input : Bool) (n : Nat) (v : Word) : State :=
  let k := xKey input n
  let v := v &&& xMask k
  if badStage k v then (s.raise R.XBAR_EVENTS.CFGERR).answerWith stOK []
  else if s.groupAllows (groupOf (s.rw (xStageReg k))) who && s.groupAllows (groupOf v) who then
    let s := s.setXbar (fun x => { x with pend := x.pend.upd k (fun p => some (XStage.write p v)), bad := x.bad.set (xStageBad k) false })
    (s.wr (xStageReg k) v).xbarShow.answerWith stOK []
  else s.xRefuse

/-- A commit of group `g` waits for crossbar tick `t` (R402). -/
def State.commitAt (s : State) (t g : Nat) : State := s.setXbar (fun x => { x with commits := x.commits ++ [(t, g)] })

/-- A write of `mask` to XBAR_COMMIT (R402, R405). -/
def State.commitWrite (s : State) (who : Who) (mask sub : Nat) : State :=
  (s.each (maskBits mask 16) (fun s g => if s.groupAllows g who then s.commitAt (s.dueXtick sub) g else s.xDeny)).answerWith stOK []

/-- A write of `g` to XBAR_RECLAIM by the supervisor (R406). -/
def State.reclaimWrite (s : State) (g sub : Nat) : State :=
  (s.setXbar (fun x => { x with reclaims := x.reclaims ++ [(s.dueXtick sub, g % 16)] })).answerWith stOK []

/-- A write of XBAR_CGg_CTL (R405): OWNER, by a writer the current OWNER allows. -/
def State.groupOwnerWrite (s : State) (who : Who) (g : Nat) (v : Word) : State :=
  if s.groupAllows g who then
    ((s.put (R.XBAR_CG_CTL.OWNER g) (v.toNat % 4)).setXbar (fun x => { x with bad := x.bad.set (xBadKey 3 g false) false })).answerWith stOK []
  else s.xRefuse

/-- Every pending stage of group `g` returns to its value in force, and the supervisor owns the group (R406, Table 16.8). -/
def State.restage (s : State) (g : Nat) : State :=
  let mine := s.xbar.pend.filterMap (fun e => match e.2 with
    | some x => if groupOf x.word = g then some e.1 else none
    | none => none)
  let s := s.each mine (fun s k =>
    (s.wr (xStageReg k) (s.rw (xForceReg k))).setXbar (fun x => { x with pend := x.pend.set k none, bad := x.bad.set (xStageBad k) false }))
  (s.put (R.XBAR_CG_CTL.OWNER g) 3).xbarShow

/-- The stages of group `g` as they stood at the crossbar tick before: key and word (R404). -/
def State.stagesOf (s : State) (g : Nat) : List (Nat × Word) :=
  s.xbar.pend.filterMap (fun e => match e.2 with
    | some x =>
      (match (if x.fresh then x.prior else some x.word) with
       | some v => if groupOf v = g then some (e.1, v) else none
       | none => none)
    | none => none)

/-- A commit of group `g` takes effect on this tick, unless a stage fails its check (R402 to R404, R407). -/
def State.commitNow (s : State) (g : Nat) : State :=
  let l := s.stagesOf g
  let failed := l.find? (fun e => s.xbar.bad.get (xStageBad e.1))
  match failed with
  | some e => (s.tableFail (e.1 / 1024) (e.1 % 1024) true).xDrop
  | none =>
    let s := l.foldl (fun s e =>
      (s.wr (xForceReg e.1) e.2).setXbar (fun x => { x with
        was := if e.1 < 1024 && (x.was.get e.1).isNone then x.was.set e.1 (some (s.rw (xForceReg e.1))) else x.was
        pend := x.pend.upd e.1 (fun p => match p with
          | some y => if y.fresh then some { y with prior := none } else none
          | none => none)
        bad := x.bad.set (xBadKey (e.1 / 1024) (e.1 % 1024) false) false })) s
    ((s.bump (R.XBAR_CG_CTL.COMMITCNT g) 1).raise R.XBAR_EVENTS.COMMITTED).xbarShow

/-! ### Output sources (Table 16.2) and pins (Table 16.1) -/

/-- A level the spec does not give, one for each wire number. -/
def State.openLevel (s : State) (n : Nat) : Bool := Config.freeWire s.freeCtr n

/-- The level and output enable of source `id` (Table 16.2, R394). A peripheral's lines stand at their idle levels between
the commands that act on its bus; a UART's RTS under flow control is low while it has room (PRESUMED, log entry 11). -/
def State.source (s : State) (id : Nat) : Bool × Bool :=
  if id < 0x200 then
    let g := fxRegion id
    let r := s.region g
    if r.released && s.logicOn g && s.on (R.CTX_REGION_STATUS.HASACT g) then (r.fxo, r.fxoen) else (false, false)
  else if id < 0x280 then (s.edgLevel (id - 0x200), true)
  else if id < 0x290 then
    let e := id - 0x280
    (s.encIsSsi e, s.on (R.PER_ENC_CFG.EN e) && s.encIsSsi e)
  else if id < 0x298 then (false, (s.per.unit.get ((id - 0x290) / 2)).running && s.openLevel (0x1000000 + id))
  else if id < 0x2B0 then
    let n := (id - 0x298) / 6
    let k := (id - 0x298) % 6
    let run := (s.per.unit.get (4 + n)).running
    let en := s.on (R.PER_SPI_CFG.EN n)
    if k = 0 then (if run then s.openLevel (0x1000000 + id) else s.bit (R.PER_SPI_CFG.MODE n) 1, en)
    else if k = 1 then (s.openLevel (0x1000000 + id), en)
    else (!(run && decide (s.g (R.PER_SPI_CFG.CS n) = k - 2)), en)
  else if id < 0x2C0 then
    let n := (id - 0x2B0) / 2
    let en := s.on (R.PER_UART_CFG.EN n)
    if id % 2 = 0 then (!(s.per.unit.get (8 + n)).running || s.openLevel (0x1000000 + id), en)
    else (if s.on (R.PER_UART_CFG.RTSCTS n) then decide (32 ≤ (s.per.unit.get (8 + n)).rx.length) else s.openLevel (0x1000000 + id), en)
  else (s.openLevel (0x1000000 + id), s.openLevel (0x2000000 + id))

/-- The settings of pin `n` in force (R389). -/
def State.pinCfg (s : State) (n : Nat) : Word := s.xbar.pinForce.get n ^^^ resetWord (R.XBAR_PIN_CFG.reg n)
/-- A field of them. -/
def State.pinF (s : State) (n : Nat) (f : Nat → Field) : Nat := (f n).of (s.pinCfg n)

/-- The sources mapped to pin `n` (R398). -/
def State.sourcesOf (s : State) (n : Nat) : List Nat :=
  (s.csr.filter (fun e => decide (0x210000 ≤ e.1) && decide (e.1 < 0x210000 + 4 * 708))).filterMap (fun e =>
    let id := (e.1 - 0x210000) / 4
    let v := s.rw e.1
    if (v.getLsbD 10 && decide (v.toNat % 1024 = n)) || (v.getLsbD 26 && decide (v.toNat / 65536 % 1024 = n)) then some id else none)

/-- The driver of pin `n` under R398 and R399. -/
def State.pinDriver (s : State) (n : Nat) : Option Bool :=
  let on := (s.sourcesOf n).filter (fun id => (s.source id).2)
  let lv := xor (on.any (fun id => (s.source id).1)) (decide (s.pinF n R.XBAR_PIN_CFG.INVOUT = 1))
  let oe := match s.pinF n R.XBAR_PIN_CFG.OEMODE with
    | 0 => !on.isEmpty
    | 2 => true
    | _ => false
  if oe && !(lv && decide (s.pinF n R.XBAR_PIN_CFG.ODRAIN = 1)) then some lv else none

/-- Is the twin state one that drives shared pins (R368)? -/
def State.twinDrives (s : State) : Bool := s.g R.TWIN_STATUS.STATE = 3 || s.g R.TWIN_STATUS.STATE = 2

/-- The rows of Table 16.1 above the last, for pin `n` (R392), the boundary register over rows 2 to 6 (R493): what it drives, and its
pull: 0 none, 1 down, 2 up, 3 keeper; none when no such row holds. -/
def State.pinRow (s : State) (n : Nat) : Option (Option Bool × Nat) :=
  let pull := s.pinF n R.XBAR_PIN_CFG.PULL
  if s.g (R.XBAR_BANK_STATUS.VIO (n / 32)) = 0 then some (none, 0)
  else if s.jtag.force = 1 then some (s.jtag.drive.get n, pull)
  else if s.jtag.force = 2 then some (none, pull)
  else if !s.xbar.pinsOn || !s.pdOn 5 || s.xbar.pinHeld.get n then some (none, 1)
  else if s.on R.RST_STATUS.HALT then
    (match s.pinF n R.XBAR_PIN_CFG.SAFE with
     | 1 => some (some false, pull)
     | 2 => some (some true, pull)
     | _ => some (none, pull))
  else if s.on R.TWIN_CFG.EN && s.bit (R.TWIN_SHARE.SHARE (n / 32)) (n % 32) && !s.twinDrives then some (none, pull)
  else if s.on R.TWIN_CFG.LEASEEN && decide (s.g R.TWIN_LEASE.OUTPIN = n) then some (some (s.on R.TWIN_STATUS.LEASEOUT), pull)
  else if s.on R.TWIN_CFG.LEASEEN && decide (s.g R.TWIN_LEASE.INPIN = n) then some (none, pull)
  else none

/-- The state of pin `n` by the first row of Table 16.1 that holds (R392): by its mapped sources in the last. -/
def State.pinState (s : State) (n : Nat) : Option Bool × Nat :=
  (s.pinRow n).getD (s.pinDriver n, s.pinF n R.XBAR_PIN_CFG.PULL)

/-- The word that mapped output source `id` at an instant, in 250 ps steps: that of before the last crossbar tick for an instant before
it (R402). -/
def State.mapWordAt (s : State) (id inst : Nat) : Word :=
  if inst < 8 * s.xtick then (s.xbar.was.get id).getD (s.rw (xForceReg id)) else s.rw (xForceReg id)

/-- The edges that fell in this tick, as they reach the pins (R60, R66): through the map of their own instants, on pins that the last row
of Table 16.1 drives, the levels of the other sources of a pin as they stand. -/
def State.pinsLog (s : State) : State :=
  let edge (x : Nat × Nat × Bool) : List (Nat × Nat × Bool) :=
    let w := s.mapWordAt (0x200 + x.1) x.2.1
    let pins := (if w.getLsbD 10 then [w.toNat % 1024] else []) ++ (if w.getLsbD 26 then [w.toNat / 65536 % 1024] else [])
    (pins.filter (fun n => (s.pinRow n).isNone && decide (s.pinF n R.XBAR_PIN_CFG.OEMODE % 2 = 0))).map (fun n =>
      let others := (s.sourcesOf n).any (fun id => decide (id ≠ 0x200 + x.1) && (s.source id).2 && (s.source id).1)
      (n, x.2.1, xor (x.2.2 || others) (decide (s.pinF n R.XBAR_PIN_CFG.INVOUT = 1))))
  { s with xbar := { s.xbar with pinEdges := s.evt.fell.flatMap edge } }

/-- The received level of pin `n` (R390, R395). Contention and a floating net read a free value. -/
def State.padLevel (s : State) (n : Nat) : Bool :=
  if s.g (R.XBAR_BANK_STATUS.VIO (n / 32)) = 0 then false
  else
    let p := s.pinState n
    match p.1, s.xbar.ext.get n with
    | some d, 0 => d
    | some d, e => if d = decide (e = 2) then d else s.openLevel n
    | none, 0 =>
      (match p.2 with
       | 1 => false
       | 2 => true
       | 3 => s.xbar.keep.get n
       | _ => s.openLevel n)
    | none, e => decide (e = 2)

/-- The level of pin `n` after its filter (R391): the pad's own without one, else the last that was stable for the filter's time. -/
def State.pinFiltered (s : State) (n : Nat) : Bool :=
  if s.pinF n R.XBAR_PIN_CFG.FILT = 0 then s.padLevel n else (s.xbar.filt.get n).passed

/-- The level of pin `n` after its filter and INVIN, as destinations see it (R396, R400). -/
def State.pinInput (s : State) (n : Nat) : Bool := xor (s.pinFiltered n) (decide (s.pinF n R.XBAR_PIN_CFG.INVIN = 1))

/-- The filter of pin `n` looks at the pad at an instant counted in crossbar ticks (R391): a level passes once it has been stable for
4 × 2^(FILT − 1) ns, which is 2^FILT crossbar ticks. -/
def State.filterStep (s : State) (n now : Nat) : State :=
  let raw := s.padLevel n
  let f := s.xbar.filt.get n
  let f := if raw = f.raw then f else { f with raw := raw, since := now }
  let k := s.pinF n R.XBAR_PIN_CFG.FILT
  let f := if k = 0 || decide (f.since + 2 ^ k ≤ now) then { f with passed := raw } else f
  s.setXbar (fun x => { x with filt := x.filt.set n f })

/-- The signal of input destination `d` (Table 16.3, R400). -/
def State.destLevel (s : State) (d : Nat) : Bool :=
  let sel := s.g (R.XBAR_IN_SEL.SEL d)
  if !s.on (R.XBAR_IN_SEL.EN d) then false
  else if s.on (R.XBAR_IN_SEL.INT d) then (s.source sel).1
  else s.pinInput sel

/-- Pin `n` is looked at, at an instant counted in crossbar ticks: its filter and its keeper follow, and its interrupt bit is set by
IMODE (R390, R391, R396). -/
def State.pinSense (s : State) (n now : Nat) : State :=
  let s := s.filterStep n now
  let v := s.pinInput n
  let was := s.xbar.inp.get n
  let fire := match s.pinF n R.XBAR_PIN_CFG.IMODE with
    | 1 => v && !was
    | 2 => !v && was
    | 3 => v != was
    | 4 => v
    | 5 => !v
    | _ => false
  let pad := s.padLevel n
  let s := s.setXbar (fun x => { x with keep := x.keep.set n pad, inp := x.inp.set n v })
  if fire then s.setBit (R.XBAR_PINIRQ.IRQ (n / 32)) (n % 32) else s

/-- The pins whose level anything but the default pull may decide: those set up, driven from outside or held by a keeper. -/
def State.livePins (s : State) : List Nat :=
  (List.range 640).filter (fun n => (SMap.find s.xbar.pinForce n).isSome || (SMap.find s.xbar.ext n).isSome || (SMap.find s.xbar.inp n).isSome)

/-- XBAR_PADk takes a sample of the pads of its banks with VCCIO (R395). -/
def State.padSample (s : State) : State :=
  s.each (List.range 20) (fun s k =>
    if s.g (R.XBAR_BANK_STATUS.VIO k) = 0 then s.wr (R.XBAR_PAD.reg k) 0#32
    else s.wr (R.XBAR_PAD.reg k) (BitVec.ofNat 32 ((List.range 32).foldl (fun m b => m + (s.padLevel (32 * k + b)).toNat * 2 ^ b) 0)))

/-- A pin's settings come into force (R389): a pin held for a failed check is held no more (Table 16.8). -/
def State.pinForceNow (s : State) (n : Nat) (v : Word) : State :=
  (s.pinSense n s.xtick).setXbar (fun x => { x with
    pinForce := x.pinForce.set n (v ^^^ resetWord (R.XBAR_PIN_CFG.reg n)), pinHeld := x.pinHeld.set n false
    bad := x.bad.set (xBadKey 2 n false) false })

/-- Stages are no longer fresh once a crossbar tick has passed (R404). -/
def XStage.settle (x : XStage) : XStage := { x with fresh := false, prior := none }

/-- CROSSBAR_TICK (R389, R396, R402 to R406): pin settings, reclaims and commits due on this tick, each group's commits as
one; a commit on its group's reclaim tick is dropped. -/
def State.xbarRun (s : State) : State :=
  let t := s.xtick
  let x := s.xbar
  let s := s.setXbar (fun x => { x with
    commits := x.commits.filter (fun e => decide (t < e.1)), reclaims := x.reclaims.filter (fun e => decide (t < e.1))
    pinPend := x.pinPend.filter (fun e => decide (t < e.1)), was := [] })
  let s := (x.pinPend.filter (fun e => decide (e.1 ≤ t))).foldl (fun s e => s.pinForceNow e.2.1 e.2.2) s
  let due (l : List (Nat × Nat)) : List Nat := (List.range 16).filter (fun g => l.any (fun e => decide (e.1 ≤ t) && decide (e.2 = g)))
  let rec_ := due x.reclaims
  let s := s.each (due x.commits) (fun s g => if rec_.contains g then s.xDrop else s.commitNow g)
  let s := s.each rec_ (fun s g => (s.restage g).raise R.XBAR_EVENTS.RECLAIMED)
  let s := s.setXbar (fun x => { x with pend := x.pend.map (fun e => (e.1, e.2.map XStage.settle)) })
  let s := if s.jtag.ir = 0 || s.jtag.ir = 3 || s.jtag.ir = 4 then s else { s with jtag := { s.jtag with force := 0 } }
  (s.each s.livePins (fun s n => s.pinSense n t)).padSample

/-- CROSSBAR_TICK: the tick's number, a fresh number for the free levels of its pads, then what happens at it. -/
def State.xbarTick (s : State) : State := ({ s with xtick := s.xtick + 1, freeCtr := s.freeCtr + 1 } : State).xbarRun

/-- A table entry in force that fails its check (Table 16.8). -/
def State.tableAct (s : State) (table n : Nat) : State :=
  let s := s.tableFail table n false
  match table with
  | 0 => s.wr (R.XBAR_SRC_DEST.reg n) (s.rw (R.XBAR_SRC_DEST.reg n) &&& 0xFBFFFBFF#32)
  | 1 => s.wr (R.XBAR_IN_SEL.reg n) (s.rw (R.XBAR_IN_SEL.reg n) &&& 0xFFFFEFFF#32)
  | 2 => s.setXbar (fun x => { x with pinHeld := x.pinHeld.set n true })
  | _ => s.restage n

/-- TABLE_SWEEP (R407): every entry in force is checked; those that fail act as Table 16.8 states. -/
def State.tableSweep (s : State) : State :=
  let l := (s.xbar.bad.map (·.1)).filter (fun k => decide (k % 2048 < 1024))
  l.foldl (fun s k => (s.setXbar (fun x => { x with bad := x.bad.set k false })).tableAct (k / 2048) (k % 2048)) s

/-! ### Commands -/

/-- XBAR_COMMIT (R402). -/
def execXbarCommit (who : Who) (mask sub : Nat) (s : State) : Host.Outcome State Fault Refusal := done (s.commitWrite who mask sub)
/-- XBAR_STAGE_WRITE (R401). -/
def execXbarStageWrite (who : Who) (input : Bool) (n : Nat) (v : Word) (s : State) : Host.Outcome State Fault Refusal :=
  done (s.stageWrite who input n v)
/-- XBAR_RECLAIM (R406). -/
def execXbarReclaim (g sub : Nat) (s : State) : Host.Outcome State Fault Refusal := done (s.reclaimWrite g sub)
/-- XBAR_CG_OWNER_WRITE (R405). -/
def execXbarCgOwnerWrite (who : Who) (g : Nat) (v : Word) (s : State) : Host.Outcome State Fault Refusal := done (s.groupOwnerWrite who g v)

/-- A write to XBAR_PINn_CFG (R389): in force from the first crossbar tick at least 8 ns later. -/
def State.pinCfgWrite (s : State) (n : Nat) (v : Word) (sub : Nat) : State :=
  let v := v &&& 0xFFFFC000#32
  (s.wr (R.XBAR_PIN_CFG.reg n) v).setXbar (fun x => { x with pinPend := x.pinPend ++ [(s.dueXtick sub, n, v)] })
/-- XBAR_PIN_CFG_WRITE (R389). -/
def execXbarPinCfgWrite (n : Nat) (v : Word) (sub : Nat) (s : State) : Host.Outcome State Fault Refusal := done (s.pinCfgWrite n v sub)
/-- TABLE_SWEEP (R407). -/
def execTableSweep (s : State) : Host.Outcome State Fault Refusal := done s.tableSweep

/-- The outside drives pin `n` (0 not, 1 low, 2 high): with no filter its input changes at once, else when the filter passes it (R391,
R396). -/
def State.pinChange (s : State) (n ext : Nat) : State :=
  ({ (s.setXbar (fun x => { x with ext := x.ext.set n (min ext 2) })) with freeCtr := s.freeCtr + 1 }).pinSense n (s.xtick + 1)
/-- PIN_INPUT_CHANGE (R396). -/
def execPinInputChange (n ext : Nat) (s : State) : Host.Outcome State Fault Refusal := done (s.pinChange n ext)

/-- A bank's VCCIO is sensed (R388): 0 absent, 1 1.8 V, 2 2.5 V, 3 3.3 V. -/
def State.vccio (s : State) (k code : Nat) : State := (s.put (R.XBAR_BANK_STATUS.VIO k) code).padSample
/-- VCCIO_CHANGE (R388). -/
def execVccioChange (k code : Nat) (s : State) : Host.Outcome State Fault Refusal := done (s.vccio k code)

end Sys2Proof.Machine
end

