-- ==== Sys2Proof/Machine/Per.lean ====
section
/-! DEFINITION. The hardened peripherals (spec/16, R408 to R414, R519): encoder interfaces, I2C, SPI and UART units. -/

namespace Sys2Proof.Machine

/-! ### Units -/

/-- The unit at a key: I2Cn n, SPIn 4 + n, UARTn 8 + n. -/
def State.perUnit (s : State) (k : Nat) : PerUnit := s.per.unit.get k
def State.setPerUnit (s : State) (k : Nat) (u : PerUnit) : State := { s with per := { s.per with unit := s.per.unit.set k u } }
/-- The key of a unit, none for an encoder. -/
def perKey : Per → Option Nat
  | .enc _ => none
  | .i2c n => some n
  | .spi n => some (4 + n)
  | .uart n => some (8 + n)
/-- The settings register of a unit. -/
def perCfgReg : Per → Nat
  | .enc n => R.PER_ENC_CFG.reg n
  | .i2c n => R.PER_I2C_CFG.reg n
  | .spi n => R.PER_SPI_CFG.reg n
  | .uart n => R.PER_UART_CFG.reg n
/-- The fields of a unit's settings register. -/
def perCfgMask : Per → Word
  | .enc _ => 0x8007FFFF#32
  | .i2c _ => 0x80FF0003#32
  | .spi _ => 0xEF1F00FF#32
  | .uart _ => 0xFC0FFFFF#32

/-- The base offset of the unit at a key, and its status fields (spec/16, the shared layout at +0x0C). -/
def perBase (k : Nat) : Nat :=
  if k < 4 then 0xC00400 + 0x20 * k else if k < 8 then 0xC00500 + 0x20 * (k - 4) else 0xC00600 + 0x20 * (k - 8)
def perField (k lo w : Nat) : Field := ⟨perBase k + 12, lo, w⟩
def perDONE (k : Nat) : Field := perField k 0 1
def perERRA (k : Nat) : Field := perField k 1 1
def perERRB (k : Nat) : Field := perField k 2 1
def perERRC (k : Nat) : Field := perField k 3 1
def perBREAK (k : Nat) : Field := perField k 4 1

/-- The depth of a unit's queues: 16 commands, frames or bytes, or a UART's 32 bytes (R411 to R413). -/
def perDepth (k : Nat) : Nat := if k < 8 then 16 else 32

/-- PER_EVENTS shows the units with an error flag or received data, and the encoders with a fault flag. -/
def State.perEvents (s : State) : State :=
  let unit (k : Nat) : Bool := !(s.perUnit k).rx.isEmpty || decide (s.g (perField k 1 4) ≠ 0)
  let enc (n : Nat) : Bool := decide (s.rw (R.PER_ENC_STATUS.reg n) &&& 0xE#32 ≠ 0#32)
  let mask (n : Nat) (f : Nat → Bool) : Nat := (List.range n).foldl (fun m k => m + (f k).toNat * 2 ^ k) 0
  ((((s.put R.PER_EVENTS.ENC (mask 16 enc)).put R.PER_EVENTS.I2C (mask 4 unit)).put R.PER_EVENTS.SPI (mask 4 (fun k => unit (4 + k)))).put
    R.PER_EVENTS.UART (mask 8 (fun k => unit (8 + k))))

/-- The status of the unit at a key as its registers show it. -/
def State.perShow (s : State) (k : Nat) : State :=
  let u := s.perUnit k
  (((s.put (perField k 24 8) u.rx.length).put (perField k 16 8) u.tx.length).putB (perField k 7 1) (u.running || u.stopping)).perEvents

/-- Is the unit at a key enabled? -/
def State.perOn (s : State) (k : Nat) : Bool := s.on ⟨perBase k, 31, 1⟩

/-- The parts of an I2C command: START 1, byte 2, STOP 4. -/
def i2cParts (v : Word) : Nat :=
  (v.getLsbD 11).toNat + 2 * (v.getLsbD 8 || v.getLsbD 9).toNat + 4 * (v.getLsbD 12).toNat

/-- The I2C commands with a part to do come to the front. -/
def i2cSkip (l : List Word) : List Word := l.dropWhile (fun v => decide (i2cParts v = 0))

/-- The bits of a number, lowest first. -/
def bitList (n v : Nat) : List Bool := (List.range n).map v.testBit
/-- The number that bits spell, lowest first. -/
def bitsNat (l : List Bool) : Nat := l.foldr (fun b n => b.toNat + 2 * n) 0

/-- May the unit at a key start a transfer: a UART under flow control only while its CTS input is low (R413)? -/
def State.perClear (s : State) (k : Nat) : Bool :=
  decide (k < 8) || !s.on (R.PER_UART_CFG.RTSCTS (k - 8)) || !s.destLevel (0x351 + 2 * (k - 8))

/-- The unit at a key takes up its next queued transfer, if it is enabled and idle (R408). -/
def State.perNext (s : State) (k : Nat) : State :=
  let u := s.perUnit k
  let tx := if k < 4 then i2cSkip u.tx else u.tx
  if s.perOn k && !u.stopping && !u.running && s.perClear k then
    (match tx with
     | [] => s.setPerUnit k { u with tx := [] }
     | v :: _ => s.setPerUnit k { u with tx := tx, running := true, left := if k < 4 then i2cParts v else 0 }).perShow k
  else s.perShow k

/-- The transfer of the unit at a key is over (R408): a unit that is stopping stops, and starts afresh if EN = 1 waits. -/
def State.perEnd (s : State) (k : Nat) (flush : Bool) : State :=
  let u := s.perUnit k
  let tx := if flush then [] else u.tx.drop 1
  if u.stopping then
    (if u.again then (s.setPerUnit k {}).perNext k
     else (s.setPerUnit k { u with tx := tx, running := false, left := 0, stopping := false }).perShow k)
  else
    let s := s.setPerUnit k { u with tx := tx, running := false, left := 0 }
    let s := if tx.isEmpty && !flush then s.raise (perDONE k) else s
    s.perNext k

/-- One entry enters a unit's send queue, or is ignored when the queue is full (Table 16.7). -/
def State.perSend (s : State) (k : Nat) (v : Word) : State :=
  let u := s.perUnit k
  if u.tx.length < perDepth k then (s.setPerUnit k { u with tx := u.tx ++ [v] }).perNext k else s

/-- One entry enters a unit's receive queue; a full one discards it and sets overrun (R412, R413). -/
def State.perReceive (s : State) (k : Nat) (v : Word) : State :=
  let u := s.perUnit k
  if u.rx.length < perDepth k then (s.setPerUnit k { u with rx := u.rx ++ [v] }).perShow k
  else (s.raise (perERRA k)).perShow k

/-- A read of RXDATA removes one received entry; an empty queue reads zero (Table 16.7). -/
def State.rxTake (s : State) (k : Nat) : State :=
  let u := s.perUnit k
  ((s.setPerUnit k { u with rx := u.rx.drop 1 }).perShow k).answerWith stOK (wordBytes (u.rx.headD 0#32))

/-- A settings write with EN = 1 (R408): the unit starts, afresh if it was stopped, or its start waits for the stop. -/
def State.perEnable (s : State) (u : Per) (cfg : Word) : State :=
  let was := s.on ⟨perCfgReg u, 31, 1⟩
  let s := s.wr (perCfgReg u) ((cfg &&& (perCfgMask u)) ||| 0x80000000#32)
  match perKey u with
  | none =>
    (match u with
     | .enc n => if was then s
       else { s with per := { s.per with enc := s.per.enc.upd n (fun e => if e.stopping then { e with again := true } else { e with had := false }) } }
     | _ => s)
  | some k =>
    let x := s.perUnit k
    if x.stopping then (s.setPerUnit k { x with again := true }).perShow k
    else if was then s.perNext k
    else (s.setPerUnit k {}).perNext k

/-- A settings write with EN = 0 (R408): the transfer in progress completes, then the unit stops. -/
def State.perDisable (s : State) (u : Per) (cfg : Word) : State :=
  let was := s.on ⟨perCfgReg u, 31, 1⟩
  let ssi := match u with
    | .enc n => s.encIsSsi n
    | _ => false
  let s := s.wr (perCfgReg u) ((cfg &&& (perCfgMask u)) &&& 0x7FFFFFFF#32)
  match perKey u with
  | none =>
    (match u with
     | .enc n => { s with per := { s.per with enc := s.per.enc.upd n (fun e => { e with stopping := e.stopping || (was && ssi), again := false }) } }
     | _ => s)
  | some k =>
    let x := s.perUnit k
    (s.setPerUnit k { x with stopping := x.running, again := false }).perShow k

/-! ### Encoders (R409, R410, R519) -/

/-- An encoder fault (R410): its flag, FAULT and the count go up; LOCKED axes fail with cause 1, axes in ACQUIRE wait for a
condition met after it. -/
def State.encFault (s : State) (n : Nat) (f : Field) : State :=
  let s := (((s.raise f).raise (R.PER_ENC_STATUS.FAULT n)).bump (R.PER_ENC_STATUS.FLTCNT n) 1).perEvents
  let s := s.failAxes (s.axesOf 1 n) 1
  s.each (s.axesOf 1 n) (fun s x => if s.axState x = axACQUIRE then s.setAxis x { s.axis x with fresh := false, zAt := none } else s)

/-- What an edge of A or B counts (R519), with the levels before and after: 1, −1 or 0. -/
def quadCount (mode : Nat) (e : Enc) (a b : Bool) : Int :=
  if mode = 1 then (if a && !e.a then (if b then -1 else 1) else 0)
  else if a != e.a then (if a != b then 1 else -1)
  else if b != e.b then (if a == b then 1 else -1)
  else 0

/-- The new levels of A and B of encoder `n` in one sample, `sub` steps of 250 ps after the last tick (R409, R410, R519). -/
def State.encEdge (s : State) (n : Nat) (a b : Bool) (sub : Nat) : State :=
  let e := s.per.enc.get n
  let s := { s with per := { s.per with enc := s.per.enc.set n { e with a := a, b := b } } }
  if !s.on (R.PER_ENC_CFG.EN n) || s.encIsSsi n then s
  else if a != e.a && b != e.b then s.encFault n (R.PER_ENC_STATUS.ILLEGAL n)
  else
    let d := quadCount (s.g (R.PER_ENC_CFG.MODE n)) e a b
    let d := if s.on (R.PER_ENC_CFG.DIRINV n) then -d else d
    if d = 0 then s
    else
      let s := s.wr (R.PER_ENC_COUNT.reg n) (s.rw (R.PER_ENC_COUNT.reg n) + BitVec.ofInt 32 d)
      (s.putB (R.PER_ENC_STATUS.FAULT n) false).countAxes n d sub

/-- The data bits of an SSI frame (R409): BITS + 1, BITS below 7 acting as 7. -/
def State.ssiBits (s : State) (n : Nat) : Nat := max 7 (s.g (R.PER_ENC_SSI.BITS n)) + 1

/-- A Gray-coded number as binary. -/
def grayToBin (v : Nat) : Nat := v ^^^ (v / 2) ^^^ (v / 4) ^^^ (v / 8) ^^^ (v / 16) ^^^ (v / 32) ^^^ (v / 64) ^^^ (v / 128) ^^^
  (v / 256) ^^^ (v / 512) ^^^ (v / 1024) ^^^ (v / 2048) ^^^ (v / 4096) ^^^ (v / 8192) ^^^ (v / 16384) ^^^ (v / 32768) ^^^
  (v / 65536) ^^^ (v / 131072) ^^^ (v / 262144) ^^^ (v / 524288) ^^^ (v / 1048576) ^^^ (v / 2097152) ^^^ (v / 4194304) ^^^
  (v / 8388608) ^^^ (v / 16777216) ^^^ (v / 33554432) ^^^ (v / 67108864) ^^^ (v / 134217728) ^^^ (v / 268435456) ^^^
  (v / 536870912) ^^^ (v / 1073741824) ^^^ (v / 2147483648)

/-- Does interface `n` take SSI frames: enabled, or with its last frame still to end (R408)? -/
def State.ssiRuns (s : State) (n : Nat) : Bool := s.encIsSsi n && (s.on (R.PER_ENC_CFG.EN n) || (s.per.enc.get n).stopping)

/-- An SSI frame has ended: an interface that was stopping stops, and starts afresh if EN = 1 waits (R408). -/
def State.ssiEnd (s : State) (n : Nat) : State :=
  { s with per := { s.per with enc := s.per.enc.upd n (fun e =>
      if e.stopping then { e with stopping := false, again := false, had := false } else e) } }

/-- A complete SSI frame (R410), `sub` steps of 250 ps after the last tick: its position, or a JUMP fault. -/
def State.ssiFrame (s : State) (n : Nat) (data : DWord) (sub : Nat) : State :=
  if !s.ssiRuns n then s
  else
    let raw := data.toNat % 2 ^ s.ssiBits n
    let p := if s.on (R.PER_ENC_SSI.GRAY n) then grayToBin raw else raw
    let old := s.g (R.PER_ENC_POS.POS n)
    let lim := s.g (R.PER_ENC_CFG.JUMPLIM n)
    let jump := decide (lim ≠ 0) && (s.per.enc.get n).had && decide (lim < (p - old) + (old - p))
    let s : State := { (s.put (R.PER_ENC_POS.POS n) p) with per := { s.per with enc := s.per.enc.upd n (fun e => { e with had := true }) } }
    (if jump then s.encFault n (R.PER_ENC_STATUS.JUMP n)
     else (s.putB (R.PER_ENC_STATUS.FAULT n) false).ssiAxes n p sub).ssiEnd n

/-- SSI data not low at the first rising edge, or not high again within MONO (R410). -/
def State.ssiTimeout (s : State) (n : Nat) : State :=
  if s.ssiRuns n then (s.encFault n (R.PER_ENC_STATUS.TIMEOUT n)).ssiEnd n else s

/-! ### I2C (R411) -/

/-- A part of the first I2C command has been done. -/
def State.i2cDid (s : State) (n part : Nat) : State :=
  let u := s.perUnit n
  if u.left = part then s.perEnd n false else (s.setPerUnit n { u with left := u.left - part }).perShow n

/-- The bus's answer to a part (R411): NACK flushes the queue and sends STOP, lost arbitration flushes and releases. -/
def State.i2cPart (s : State) (n part : Nat) (x : BusAnswer) : State :=
  match x with
  | .ack => s.i2cDid n part
  | .nack => (s.raise (perERRA n)).perEnd n true
  | .lost => (s.raise (perERRB n)).perEnd n true

/-- Which part of the first command is next: 1, 2 or 4, 0 for none. -/
def State.i2cDue (s : State) (n : Nat) : Nat :=
  let u := s.perUnit n
  if !u.running then 0 else if u.left % 2 = 1 then 1 else if u.left / 2 % 2 = 1 then 2 else if u.left = 4 then 4 else 0

/-- Does the first command send a byte? -/
def State.i2cSends (s : State) (n : Nat) : Bool := ((s.perUnit n).tx.headD 0#32).getLsbD 8

/-! ### What a unit sends -/

/-- The bits of the last transfer of the unit at a key. -/
def State.perWire (s : State) (k : Nat) (l : List Bool) : State := s.setPerUnit k { s.perUnit k with wire := l }

/-- The bits of an SPI frame of unit `n` (R412): BITS + 1, BITS below 3 acting as 3. -/
def State.spiBits (s : State) (n : Nat) : Nat := max 3 (s.g (R.PER_SPI_CFG.BITS n)) + 1
/-- The bits of a frame in the order they cross the line. -/
def State.spiOrder (s : State) (n : Nat) (l : List Bool) : List Bool := if s.on (R.PER_SPI_CFG.LSBFIRST n) then l else l.reverse
/-- A frame as a UART sends it (R413): start bit, data from the lowest, parity, one or two stop bits. -/
def State.uartBits (s : State) (n v : Nat) : List Bool :=
  let d := bitList (if s.on (R.PER_UART_CFG.DATA7 n) then 7 else 8) v
  let odd := d.foldl xor false
  let par := match s.g (R.PER_UART_CFG.PARITY n) with
    | 1 => [odd]
    | 2 => [!odd]
    | _ => []
  [false] ++ d ++ par ++ (if s.on (R.PER_UART_CFG.STOP2 n) then [true, true] else [true])

/-- CROSSBAR_TICK: the crossbar's own work, then the UARTs whose CTS lets them go on (R413). -/
def State.xbarStep (s : State) : State :=
  s.xbarTick.each ((List.range 8).filter (fun n => s.on (R.PER_UART_CFG.RTSCTS n))) (fun s n => s.perNext (8 + n))

/-! ### Commands -/

/-- CROSSBAR_TICK (R402). -/
def execCrossbarTick (s : State) : Host.Outcome State Fault Refusal := done s.xbarStep
/-- ENCODER_EDGE (R519). -/
def execEncoderEdge (n : Nat) (a b : Bool) (sub : Nat) (s : State) : Host.Outcome State Fault Refusal := done (s.encEdge n a b sub)
/-- SSI_FRAME (R410). -/
def execSsiFrame (n : Nat) (data : DWord) (sub : Nat) (s : State) : Host.Outcome State Fault Refusal := done (s.ssiFrame n data sub)
/-- SSI_TIMEOUT (R410). -/
def execSsiTimeout (n : Nat) (s : State) : Host.Outcome State Fault Refusal := done (s.ssiTimeout n)
/-- PERIPHERAL_ENABLE (R408). -/
def execPeripheralEnable (u : Per) (cfg : Word) (s : State) : Host.Outcome State Fault Refusal := done (s.perEnable u cfg)
/-- PERIPHERAL_DISABLE (R408). -/
def execPeripheralDisable (u : Per) (cfg : Word) (s : State) : Host.Outcome State Fault Refusal := done (s.perDisable u cfg)
/-- I2C_START (R411): the START or repeated START of the command in transfer. -/
def execI2cStart (n : Nat) (x : BusAnswer) (s : State) : Host.Outcome State Fault Refusal :=
  done (if s.i2cDue n = 1 then s.i2cPart n 1 x else s)
/-- I2C_WRITE (R411): the command in transfer sends DATA. -/
def execI2cWrite (n : Nat) (x : BusAnswer) (s : State) : Host.Outcome State Fault Refusal :=
  done (if s.i2cDue n = 2 && s.i2cSends n then
      (s.perWire n ((bitList 8 ((s.perUnit n).tx.headD 0#32).toNat).reverse ++ [decide (x ≠ .ack)])).i2cPart n 2 x else s)
/-- I2C_READ (R411): the command in transfer receives a byte. A full receive queue holds the bus. -/
def execI2cRead (n : Nat) (data : Byte) (x : BusAnswer) (s : State) : Host.Outcome State Fault Refusal :=
  done (if s.i2cDue n = 2 && !s.i2cSends n && decide ((s.perUnit n).rx.length < 16) then
      (let s := s.perWire n ((bitList 8 data.toNat).reverse ++ [((s.perUnit n).tx.headD 0#32).getLsbD 10])
       if x = .lost then s.i2cPart n 2 .lost else (s.perReceive n (data.setWidth 32)).i2cPart n 2 .ack)
    else s)
/-- I2C_STOP (R411): the STOP after the command in transfer. -/
def execI2cStop (n : Nat) (s : State) : Host.Outcome State Fault Refusal := done (if s.i2cDue n = 4 then s.i2cDid n 4 else s)
/-- I2C_TIMEOUT (R411): SCL low for more than TOUT ms, unless TOUT is 0. -/
def execI2cTimeout (n : Nat) (s : State) : Host.Outcome State Fault Refusal :=
  done (if s.g (R.PER_I2C_CFG.TOUT n) ≠ 0 && (s.perOn n || (s.perUnit n).stopping) then (s.raise (perERRC n)).perEnd n true else s)
/-- SPI_TXDATA (R412). -/
def execSpiTxdata (n : Nat) (v : Word) (s : State) : Host.Outcome State Fault Refusal := done (s.perSend (4 + n) v)
/-- UART_TXDATA (R413). -/
def execUartTxdata (n : Nat) (v : Word) (s : State) : Host.Outcome State Fault Refusal := done (s.perSend (8 + n) (v &&& 0xFF#32))
/-- SPI_FRAME_DONE (R412): the frame has left; the received one is stored, its bits in the order they came as in the frame sent:
`miso` has the one that came last lowest. -/
def execSpiFrameDone (n : Nat) (miso : Word) (s : State) : Host.Outcome State Fault Refusal :=
  let came := (bitList (s.spiBits n) miso.toNat).reverse
  done (if (s.perUnit (4 + n)).running then
      let s := s.perWire (4 + n) (s.spiOrder n (bitList (s.spiBits n) ((s.perUnit (4 + n)).tx.headD 0#32).toNat))
      (s.perReceive (4 + n) (BitVec.ofNat 32 (bitsNat (s.spiOrder n came)))).perEnd (4 + n) false
    else s)
/-- UART_BYTE_SENT (R413). -/
def execUartByteSent (n : Nat) (s : State) : Host.Outcome State Fault Refusal :=
  done (if (s.perUnit (8 + n)).running then
      (s.perWire (8 + n) (s.uartBits n ((s.perUnit (8 + n)).tx.headD 0#32).toNat)).perEnd (8 + n) false else s)
/-- UART_RX_BYTE (R413): a break is flagged and stores nothing; framing and parity errors are flagged and the byte is stored. -/
def execUartRxByte (n : Nat) (data : Byte) (isBreak framing parity : Bool) (s : State) : Host.Outcome State Fault Refusal :=
  let k := 8 + n
  let par := s.g (R.PER_UART_CFG.PARITY n)
  done (
    if !s.perOn k then s
    else if isBreak then (s.raise (perBREAK k)).perShow k
    else
      let s := if framing then s.raise (perERRB k) else s
      let s := if parity && (par = 1 || par = 2) then s.raise (perERRC k) else s
      s.perReceive k (if s.on (R.PER_UART_CFG.DATA7 n) then (data &&& 0x7F#8).setWidth 32 else data.setWidth 32))
/-- RXDATA_READ (R413). -/
def execRxdataRead (u : Per) (s : State) : Host.Outcome State Fault Refusal :=
  done (match perKey u with
    | some k => s.rxTake k
    | none => s.answerWith stOK (wordBytes 0#32))

end Sys2Proof.Machine
end

