-- ==== Sys2Proof/Machine/Clocking.lean ====
section
/-! DEFINITION. The edges of the regions' switch clocks (spec/04 R79 to R104, spec/05 R110 to R127, spec/06 R136 to R152): what every unit of
a region does at one, with the holds of R122, the triggers of R144 and edge 3 of a switch. Regions on one source have their edges
together (R90, R116); each unit samples what stood before the edge. -/

namespace Sys2Proof.Machine

/-! ### The scrubber's passes (R223, R224) -/

/-- The scrubber of region `g`. -/
def State.scrub (s : State) (g : Nat) : Scrub := s.cfg.scrub.get g
def State.setScrub (s : State) (g : Nat) (x : Scrub) : State := s.setCfg (fun c => { c with scrub := c.scrub.set g x })

/-- Does the scrubber watch region `g` (R223)? -/
def State.scrubs (s : State) (g : Nat) : Bool :=
  s.on R.UPS_CTL.EN && (s.activeCtx g).isSome && s.logicOn g && !(s.region g).held && !s.on (R.UPS_REGION_STATUS.UNCORR g)

/-- A pass begins (R223, R224). -/
def State.passStart (s : State) (g : Nat) : State :=
  let x := s.scrub g
  if s.scrubs g && !s.switching g && x.pos.isNone then
    (s.setScrub g { x with pos := some 0, clean := true, began := s.plantNs.toNat }).putB (R.UPS_REGION_STATUS.SCRUBBING g) true
  else s

/-- The scrubber's pass over region `g` stops; it does not count as clean (R224). -/
def State.scrubStop (s : State) (g : Nat) : State := s.setCfg (fun c => { c with scrub := c.scrub.upd g (fun x => { x with pos := none }) })

/-! ### Holds (R122) -/

/-- The latches of a frame are what the stored frame holds. -/
def State.latchClear (s : State) (a : Nat) : State := { s with fab := { s.fab with latch := s.fab.latch.set a none } }

/-- What a fabric reset clears in region `g` (R290, R417, Table 17.2; R121, R127). -/
def State.reinitNow (s : State) (g : Nat) : State :=
  let s := match s.activeCtx g with
    | some c => s.ffInit g c
    | none => s
  let s := ((s.swWuClear g).fwdReload g).putB (R.SYS_FWD_STATUS.FROZEN g) false
  let s := (s.dampersFresh g).put (R.SYS_DMP_STATUS.ENGCNT g) 0
  let s := s.each (List.range 8) (fun s c => (s.adapterDiscard g c).adapterStale g c)
  let mine := s.noc.owed.filter (fun o => o.dest = regionEp g)
  let s : State := { s with noc := { s.noc with owed := s.noc.owed.filter (fun o => !(o.dest = regionEp g)) } }
  let s := s.setAdapter g { s.adapter g with req := [] }
  let s := mine.foldl (fun (s : State) o => s.respond (regionEp g) o.req 5 0xFE []) s
  { s with mt := { s.mt with pipe := s.mt.pipe.filter (fun p => !(p.port / 16 = g)) } }

/-- A hold's writes (R122 step 3): the latches of its frames, of the slot still ACTIVE, and the re-initialisation. -/
def State.holdWork (s : State) (g : Nat) : State :=
  let r := s.region g
  let s := (r.fixes.filter (fun a => s.activeCtx g = some (a / 0x20000000))).foldl State.latchClear s
  let s := if r.reinit then s.reinitNow g else s
  s.setRegion g { s.region g with waitAck := [], fixes := [], reinit := false, written := true }

/-- The writes come when the source region is gated and every acknowledgement has arrived; a neighbour that has lost its power is
not waited for. -/
def State.holdTry (s : State) (g : Nat) : State :=
  let r := s.region g
  if r.held && r.stopped && !r.written && (r.waitAck.filter s.logicOn).isEmpty then s.holdWork g else s

/-- The region's user clocks ungate, and its watchdog reloads (R102); its neighbours' dampers follow one period later (R122 steps 4
and 5). -/
def State.ungate (s : State) (g : Nat) : State :=
  ((s.setRegion g { s.region g with held := false, stopped := false, written := false, settling := 1 }).fwdReload g).gateShow g

/-- The gates of region `g` at a rising edge of its CKN0: UNFREEZE acts, the period after an ungating is over, a hold begins to gate, or
ends when its writes are made and no fabric reset goes on. -/
def State.gatesEdge (s : State) (g : Nat) : State :=
  let r := s.region g
  let s := (s.thaw g).setRegion g { r with settling := 0 }
  if !r.held then s
  else if r.written && !s.rst.fab.contains g then s.ungate g
  else s.setRegion g { s.region g with stopped := true }

/-- Region `g` has engaged its dampers on the wires of the neighbours that are held, and acknowledges (R122 step 2). -/
def State.ackHolds (s : State) (g : Nat) : State :=
  s.each (neighboursOf g) (fun s r =>
    let x := s.region r
    if x.waitAck.contains g then
      (s.setRegion r { x with waitAck := x.waitAck.filter (fun y => !(y = g)) }).bump (R.SYS_DMP_STATUS.ENGCNT g) 1
    else s)

/-- Corrections put off over a switch are made from edge 4, those of the slot still ACTIVE (R152, R228). -/
def State.takeDeferred (s : State) (g : Nat) : State :=
  let r := s.region g
  if r.deferred.isEmpty || r.edges.isSome then s
  else
    let l := r.deferred.filter (fun a => s.activeCtx g = some (a / 0x20000000))
    let s := s.setRegion g { r with deferred := [] }
    if l.isEmpty then s else s.holdAsk g l false

/-! ### Ports of a region at an edge (R96, R97, R101, R144, R162) -/

/-- The service port of region `g` samples its inputs (R96, R97, R101, R144): a word written, a rising KICK, a rising SWTRIG. -/
def State.serviceEdge (s p : State) (g sub : Nat) : State :=
  let t := g * 256
  let r := s.region g
  let kick := p.portIn t 24
  let swtrig := p.portIn t 25
  let s := if p.portIn t 23 then s.cmpPortWrite g (p.portNat t 0 4) (p.portNat t 4 3) (BitVec.ofNat 16 (p.portNat t 7 16)) sub else s
  let s := if kick && !r.kick then s.fwdReload g else s
  let s := s.setRegion g { s.region g with kick := kick, swtrig := swtrig }
  if swtrig && !r.swtrig then
    s.each ((List.range 32).filter (fun n => s.on (R.CTX_SG_CFG.EN_SWTRIG n) && decide (s.g (R.CTX_SG_CFG.TRIGREG n) = g)))
      (fun s n => s.sgPost n (s.instant sub))
  else s

/-- The ledger ports of region `g` at an edge (R162): a post with POST = 1 while the user clocks run, or with a comparator's strobe; the
port inputs in the order of Table 7.1: POST 0, STN 1 to 6, VERD 7 and 8, CODE 9 to 24, IDV 25, ID 26 to 57. -/
def State.ledgerEdge (s p : State) (g sub : Nat) (runs : Bool) : State :=
  let hit := p.strobes g sub
  s.each (List.range 4) (fun s j =>
    let t := g * 256 + 2 + j
    if hit.contains j || (runs && p.portIn t 0) then
      s.ledgerPost (g * 4 + j) (p.portNat t 1 6) (p.portNat t 7 2) (BitVec.ofNat 16 (p.portNat t 9 16)) (p.portIn t 25)
        (BitVec.ofNat 32 (p.portNat t 26 32))
    else s)

/-! ### The edge (R81, R90, R116, R122, R146, R150) -/

/-- The powered regions that have an edge at instant `now` when those of `gs` have one: with them the other members, on the same
source, of groups that switch or have a trigger to take (R144). -/
def State.edgeRegions (s : State) (gs : List Nat) (now : Nat) : List Nat :=
  let busy (n : Nat) : Bool := s.on (R.CTX_SG_STATUS.BUSY n) || s.fab.trigs.any (fun x => x.1 = n && decide (x.2 ≤ now))
  let more := gs.flatMap (fun g =>
    let n := s.g (R.CTX_REGION_CTL.GROUP g)
    if s.inGroup n g && busy n then (s.members n).filter (fun h => decide (s.g (R.CLK_REGION_CFG.SRC h) = s.g (R.CLK_REGION_CFG.SRC g))) else [])
  (gs ++ more).eraseDups.filter (fun g => decide (g < 512) && s.logicOn g)

/-- Half a period of CKN0 goes by in region `g` (R89). -/
def State.halfStep (s : State) (rising : Bool) (g : Nat) : State :=
  let r := s.region g
  s.setRegion g { r with half := if rising then (r.half / 2 + 1) * 2 else r.half / 2 * 2 + 1 }

/-- Is the coming edge edge 3 of region `g`'s switch? -/
def State.third (s : State) (g : Nat) : Bool := decide ((s.region g).edges = some 2)

/-- Region control of the regions `l` at a rising edge, `p` the state before it and `run` the regions whose user registers clock: their
ports, edge 3 of the groups `third`, bank results and the column interfaces, triggers, and what waited for the end of a switch. -/
def State.controlsEdge (s p : State) (l run third : List Nat) (sub : Nat) : State :=
  let now := s.instant sub
  let s := s.each run (fun s g => s.fxoEdge p g)
  let s := s.each l (fun s g => s.controlEdge p g sub (p.destLevel (fxPort g)))
  let s := s.each run (fun s g => s.serviceEdge p g sub)
  let s := s.each l State.ledgerAcks
  let s := s.each (l.filter (fun g => !p.third g)) (fun s g => s.ledgerEdge p g sub (run.contains g))
  let s := s.each third (fun s n => (s.switchNow n).each (p.members n) State.scrubStop)
  let s := s.each l State.bankEdge
  let s := s.each ((l.map (fun g => g % 256)).eraseDups.filter (fun c => l.contains (s.bankClock c))) State.columnEdge
  let due := (List.range 32).filter (fun n => s.fab.trigs.any (fun x => x.1 = n && decide (x.2 ≤ now)) && (s.members n).any l.contains)
  let s := s.each due (fun s n => s.sgTakeAll p n now)
  let s := s.each l State.takeDeferred
  s.each (l.filter (fun g => (p.region g).edges = some 3)) State.passStart

/-- The regions of `gs` have an edge of CKN0 together, rising or falling, `sub` ps after the current angle tick. Registers take what
stood before the edge. At a rising edge region control and the dampers clock as well, holds move on, and the edge after edge 2 of a
switch is its edge 3, at which its members' registers take their switch values instead (R147). -/
def State.fabricEdges (s : State) (gs : List Nat) (rising : Bool) (sub : Nat) : State :=
  let l := s.edgeRegions gs (s.instant sub)
  let p := s.each l (fun s g => s.halfStep rising g)
  let s := if rising then p.each l State.gatesEdge else p
  let run := l.filter (fun g => !s.gated g && !(rising && p.third g) && (p.activeCtx g).isSome)
  let s := s.each run (fun s g => (s.userEdge p g).unitsEdge p g)
  let s := { s with freeCtr := s.freeCtr + 1 }
  if !rising then s
  else
    let third := (List.range 32).filter (fun n => p.on (R.CTX_SG_STATUS.BUSY n) && (p.members n).any (fun g => l.contains g && p.third g))
    let e := s.controlsEdge p l run third sub
    let same (g : Nat) : List Nat := (third.filter (fun n => p.inGroup n g)).flatMap p.members
    let s := e.each l (fun s g => s.dampersEdge p e (same g) g)
    let s := s.each l State.ackHolds
    let s := s.each (l ++ l.flatMap neighboursOf).eraseDups State.holdTry
    s.each l (fun s g => (s.gateShow g).dmpShow g)

/-- Edge 3 of group `n`, when its members stand at edge 2 (R146). -/
def State.switchEdge (s : State) (n sub : Nat) : State :=
  if s.on (R.CTX_SG_STATUS.BUSY n) && (s.members n).all s.third then s.fabricEdges (s.members n) true sub else s

/-- FABRIC_CLOCK_EDGE (R81): the regions of `gs` have an edge of CKN0, and through the dividers of CKN1 to CKN3. -/
def execFabricClockEdge (gs : List Nat) (rising : Bool) (sub : Nat) (s : State) : Host.Outcome State Fault Refusal :=
  done (s.fabricEdges gs rising sub)
/-- SWITCH_COMPLETE (R146). -/
def execSwitchComplete (n sub : Nat) (s : State) : Host.Outcome State Fault Refusal := done (s.switchEdge n sub)

end Sys2Proof.Machine
end

