-- ==== Sys2Proof/Machine/Scrub.lean ====
section
/-! DEFINITION. The upset scrubber (spec/09, R223 to R233) and what an upset strikes. -/

namespace Sys2Proof.Machine

/-! ### Weight (R230, R231) -/

/-- Where a frame kind's bytes begin within a tile's 1,024 bytes. -/
def kindBase (kind : Nat) : Nat := if kind = 1 then 512 else if kind = 2 then 960 else 0

/-- The bytes at which two frames of a kind differ. -/
def diffBytes (kind : Nat) (a b : List Byte) : List Nat :=
  (List.range (frameSize kind)).filter (fun i => decide (frameByte a i ≠ frameByte b i))

/-- Is configuration byte `i` of a tile essential: the map's bit, or yes where the map is not valid or its read fails (R231)? -/
def State.essentialByte (s : State) (g c tile i : Nat) : State × Bool :=
  if !s.bit (R.UPS_MAPVALID.VALID ((g * 8 + c) / 32)) ((g * 8 + c) % 32) then (s, true)
  else
    let r := s.direct iniScrub { ini := iniScrub, op := 0, addr := mapBase g c + tile * 0x80 + i / 8, len := 1 }
    if r.2.1 ≠ 0 then (r.1.raise R.UPS_EVENTS.MAPERR, true) else (r.1, (r.2.2.getD 0 0#8).getLsbD (i % 8))

/-- Is any of a list of bytes essential? -/
def State.essential (s : State) (g c tile kind : Nat) (l : List Nat) : State × Bool :=
  l.foldl (fun (r : State × Bool) i =>
    if r.2 then r else r.1.essentialByte g c tile (kindBase kind + i)) (s, false)

/-! ### Findings (R226, R233, Table 9.5) -/

/-- A finding is counted, shown in UPS_LAST and, when essential, passed to the ledger with the start of the region's last
clean pass (R172, R233). `weigh` is none for a finding that is not weighed. Essential findings and every frame that failed
its check enter the fault log (R16, R233). -/
def State.finding (s : State) (cls : Nat) (weigh : Option Bool) (g c tile kind : Nat) : State :=
  let ess := decide (weigh = some true)
  let s := s.raise (match cls with
    | 0 => R.UPS_EVENTS.LATCH
    | 1 => R.UPS_EVENTS.TIER
    | 2 => R.UPS_EVENTS.UNCORR
    | _ => R.UPS_EVENTS.STORED)
  let s := if cls ≤ 1 then s.bump (R.UPS_REGION_STATUS.CORRCNT g) 1 else s
  let s := ((((((s.put R.UPS_LAST.CLASS cls).putB R.UPS_LAST.ESS ess).put R.UPS_LAST.SLOT c).put R.UPS_LAST.REGION g).put
    R.UPS_LAST.TILE tile).put R.UPS_LAST.KIND kind)
  let s := (s.wr R.UPS_LASTTIME_LO.reg (s.plantNs.setWidth 32)).wr R.UPS_LASTTIME_HI.reg ((s.plantNs >>> 32).setWidth 32)
  let s := if cls = 1 || cls = 3 then s.report (.upset cls g tile kind) else s
  match weigh with
  | none => s
  | some false => s.bump R.UPS_COUNT.BENCNT 1
  | some true =>
    let s := if cls = 0 || cls = 2 then s.report (.upset cls g tile kind) else s
    ((s.bump R.UPS_COUNT.ESSCNT 1).raise R.UPS_EVENTS.ESSENTIAL).suspectMark g (s.scrub g).lastClean

/-- A region is quarantined (R227): frozen as under R104. -/
def State.quarantine (s : State) (g : Nat) : State :=
  (((s.putB (R.UPS_REGION_STATUS.UNCORR g) true).putB (R.SYS_FWD_STATUS.FROZEN g) true).putB (R.UPS_REGION_STATUS.SCRUBBING g) false).gateShow g

/-- One frame of the active slot `c` of region `g` is looked at (R226): LATCH, TIER, UNCORR, or nothing. The answer says
whether something was found. A correction of the latches holds the region; between edge 0 and edge 3 of a switch it is put off to
edge 4 (R152, R228). -/
def State.checkActive (s : State) (g c tile kind : Nat) : State × Bool :=
  let a := frameAddr c g (tile / 16) (tile % 16) kind
  let f := s.frame a
  let l := s.latched a
  let d := diffBytes kind l f.data
  if f.good then
    if d.isEmpty then (s, false)
    else
      let e := s.essential g c tile kind d
      let r := e.1.region g
      let s := if e.1.switching g then e.1.setRegion g { r with deferred := r.deferred ++ [a] } else e.1.holdAsk g [a] false
      (s.finding 0 (some e.2) g c tile kind, true)
  else if !d.isEmpty && decide (crc32c l = f.check) then
    let s : State := { s with fab := { s.fab with frames := s.fab.frames.set a { f with data := l }, latch := s.fab.latch.set a none } }
    (s.finding 1 (some false) g c tile kind, true)
  else ((s.quarantine g).finding 2 (some true) g c tile kind, true)

/-- One tile of region `g` at a tick (R223). -/
def State.scrubTile (s : State) (g : Nat) : State :=
  let x := s.scrub g
  match x.pos, s.activeCtx g with
  | some p, some c =>
    if (s.region g).held then s
    else if !s.scrubs g then (s.setScrub g { x with pos := none }).putB (R.UPS_REGION_STATUS.SCRUBBING g) false
    else
      let r := [0, 1, 2].foldl (fun (r : State × Bool) k =>
        if r.1.on (R.UPS_REGION_STATUS.UNCORR g) then r
        else
          let q := r.1.checkActive g c p k
          (q.1, r.2 || q.2)) (s, false)
      let clean := x.clean && !r.2
      r.1.setScrub g (if p = 255 then { x with pos := none, clean := true, lastClean := if clean then x.began else x.lastClean }
                      else { x with pos := some (p + 1), clean := clean })
  | _, _ => s

/-- The scrubber's part of a tick: one tile in every region whose pass runs. -/
def State.scrubTick (s : State) : State := s.each ((s.cfg.scrub.filter (fun e => e.2.pos.isSome)).map (·.1)) State.scrubTile

/-- The check of one stored frame (R225, R226): a PROOFED slot goes to INVALID with READBACK; the active slot's frame is mended from
good latches or its region is quarantined, and so is that of the slot to which a switch is in progress (R229). -/
def State.storedCheck (s : State) (a : Nat) : State :=
  let g := a / 0x100000 % 512
  let c := a / 0x20000000
  let f := s.frame a
  let target := s.switching g && decide (s.g (R.CTX_REGION_CTL.NEXT g) = c)
  if !s.on R.UPS_CTL.EN || f.good || decide (8 ≤ c) then s
  else if s.slotState g c = slotPROOFED && !target then
    ((s.setSlot g c slotINVALID).put (R.CTX_SLOT_STATE.LASTERR (g * 8 + c)) 0x13).finding 3 none g c (a / 0x1000 % 256) (a / 256 % 16)
  else if (s.slotState g c = slotACTIVE || target) && !s.on (R.UPS_REGION_STATUS.UNCORR g) then
    (s.checkActive g c (a / 0x1000 % 256) (a / 256 % 16)).1
  else s

/-! ### Upsets -/

/-- A list with bits of byte `i` changed. -/
def flipByte (size : Nat) (l : List Byte) (i : Nat) (mask : Byte) : List Byte :=
  (List.range size).map (fun k => if k = i then frameByte l k ^^^ mask else frameByte l k)

/-- UPSET: a latch of an active slot, a stored frame, or a checked table entry changes (R15, R226). -/
def State.strike (s : State) : Strike → State
  | .latch a i mask =>
    let g := a / 0x100000 % 512
    if s.activeCtx g = some (a / 0x20000000) then
      let n := flipByte (frameSize (a / 256 % 16)) (s.latched a) i mask
      { s with fab := { s.fab with latch := s.fab.latch.set a (if (diffBytes (a / 256 % 16) n (s.frame a).data).isEmpty then none else some n) } }
    else s
  | .stored a i mask =>
    let g := a / 0x100000 % 512
    let old := s.latched a
    let n := flipByte (frameSize (a / 256 % 16)) (s.frame a).data i mask
    let latch := if s.activeCtx g = some (a / 0x20000000) then
        s.fab.latch.set a (if (diffBytes (a / 256 % 16) old n).isEmpty then none else some old)
      else s.fab.latch
    { s with fab := { s.fab with frames := s.fab.frames.set a { s.frame a with data := n }, latch := latch } }
  | .ledger i => { s with lgr := { s.lgr with entries := s.lgr.entries.upd i (fun e => { e with bad := true }) } }
  | .owner n bit =>
    if bit % 16 < 8 then
      let b := (s.ownerByte n).toNat ^^^ 2 ^ (bit % 8)
      (s.put (R.MEM_BANK_OWNER.OWNER_A n) (b % 8)).put (R.MEM_BANK_OWNER.OWNER_B n) (b / 16 % 8)
    else { s with mt := { s.mt with crc := s.mt.crc.set n (s.mt.crc.get n ^^^ (1#8 <<< (bit % 8))) } }
  | .xbar k => { s with xbar := { s.xbar with bad := s.xbar.bad.set k true } }
  | .ember k => (s.emberFail k).report (.ember k)

/-- SCRUB_PASS_START (R223). -/
def execScrubPassStart (g : Nat) (s : State) : Host.Outcome State Fault Refusal := done (s.passStart g)
/-- STORED_FRAME_CHECK (R225). -/
def execStoredFrameCheck (a : Nat) (s : State) : Host.Outcome State Fault Refusal := done (s.storedCheck a)
/-- UPSET (R226). -/
def execUpset (x : Strike) (s : State) : Host.Outcome State Fault Refusal := done (s.strike x)

end Sys2Proof.Machine
end

