-- ==== Sys2Proof/Machine/Usb.lean ====
section
/-! DEFINITION. The host path (spec/22, R483 to R491): the USB4 link, the mailbox's slots, and the state of the DMA channels. -/

namespace Sys2Proof.Machine

def State.setUsb (s : State) (f : Usb → Usb) : State := { s with usb := f s.usb }

/-! ### Mailbox (R487 to R489) -/

/-- A slot write or doorbell ignored (R488). -/
def State.mbxErr (s : State) : State := (s.bump R.USB_ERRCNT.MBXERR 1).raise R.USB_EVENTS.MBXERR

/-- Does slot `m` belong to the writer (R487)? -/
def mbxOwner (who : Who) (m : Nat) : Bool := if m < 14 then decide (who = .host) else decide (who = .debug)

/-- A write to a word of slot `m`: 0 REQ, 1 to 4 A0 to A3 (R487, R488); bits 15:8 of REQ are zero. -/
def State.slotWrite (s : State) (who : Who) (m word : Nat) (v : Word) : State :=
  if !mbxOwner who m then s.answerWith stERR []
  else if s.mbxState m ≠ mbxFREE then s.mbxErr.answerWith stOK []
  else if word = 0 then (s.wr (R.USB_MBX_REQ.reg m) (v &&& 0xFFFF00FF#32)).answerWith stOK []
  else (s.wr (R.USB_MBX_A.reg m (word - 1)) v).answerWith stOK []

/-- A write of a mask to USB_MBX_DOORBELL (R488). -/
def State.doorbell (s : State) (mask : Nat) : State :=
  (s.each (maskBits mask 16) (fun s m => if s.mbxState m = mbxFREE then s.setMbx m mbxPOSTED else s.mbxErr)).answerWith stOK []

/-- The request codes that chapters define (R487). -/
def mbxKnown (c : Nat) : Bool :=
  (decide (0x20 ≤ c) && decide (c ≤ 0x26)) || decide (c = 0x30) || (decide (0x50 ≤ c) && decide (c ≤ 0x57)) || decide (c = 0x60)

/-- The supervisor takes a posted slot by rotating token (R488 step 3); an unknown code is answered BADREQ. -/
def State.mbxTake (s : State) : State :=
  match ((List.range 16).map (fun i => (s.usb.token + i) % 16)).find? (fun m => s.mbxState m = mbxPOSTED) with
  | none => s
  | some m =>
    let s := (s.setUsb (fun u => { u with token := (m + 1) % 16 })).setMbx m mbxRUNNING
    if mbxKnown (s.mbxCode m) then s else s.answerMbx m mbBADREQ 0 0

/-- A write of a mask to USB_MBX_DONE: an answered slot returns to FREE (R488 step 5). -/
def State.mbxDone (s : State) (mask : Nat) : State :=
  (s.each (maskBits mask 16) (fun s m =>
    if s.bit R.USB_MBX_DONE.DONE m then
      let s := s.clrBit R.USB_MBX_DONE.DONE m
      if s.mbxState m = mbxANSWERED then s.setMbx m mbxFREE else s
    else s)).answerWith stOK []

/-- Every slot returns to FREE and what runs for a slot answers to none (R489). -/
def State.mbxDrop (s : State) : State :=
  let s := (s.wr R.USB_MBX_STATE.reg 0#32).wr R.USB_MBX_DONE.reg 0#32
  let s := s.setCfg (fun c => { c with
    ch := c.ch.map (fun e => (e.1, { e.2 with mbx := none }))
    ops := c.ops.map (fun e => (e.1, { e.2 with mbx := 16 })), swReqs := c.swReqs.map (fun r => { r with mbx := 16 }) })
  { (s.setSec (fun x => { x with jobs := x.jobs.map (fun j => { j with mbx := none }) })) with pwr := { s.pwr with waits := [] } }

/-! ### DMA channels (R490, R491) -/

def dmaSTOPPED : Nat := 0
def dmaRUNNING : Nat := 1
def dmaSTOPPING : Nat := 2
def dmaERROR : Nat := 3

def State.dmaState (s : State) (n : Nat) : Nat := s.g (R.USB_DMA_STATUS.STATE n)

/-- A channel's state; BUSY is up while a stop is in progress. -/
def State.setDma (s : State) (n st : Nat) : State :=
  (s.put (R.USB_DMA_STATUS.STATE n) st).putB (R.USB_DMA_STATUS.BUSY n) (decide (st = dmaSTOPPING))

/-- The number of descriptors of a channel's ring. -/
def State.dmaRing (s : State) (n : Nat) : Nat :=
  let k := s.g (R.USB_DMA_CTL.RINGLOG n)
  2 ^ (if 4 ≤ k ∧ k ≤ 12 then k else 4)

/-- Does channel `n` have a descriptor to process? -/
def State.dmaDue (s : State) (n : Nat) : Bool :=
  decide (s.g (R.USB_DMA_HEAD.HEAD n) % s.dmaRing n ≠ s.g (R.USB_DMA_TAIL.TAIL n) % s.dmaRing n)

/-- A write of EN = 1: the channel starts, restarts at HEAD from ERROR, or queues behind a stop in progress (R491). -/
def State.dmaStart (s : State) (n : Nat) : State :=
  let s := s.putB (R.USB_DMA_CTL.EN n) true
  if s.dmaState n = dmaSTOPPED || s.dmaState n = dmaERROR then
    (s.setDma n dmaRUNNING).putB (R.USB_DMA_STATUS.LINK n) false
  else s

/-- EN is cleared: the descriptor in progress completes first, if there is one (R491). -/
def State.dmaStop (s : State) (n : Nat) : State :=
  let s := s.putB (R.USB_DMA_CTL.EN n) false
  if s.dmaState n = dmaRUNNING then s.setDma n (if s.dmaDue n then dmaSTOPPING else dmaSTOPPED) else s

/-- A write of USB_DMAn_CTL: RINGLOG, then EN (R491). -/
def State.dmaCtlWrite (s : State) (n : Nat) (v : Word) : State :=
  let on := decide ((R.USB_DMA_CTL.EN n).of v = 1)
  let s := s.wr (R.USB_DMA_CTL.reg n) ((R.USB_DMA_CTL.EN n).into (v &&& 0x80000F00#32) (s.g (R.USB_DMA_CTL.EN n)))
  if on then s.dmaStart n else s.dmaStop n

/-- A write of TAIL (R490). -/
def State.dmaTail (s : State) (n : Nat) (v : Word) : State := s.put (R.USB_DMA_TAIL.TAIL n) (v.toNat % 65536)

/-- A channel enters ERROR (R491). -/
def State.dmaFail (s : State) (n : Nat) : State := (s.setDma n dmaERROR).raise (R.USB_DMA_STATUS.ERR n)

/-- A descriptor is complete with a status (R490, R491): HEAD advances, or the channel enters ERROR. -/
def State.dmaEnd (s : State) (n status : Nat) (irq : Bool) : State :=
  let s := s.put (R.USB_DMA_STATUS.LASTSTAT n) status
  if status ≠ 0 then s.dmaFail n
  else
    let s := s.put (R.USB_DMA_HEAD.HEAD n) ((s.g (R.USB_DMA_HEAD.HEAD n) + 1) % s.dmaRing n)
    let s := if irq then s.raise (R.USB_DMA_STATUS.DONE n) else s
    if s.dmaState n = dmaSTOPPING then s.setDma n (if s.on (R.USB_DMA_CTL.EN n) then dmaRUNNING else dmaSTOPPED) else s

/-! ### The link (R483, R489, R491) -/

/-- The USB4 link trains and the PCIe tunnel comes up (R483): generation 1 Gen 2, 2 Gen 3, 3 Gen 4. -/
def State.linkUp (s : State) (gen : Nat) : State :=
  if !s.pdOn 6 || decide (s.rst.reach ≠ 0) || s.on R.USB_STATUS.LINK then s
  else
    (((s.put R.USB_STATUS.GEN (max 1 (min 3 gen))).putB R.USB_STATUS.PCIE true).putB R.USB_STATUS.LINK true).raise R.USB_EVENTS.LINKCHG

/-- The host link drops (R489, R491): every slot is FREE, and every active channel is in ERROR with LINK. -/
def State.linkDrop (s : State) : State :=
  let up := s.on R.USB_STATUS.LINK || s.on R.USB_STATUS.PCIE
  let s := s.wr R.USB_STATUS.reg 0#32
  let s := (if up then s.raise R.USB_EVENTS.LINKCHG else s).mbxDrop
  let s := s.setUsb (fun u => { u with reads := [], dma := [] })
  let s := { s with noc := { s.noc with issued := s.noc.issued.map (fun (i : Issued) =>
    if i.ini = iniHost && decide (i.op ≠ 2) then { i with stale := true } else i) } }
  s.each (List.range 8) (fun s n =>
    if s.dmaState n = dmaRUNNING || s.dmaState n = dmaSTOPPING then (s.dmaFail n).raise (R.USB_DMA_STATUS.LINK n) else s)

/-- A write of a mask to USB_IRQ_REARM: the vectors named whose summary is not zero send their message again (R486). -/
def State.rearm (s : State) (mask : Nat) : State :=
  { s with msixSent := (s.vectorsUp.filter (fun v => mask.testBit v && s.msixSeen.contains v)).foldl (fun m v => m.upd v (· + 1)) s.msixSent }

/-- A random draw waited 1 ms (R479): a waiting quote is answered RNG, a waiting HBMTRAIN fails elsewhere. -/
def State.drawTimeout (s : State) : State :=
  let q := (List.range 16).filter (fun m => s.mbxRuns m 0x50)
  let s := s.putB R.SEC_STATUS.RNGOK false
  s.each q (fun s m => s.answerMbx m 0x56 0 0)

/-! ### Commands -/

/-- HOST_LINK_UP (R483). -/
def execHostLinkUp (gen : Nat) (s : State) : Host.Outcome State Fault Refusal := done (s.linkUp gen)
/-- HOST_LINK_DROP (R489). -/
def execHostLinkDrop (s : State) : Host.Outcome State Fault Refusal := done s.linkDrop
/-- USB_IRQ_REARM (R486). -/
def execUsbIrqRearm (mask : Nat) (s : State) : Host.Outcome State Fault Refusal := done (s.rearm mask)
/-- MBX_SLOT_WRITE (R487). -/
def execMbxSlotWrite (who : Who) (m word : Nat) (v : Word) (s : State) : Host.Outcome State Fault Refusal := done (s.slotWrite who m word v)
/-- MBX_DOORBELL (R488). -/
def execMbxDoorbell (mask : Nat) (s : State) : Host.Outcome State Fault Refusal := done (s.doorbell mask)
/-- MBX_TAKE (R488). -/
def execMbxTake (s : State) : Host.Outcome State Fault Refusal := done s.mbxTake
/-- MBX_DONE_CLEAR (R488). -/
def execMbxDoneClear (mask : Nat) (s : State) : Host.Outcome State Fault Refusal := done (s.mbxDone mask)
/-- DMA_TAIL_WRITE (R490). -/
def execDmaTailWrite (n : Nat) (v : Word) (s : State) : Host.Outcome State Fault Refusal := done (s.dmaTail n v)
/-- DMA_ENABLE (R491). -/
def execDmaEnable (n : Nat) (s : State) : Host.Outcome State Fault Refusal := done (s.dmaStart n)
/-- DMA_DISABLE (R491). -/
def execDmaDisable (n : Nat) (s : State) : Host.Outcome State Fault Refusal := done (s.dmaStop n)

end Sys2Proof.Machine
end

