-- ==== Sys2Proof/Machine/Reset.lean ====
section
/-! DEFINITION. Reset (spec/17, R415 to R423): the sources, the three reaches, the release, block resets; with them the start
log entry that a reset may end (spec/19, R445, R447) and the fabric watchdogs' expiry (R103). -/

namespace Sys2Proof.Machine

def State.setRst (s : State) (f : Rst → Rst) : State := { s with rst := f s.rst }
def State.setStart (s : State) (f : Start → Start) : State := { s with start := f s.start }

/-! ### The start log entry (R447, Table 19.2) -/

def resRELEASED : Nat := 0
def resFAILED : Nat := 1
def resSTOPPED : Nat := 2
def resCUT : Nat := 3

/-- The 32 bytes of the start log entry of the start running. -/
def State.startBytes (s : State) (seq step result relms : Nat) : List Byte :=
  let x := s.start
  let last := x.last
  let pol : Nat := (match x.action with
    | some (_, a, _) => a % 4 + 4
    | none => 0) + min 15 x.fails * 16
  let b := natBytes seq 4 ++ natBytes x.began 8 ++ natBytes step 1 ++ natBytes result 1 ++ natBytes x.status 1 ++ natBytes pol 1
    ++ natBytes (R.RST_LAST.CAUSE.of last + R.RST_LAST.REACH.of last * 16 + R.RST_LAST.HALTED.of last * 128) 1
    ++ natBytes (R.RST_LAST.HALTKIND.of last + R.RST_LAST.HALTLEVEL.of last * 16) 1
    ++ natBytes x.tag 2 ++ natBytes x.source 1 ++ natBytes x.hbm 1 ++ natBytes relms 2 ++ natBytes x.flags 1 ++ List.replicate 5 0#8
  b ++ natBytes (crc16 b).toNat 2

/-- Does a start log entry match its CHECK (R447)? -/
def startEntryOk (e : List Byte) : Bool :=
  decide (e.length = 32) && decide ((crc16 (e.take 30)).toNat = bytesNat (e.drop 30))

/-- The entry of the start running is brought up to date: its step and result (R447). -/
def State.startUpdate (s : State) (step result relms : Nat) : State :=
  if s.start.logged then
    match s.sec.starts with
    | e :: t => s.setSec (fun x => { x with starts := s.startBytes (bytesNat (e.take 4)) step result relms :: t })
    | [] => s
  else s

/-- Consecutive starts that failed at step `k`, the start running among them (R209, Table 19.2): one more than the entry before
records, when that start failed or was stopped there. -/
def State.failsAt (s : State) (k : Nat) : Nat :=
  match s.sec.starts with
  | _ :: p :: _ =>
    if startEntryOk p && (fieldAt p 13 1 = resFAILED || fieldAt p 13 1 = resSTOPPED) && decide (fieldAt p 12 1 = k) then
      min 15 (fieldAt p 15 1 / 16 + 1) else 1
  | _ => 1

/-! ### What a reach clears (R416, Table 17.2) -/

/-- The registers that a system reset keeps, and of them those that power-on keeps: the ember domain and AGE_HOURS; RST_CAUSE,
RST_LAST, the DBG block, THM_TRIP, what the sensed VCCIO shows, and the ledger's own state (R175, R454). -/
def keptReg (power : Bool) (a : Nat) : Bool :=
  (decide (0x60000 ≤ a) && decide (a < 0x70000)) || decide (a = R.AGE_HOURS.reg)
    || (decide (0x203300 ≤ a) && decide (a < 0x203350))
    || (!power && (decide (a = R.RST_CAUSE.reg) || decide (a = R.RST_LAST.reg) || decide (a = R.THM_TRIP.reg)
      || (decide (0xB00000 ≤ a) && decide (a < 0xC00000)) || decide (a = R.LGR_STATUS.reg) || decide (a = R.LGR_ERRCNT.reg)
      || decide (a = R.LGR_RECSEQ.reg) || (decide (0x120100 ≤ a) && decide (a < 0x121000))))

/-- What the ledger keeps through a system reset (R175): entries, items, FULL ranges, banks and records under way. -/
def State.lgrKept (s : State) : Lgr :=
  { entries := s.lgr.entries
    streams := s.lgr.streams.foldl (fun m e => m.set e.1 { items := e.2.items, full := e.2.full, born := e.2.born }) []
    other := s.lgr.other, shows0 := s.lgr.shows0, token := s.lgr.token, suspects := s.lgr.suspects, out := s.lgr.out }

/-- Every stream stops and no stall shows: the ledger's enables are cleared with the other registers (R175). -/
def State.lgrQuiet (s : State) : State :=
  let s := (s.putB R.LGR_STATUS.RING_STALL false).putB R.LGR_STATUS.VSM_STALL false
  s.each (List.range 4) (fun s n => (s.putB (R.LGR_STREAM_CFG.EN n) false).putB (R.LGR_STREAM_STATUS.BUSY n) false)

/-- The state that a power-on or a system reset leaves (R416, Table 17.2): everything at its reset value but what is kept. -/
def State.wipe (s : State) (power : Bool) : State :=
  let t : State := {
    csr := s.csr.keep (keptReg power), freeCtr := s.freeCtr, tick := s.tick, xtick := s.xtick, rtc := s.rtc, resp := s.resp
    msixSent := s.msixSent, faultLog := s.faultLog, mem := s.mem, fill := s.fill, epoch := s.epoch
    lgr := if power then {} else s.lgrKept
    vsm := { sent := s.vsm.sent }, sec := { s.sec with jobs := [] }, xbar := { ext := s.xbar.ext }
    jtag := if power then {} else s.jtag
    rst := { s.rst with fab := [], dbgHeld := [] }
    start := { trimErr := s.on R.RST_STATUS.TRIMERR }, pending := s.pending }
  let t := t.each (List.range 4) State.forget
  if power then t.each (List.range 4096) (fun t n => t.forget (16 + n)) else t.lgrQuiet

/-- PD6 to PD44 are held off while a trip is in force, which TRIP shows (R453), but in a halt for the lane quad of the twin port (R455);
the memory tier's quadrants are OFF and lose their contents (R250). -/
def State.trippedOff (s : State) : State :=
  let keep := 11 + s.g R.TWIN_CFG.PORT / 4
  let s := s.putB R.THM_STATUS.TRIP true
  let s := s.each (List.range 39) (fun s i =>
    if s.halted && decide (6 + i = keep) then s else s.put (R.PWR_PD_STATUS.STATE (6 + i)) 0)
  let s := s.each (List.range 4) (fun s q => s.setQuad q 0)
  s.each (List.range 4096) (fun s n => s.forget (16 + n))

/-! ### Acceptance (R415, R420, R421, R422) -/

/-- The sources that end an integrity halt at system reach and above (R421). -/
def endsHalt (src : Nat) : Bool := src = 0 || src = 1 || src = 2 || src = 6 || src = 9

/-- RST_CAUSE and RST_LAST take an accepted source (R420, R422). -/
def State.resetNote (s : State) (src reach : Nat) (halted : Bool) : State :=
  (((s.setBit R.RST_CAUSE.CAUSE src).put R.RST_LAST.CAUSE src).put R.RST_LAST.REACH reach).putB R.RST_LAST.HALTED halted

/-- A start that a reset ends before its release: failed when the source is SWDT or LOCKUP, else cut (R445). -/
def State.startCut (s : State) (src : Nat) : State :=
  match s.start.step with
  | some k => if src = 3 || src = 8 then (s.setStart (fun x => { x with fails := s.failsAt k })).startUpdate k resFAILED 0xFFFF else s
  | none => s

/-- A source of power-on (3) or system (2) reach is accepted (R415, R420, R421): in a halt that it does not end it only sets its
cause bit; else the reach widens as it must. -/
def State.resetAccept (s : State) (src reach : Nat) : State :=
  if s.halted && !endsHalt src then
    let s := s.setBit R.RST_CAUSE.CAUSE src
    if src = 10 then
      (s.setRst (fun r => { r with asserted := if r.asserted.contains 10 then r.asserted else r.asserted ++ [10] })).trippedOff
    else s
  else
    let was := s.halted
    let wider := decide (s.rst.reach < reach)
    let s := if wider then (s.startCut src).wipe (decide (reach = 3)) else s
    let s := if wider && decide (reach = 3) then (s.wr R.RST_CAUSE.reg 0#32).wr R.RST_LAST.reg 0#32 else s
    let s := s.setRst (fun r => { r with reach := max r.reach reach, asserted := if r.asserted.contains src then r.asserted else r.asserted ++ [src] })
    let s := s.resetNote src s.rst.reach was
    let s := if s.rst.asserted.contains 10 then s.trippedOff else s
    s.discShow

/-! ### Release (R419, R420) -/

/-- Release begins when no source is asserted any more: clocks and the network run, the domains that the reset values show ON
open their endpoints, and the start sequencer's first step, TRIM, is due. -/
def State.releaseBegin (s : State) : State :=
  let s := s.setRst (fun r => { r with reach := 0 })
  let s := s.each (List.range 39) (fun s i => s.put (R.PWR_PD_STATUS.STATE (6 + i)) 1)
  let s := ((s.putB R.CLK_STATUS.REFOK true).putB R.CLK_STATUS.SYSLOCK true).putB R.CLK_STATUS.ANGLOCK true
  let s := (s.putB R.NOC_STATUS.RUN true).openPorts (List.range 1024)
  let s := s.each (List.range 4) (fun s q => s.setQuad q 1)
  s.setStart (fun x => { x with step := some 0x08, began := s.plantNs.toNat })

/-- A source's condition has ended (R415): the last one to go begins the release. -/
def State.resetDrop (s : State) (src : Nat) : State :=
  if s.rst.asserted.contains src then
    let s := s.setRst (fun r => { r with asserted := r.asserted.filter (fun x => !(x = src)) })
    let s := if src = 10 then s.putB R.THM_STATUS.TRIP false else s
    if s.rst.asserted.isEmpty && decide (s.rst.reach ≠ 0) then s.releaseBegin else s
  else s

/-! ### Fabric reach (R416, R417) -/

/-- A region in a fabric reset is held, to be re-initialised (R417, R122 steps 1 to 3): a switch in progress is cancelled (R151), its
FXO ports are off (R394), the scrubber's pass ends. -/
def State.fabHold (s : State) (g : Nat) : State :=
  let n := s.g (R.CTX_REGION_CTL.GROUP g)
  let s := if s.inGroup n g && s.on (R.CTX_SG_STATUS.BUSY n) then s.switchCancel g else s
  let s := s.setRegion g { s.region g with fxo := false, fxoen := false }
  (s.holdAsk g [] true).scrubStop g

/-- A request of fabric reach over some regions (R417, R420, R421): absorbed by a wider reset, and by a halt but for its cause
bit; a region that is not powered is not waited for. -/
def State.fabReset (s : State) (src : Nat) (l : List Nat) : State :=
  if s.halted then s.setBit R.RST_CAUSE.CAUSE src
  else if s.rst.reach ≠ 0 then s.resetNote src s.rst.reach false
  else
    let s := s.resetNote src 1 false
    let on := l.filter (fun g => s.logicOn g)
    let s := s.each on State.fabHold
    let s := s.setRst (fun r => { r with fab := r.fab ++ on.filter (fun g => !r.fab.contains g) })
    s.fabShow

/-- The regions that RST_FABSEL selects. -/
def State.fabSel (s : State) : List Nat := (List.range 512).filter (fun g => s.bit (R.RST_FABSEL.SEL (g / 32)) (g % 32))

/-- The fabric reset of region `g` completes (R417): what its hold still waited for is done, its clocks ungate and the dampers follow;
not while the debug port holds it. -/
def State.fabComplete (s : State) (g : Nat) : State :=
  if s.rst.fab.contains g && !s.rst.dbgHeld.contains g then
    let s := s.setRst (fun r => { r with fab := r.fab.filter (fun x => !(x = g)) })
    let s := if (s.region g).written then s else s.holdWork g
    (s.ungate g).fabShow
  else s

/-- The fabric watchdog of region `g` expires (R101 to R103): its count has reached zero, with a timeout set, in a released region that
no hold gates. -/
def State.fwdExpiry (s : State) (g : Nat) : State :=
  let r := s.region g
  if s.g (R.SYS_FWD_CFG.TMO g) = 0 || decide (s.g (R.SYS_FWD_STATUS.COUNT g) ≠ 0) || !r.released || r.stopped || !s.logicOn g
      || !s.on (R.CTX_REGION_STATUS.HASACT g) then s
  else
    let s := ((s.raise (R.SYS_FWD_STATUS.EXPIRED g)).setBit (R.SYS_FWD_EXPIRED.EXPIRED (g / 32)) (g % 32)).bump (R.SYS_FWD_STATUS.EXPCNT g) 1
    let s := (s.fwdReload g).setRegion g { s.region g with wdexpDue := true }
    if s.on (R.SYS_FWD_STATUS.FROZEN g) then s
    else match s.g (R.SYS_FWD_CFG.ACTION g) with
      | 1 => (s.putB (R.SYS_FWD_STATUS.FROZEN g) true).gateShow g
      | 2 => s.fabReset 4 [g]
      | _ => s

/-! ### Debug and twin requests (R384, R495) -/

/-- DBG_RSTREQ takes a value (R495): 2 asserts the DEBUG source at system reach, 1 resets the regions of RST_FABSEL and holds them,
0 releases both; 3 acts as 0. -/
def State.debugReset (s : State) (v : Nat) : State :=
  let old := s.g R.DBG_RSTREQ.REQ
  let s := (s.put R.DBG_RSTREQ.REQ v).putB R.DBG_STATUS.RSTHELD (decide (v % 4 ≠ 0))
  let s := if v = 1 then s else s.setRst (fun r => { r with dbgHeld := [] })
  let s := if v = 2 then s else s.resetDrop 6
  if v = 2 && decide (old ≠ 2) then s.resetAccept 6 2
  else if v = 1 && decide (old ≠ 1) then
    let s := s.fabReset 6 s.fabSel
    s.setRst (fun r => { r with dbgHeld := r.fab.filter (fun g => s.fabSel.contains g) })
  else s

/-- A RESETREQ from the partner (R384): a system reset, or refused. -/
def State.onResetReq (s : State) : State :=
  let s := (s.raise R.TWIN_EVENTS.RSTREQ).setTwinBlk (fun t => { t with asked := false })
  if s.resetReqOk then s.resetAccept 9 2 else s.bump R.TWIN_ERRCNT.RSTREF 1

/-! ### Block resets (R423, Table 17.3) -/

/-- The registers of a range of offsets take their reset values. -/
def State.regsReset (s : State) (lo n : Nat) : State :=
  { s with csr := s.csr.keep (fun a => !(decide (lo ≤ a) && decide (a < lo + n))) }

/-- A block reset by bit `b` of RST_BLOCKr: done when the block is idle, else refused with BUSY; discarded while a wider reset is
asserted. -/
def State.blockReset (s : State) (r b : Nat) (idle : Bool) (f : State → State) : State :=
  if s.rst.reach ≠ 0 then s
  else if idle then f s
  else (((s.bump R.RST_BLKERR.COUNT 1).put R.RST_BLKERR.REG r).put R.RST_BLKERR.BIT b).put R.RST_BLKERR.CODE 1

/-- Encoder interface `n`. -/
def State.encReset (s : State) (n : Nat) : State :=
  let used := (List.range 16).any (fun a => s.g (R.ANG_AXIS_CFG.KIND a) = 1 && decide (s.g (R.ANG_AXIS_CFG.SRCSEL a) = n) && decide (s.axState a ≠ axDISABLED))
  s.blockReset 0 n (!s.on (R.PER_ENC_CFG.EN n) && !used) (fun s =>
    let s := s.regsReset (R.PER_ENC_CFG.reg n) 0x20
    ({ s with per := { s.per with enc := s.per.enc.del n } } : State).perEvents)

/-- The unit at a key, by bit `b` of RST_BLOCK0. -/
def State.perReset (s : State) (k b : Nat) : State :=
  s.blockReset 0 b (!s.perOn k && !s.on (perField k 7 1)) (fun s =>
    let s := s.regsReset (perBase k) 0x20
    ({ s with per := { s.per with unit := s.per.unit.del k } } : State).perEvents)

/-- Lane quad `q`: its lanes, PLL and data movers. -/
def State.quadReset (s : State) (q : Nat) : State :=
  let lanes := (List.range 4).map (fun i => 4 * q + i)
  let idle := lanes.all (fun n => s.stage n = stOFF && !s.on (R.LANE_LANE_STATUS.BUSY n))
  let used := s.vports.any (fun p => (s.portLanes p).any (fun n => decide (n / 4 = q)))
  s.blockReset 1 q (idle && !used) (fun s =>
    let s := (s.regsReset (R.LANE_QUAD_CFG.reg q) 0x10).regsReset (R.LANE_LANE_CFG.reg (4 * q)) 0x200
    { s with lanes := lanes.foldl SMap.del s.lanes })

/-- The Vasum link layer. -/
def State.vsmReset (s : State) : State :=
  let idle := (List.range 48).all (fun p => s.vstate p = vsDOWN && !s.on (R.VSM_PORT_STATUS.BUSY p))
  s.blockReset 1 12 (idle && s.vsm.tunOut.isEmpty && s.vsm.tunIn.isEmpty) (fun s =>
    let s := ((s.setVsm (fun v => { v with wasLocked := false })).setTstate 0).regsReset 0x800000 0x10000
    ({ s with vsm := { sent := s.vsm.sent } } : State).discShow)

/-- The USB4 router and PCIe endpoint. -/
def State.usbReset (s : State) : State :=
  let quiet := (List.range 8).all (fun n => s.dmaState n = dmaSTOPPED || s.dmaState n = dmaERROR)
  s.blockReset 1 13 (!s.on R.USB_STATUS.LINK && quiet) (fun s =>
    let s := s.mbxDrop.regsReset 0xA00000 0x10000
    { s with usb := {} })

/-- HBM stack controller `k`. -/
def State.hbmReset (s : State) (k : Nat) : State :=
  let st := s.stackState k
  s.blockReset 1 (14 + k) (decide (st = 0) || decide (st = 3)) (fun s =>
    let s := (s.regsReset (R.HBM_STACK_TEMP.reg k) 0x10).regsReset (R.HBM_PC_ERR.reg (32 * k)) 0x80
    { s with hbm := { s.hbm with
      hold := s.hbm.hold.del k, waiting := s.hbm.waiting.keep (fun p => decide (p / 8 ≠ k)), token := s.hbm.token.del k
      engine := s.hbm.engine.del k, fastRefresh := s.hbm.fastRefresh.del k } })

/-- The PMBus master; only the supervisor writes its bit (R515). -/
def State.pmbReset (s : State) (who : Who) : State :=
  if who = .super then s.blockReset 1 18 (!s.on R.PER_PMB_STATUS.BUSY) (fun s => s.regsReset 0xC00800 8) else s.answerWith stERR []

/-- Half `h` of the scheduler comparators. -/
def State.cmpReset (s : State) (h : Nat) : State :=
  let l := (List.range 32).map (fun i => 32 * h + i)
  let lo := R.EVT_CMP_CFG.reg (32 * h)
  s.blockReset 2 h (l.all (fun n => !s.on (R.EVT_CMP_STATUS.ARMED n))) (fun s =>
    let s := ((s.regsReset lo 0x400).regsReset (R.EVT_CMP_FIRED.reg h) 4).regsReset (R.EVT_CMP_IRQ_EN.reg h) 4
    let mine (a : Nat) : Bool := decide (lo ≤ a) && decide (a < lo + 0x400)
    { s with evt := { s.evt with
      force := s.evt.force.keep (fun a => !mine a), pend := s.evt.pend.filter (fun p => !mine p.addr), cmps := l.foldl SMap.del s.evt.cmps } })

/-- Group `k` of 32 edge units. -/
def State.edgReset (s : State) (k : Nat) : State :=
  let l := (List.range 32).map (fun i => 32 * k + i)
  let lo := R.EVT_EDG_CFG.reg (32 * k)
  let gate := (List.range 4).any (fun n => s.on (R.LGR_STREAM_CFG.EN n) && s.on (R.LGR_STREAM_CFG.GATEEN n) && decide (s.g (R.LGR_STREAM_CFG.GATE n) / 32 = k))
  s.blockReset 2 (2 + k) (!gate && l.all (fun n => !s.on (R.EVT_EDG_STATUS.ARMED n) && decide (s.g (R.EVT_EDG_STATUS.QFILL n) = 0))) (fun s =>
    let s := ((s.regsReset lo 0x400).regsReset (R.EVT_EDG_FLAG.reg k) 4).regsReset (R.EVT_EDG_IRQ_EN.reg k) 4
    let mine (a : Nat) : Bool := decide (lo ≤ a) && decide (a < lo + 0x400)
    { s with evt := { s.evt with
      force := s.evt.force.keep (fun a => !mine a), pend := s.evt.pend.filter (fun p => !mine p.addr), edges := l.foldl SMap.del s.evt.edges
      armNext := s.evt.armNext.filter (fun a => a.1 || !l.contains a.2) } })

/-- Group `k` of 32 capture units. -/
def State.capReset (s : State) (k : Nat) : State :=
  let l := (List.range 32).map (fun i => 32 * k + i)
  let lo := R.EVT_CAP_CFG.reg (32 * k)
  let pre := (List.range 4).any (fun n => s.on (R.LGR_STREAM_CFG.EN n) && s.on (R.LGR_STREAM_CFG.PRES n) && decide (s.g (R.LGR_STREAM_CFG.PRESCAP n) / 32 = k))
  s.blockReset 2 (6 + k) (!pre && l.all (fun n => !s.on (R.EVT_CAP_STATUS.ARMED n) && decide (s.g (R.EVT_CAP_STATUS.FILL n) = 0))) (fun s =>
    let s := ((s.regsReset lo 0x800).regsReset (R.EVT_CAP_READY.reg k) 4).regsReset (R.EVT_CAP_IRQ_EN.reg k) 4
    let mine (a : Nat) : Bool := decide (lo ≤ a) && decide (a < lo + 0x800)
    { s with evt := { s.evt with
      force := s.evt.force.keep (fun a => !mine a), pend := s.evt.pend.filter (fun p => !mine p.addr), caps := l.foldl SMap.del s.evt.caps
      armNext := s.evt.armNext.filter (fun a => !a.1 || !l.contains a.2) } })

/-- Does an armed unit of the event scheduler name axis `n`? -/
def State.axisNamed (s : State) (n : Nat) : Bool :=
  (List.range 64).any (fun m => s.on (R.EVT_CMP_STATUS.ARMED m) && decide ((s.cmpCfg m).axis = n))
    || (List.range 128).any (fun m => s.on (R.EVT_EDG_STATUS.ARMED m) && decide (s.edgSrc m ≠ 2) && decide ((s.edgCfg m).axis = n))
    || (List.range 128).any (fun m => s.on (R.EVT_CAP_STATUS.ARMED m) && decide (s.fg (R.EVT_CAP_CFG.AXIS m) = n))

/-- Axis `n`; its value resets to 0. -/
def State.axisReset (s : State) (n : Nat) : State :=
  let derived := (List.range 16).any (fun a => s.g (R.ANG_AXIS_CFG.KIND a) = 3 && decide (s.g (R.ANG_AXIS_CFG.SRCSEL a) = n) && decide (s.axState a ≠ axDISABLED))
  let stream := (List.range 4).any (fun k => s.on (R.LGR_STREAM_CFG.EN k) && decide (s.g (R.LGR_STREAM_CFG.AXIS k) = n))
  s.blockReset 3 n (s.axState n = axDISABLED && !s.on (R.ANG_AXIS_STATE.BUSY n) && !derived && !stream && !s.axisNamed n) (fun s =>
    let lo := R.ANG_AXIS_CFG.reg n
    let s := s.regsReset lo 0x40
    { s with ang := { s.ang with
      axes := s.ang.axes.del n, stage := s.ang.stage.keep (fun a => !(decide (lo ≤ a) && decide (a < lo + 0x40))) } })

/-! ### Commands -/

/-- POR (R415): the device is powered on. -/
def execPor (s : State) : Host.Outcome State Fault Refusal := done ((s.resetAccept 0 3).markerCheck)
/-- BOR (R425): a brown-out, after which main power counts as lost (R475). -/
def execBor (s : State) : Host.Outcome State Fault Refusal :=
  done (((s.resetAccept 1 3).markerCheck).putB R.AON_STATUS.MAINLOST true)
/-- RESET_N (R418): a low pulse that the filter accepts. -/
def execResetN (s : State) : Host.Outcome State Fault Refusal := done (s.resetAccept 2 2)
/-- SWDT (R415). -/
def execSwdt (s : State) : Host.Outcome State Fault Refusal := done (s.resetAccept 3 2)
/-- LOCKUP (R415). -/
def execLockup (s : State) : Host.Outcome State Fault Refusal := done (s.resetAccept 8 2)
/-- CLKFAIL (R434): REFCLK or a PLL has failed. -/
def execClkfail (s : State) : Host.Outcome State Fault Refusal :=
  done (((s.resetAccept 7 2).putB R.CLK_STATUS.REFOK false))
/-- CLOCK_VALID_AGAIN (R434). -/
def execClockValidAgain (s : State) : Host.Outcome State Fault Refusal := done (s.resetDrop 7)
/-- RST_CTL_FABRIC (R417). -/
def execRstCtlFabric (s : State) : Host.Outcome State Fault Refusal := done (s.fabReset 5 s.fabSel)
/-- RST_CTL_SYSTEM (R415): the write completes before the reset acts. -/
def execRstCtlSystem (s : State) : Host.Outcome State Fault Refusal := done ((s.answerWith stOK []).resetAccept 5 2)
/-- FABRIC_RESET_COMPLETE (R417): for region `g`. -/
def execFabricResetComplete (g : Nat) (s : State) : Host.Outcome State Fault Refusal := done (s.fabComplete g)
/-- RESET_RELEASE (R415, R420): the condition of source `src` has ended. CLKFAIL ends with CLOCK_VALID_AGAIN, DEBUG with
DBG_RSTREQ. -/
def execResetRelease (src : Nat) (s : State) : Host.Outcome State Fault Refusal :=
  done (if src = 6 || src = 7 then s else s.resetDrop src)
/-- FWD_EXPIRY (R103). -/
def execFwdExpiry (g : Nat) (s : State) : Host.Outcome State Fault Refusal := done (s.fwdExpiry g)
/-- RESETREQ (R384). -/
def execResetreq (s : State) : Host.Outcome State Fault Refusal := done s.onResetReq
/-- FRAME_RECEIVE (R340); a RESETREQ that the frame carried acts at its end. -/
def execFrameReceive (p : Nat) (raw : List Byte) (s : State) : Host.Outcome State Fault Refusal :=
  let t := (s.frameReceive p raw).transmit
  done (if t.twin.asked then t.onResetReq else t)
/-- DBG_RSTREQ (R495): the debug access port's write; any other writer gets an error response. -/
def execDbgRstreq (who : Who) (v : Word) (s : State) : Host.Outcome State Fault Refusal :=
  done (if who = .debug then (s.answerWith stOK []).debugReset (v.toNat % 4) else s.answerWith stERR [])
/-- BLOCK_RESET_ENC (R423). -/
def execBlockResetEnc (n : Nat) (s : State) : Host.Outcome State Fault Refusal := done (s.encReset n)
/-- BLOCK_RESET_I2C (R423). -/
def execBlockResetI2c (n : Nat) (s : State) : Host.Outcome State Fault Refusal := done (s.perReset n (16 + n))
/-- BLOCK_RESET_SPI (R423). -/
def execBlockResetSpi (n : Nat) (s : State) : Host.Outcome State Fault Refusal := done (s.perReset (4 + n) (20 + n))
/-- BLOCK_RESET_UART (R423). -/
def execBlockResetUart (n : Nat) (s : State) : Host.Outcome State Fault Refusal := done (s.perReset (8 + n) (24 + n))
/-- BLOCK_RESET_QUAD (R423). -/
def execBlockResetQuad (q : Nat) (s : State) : Host.Outcome State Fault Refusal := done (s.quadReset q)
/-- BLOCK_RESET_VSM (R423). -/
def execBlockResetVsm (s : State) : Host.Outcome State Fault Refusal := done s.vsmReset
/-- BLOCK_RESET_USB (R423, R491). -/
def execBlockResetUsb (s : State) : Host.Outcome State Fault Refusal := done s.usbReset
/-- BLOCK_RESET_HBM (R423). -/
def execBlockResetHbm (k : Nat) (s : State) : Host.Outcome State Fault Refusal := done (s.hbmReset k)
/-- BLOCK_RESET_PMB (R423). -/
def execBlockResetPmb (who : Who) (s : State) : Host.Outcome State Fault Refusal := done (s.pmbReset who)
/-- BLOCK_RESET_CMP (R423). -/
def execBlockResetCmp (h : Nat) (s : State) : Host.Outcome State Fault Refusal := done (s.cmpReset h)
/-- BLOCK_RESET_EDG (R423). -/
def execBlockResetEdg (k : Nat) (s : State) : Host.Outcome State Fault Refusal := done (s.edgReset k)
/-- BLOCK_RESET_CAP (R423). -/
def execBlockResetCap (k : Nat) (s : State) : Host.Outcome State Fault Refusal := done (s.capReset k)
/-- BLOCK_RESET_AXIS (R423). -/
def execBlockResetAxis (n : Nat) (s : State) : Host.Outcome State Fault Refusal := done (s.axisReset n)

end Sys2Proof.Machine
end

