-- ==== Sys2Proof/Machine/Power.lean ====
section
/-! DEFINITION. Power domains, adaptive voltage and clocks (spec/18, R424 to R437), with a stack's retraining in service
(R264). -/

namespace Sys2Proof.Machine

def State.setPwr (s : State) (f : Pwr → Pwr) : State := { s with pwr := f s.pwr }

/-! ### Domains (R426 to R431) -/

def pdOFF : Nat := 0
def pdON : Nat := 1
def pdCLOSING : Nat := 2
def pdRETAIN : Nat := 3
def pdWAKING : Nat := 4
def pdPOWERING : Nat := 5

def State.pdState (s : State) (n : Nat) : Nat := s.g (R.PWR_PD_STATUS.STATE n)

/-- Is domain `n` in a transition? -/
def State.pdMoving (s : State) (n : Nat) : Bool :=
  s.pdState n = pdCLOSING || s.pdState n = pdWAKING || s.pdState n = pdPOWERING

/-- PWR_STATUS follows the domains. -/
def State.pwrShow (s : State) : State :=
  (s.putB R.PWR_STATUS.TRANS ((List.range 45).any s.pdMoving)).putB R.PWR_STATUS.QUEUED (s.pwr.queued.any (fun e => e.2.isSome))

/-- Domain `n` takes a state; a quadrant shows it in MEM_STATUS and a stack in HBM_STATUS as well. -/
def State.setPd (s : State) (n st : Nat) : State :=
  let s := (s.put (R.PWR_PD_STATUS.STATE n) st).raise R.PWR_EVENTS.STATECHG
  let s := if 39 ≤ n ∧ n ≤ 42 then s.setQuad (n - 39) st else s
  let s := if 7 ≤ n ∧ n ≤ 10 then
      (if st = pdCLOSING then s.setStack (n - 7) 4 else if st = pdOFF then s.setStack (n - 7) 0 else if st = pdON then s.setStack (n - 7) 1 else s)
    else s
  s.pwrShow

/-- The state that a request names: 0 OFF, 1 ON, 3 RETAIN; REQ 3 acts as 1. -/
def pdTarget (req : Nat) : Nat := if req = 0 then pdOFF else if req = 2 then pdRETAIN else pdON

/-- The code with which a request is refused, 0 when it is not (Table 18.4). -/
def State.pdRefusal (s : State) (n target : Nat) : Nat :=
  let leaves := s.pdState n = pdON && decide (target ≠ pdON)
  if n ≤ 4 || (target = pdRETAIN && !(decide (39 ≤ n) && decide (n ≤ 42))) then 1
  else if leaves && n = 10 && [0, 1, 2].any (fun k => s.stackState k = 2) then 2
  else if leaves && 39 ≤ n && n ≤ 42 && s.on R.MEM_STATUS.MARCHBUSY then 2
  else if leaves && 43 ≤ n && [0, 1, 2, 3, 4, 5, 6, 7].any (fun i => s.pdState (23 + 2 * i + (n - 43)) ≠ pdOFF) then 3
  else 0

/-- A trip holds domains PD6 and above off, in a halt until the reset that ends it (R453, R455). -/
def State.heldOff (s : State) (n : Nat) : Bool :=
  decide (6 ≤ n) && (s.on R.THM_STATUS.TRIP || (s.halted && s.bit R.RST_CAUSE.CAUSE 10 && s.pdState n = pdOFF))

/-- A request is taken while the domain is in no transition (R427, R428). -/
def State.pdRun (s : State) (n target : Nat) : State :=
  let code := s.pdRefusal n target
  let s := s.put (R.PWR_PD_STATUS.ERR n) code
  if code ≠ 0 then s.raise R.PWR_EVENTS.REFUSED
  else
    let s := s.put (R.PWR_PD_CTL.REQ n) (if target = pdRETAIN then 2 else target)
    if s.pdState n = target then s
    else if target = pdON then
      (if s.heldOff n then s else s.setPd n (if s.pdState n = pdRETAIN then pdWAKING else pdPOWERING))
    else
      let s := s.setPwr (fun p => { p with goal := p.goal.set n target })
      (s.setPd n pdCLOSING).closePorts (domainPorts n)

/-- The state a domain in transition is entering. -/
def State.pdEntering (s : State) (n : Nat) : Nat := if s.pdState n = pdCLOSING then s.pwr.goal.get n else pdON

/-- A request (R427, R429): refused, taken, or queued behind the transition in progress; a later one replaces a queued one. -/
def State.pdRequest (s : State) (n req : Nat) : State :=
  let target := pdTarget req
  if s.pdMoving n && decide (s.pdRefusal n target ≠ 1) then
    let q := if s.pdEntering n = target then none else some target
    let s := (s.put (R.PWR_PD_STATUS.ERR n) 0).put (R.PWR_PD_CTL.REQ n) req
    let s := s.setPwr (fun p => { p with queued := p.queued.set n q })
    (s.putB (R.PWR_PD_STATUS.BUSY n) q.isSome).pwrShow
  else s.pdRun n target

/-- The queued request runs once the transition is over (R429). -/
def State.pdNext (s : State) (n : Nat) : State :=
  match s.pwr.queued.get n with
  | some t =>
    let s := (s.setPwr (fun p => { p with queued := p.queued.set n none })).putB (R.PWR_PD_STATUS.BUSY n) false
    (s.pdRun n t).pwrShow
  | none => s

/-- The regions of logic group `n`, PD23 to PD38. -/
def regionsOf (n : Nat) : List Nat := (List.range 512).filter (fun g => decide (logicDomain g = n))

/-- A region starts as at a start release (R430, R443): initial values, cleared switch and word-unit registers, its watchdog. -/
def State.regionStart (s : State) (g : Nat) : State :=
  match s.activeCtx g with
  | none => s.gateShow g
  | some c =>
    let s := (s.ffInit g c).swWuClear g
    let s := s.setRegion g { s.region g with
      released := true, held := false, stopped := false, waitAck := [], fixes := [], reinit := false, written := false, deferred := []
      settling := 2, half := 0, edges := none }
    (((s.dampersFresh g).fwdReload g).compEnter g c).gateShow g

/-- A region whose domain has gone: its outputs off, its adapter empty, its neighbours' dampers engaged (R428, R394, R119). -/
def State.regionDark (s : State) (g : Nat) : State :=
  let s := s.setRegion g {}
  let s := s.setAdapter g {}
  let s := (s.put (R.NOC_REGION_CFG.USED g) 0).setRst (fun r => { r with fab := r.fab.filter (fun x => !(x = g)), dbgHeld := r.dbgHeld.filter (fun x => !(x = g)) })
  let s := s.fabShow.scrubStop g
  s.each (g :: neighboursOf g) (fun s r => (s.gateShow r).dmpShow r)

/-- Every slot of region `g` is EMPTY (Table 18.5). -/
def State.slotsGone (s : State) (g : Nat) : State :=
  let s := s.each (List.range 8) (fun s c => s.wr (R.CTX_SLOT_STATE.reg (g * 8 + c)) 0#32)
  let s := (s.putB (R.CTX_REGION_STATUS.HASACT g) false).put (R.CTX_REGION_STATUS.ACT g) 0
  { s with fab := { s.fab with
    frames := s.fab.frames.keep (fun a => decide (a / 0x100000 % 512 ≠ g)), latch := s.fab.latch.keep (fun a => decide (a / 0x100000 % 512 ≠ g))
    saved := s.fab.saved.keep (fun a => decide (a / 2048 ≠ g)) } }

/-- What a domain loses when its gate opens (Table 18.5); `keep` for RETAIN. -/
def State.domainLost (s : State) (n : Nat) (keep : Bool) : State :=
  if n = 5 then
    let s : State := { s with csr := s.csr.keep (fun a =>
      !((decide (0x200000 ≤ a) && decide (a < 0x300000) && !(decide (0x203300 ≤ a) && decide (a < 0x203350))) || (decide (0xC00000 ≤ a) && decide (a < 0xC10000)))) }
    { s with xbar := { ext := s.xbar.ext, pinsOn := s.xbar.pinsOn }, per := {} }
  else if n = 6 then s.linkDrop
  else if n ≤ 10 then ((s.stackLost (n - 7)).forget (n - 7)).setStack (n - 7) 0
  else if n ≤ 22 then
    let q := n - 11
    let s := (s.putB (R.LANE_QUAD_STATUS.PLLLOCK q) false).clrBit R.LANE_STATUS.PLLLOCK q
    s.each ((List.range 4).map (fun i => 4 * q + i)) State.laneOff
  else if n ≤ 38 then s.each (regionsOf n) State.regionDark
  else if n ≤ 42 then
    if keep then s
    else s.each ((List.range 4096).filter (fun b => decide (bankQuad b = n - 39))) (fun s b =>
      ((({ s with mt := { s.mt with pend := s.mt.pend.del b } } : State).putB (R.MEM_BANK_STATUS.PEND b) false).forget (16 + b)).setOwner b 0)
  else s.each ((List.range 512).filter (fun g => decide (g % 16 / 8 = n - 43))) State.slotsGone

/-- DOMAIN_OFF_REACHED (R428, R431): every endpoint is OFF, DEAD or FENCED, and no region of a logic group is switching. -/
def State.domainOff (s : State) (n : Nat) : State :=
  let quiet := (domainPorts n).all (fun ep => !(s.portState ep = portOPEN) && !(s.portState ep = portCLOSING))
  let still := !(decide (23 ≤ n) && decide (n ≤ 38)) || !(regionsOf n).any s.switching
  if s.pdState n = pdCLOSING && quiet && still then
    let goal := s.pwr.goal.get n
    ((s.setPd n goal).domainLost n (goal = pdRETAIN)).pdNext n
  else s

/-- DOMAIN_ON_REACHED (R430): the endpoints open, and the domain's units start. -/
def State.domainOn (s : State) (n : Nat) : State :=
  if s.pdState n = pdPOWERING || s.pdState n = pdWAKING then
    let s := (s.setPd n pdON).openPorts (domainPorts n)
    let s :=
      if 11 ≤ n ∧ n ≤ 22 then
        (s.pllStart (n - 11)).each ((List.range 4).map (fun i => 4 * (n - 11) + i)) (fun s k => if s.on (R.LANE_LANE_CTL.EN k) then s.laneStart k else s)
      else if 23 ≤ n ∧ n ≤ 38 then
        let s := if s.xbar.pinsOn then s.each (regionsOf n) State.regionStart else s
        s.each ((regionsOf n).flatMap neighboursOf) State.dmpShow
      else s
    s.pdNext n
  else s

/-- A stack powered up in service has been trained (R264, R267): ON, its regions initialised and new keys drawn, or FAILED. -/
def State.trained (s : State) (k : Nat) (ok : Bool) : State :=
  if s.stackState k ≠ 1 || s.start.step.isSome then s
  else if ok then ((s.scrInitStack k).drawKeys).setStack k 2
  else s.setStack k 3

/-! ### Adaptive voltage (R432, R433) -/

/-- Once VCCL has settled, an AGEAPPLY that waited is answered (R460). -/
def State.vcclSettle (s : State) : State :=
  if s.g R.PWR_AVS_STATUS.TARGET = s.pwr.vccl then
    let w := s.pwr.waits
    (s.setPwr (fun p => { p with waits := [] })).each w (fun s m => s.answerMbx m 0 0 0)
  else s

/-- An adaptive-voltage fault: the last target is held (R433). -/
def State.avsFault (s : State) : State :=
  ((s.raise R.PWR_EVENTS.AVSERR).setPwr (fun p => { p with held := true, vccl := s.g R.PWR_AVS_STATUS.TARGET })).report .regulator |>.vcclSettle

/-- A PMBus command code is sent, unless the regulator is on AVSBus (R432, Table 16.5). -/
def State.pmbSend (s : State) (code : Nat) : State :=
  if s.on R.PWR_AVS_CFG.IF_ then s else s.put R.PER_PMB_STATUS.LASTCMD code

/-- AVS_POLL (R433): READ_VOUT gave `mv`; `fault` says that STATUS_WORD shows one, `pec` that a transaction failed its check
three times. -/
def State.avsPoll (s : State) (mv : Nat) (fault pec : Bool) : State :=
  if !s.on R.PWR_AVS_CFG.EN then s
  else if pec then (s.bump R.PER_PMB_STATUS.PECERR 3).avsFault
  else
    let s := ((s.pmbSend 0x8B).pmbSend 0x79).put R.PWR_AVS_STATUS.MEAS (min mv 65535)
    let t := s.g R.PWR_AVS_STATUS.TARGET
    let off := decide (t + 15 < mv) || decide (mv + 15 < t)
    let k := if off then s.pwr.misses + 1 else 0
    let s := s.setPwr (fun p => { p with misses := k % 3 })
    if fault || decide (3 ≤ k) then s.avsFault else s

/-- AVS_STEP (R432): VCCL moves by at most 5 mV toward its target; nothing moves once AVSERR has been set. -/
def State.avsStep (s : State) : State :=
  if !s.on R.PWR_AVS_CFG.EN || s.pwr.held then s
  else
    let t := s.g R.PWR_AVS_STATUS.TARGET
    let v := s.pwr.vccl
    let x := if t < v then min v (t + 5) else max v (t - 5)
    ((if x = t then s else s.pmbSend 0x21).put R.PWR_AVS_STATUS.TARGET x).vcclSettle

/-- A write of PWR_AVS_CFG: the supervisor's. Clearing EN ends what an AVSERR held. -/
def State.avsCfgWrite (s : State) (v : Word) : State :=
  let s := s.wr R.PWR_AVS_CFG.reg ((v &&& 0xC07FFF00#32) ||| (s.rw R.PWR_AVS_CFG.reg &&& 0x3F8000FF#32))
  if s.on R.PWR_AVS_CFG.EN then s else s.setPwr (fun p => { p with held := false, misses := 0 })

/-! ### Clocks (R434 to R437) -/

/-- The powered regions with an ACTIVE slot on fabric PLL `k` (USERS). -/
def State.fpllUsers (s : State) (k : Nat) : Nat :=
  ((List.range 512).filter (fun g => s.on (R.CTX_REGION_STATUS.HASACT g) && s.logicOn g && decide (s.g (R.CLK_REGION_CFG.SRC g) = k))).length

/-- Does fabric PLL `k` run at more than `f` MHz? -/
def State.fpllOver (s : State) (k f : Nat) : Bool := decide (f * s.g (R.CLK_FPLL_CFG.P k) < 100 * s.g (R.CLK_FPLL_CFG.M k))

/-- The output of fabric PLL `k` in whole MHz. -/
def State.fpllMHz (s : State) (k : Nat) : Nat := 100 * s.g (R.CLK_FPLL_CFG.M k) / s.g (R.CLK_FPLL_CFG.P k)

/-- A write of CLK_FPLLk_CFG (R435): refused with CFGERR, or taken, and the PLL relocks. -/
def State.fpllWrite (s : State) (k : Nat) (v : Word) : State :=
  let m := (R.CLK_FPLL_CFG.M k).of v
  let p := (R.CLK_FPLL_CFG.P k).of v
  if m < 20 || 30 < m || p < 3 || 120 < p || 100 * m < 25 * p || 750 * p < 100 * m || decide (s.fpllUsers k ≠ 0) then
    s.raise R.CLK_EVENTS.CFGERR
  else
    let s := s.wr (R.CLK_FPLL_CFG.reg k) (v &&& 0x80007F1F#32)
    ((s.putB (R.CLK_FPLL_STATUS.LOCK k) false).put (R.CLK_FPLL_STATUS.FREQ k) (s.fpllMHz k)).clrBit R.CLK_STATUS.FPLLLOCK k

/-- The regions whose source is fabric PLL `k`. -/
def State.regionsOn (s : State) (k : Nat) : List Nat := (List.range 512).filter (fun g => decide (s.g (R.CLK_REGION_CFG.SRC g) = k))

/-- Fabric PLL `k` locks: its gated regions resume (R437). -/
def State.fpllLock (s : State) (k : Nat) : State :=
  if !s.on (R.CLK_FPLL_CFG.EN k) then s
  else
    let s := (s.putB (R.CLK_FPLL_STATUS.LOCK k) true).setBit R.CLK_STATUS.FPLLLOCK k
    s.each (s.regionsOn k) (fun s g =>
      let was := s.on (R.CLK_REGION_STATUS.CLKLOST g)
      let s := (s.putB (R.CLK_REGION_STATUS.CLKLOST g) false).gateShow g
      if was then s.fwdReload g else s)

/-- Fabric PLL `k` loses lock: every region on it is gated (R437). -/
def State.fpllLost (s : State) (k : Nat) : State :=
  if !s.on (R.CLK_FPLL_STATUS.LOCK k) then s
  else
    let s := (((s.putB (R.CLK_FPLL_STATUS.LOCK k) false).raise (R.CLK_FPLL_STATUS.LOST k)).clrBit R.CLK_STATUS.FPLLLOCK k).raise R.CLK_EVENTS.FPLLLOST
    s.each (s.regionsOn k) (fun s g => (s.putB (R.CLK_REGION_STATUS.CLKLOST g) true).gateShow g)

/-- A write of STAGE `k` for region `g` (R436): refused with CFGERR, taken at once, or left for edge 3 of the next switch. -/
def State.clkStage (s : State) (g k : Nat) : State :=
  if !s.on (R.CLK_FPLL_CFG.EN k) || s.fpllOver k (s.g (R.CLK_REGION_STATUS.FMAX g)) then s.raise R.CLK_EVENTS.CFGERR
  else
    let s := s.put (R.CLK_REGION_CFG.STAGE g) k
    if s.on (R.CTX_REGION_STATUS.HASACT g) && s.logicOn g then s.putB (R.CLK_REGION_CFG.PEND g) true
    else s.srcMove g

/-! ### Commands -/

/-- PD_REQUEST_OFF (R427, R428). -/
def execPdRequestOff (n : Nat) (s : State) : Host.Outcome State Fault Refusal := done (s.pdRequest n 0)
/-- PD_REQUEST_ON (R427). -/
def execPdRequestOn (n : Nat) (s : State) : Host.Outcome State Fault Refusal := done (s.pdRequest n 1)
/-- PD_REQUEST_RETAIN (R251, R427). -/
def execPdRequestRetain (n : Nat) (s : State) : Host.Outcome State Fault Refusal := done (s.pdRequest n 2)
/-- DOMAIN_OFF_REACHED (R428). -/
def execDomainOffReached (n : Nat) (s : State) : Host.Outcome State Fault Refusal := done (s.domainOff n)
/-- DOMAIN_ON_REACHED (R430). -/
def execDomainOnReached (n : Nat) (s : State) : Host.Outcome State Fault Refusal := done (s.domainOn n)
/-- HBM_TRAINING_DONE (R264): stack `k`. -/
def execHbmTrainingDone (k : Nat) (ok : Bool) (s : State) : Host.Outcome State Fault Refusal := done (s.trained k ok)
/-- LOWWARN (R425). -/
def execLowwarn (s : State) : Host.Outcome State Fault Refusal := done (s.raise R.PWR_EVENTS.LOWWARN)
/-- AVS_POLL (R433). -/
def execAvsPoll (mv : Nat) (fault pec : Bool) (s : State) : Host.Outcome State Fault Refusal := done (s.avsPoll mv fault pec)
/-- AVS_STEP (R432). -/
def execAvsStep (s : State) : Host.Outcome State Fault Refusal := done s.avsStep
/-- FPLL_CFG_WRITE (R435). -/
def execFpllCfgWrite (k : Nat) (v : Word) (s : State) : Host.Outcome State Fault Refusal := done (s.fpllWrite k v)
/-- FPLL_LOCK (R437). -/
def execFpllLock (k : Nat) (s : State) : Host.Outcome State Fault Refusal := done (s.fpllLock k)
/-- FPLL_LOCK_LOSS (R437). -/
def execFpllLockLoss (k : Nat) (s : State) : Host.Outcome State Fault Refusal := done (s.fpllLost k)
/-- CLK_REGION_STAGE (R436). -/
def execClkRegionStage (g k : Nat) (s : State) : Host.Outcome State Fault Refusal := done (s.clkStage g k)

end Sys2Proof.Machine
end

