-- ==== Sys2Proof/Machine/Thermal.lean ====
section
/-! DEFINITION. Temperature and ageing (spec/20, R448 to R461): channels, thresholds and actions, the trip, the ageing plan. -/

namespace Sys2Proof.Machine

/-! ### Channels and thresholds (R448 to R454) -/

/-- A signed 16-bit field. -/
def signed16 (v : Nat) : Int := (BitVec.ofNat 16 v).toInt

/-- Has any on-die channel ALARM set? -/
def State.dieAlarm (s : State) : Bool := (List.range 20).any (fun n => s.on (R.THM_CH_READ.ALARMF n))

/-- MAXTEMP and MAXCH show the hottest on-die reading. -/
def State.hottest (s : State) : State :=
  let best := (List.range 20).foldl (fun (m : Option (Nat × Int)) n =>
    if !s.on (R.THM_CH_READ.VALID n) then m
    else
      let t := signed16 (s.g (R.THM_CH_READ.TEMP n))
      match m with
      | some (_, x) => if x < t then some (n, t) else m
      | none => some (n, t)) none
  match best with
  | some (n, _) => (s.put R.THM_STATUS.MAXCH n).put R.THM_STATUS.MAXTEMP (s.g (R.THM_CH_READ.TEMP n))
  | none => s

/-- A flag after a reading `t` under a threshold with hysteresis, both in 1/16 °C (R451). -/
def flagAfter (was : Bool) (t thr hyst : Int) : Bool := if thr ≤ t then true else if t < thr - hyst then false else was

/-- The action of a machine channel whose ALARM is set (Table 20.2). -/
def State.channelAct (s : State) (n : Nat) : State :=
  let k := s.g (R.THM_CH_CFG.TARGET n)
  match s.g (R.THM_CH_CFG.ACTION n) with
  | 1 => s.commitAt (s.dueXtick 0) (k % 16)
  | 2 => s.ctxSwitch (2 ^ k) 0
  | _ => s

/-- The trip comparator of an on-die channel (R453). -/
def State.tripSample (s : State) (n : Nat) (t : Int) : State :=
  let k := if signed16 (s.g R.THM_TRIP.TRIP) ≤ t then min 2 (s.age.hot.get n + 1) else 0
  let s : State := { s with age := { s.age with hot := s.age.hot.set n k } }
  if k = 2 && !s.rst.asserted.contains 10 then s.resetAccept 10 2 else s

/-- THM_SAMPLE (R450, R451): channel `n` reads `temp` in 1/16 °C, or none, open or shorted. -/
def State.thmSample (s : State) (n : Nat) (temp : Option Int) : State :=
  if !s.on (R.THM_CH_CFG.EN n) then s
  else
    let t : Int := match temp with
      | some x => max (-32768) (min 32766 x)
      | none => 32767
    let broken := temp.isNone
    let hyst : Int := 16 * (s.g (R.THM_CH_CFG.HYST n) : Int)
    let wasW := s.on (R.THM_CH_READ.WARNF n)
    let wasA := s.on (R.THM_CH_READ.ALARMF n)
    let isW := flagAfter wasW t (signed16 (s.g (R.THM_CH_THR.WARN n))) hyst
    let isA := flagAfter wasA t (signed16 (s.g (R.THM_CH_THR.ALARM n))) hyst
    let s := if broken && !s.on (R.THM_CH_READ.BROKEN n) then s.raise R.THM_EVENTS.BROKEN else s
    let s := (((((s.put (R.THM_CH_READ.TEMP n) (BitVec.ofInt 16 t).toNat).putB (R.THM_CH_READ.VALID n) true).putB (R.THM_CH_READ.BROKEN n) broken).putB
      (R.THM_CH_READ.WARNF n) isW).putB (R.THM_CH_READ.ALARMF n) isA)
    let s := if isW && !wasW then s.raise R.THM_EVENTS.WARN else s
    let s := if isA && !wasA then s.raise R.THM_EVENTS.ALARM else s
    if n < 20 then
      let hot := s.dieAlarm
      let s := if hot && !s.on R.THM_STATUS.THROTTLE then s.raise R.THM_EVENTS.THROTTLE else s
      ((s.putB R.THM_STATUS.THROTTLE hot).hottest).tripSample n t
    else if isA && !wasA then s.channelAct n
    else s

/-- A write to THM_TRIP (R454): it may only lower the threshold, and not below 90 °C. -/
def State.tripWrite (s : State) (v : Word) : State :=
  let x := signed16 (v.toNat % 65536)
  if signed16 (s.g R.THM_TRIP.TRIP) < x || x < 1440 then s.raise R.THM_EVENTS.CFGERR else s.put R.THM_TRIP.TRIP (v.toNat % 65536)

/-! ### Ageing (R457 to R461) -/

/-- The combinational planar hop of Table 5.4 for grade -2, in 0.01 ps. -/
def hopTab : Nat := 9500
/-- The grade's maximum switch clock, MHz. -/
def gradeMax : Nat := 750

/-- The hop delay at `mv` of one that is `d` at 0.75 V, in 0.000001 ps: 0.75 % less for each 5 mV above (R458). -/
def hopAt (d mv : Nat) : Nat := d * (10000 + 75 * 150 - 75 * (mv / 5))

/-- Does a region with hop `d` at 0.75 V have the margin `m` (0.1 %) at `mv`, with its clock limit at `f` MHz (R458, R459)? -/
def marginOk (d mv f m : Nat) : Bool := decide (1000 * f * hopAt d mv ≤ (1000 - m) * hopTab * gradeMax * 10000)

/-- MARGIN in 0.1 % units, rounded down, at `mv` and clock limit `f`. -/
def marginOf (d mv f : Nat) : Int :=
  let tab : Int := (hopTab * gradeMax * 10000 : Nat)
  1000 * (tab - (f * hopAt d mv : Nat)) / tab

/-- The highest clock limit, from `f` down in steps of 25 MHz, with the margin at `mv`. -/
def fmaxFor (d mv m : Nat) : Nat → Nat → Nat
  | 0, f => f
  | k + 1, f => if marginOk d mv f m || f ≤ 25 then f else fmaxFor d mv m k (f - 25)

/-- The hours at a drift until 0.80 V no longer gives the margin (R459). -/
def hoursLeft (d drift f m : Nat) : Nat :=
  let dmax := (1000 - m) * hopTab * gradeMax * 10000 / (1000 * f * 9250)
  if drift = 0 then 0xFFFFFFFF else min 0xFFFFFFFF ((dmax - d) * 1000 / drift)

/-- The VCCL targets of a plan, lowest first. -/
def vcclGrid : List Nat := (List.range 17).map (fun k => 720 + 5 * k)

/-- The clock limits that a plan gives at `mv`, for the regions where it lowers the present one. -/
def State.planFmax (s : State) (mv : Nat) : SMap Nat :=
  let m := s.g R.AGE_CFG.MINMARGIN
  s.age.meas.foldl (fun t (x : Nat × Nat × Nat) =>
    let f := s.g (R.CLK_REGION_STATUS.FMAX x.1)
    let n := fmaxFor x.2.1 mv m 40 f
    if n < f then t.set x.1 n else t) []

/-- AGE_MEASUREMENT (R457 to R459, R461): every powered region's monitors: region, d_wc at 0.75 V in 0.01 ps, and DRIFT in 0.01 ps
per 1,000 hours; then the plan. -/
def State.ageMeasure (s : State) (l : List (Nat × Nat × Nat)) : State :=
  let l := l.filter (fun x => decide (x.1 < 512) && s.logicOn x.1)
  let s : State := { s with age := { s.age with meas := l } }
  let m := s.g R.AGE_CFG.MINMARGIN
  let now := s.g R.PWR_AVS_STATUS.TARGET
  let s := l.foldl (fun (s : State) x =>
    let g := x.1
    ((s.put (R.AGE_REGION_MARGIN.DRIFT g) (min 4095 x.2.2)).put (R.AGE_REGION_MARGIN.DWC g) (min 255 (hopAt x.2.1 now / 500000))).put
      (R.AGE_REGION_MARGIN.MARGIN g) (BitVec.ofInt 8 (max (-128) (min 127 (marginOf x.2.1 now gradeMax)))).toNat) s
  let all (mv : Nat) : Bool := l.all (fun x => marginOk x.2.1 mv (s.g (R.CLK_REGION_STATUS.FMAX x.1)) m)
  let v := (vcclGrid.find? all).getD 800
  let fm := s.planFmax 800
  let pred := l.foldl (fun h x => min h (hoursLeft x.2.1 x.2.2 (s.g (R.CLK_REGION_STATUS.FMAX x.1)) m)) 0xFFFFFFFF
  let s : State := { s with age := { s.age with fmax := fm } }
  let s := ((s.put R.AGE_PLAN.VTARGET v).put R.AGE_PREDHOURS.PREDHOURS pred).putB R.AGE_STATUS.PLANPEND true
  let s := (s.putB R.AGE_STATUS.FMAXPEND (!fm.isEmpty)).raise R.AGE_EVENTS.MEASURED
  if pred < s.g R.AGE_CFG.WARNH then s.raise R.AGE_EVENTS.MARGINLOW else s

/-- May the VCCL part of a plan be applied (R460)? -/
def State.vcclFree (s : State) : Bool := s.on R.PWR_AVS_CFG.EN && !s.pwr.held

/-- AGEAPPLY (R460): the planned VCCL is made the target, and the request is answered once it has settled; a lower FMAX stays
pending. -/
def State.ageApply (s : State) (m : Nat) : State :=
  if !s.mbxRuns m 0x60 then s
  else if s.on R.AGE_STATUS.PLANPEND && s.vcclFree then
    let s := (s.putB R.AGE_STATUS.PLANPEND false).raise R.AGE_EVENTS.APPLIED
    (s.setPwr (fun p => { p with vccl := s.g R.AGE_PLAN.VTARGET, waits := p.waits ++ [m] })).vcclSettle
  else s.answerMbx m 0 0 0

/-- The whole plan is applied before REGIONS (R460): VCCL where it may be, and FMAX, against 0.75 V where VCCL is not commanded. -/
def State.ageStart (s : State) : State :=
  if !s.on R.AGE_STATUS.PLANPEND then s
  else
    let free := s.vcclFree
    let fm := if free then s.age.fmax else s.planFmax 750
    let s := if free then (s.setPwr (fun p => { p with vccl := s.g R.AGE_PLAN.VTARGET })).put R.PWR_AVS_STATUS.TARGET (s.g R.AGE_PLAN.VTARGET) else s
    let s := fm.foldl (fun (s : State) e => s.put (R.CLK_REGION_STATUS.FMAX e.1) e.2) s
    ({ ((s.putB R.AGE_STATUS.PLANPEND false).putB R.AGE_STATUS.FMAXPEND false) with age := { s.age with fmax := [] } } : State).raise R.AGE_EVENTS.APPLIED

/-! ### Commands -/

/-- THM_SAMPLE (R451). -/
def execThmSample (n : Nat) (temp : Option Int) (s : State) : Host.Outcome State Fault Refusal := done (s.thmSample n temp)
/-- THM_TRIP_WRITE (R454). -/
def execThmTripWrite (v : Word) (s : State) : Host.Outcome State Fault Refusal := done (s.tripWrite v)
/-- AGE_MEASUREMENT (R457). -/
def execAgeMeasurement (l : List (Nat × Nat × Nat)) (s : State) : Host.Outcome State Fault Refusal := done (s.ageMeasure l)
/-- AGEAPPLY (R460). -/
def execAgeapply (m : Nat) (s : State) : Host.Outcome State Fault Refusal := done (s.ageApply m)
/-- OPERATING_HOUR (R457). -/
def execOperatingHour (s : State) : Host.Outcome State Fault Refusal := done (s.bump R.AGE_HOURS.HOURS 1)

end Sys2Proof.Machine
end

