-- ==== Sys2Proof/Machine/Tick.lean ====
section
/-! DEFINITION. One tick of the angle timebase (R25, R26) and what happens at it, in the order of Table 3.4 (R70, R71). -/

namespace Sys2Proof.Machine

/-- The real-time counter at a tick (R25, Table 21.2). With plant time locked, or its last rate held, the tick falls on the next
whole multiple of 4 ns of plant time; otherwise the counter goes on by 4 ns, steered while it is acquired. On battery the
crystal drives it. DESIGN CHOICE (log entry 8): the first locked tick is the first such multiple after the tick before it. -/
def State.rtcTick (s : State) : State :=
  if s.sec.onBat || s.sec.lost then s
  else if s.on R.ANG_STATUS.TICK_LOCK || s.on R.ANG_STATUS.TICK_HOLD then { s with rtc := ((s.rtc >>> 18) + 1) <<< 18 }
  else { s with rtc := s.rtc + BitVec.ofInt 80 (262144 + s.vsm.rate) }

/-- The switch groups that region comparators of these regions trigger (R55, R144). -/
def State.rcmpGroups (s : State) (l : List Nat) : List Nat :=
  (l.filter (fun g => s.on (R.CTX_REGION_CTL.MEMBER g) && s.on (R.CTX_SG_CFG.EN_RCMP (s.g (R.CTX_REGION_CTL.GROUP g))))).map
    (fun g => s.g (R.CTX_REGION_CTL.GROUP g))

/-- Order 4 of Table 3.4: commits, then switch-group triggers, then ARM actions; several firings with one target act as one (R71).
`acts` are kinds and targets of Table 3.2, `groups` the groups that region comparators trigger. -/
def State.tickActions (s : State) (acts : List (Nat × Nat)) (groups : List Nat) : State :=
  let of (kind below : Nat) : List Nat :=
    ((acts.filter (fun a => a.1 = kind && decide (a.2 < below))).map (fun a => a.2)).eraseDups
  let s := s.each (of 2 16) (fun s g => s.commitAt (2 * (s.tick + 1)) g)
  let s := s.each ((of 1 32).filter (fun g => s.on (R.CTX_SG_CFG.EN_SCMP g)) ++ groups).eraseDups State.sgPostTick
  { s with evt := { s.evt with armNext := s.evt.armNext ++ (of 3 128).map (fun n => (false, n)) ++ (of 4 128).map (fun n => (true, n)) } }

/-- Orders 2 and 3 of Table 3.4: the ledger's births and station events; a device that holds a mirror works them out (R380). -/
def State.ledgerTick (s : State) : State :=
  (if !s.unitsRun then s
   else if s.lgrActs then s.birthsTick.stationsTick else s.mirrorTick).distTick

/-- The capture windows and the edge units of a tick (order 6, R60), and what became of gate pairs (R168). -/
def State.unitsTick (s : State) : State :=
  if !s.unitsRun then s
  else
    let s := s.capsTick.edgesTick
    if s.lgrActs then s.gateResults else { s with lgr := { s.lgr with gateOut := [] } }

/-- Everything at a tick outside a reset: the axes first, so that what comes into force now is judged by this tick's values (R53). -/
def State.tickRun (s : State) : State :=
  let s := ({ s with evt := { s.evt with fell := [] } } : State).axesTick
  let s := ((if s.unitsRun then s.evtDue else s).rcDue).ledgerTick
  let c : State × List (Nat × Nat) := if s.unitsRun then s.cmpsTick else (s, [])
  let r := c.1.rcmpsTick
  let s := (r.1.tickActions c.2 (r.1.rcmpGroups r.2)).unitsTick.pinsLog
  let s := if s.xbar.pinsOn then s.fwdTick.scrubTick else s
  (s.columnsTick.lanesTick.histTick.mirrorFlush).twinFollow.vsmAnswers.hostAnswers

/-- Nothing moves at a tick while a reset is in force or the device runs on the battery. -/
def State.tickGuarded (s : State) : State := if s.rst.reach ≠ 0 || s.sec.onBat then s else s.tickRun

/-- ANGLE_TICK: the tick's number and plant time, then what happens at it. -/
def State.angleTick (s : State) : State := ({ s with tick := s.tick + 1 } : State).rtcTick.tickGuarded

/-- ANGLE_TICK (R25). -/
def execAngleTick (s : State) : Host.Outcome State Fault Refusal := done s.angleTick

end Sys2Proof.Machine
end

