-- ==== Sys2Proof/Machine/Csr.lean ====
section
/-! DEFINITION. Accesses to the control and status registers (R5 to R10, R515): the writers a register accepts, what a
write does to plain fields by their access codes (Table 0.3), and the registers whose write is an operation of its block. -/

namespace Sys2Proof.Machine

/-- Does a register accept a writer (R515)? The image's CSRW commands are the supervisor's. -/
def Writer.accepts (w : Writer) (who : Who) : Bool :=
  match w with
  | .any => true
  | .supervisor => decide (who = .super) || decide (who = .image)
  | .debug => decide (who = .debug)

/-- Is the writer the supervisor, or the image that it loads? -/
def supervises (who : Who) : Bool := decide (who = .super) || decide (who = .image)

/-- A write to the plain fields of a register, by access code (Table 0.3). What hardware sets in the write's own cycle stands
behind the write in the queue, so it stays set (R9; log entry 6). -/
def State.plainWrite (s : State) (r : RegRow) (a : Nat) (v : Word) : State :=
  let old := s.rw a
  let rw := BitVec.ofNat 32 r.rw
  s.wr a ((((old &&& ~~~rw) ||| (v &&& rw)) &&& ~~~(v &&& BitVec.ofNat 32 r.w1c)) ||| (v &&& BitVec.ofNat 32 r.w1s))

/-- The registers whose write is an operation: the first offset, how many lie how far apart, and what a write by `who` of
`v` to the one of index `n`, `sub` ps after the current tick, does. -/
structure CsrOp where
  base : Nat
  count : Nat
  stride : Nat
  act : Who → Nat → Word → Nat → State → State

/-- The index of the register at offset `a`, if the operation is its. -/
def CsrOp.index (o : CsrOp) (a : Nat) : Option Nat :=
  if o.base ≤ a ∧ (a - o.base) % o.stride = 0 ∧ (a - o.base) / o.stride < o.count then some ((a - o.base) / o.stride) else none

/-- A write to a staged register of the timebase changes its stage alone (R43). -/
def State.axisStage (s : State) (a : Nat) (v : Word) : State := { s with ang := { s.ang with stage := s.ang.stage.set a (some v) } }

/-- A write to ANG_AXISn_CTL: VRUN, EN and REARM (R35, R42, R47). -/
def State.axisCtl (s : State) (n : Nat) (v : Word) : State :=
  let s := s.putB (R.ANG_AXIS_CTL.VRUN n) (v.getLsbD 2)
  let s := if v.getLsbD 0 then s.axEnable n else s.axDisable n
  if v.getLsbD 1 then s.putB (R.ANG_AXIS_CTL.REARM n) true else s

/-- The timebase (spec/02). -/
def opsANG : List CsrOp :=
  [⟨R.ANG_APPLY.reg, 1, 4, fun _ _ v sub s => s.angApply v.toNat sub⟩,
   ⟨R.ANG_SNAP.reg, 1, 4, fun _ _ v _ s => s.angSnap v.toNat⟩,
   ⟨R.ANG_AXIS_CFG.reg 0, 16, 64, fun _ n v _ s => s.axisStage (R.ANG_AXIS_CFG.reg n) (v &&& 0xF7F#32)⟩,
   ⟨R.ANG_AXIS_CPC.reg 0, 16, 64, fun _ n v _ s => s.axisStage (R.ANG_AXIS_CPC.reg n) (v &&& 0xFFFFFF#32)⟩,
   ⟨R.ANG_AXIS_RATIO_NUM.reg 0, 16, 64, fun _ n v _ s => s.axisStage (R.ANG_AXIS_RATIO_NUM.reg n) v⟩,
   ⟨R.ANG_AXIS_RATIO_DEN.reg 0, 16, 64, fun _ n v _ s => s.axisStage (R.ANG_AXIS_RATIO_DEN.reg n) v⟩,
   ⟨R.ANG_AXIS_OFFSET_LO.reg 0, 16, 64, fun _ n v _ s => s.axisStage (R.ANG_AXIS_OFFSET_LO.reg n) v⟩,
   ⟨R.ANG_AXIS_OFFSET_HI.reg 0, 16, 64, fun _ n v _ s => s.axisStage (R.ANG_AXIS_OFFSET_HI.reg n) v⟩,
   ⟨R.ANG_AXIS_HOME.reg 0, 16, 64, fun _ n v _ s => s.axisStage (R.ANG_AXIS_HOME.reg n) v⟩,
   ⟨R.ANG_AXIS_COAST.reg 0, 16, 64, fun _ n v _ s => s.axisStage (R.ANG_AXIS_COAST.reg n) (v &&& 0xFFFF#32)⟩,
   ⟨R.ANG_AXIS_TRIM.reg 0, 16, 64, fun _ n v sub s => s.trimWrite n v (decide (4000 ≤ sub))⟩,
   ⟨R.ANG_AXIS_CTL.reg 0, 16, 64, fun _ n v _ s => s.axisCtl n v⟩]

/-- The event scheduler (spec/03). -/
def opsEVT : List CsrOp :=
  [⟨R.EVT_CMP_CFG.reg 0, 64, 32, fun _ n v sub s => s.evtWrite (R.EVT_CMP_CFG.reg n) v cmpCfgMask sub⟩,
   ⟨R.EVT_CMP_ACTION.reg 0, 64, 32, fun _ n v sub s => s.evtWrite (R.EVT_CMP_ACTION.reg n) v 0x7FF sub⟩,
   ⟨R.EVT_CMP_PERIOD.reg 0, 64, 32, fun _ n v sub s => s.evtWrite (R.EVT_CMP_PERIOD.reg n) v 0xFFFFFFFF sub⟩,
   ⟨R.EVT_CMP_ANGLE_HI.reg 0, 64, 32, fun _ n v sub s => s.targetCommit (R.EVT_CMP_ANGLE_HI.reg n) (R.EVT_CMP_ANGLE_LO.reg n) v sub⟩,
   ⟨R.EVT_EDG_CFG.reg 0, 128, 32, fun _ n v sub s => s.evtWrite (R.EVT_EDG_CFG.reg n) v edgCfgMask sub⟩,
   ⟨R.EVT_EDG_PERIOD.reg 0, 128, 32, fun _ n v sub s => s.evtWrite (R.EVT_EDG_PERIOD.reg n) v 0xFFFFFFFF sub⟩,
   ⟨R.EVT_EDG_FAB.reg 0, 128, 32, fun _ n v sub s => s.evtWrite (R.EVT_EDG_FAB.reg n) v 0xFFFFFFFF sub⟩,
   ⟨R.EVT_EDG_SET_HI.reg 0, 128, 32, fun _ n v sub s => s.targetCommit (R.EVT_EDG_SET_HI.reg n) (R.EVT_EDG_SET_LO.reg n) v sub⟩,
   ⟨R.EVT_EDG_CLR_HI.reg 0, 128, 32, fun _ n v sub s => s.targetCommit (R.EVT_EDG_CLR_HI.reg n) (R.EVT_EDG_CLR_LO.reg n) v sub⟩,
   ⟨R.EVT_CAP_CFG.reg 0, 128, 64, fun _ n v sub s => s.evtWrite (R.EVT_CAP_CFG.reg n) v capCfgMask sub⟩,
   ⟨R.EVT_CAP_OPEN.reg 0, 128, 64, fun _ n v sub s => s.evtWrite (R.EVT_CAP_OPEN.reg n) v 0xFFFFFFFF sub⟩,
   ⟨R.EVT_CAP_CLOSE.reg 0, 128, 64, fun _ n v sub s => s.evtWrite (R.EVT_CAP_CLOSE.reg n) v 0xFFFFFFFF sub⟩,
   ⟨R.EVT_CAP_DEST_LO.reg 0, 128, 64, fun _ n v sub s => s.evtWrite (R.EVT_CAP_DEST_LO.reg n) v 0xFFFFFFF0 sub⟩,
   ⟨R.EVT_CAP_DEST_HI.reg 0, 128, 64, fun _ n v sub s => s.evtWrite (R.EVT_CAP_DEST_HI.reg n) v 0xFFF sub⟩]

/-- A write to SYS_FWDn_STATUS (spec/04): EXPIRED cleared, and UNFREEZE (R104). -/
def State.fwdStatusWrite (s : State) (g : Nat) (v : Word) : State :=
  let s := if v.getLsbD 0 then s.putB (R.SYS_FWD_STATUS.EXPIRED g) false else s
  if v.getLsbD 3 then s.unfreeze g else s

/-- The fabric watchdogs and the switch groups (spec/04, spec/06). -/
def opsSYS : List CsrOp :=
  [⟨R.SYS_FWD_CFG.reg 0, 512, 8, fun _ g v _ s => s.fwdCfgWrite g v⟩,
   ⟨R.SYS_FWD_STATUS.reg 0, 512, 8, fun _ g v _ s => s.fwdStatusWrite g v⟩,
   ⟨R.CTX_SWITCH.reg, 1, 4, fun _ _ v sub s => s.ctxSwitch v.toNat sub⟩,
   ⟨R.CTX_SG_CFG.reg 0, 32, 16, fun _ n v _ s => s.sgCfgWrite n v⟩,
   ⟨R.CTX_REGION_CTL.reg 0, 512, 8, fun _ g v _ s => s.regionCtlWrite g v⟩]

/-- A write to LGR_CTL: a record waits only for enabled report paths (R173). -/
def State.lgrCtlWrite (s : State) (v : Word) : State :=
  let s := s.wr R.LGR_CTL.reg (v &&& 3#32)
  let s := { s with lgr := { s.lgr with out := s.lgr.out.map (fun (r : LRec) =>
    { r with ring := r.ring && v.getLsbD 0, vsm := r.vsm && v.getLsbD 1 }) } }
  s.ringDrain

/-- The item ledger (spec/07). -/
def opsLGR : List CsrOp :=
  [⟨R.LGR_CTL.reg, 1, 4, fun _ _ v _ s => s.lgrCtlWrite v⟩,
   ⟨R.LGR_APPLY.reg, 1, 4, fun _ _ v _ s => s.lgrApply (v.toNat % 16)⟩,
   ⟨R.LGR_RING_RPTR.reg, 1, 4, fun _ _ v _ s => (s.wr R.LGR_RING_RPTR.reg v).ringDrain⟩,
   ⟨R.LGR_STREAM_CFG.reg 0, 4, 64, fun _ n v sub s => s.streamCfgWrite n v sub⟩,
   ⟨R.LGR_STREAM_BASE.reg 0, 4, 64, fun _ n v _ s => s.streamRegWrite n (R.LGR_STREAM_BASE.reg n) (v &&& 0xFFFF#32)⟩,
   ⟨R.LGR_STREAM_PITCH.reg 0, 4, 64, fun _ n v _ s => s.streamRegWrite n (R.LGR_STREAM_PITCH.reg n) v⟩,
   ⟨R.LGR_STREAM_ORIGIN_LO.reg 0, 4, 64, fun _ n v _ s => s.streamRegWrite n (R.LGR_STREAM_ORIGIN_LO.reg n) v⟩,
   ⟨R.LGR_STREAM_ORIGIN_HI.reg 0, 4, 64, fun _ n v _ s => s.streamRegWrite n (R.LGR_STREAM_ORIGIN_HI.reg n) v⟩,
   ⟨R.LGR_STREAM_CLOSE.reg 0, 4, 64, fun _ n v _ s => s.bankedWrite n (R.LGR_STREAM_CLOSE.reg n) v⟩,
   ⟨R.LGR_STREAM_GATESET.reg 0, 4, 64, fun _ n v _ s => s.bankedWrite n (R.LGR_STREAM_GATESET.reg n) v⟩,
   ⟨R.LGR_STREAM_GATECLR.reg 0, 4, 64, fun _ n v _ s => s.bankedWrite n (R.LGR_STREAM_GATECLR.reg n) v⟩,
   ⟨R.LGR_STATION_CFG.reg 0, 64, 16, fun _ n v _ s => s.stationWrite n (R.LGR_STATION_CFG.reg n) v⟩,
   ⟨R.LGR_STATION_OFFSET.reg 0, 64, 16, fun _ n v _ s => s.stationWrite n (R.LGR_STATION_OFFSET.reg n) v⟩,
   ⟨R.LGR_STATION_WIN.reg 0, 64, 16, fun _ n v _ s => s.stationWrite n (R.LGR_STATION_WIN.reg n) v⟩,
   ⟨R.LGR_FENCE.reg 0, 64, 4, fun _ k v _ s => s.fenceWrite k v⟩]

/-- Configuration tier, memory tier and network (spec/09, spec/10, spec/12). -/
def opsTIER : List CsrOp :=
  [⟨R.CFG_RECLAIM.reg, 1, 4, fun _ _ v _ s => s.cfgReclaim v.toNat⟩,
   ⟨R.MEM_RECLAIM.reg, 1, 4, fun _ _ v _ s => s.reclaimAsk (v.toNat % 4096)⟩,
   ⟨R.MEM_MARCH_CTL.reg, 1, 4, fun _ _ v _ s =>
     let s := s.putB R.MEM_MARCH_CTL.MODE (v.getLsbD 1)
     if v.getLsbD 0 then s.marchStart s.marchSelected else s⟩,
   ⟨R.MEM_COL_CFG.reg 0, 256, 4, fun _ c v _ s => s.colCfgWrite c v⟩,
   ⟨R.MEM_BANK_OWNER.reg 0, 4096, 8, fun who n v _ s => s.ownerWrite n (v &&& 0x77#32).toNat (supervises who)⟩,
   ⟨R.NOC_EPOCH.reg, 1, 4, fun _ _ v _ s =>
     if v.getLsbD 31 then { (s.putB R.NOC_EPOCH.FLIP true) with noc := { s.noc with checking := true } } else s⟩,
   ⟨R.NOC_TMO.reg, 1, 4, fun _ _ v _ s => s.tmoWrite v⟩,
   ⟨R.NOC_RECLAIM.reg, 1, 4, fun _ _ v _ s => (s.nocReclaim (v.toNat % 1024)).vsmAnswers.hostAnswers⟩,
   ⟨R.NOC_STATCTL.reg, 1, 4, fun _ _ v _ s =>
     let s := s.putB R.NOC_STATCTL.FREEZE (v.getLsbD 0)
     if v.getLsbD 1 then s.statsClear else s⟩,
   ⟨R.NOC_RT.reg 0 0, 1024, 4, fun _ i v _ s => s.routeWrite (i / 8) (i % 8) v⟩,
   ⟨R.NOC_PORT_STATUS.reg 0, 1024, 4, fun _ ep v _ s => if v.getLsbD 8 then s.revive ep else s⟩,
   ⟨R.NOC_REGION_QUOTA.reg 0, 512, 8, fun _ g v _ s => s.quotaWrite g v⟩]

/-- A write to LANE_LANEn_CTL: EN and RETRAIN (R313, R317). -/
def State.laneCtl (s : State) (n : Nat) (v : Word) : State :=
  let s := if v.getLsbD 0 then s.laneEnable n else s.laneDisable n
  if v.getLsbD 1 then s.loseLock n else s

/-- The serial lanes (spec/13). -/
def opsLANE : List CsrOp :=
  [⟨R.LANE_QUAD_CFG.reg 0, 12, 16, fun _ q v _ s => s.quadCfgWrite q v⟩,
   ⟨R.LANE_LANE_CFG.reg 0, 48, 128, fun _ n v _ s => s.laneRegWrite n (R.LANE_LANE_CFG.reg n) v 0x3FF0737#32⟩,
   ⟨R.LANE_LANE_CTL.reg 0, 48, 128, fun _ n v _ s => s.laneCtl n v⟩,
   ⟨R.LANE_LANE_ADAPT.reg 0, 48, 128, fun _ n v _ s => s.laneRegWrite n (R.LANE_LANE_ADAPT.reg n) v 0xFFFF0001#32⟩,
   ⟨R.LANE_LANE_EQ0.reg 0, 48, 128, fun _ n v _ s => s.eqWrite n (R.LANE_LANE_EQ0.reg n) v 0xFF0F#32⟩,
   ⟨R.LANE_LANE_EQ1.reg 0, 48, 128, fun _ n v _ s => s.eqWrite n (R.LANE_LANE_EQ1.reg n) v 0xFFFFFFFF#32⟩,
   ⟨R.LANE_LANE_IDLE_LO.reg 0, 48, 128, fun _ n v _ s => s.laneRegWrite n (R.LANE_LANE_IDLE_LO.reg n) v 0xFFFFFFFF#32⟩,
   ⟨R.LANE_LANE_IDLE_HI.reg 0, 48, 128, fun _ n v _ s => s.laneRegWrite n (R.LANE_LANE_IDLE_HI.reg n) v 0xFF#32⟩,
   ⟨R.LANE_LANE_ESCAN.reg 0, 48, 128, fun _ n v _ s => s.scanWrite n v⟩,
   ⟨R.LANE_LANE_RXRING.reg 0, 48, 128, fun _ n v _ s => s.laneRegWrite n (R.LANE_LANE_RXRING.reg n) v 0x1FF0F07#32⟩,
   ⟨R.LANE_LANE_RXOFS.reg 0, 48, 128, fun _ n v _ s => s.laneRegWrite n (R.LANE_LANE_RXOFS.reg n) v 0xFFFFFF#32⟩,
   ⟨R.LANE_LANE_TXRING.reg 0, 48, 128, fun _ n v _ s => s.laneRegWrite n (R.LANE_LANE_TXRING.reg n) v 0x1FF0F07#32⟩,
   ⟨R.LANE_LANE_TXOFS.reg 0, 48, 128, fun _ n v _ s => s.laneRegWrite n (R.LANE_LANE_TXOFS.reg n) v 0xFFFFFF#32⟩,
   ⟨R.LANE_LANE_FILL0.reg 0, 48, 128, fun _ n v _ s => s.laneRegWrite n (R.LANE_LANE_FILL0.reg n) v 0xFFFFFFFF#32⟩,
   ⟨R.LANE_LANE_FILL1.reg 0, 48, 128, fun _ n v _ s => s.laneRegWrite n (R.LANE_LANE_FILL1.reg n) v 0xFF#32⟩]

/-- A write to TWIN_CTL (R370, R383, R384). -/
def State.twinCtl (s : State) (v : Word) : State :=
  let s := if v.getLsbD 0 then s.handoverRequest else s
  let s := if v.getLsbD 1 then s.yieldRole else s
  let s := if v.getLsbD 2 && decide (s.twState = twDETACHED) then s.twinSync else s
  if v.getLsbD 3 then s.askReset else s

/-- The Vasum link and twin operation (spec/14, spec/15). -/
def opsVSM : List CsrOp :=
  [⟨R.VSM_NODE.reg, 1, 4, fun _ _ v _ s => s.nodeWrite v⟩,
   ⟨R.VSM_TIME_CFG.reg, 1, 4, fun _ _ v _ s => s.timeCfgWrite v⟩,
   ⟨R.VSM_TUN.reg, 1, 4, fun _ _ v _ s => s.tunWrite v⟩,
   ⟨R.VSM_RTDATA.reg, 1, 4, fun _ _ v _ s => s.rtWrite v⟩,
   ⟨R.VSM_PORT_CFG.reg 0, 48, 64, fun _ p v _ s => if v.getLsbD 31 then s.vportEnable p v else s.vportDisable p v⟩,
   ⟨R.TWIN_CFG.reg, 1, 4, fun _ _ v _ s => s.twinCfgWrite v⟩,
   ⟨R.TWIN_CTL.reg, 1, 4, fun _ _ v _ s => s.twinCtl v⟩,
   ⟨R.TWIN_LEASE.reg, 1, 4, fun _ _ v _ s => s.twinFixedWrite R.TWIN_LEASE.reg (v &&& 0x3FF03FF#32)⟩,
   ⟨R.TWIN_AXCHK.reg, 1, 4, fun _ _ v _ s => s.twinFixedWrite R.TWIN_AXCHK.reg v⟩,
   ⟨R.TWIN_SHARE.reg 0, 20, 4, fun _ k v _ s => s.twinFixedWrite (R.TWIN_SHARE.reg k) v⟩]

/-- A write to a status register of a peripheral unit clears its flags, and PER_EVENTS follows. -/
def State.perStatusWrite (s : State) (a : Nat) (v mask : Word) : State := (s.wr a (s.rw a &&& ~~~(v &&& mask))).perEvents

/-- A write to a unit's settings (R408). -/
def State.perCfgWrite (s : State) (u : Per) (v : Word) : State := if v.getLsbD 31 then s.perEnable u v else s.perDisable u v

/-- The crossbar and the peripherals (spec/16). -/
def opsXBAR : List CsrOp :=
  [⟨R.XBAR_COMMIT.reg, 1, 4, fun who _ v sub s => s.commitWrite who (v.toNat % 65536) sub⟩,
   ⟨R.XBAR_RECLAIM.reg, 1, 4, fun _ _ v sub s => s.reclaimWrite (v.toNat % 16) sub⟩,
   ⟨R.XBAR_CG_CTL.reg 0, 16, 4, fun who g v _ s => s.groupOwnerWrite who g v⟩,
   ⟨R.XBAR_PIN_CFG.reg 0, 640, 4, fun _ n v sub s => s.pinCfgWrite n v sub⟩,
   ⟨R.XBAR_SRC_DEST.reg 0, 708, 4, fun who n v _ s => s.stageWrite who false n v⟩,
   ⟨R.XBAR_IN_SEL.reg 0, 868, 4, fun who n v _ s => s.stageWrite who true n v⟩,
   ⟨R.PER_ENC_CFG.reg 0, 16, 32, fun _ n v _ s => s.perCfgWrite (.enc n) v⟩,
   ⟨R.PER_ENC_STATUS.reg 0, 16, 32, fun _ n v _ s => s.perStatusWrite (R.PER_ENC_STATUS.reg n) v 0xE#32⟩,
   ⟨R.PER_I2C_CFG.reg 0, 4, 32, fun _ n v _ s => s.perCfgWrite (.i2c n) v⟩,
   ⟨R.PER_I2C_CMD.reg 0, 4, 32, fun _ n v _ s => s.perSend n (v &&& 0x1FFF#32)⟩,
   ⟨R.PER_I2C_STATUS.reg 0, 4, 32, fun _ n v _ s => s.perStatusWrite (R.PER_I2C_STATUS.reg n) v 0x1F#32⟩,
   ⟨R.PER_SPI_CFG.reg 0, 4, 32, fun _ n v _ s => s.perCfgWrite (.spi n) v⟩,
   ⟨R.PER_SPI_TXDATA.reg 0, 4, 32, fun _ n v _ s => s.perSend (4 + n) v⟩,
   ⟨R.PER_SPI_STATUS.reg 0, 4, 32, fun _ n v _ s => s.perStatusWrite (R.PER_SPI_STATUS.reg n) v 0x1F#32⟩,
   ⟨R.PER_UART_CFG.reg 0, 8, 32, fun _ n v _ s => s.perCfgWrite (.uart n) v⟩,
   ⟨R.PER_UART_TXDATA.reg 0, 8, 32, fun _ n v _ s => s.perSend (8 + n) (v &&& 0xFF#32)⟩,
   ⟨R.PER_UART_STATUS.reg 0, 8, 32, fun _ n v _ s => s.perStatusWrite (R.PER_UART_STATUS.reg n) v 0x1F#32⟩]

/-- A write to RST_CTL (R415, R417): the write completes before the reset acts. -/
def State.rstCtl (s : State) (v : Word) : State :=
  match v.toNat % 4 with
  | 1 => s.fabReset 5 s.fabSel
  | 2 => s.resetAccept 5 2
  | _ => s

/-- A write to RST_BLOCK0 (Table 17.3): each bit is checked by itself (R423). -/
def State.block0 (s : State) (v : Word) : State :=
  s.each (maskBits v.toNat 32) (fun s b =>
    if b < 16 then s.encReset b else if b < 20 then s.perReset (b - 16) b else if b < 24 then s.perReset (b - 16) b else s.perReset (b - 16) b)

/-- A write to RST_BLOCK1. -/
def State.block1 (s : State) (who : Who) (v : Word) : State :=
  s.each (maskBits v.toNat 19) (fun s b =>
    if b < 12 then s.quadReset b else if b = 12 then s.vsmReset else if b = 13 then s.usbReset
    else if b < 18 then s.hbmReset (b - 14) else s.pmbReset who)

/-- A write to RST_BLOCK2. -/
def State.block2 (s : State) (v : Word) : State :=
  s.each (maskBits v.toNat 10) (fun s b => if b < 2 then s.cmpReset b else if b < 6 then s.edgReset (b - 2) else s.capReset (b - 6))

/-- Reset, power, clocks, temperature, ember domain (spec/17, spec/18, spec/20, spec/21). -/
def opsSUP : List CsrOp :=
  [⟨R.RST_CTL.reg, 1, 4, fun _ _ v _ s => s.rstCtl v⟩,
   ⟨R.RST_BLOCK0.reg, 1, 4, fun _ _ v _ s => s.block0 v⟩,
   ⟨R.RST_BLOCK1.reg, 1, 4, fun who _ v _ s => s.block1 who v⟩,
   ⟨R.RST_BLOCK2.reg, 1, 4, fun _ _ v _ s => s.block2 v⟩,
   ⟨R.RST_BLOCK3.reg, 1, 4, fun _ _ v _ s => s.each (maskBits v.toNat 16) State.axisReset⟩,
   ⟨R.PWR_AVS_CFG.reg, 1, 4, fun _ _ v _ s => s.avsCfgWrite v⟩,
   ⟨R.PWR_PD_CTL.reg 0, 45, 8, fun _ n v _ s => s.pdRequest n (v.toNat % 4)⟩,
   ⟨R.CLK_FPLL_CFG.reg 0, 8, 8, fun _ k v _ s => s.fpllWrite k v⟩,
   ⟨R.CLK_REGION_CFG.reg 0, 512, 8, fun _ g v _ s => s.clkStage g (v.toNat / 65536 % 8)⟩,
   ⟨R.THM_TRIP.reg, 1, 4, fun _ _ v _ s => s.tripWrite v⟩,
   ⟨R.AON_CMP_CFG.reg 0, 4, 4, fun _ n v _ s => s.cmpCfgWrite n v⟩]

/-- The host path and the debug block (spec/22). -/
def opsUSB : List CsrOp :=
  [⟨R.USB_IRQ_REARM.reg, 1, 4, fun _ _ v _ s => s.rearm v.toNat⟩,
   ⟨R.USB_MBX_DOORBELL.reg, 1, 4, fun _ _ v _ s => s.doorbell v.toNat⟩,
   ⟨R.USB_MBX_DONE.reg, 1, 4, fun _ _ v _ s => s.mbxDone v.toNat⟩,
   ⟨R.USB_MBX_REQ.reg 0, 16, 64, fun who m v _ s => s.slotWrite who m 0 v⟩,
   ⟨R.USB_MBX_A.reg 0 0, 16, 64, fun who m v _ s => s.slotWrite who m 1 v⟩,
   ⟨R.USB_MBX_A.reg 0 1, 16, 64, fun who m v _ s => s.slotWrite who m 2 v⟩,
   ⟨R.USB_MBX_A.reg 0 2, 16, 64, fun who m v _ s => s.slotWrite who m 3 v⟩,
   ⟨R.USB_MBX_A.reg 0 3, 16, 64, fun who m v _ s => s.slotWrite who m 4 v⟩,
   ⟨R.USB_DMA_CTL.reg 0, 8, 32, fun _ n v _ s => s.dmaCtlWrite n v⟩,
   ⟨R.USB_DMA_TAIL.reg 0, 8, 32, fun _ n v _ s => s.dmaTail n v⟩,
   ⟨R.DBG_RSTREQ.reg, 1, 4, fun _ _ v _ s => s.debugReset (v.toNat % 4)⟩]

/-- Every register whose write is an operation. -/
def csrOps : List CsrOp :=
  opsANG ++ opsEVT ++ opsSYS ++ opsLGR ++ opsTIER ++ opsLANE ++ opsVSM ++ opsXBAR ++ opsSUP ++ opsUSB

/-- The operation of the register at offset `a`, with its index. -/
def csrOpOf (a : Nat) : Option (CsrOp × Nat) := csrOps.findSome? (fun o => (o.index a).map (fun n => (o, n)))

/-- An aligned write of a word that has reached the register at offset `a` (R7, R8, R515), answered. -/
def State.csrSet (s : State) (who : Who) (a : Nat) (v : Word) (sub : Nat) : State :=
  match csrBlockOf a, regRowOf a with
  | none, _ => s.answerWith stNONE []
  | some _, none => s.answerWith stOK []
  | some _, some r =>
    if !r.writer.accepts who then s.answerWith stERR []
    else
      let s := s.answerWith stOK []
      match csrOpOf a with
      | some (o, n) => o.act who n v sub s
      | none => s.plainWrite r a v

/-- The status an access gets on its way to the CSR endpoint, none when it arrives (R283, R302, Table 12.12). -/
def State.csrPath (s : State) (who : Who) : Option Nat :=
  let way (ini : Nat) : Option Nat :=
    if s.portState (iniEp ini) = portFENCED then some 8
    else if s.g R.NOC_STATUS.RUN = 0 then some 6 else portAnswer (s.portState csrEp)
  match who with
  | .super => way iniSuper
  | .host => way iniHost
  | .debug => way iniDebug
  | .image => none
  | .remote => some stERR
  | .fabric _ => some stERR

/-- An access of `size` bytes at offset `a` of the CSR range is judged before it acts (R5). -/
def State.csrAccess (s : State) (who : Who) (a size : Nat) (f : State → State) : State :=
  match s.csrPath who with
  | some st => s.answerWith st []
  | none => if size ≠ 4 || decide (a % 4 ≠ 0) then s.answerWith stBAD [] else f s

/-- The word that a register shows, where it is not simply what was stored; a scramble region of a stack that is not ON reads
ABSENT (R261). -/
def State.csrShown (s : State) (a : Nat) : Word :=
  if 0x30100 ≤ a ∧ a < 0x30140 ∧ a % 8 = 4 then
    (s.put (R.CLK_FPLL_STATUS.USERS ((a - 0x30104) / 8)) (s.fpllUsers ((a - 0x30104) / 8))).rw a
  else if 0x31000 ≤ a ∧ a < 0x32000 ∧ a % 8 = 4 then
    (s.put (R.CLK_REGION_STATUS.FREQ ((a - 0x31004) / 8)) (s.fpllMHz (s.g (R.CLK_REGION_CFG.SRC ((a - 0x31004) / 8))))).rw a
  else if 0x120120 ≤ a ∧ a < 0x120220 ∧ (a - 0x120120) % 64 ≤ 4 then
    s.rw a ||| BitVec.ofNat 32 ((a - 0x120120) / 64 * 2 ^ 30)
  else if 0x501000 ≤ a ∧ a < 0x501600 ∧ a % 16 = 0 ∧ s.stackState ((a - 0x501000) / 384) ≠ 2 then
    (s.put (R.SCR_REGION_KEYSEL.STATE ((a - 0x501000) / 16)) 3).rw a
  else if a = R.AON_RTC_LO.reg then s.plantNs.setWidth 32
  else if a = R.AON_RTC_HI.reg then s.sec.rtcHi
  else if R.AON_START_ENT.reg 0 ≤ a ∧ a ≤ R.AON_START_ENT.reg 7 then s.startEnt ((a - R.AON_START_ENT.reg 0) / 4)
  else if a = R.VSM_RTDATA.reg then s.vsm.route.get (s.g R.VSM_RTSEL.NODE)
  else if a = R.PER_PMB_STATUS.reg then (s.putB R.PER_PMB_STATUS.ALERT (!s.destLevel 0x362)).rw a
  else if a = R.DBG_STATUS.reg then
    (((s.put R.DBG_STATUS.IR s.jtag.ir).putB R.DBG_STATUS.BSCAN (decide (s.jtag.force ≠ 0))).putB R.DBG_STATUS.PEND s.jtag.wait.isSome).rw a
  else s.rw a

/-- What a read does beside returning a word: RC fields clear (R10), and the reads that take something. -/
def State.csrTake (s : State) (a : Nat) : State :=
  if a = R.AON_RTC_LO.reg then s.setSec (fun x => { x with rtcHi := (s.plantNs >>> 32).setWidth 32 })
  else if a = R.AON_LOG_ENT.reg 0 then s.logEnt0Read
  else if a = R.AON_LOG_ENT.reg 3 then s.logEnt3Read
  else if 0x114000 ≤ a ∧ a < 0x116000 ∧ a % 64 = 0x2C then s.capRead ((a - 0x114000) / 64)
  else if 0xC00400 ≤ a ∧ a < 0xC00480 ∧ a % 32 = 8 then s.rxTake ((a - 0xC00400) / 32)
  else if 0xC00500 ≤ a ∧ a < 0xC00580 ∧ a % 32 = 8 then s.rxTake (4 + (a - 0xC00500) / 32)
  else if 0xC00600 ≤ a ∧ a < 0xC00700 ∧ a % 32 = 8 then s.rxTake (8 + (a - 0xC00600) / 32)
  else
    match regRowOf a with
    | some r => s.wr a (s.rw a &&& ~~~(BitVec.ofNat 32 r.rc))
    | none => s

/-- An aligned read of a word that has reached the register at offset `a` (R7, R8, R10), answered. -/
def State.csrGet (s : State) (a : Nat) : State :=
  match csrBlockOf a, regRowOf a with
  | none, _ => s.answerWith stNONE []
  | some _, none => s.answerWith stOK (wordBytes 0#32)
  | some _, some _ =>
    let v := s.csrShown a
    let t := s.csrTake a
    if a = R.AON_LOG_ENT.reg 0 then t
    else if (0xC00400 ≤ a ∧ a < 0xC00700 ∧ a % 32 = 8) then t
    else t.answerWith stOK (wordBytes v)

/-- RC_FIELD_READ (R10). -/
def execRcFieldRead (who : Who) (addr size : Nat) (s : State) : Host.Outcome State Fault Refusal :=
  done (s.csrAccess who addr size (fun s => s.csrGet addr))

end Sys2Proof.Machine
end

