-- ==== Sys2Proof/Machine/Request.lean ====
section
/-! DEFINITION. Requests to the network by every initiator, what every target of Table 12.4 makes of one (R283, R284, R289), the
routers, and the request that sets the scrambler's access rights (R280). -/

namespace Sys2Proof.Machine

/-- Who a CSR request of an initiator comes from (R515). -/
def whoOf (ini : Nat) : Who :=
  if ini = iniHost then .host else if ini = iniDebug then .debug else if ini < 512 then .fabric ini else .super

/-- A request served by the CSR endpoint: a read or a write of one register. -/
def State.serveCsr (s : State) (q : Req) : State :=
  let a := q.addr - 0xF000000000
  let t := if q.op = 0 then s.csrGet a else s.csrSet (whoOf q.ini) a (BitVec.ofNat 32 (bytesNat (q.data.take 4))) 0
  let r := t.resp.getD {}
  ({ t with resp := s.resp } : State).respond csrEp q r.status 0 r.data

/-- A request to the configuration-tier window (Tables 12.4 and 24.1), whose contents the spec does not give: whether it is
performed, its DETAIL and its data are free values. -/
def State.serveConfig (s : State) (q : Req) : State :=
  let r := s.free
  let x := r.1.toNat
  let d := r.2.freeBytes (if q.op = 0 then q.len else 0)
  if x % 2 = 0 then d.2.respond configEp q 0 0 d.1
  else r.2.respond configEp q 5 (x / 2 % 256) []

/-- A request to the twin image path (Table 12.4): the supervisor's READs during FETCH bring what the partner sends; all others
are denied. -/
def State.serveTwinPath (s : State) (q : Req) : State :=
  if q.ini = iniSuper && decide (s.start.step = some 1) && decide (q.op = 0) then
    (match (s.imgRead 3 (q.addr - 0xD000000000) q.len).2 with
     | .inr l => s.respond vasumEp q 0 0 l
     | .inl _ => s.respond vasumEp q 0xA 0 [])
  else s.respond vasumEp q 3 0 []

/-- A request delivered to its target. -/
def State.serveAt (s : State) (t : Target4) (q : Req) (e : HbmErr) : State :=
  match t with
  | .hbm => s.serveHbmPort q e
  | .bank => s.bankAccept q
  | .region g => s.toRegion g q
  | .csr => s.serveCsr q
  | .tunnel => s.tunnel q
  | .config => s.serveConfig q
  | .twinPath => s.serveTwinPath q

/-- A request packet has come to its port: the port answers by its state, or the target is asked (Table 12.12). `e` is what the
stack reports of an access to HBM. -/
def State.serveRequest (s : State) (q : Req) (e : HbmErr) : State :=
  match decodeAddr q.addr with
  | none => s
  | some t =>
    let r := s.targetGate t q
    match r.2 with
    | some x => r.1.respond (targetEp t q.addr) q x.1 x.2 []
    | none => r.1.serveAt t q e

/-- PACKET_FORWARD (R287, R293, R295): one packet leaves a router by an output, the two classes taking turns. `hit` says that the
header is struck on the way: the receiver finds its check wrong and discards it (R286). At a LOCAL output the packet comes to
its endpoint: a request is served, a response lies there until it is accepted. In a halt nothing moves (R17). -/
def State.forward (s : State) (router out : Nat) (hit : Bool) (e : HbmErr) : State :=
  if s.g R.NOC_STATUS.RUN = 0 then s
  else match s.granted router out with
    | none => s
    | some (cls, port, p) =>
      let s := s.leave router out cls port p
      if 4 ≤ out then
        if hit then s.headerFail router
        else if p.isRsp then { s with noc := { s.noc with inbox := s.noc.inbox ++ [p] } }
        else s.serveRequest (reqOf p) e
      else match neighbour router out with
        | none => s
        | some nx => if hit then s.headerFail nx else s.nextRouter nx out p

/-- A request at the fabric side of region `g`'s adapter (R289): taken in the active context when its reservation fits the
context's quota, under a tag of the adapter's own; the fabric's is for the response's header (Table 12.9). -/
def State.adapterRequest (s : State) (g : Nat) (q : Req) : State :=
  match s.activeCtx g with
  | none => s
  | some c =>
    let units := reserveUnits q.op q.len
    let quota := s.g (R.NOC_REGION_QUOTA.QUOTA g) / 16 ^ c % 16 * 128
    if s.logicOn g && decide ((s.adapter g).used.get c + units ≤ quota) then
      (s.reserve g c units).request { q with ini := g, ctx := c, tag := s.pickTag g 0 } (q.tag % 256)
    else s

/-- A request by its initiator; a region's goes through its adapter. What comes at once is handed on. -/
def State.nocRequest (s : State) (q : Req) : State :=
  (if q.ini < 512 then s.adapterRequest q.ini q else s.request { q with tag := s.pickTag q.ini (q.tag % 4096) } 0).vsmAnswers.hostAnswers

/-- NOC_READ (Table 12.6). -/
def execNocRead (q : Req) (s : State) : Host.Outcome State Fault Refusal := done (s.nocRequest { q with op := 0 })
/-- NOC_WRITE (Table 12.6). -/
def execNocWrite (q : Req) (s : State) : Host.Outcome State Fault Refusal := done (s.nocRequest { q with op := 1 })
/-- NOC_WRITEP (Table 12.6). -/
def execNocWritep (q : Req) (s : State) : Host.Outcome State Fault Refusal := done (s.nocRequest { q with op := 2 })
/-- NOC_ADD16 (R240). -/
def execNocAdd16 (q : Req) (s : State) : Host.Outcome State Fault Refusal := done (s.nocRequest { q with op := 3 })
/-- NOC_SWAP16 (R240). -/
def execNocSwap16 (q : Req) (s : State) : Host.Outcome State Fault Refusal := done (s.nocRequest { q with op := 4 })
/-- NOC_ADD32 (R240). -/
def execNocAdd32 (q : Req) (s : State) : Host.Outcome State Fault Refusal := done (s.nocRequest { q with op := 5 })
/-- NOC_SWAP32 (R240). -/
def execNocSwap32 (q : Req) (s : State) : Host.Outcome State Fault Refusal := done (s.nocRequest { q with op := 6 })
/-- NOC_BADOP (R284): a request as it stands; one that breaks R284 is answered BADREQ. -/
def execNocBadop (q : Req) (s : State) : Host.Outcome State Fault Refusal := done (s.nocRequest q)
/-- ADAPTER_REQUEST (R289). -/
def execAdapterRequest (g : Nat) (q : Req) (s : State) : Host.Outcome State Fault Refusal :=
  done (s.adapterRequest g q).vsmAnswers.hostAnswers

/-- PACKET_FORWARD (R287): what a request or an answer brings to its endpoint is handed on. -/
def execPacketForward (router out : Nat) (hit : Bool) (e : HbmErr) (s : State) : Host.Outcome State Fault Refusal :=
  done (s.forward router out hit e).vsmAnswers.hostAnswers

/-- SCRACCESS (R280): every named region, or none. -/
def State.scrAccess (s : State) (m : Nat) : State :=
  if !s.mbxRuns m 0x30 then s
  else
    let first := s.mbxArg m 0
    let count := s.mbxArg m 1
    let v := BitVec.ofNat 32 (s.mbxArg m 2 % 1024)
    if count = 0 || decide (96 < first + count) then s.answerMbx m mbBADREQ 0 0
    else if decide ((R.SCR_REGION_ACCESS.DBG 0).of v = 2) && !s.policyBit 1 then s.answerMbx m 0x50 0 0
    else (s.each ((List.range count).map (first + ·)) (fun s r => s.wr (R.SCR_REGION_ACCESS.reg r) v)).answerMbx m 0 0 0

/-- SCRACCESS (R280). -/
def execScraccess (m : Nat) (s : State) : Host.Outcome State Fault Refusal := done (s.scrAccess m)

end Sys2Proof.Machine
end

