-- ==== Sys2Proof/Machine/Host.lean ====
section
/-! DEFINITION. The host's reads and writes (spec/22, R484, R485) and the descriptors of its DMA channels (R490, R491). The
host path makes its requests as initiator 517 and goes on when their answers come. -/

namespace Sys2Proof.Machine

/-- A tag of an initiator that no request holds and no timeout withholds (R301), among those that `ok` admits. -/
def State.freeTag (s : State) (ini : Nat) (ok : Nat → Bool) : Option Nat :=
  (List.range 4096).find? (fun t =>
    (s.issuedOf ini t).isNone && !s.noc.quarantine.any (fun e => decide (e.1 = ini * 4096 + t) && decide (s.tick < e.2)) && ok t)

/-- Does anything of the host path wait for an answer under a tag, the requests `parts` among it? -/
def State.hostWaits (s : State) (parts : List HostPart) (t : Nat) : Bool :=
  waitsFor t parts || s.usb.reads.any (waitsFor t) || s.usb.dma.any (fun e => waitsFor t e.2.parts)

/-- One request of the host path, with its place among `parts`; without a free tag it ends at once with TIMEOUT. -/
def State.hostAsk (s : State) (parts : List HostPart) (q : Req) : State × HostPart :=
  match s.freeTag iniHost (fun t => !s.hostWaits parts t) with
  | some t => (s.request { q with ini := iniHost, tag := t } 0, { tag := t })
  | none => (s, { got := some (9, []) })

/-- The requests of an access: address and length, within 4 KiB spans, in address order (R484). -/
def spans : Nat → Nat → Nat → List (Nat × Nat)
  | 0, _, _ => []
  | k + 1, a, n => if n = 0 then [] else (a, min n (4096 - a % 4096)) :: spans k (a + min n (4096 - a % 4096)) (n - min n (4096 - a % 4096))

/-- The spans of an access of `n` bytes from `a`. -/
def spansOf (a n : Nat) : List (Nat × Nat) := spans (n / 4096 + 2) a n

/-- The requests of a host read from `a`, after `parts`. -/
def State.hostAsks (s : State) (parts : List HostPart) (a n : Nat) : State × List HostPart :=
  (spansOf a n).foldl (fun (x : State × List HostPart) p =>
    let y := x.1.hostAsk x.2 { op := 0, addr := p.1, len := p.2 }
    (y.1, x.2 ++ [y.2])) (s, parts)

/-- A host read waits for its parts; one whose parts are all there completes (R484). -/
def State.hostReadWait (s : State) (parts : List HostPart) : State :=
  ({ s with resp := none, usb := { s.usb with reads := s.usb.reads ++ [parts] } } : State).vsmAnswers.hostAnswers

/-- A host write from `a`: WRITEP requests (R484); one for which no tag is free is a failed write. -/
def State.hostWrite (s : State) (a : Nat) (data : List Byte) : State :=
  let s := (spansOf a data.length).foldl (fun (s : State) p =>
    let r := s.hostAsk [] { op := 2, addr := p.1, len := p.2, data := (data.drop (p.1 - a)).take p.2 }
    if r.2.got.isSome then r.1.writeFailed else r.1) s
  ({ s with resp := none } : State).vsmAnswers.hostAnswers

/-- Is the PCIe tunnel up, so that the host's accesses arrive? -/
def State.tunnelUp (s : State) : Bool := s.on R.USB_STATUS.PCIE

/-- The device address that an offset in BAR0's CSR aperture or in BAR2 names (Table 22.2). -/
def State.barAddr (s : State) (bar off : Nat) : Nat :=
  if bar = 0 then 0xF000000000 + s.g R.USB_CSRWIN.BASE * 0x8000 + (off - 0x8000) else s.g R.USB_BAR2WIN.WIN * 2 ^ 32 + off % 2 ^ 32

/-- An access to the USB block by BAR0: of 4 aligned bytes, or BADREQ (R5, R484). -/
def State.barLocal (s : State) (off len : Nat) (f : State → State) : State :=
  if len ≠ 4 || decide (off % 4 ≠ 0) then s.answerWith stBAD [] else f s

/-- HOST_MEMORY_WRITE (R484): BAR0 or BAR2. A write has no completion; an error is counted. -/
def State.hostMemWrite (s : State) (bar off : Nat) (data : List Byte) : State :=
  if !s.tunnelUp then s
  else if bar = 0 && decide (off < 0x8000) then
    let t := s.barLocal off data.length (fun s => s.csrSet .host (0xA00000 + off) (BitVec.ofNat 32 (bytesNat data)) 0)
    let u : State := { t with resp := none }
    if (t.resp.getD {}).status = 0 then u else u.writeFailed
  else s.hostWrite (s.barAddr bar off) data

/-- HOST_MEMORY_READ (R484): BAR0 or BAR2. -/
def State.hostMemRead (s : State) (bar off len : Nat) : State :=
  if !s.tunnelUp then s
  else if bar = 0 && decide (off < 0x8000) then
    let t := s.barLocal off len (fun s => s.csrGet (0xA00000 + off))
    let r := t.resp.getD {}
    t.answerWith (hostStatus r.status) (if r.status = 0 then r.data else [])
  else
    let r := s.hostAsks [] (s.barAddr bar off) len
    r.1.hostReadWait r.2

/-- Where the ledger ring lies in the device, and its size in bytes. -/
def State.ringBase (s : State) : Nat := s.g R.LGR_RING_BASE_LO.ADDR * 32 + s.g R.LGR_RING_BASE_HI.ADDR * 2 ^ 32
def State.ringBytes (s : State) : Nat := s.ringSize * 32

/-- BAR4_READ (R485): the ring, zeros at and beyond its end. -/
def State.bar4Read (s : State) (off len : Nat) : State :=
  if !s.tunnelUp then s
  else
    let inside := min len (s.ringBytes - off)
    let r := s.hostAsks [] (s.ringBase + off) inside
    r.1.hostReadWait (r.2 ++ [{ got := some (0, List.replicate (len - inside) 0#8) }])

/-- BAR4_WRITE (R485): discarded, counted and flagged. -/
def State.bar4Write (s : State) : State :=
  if !s.tunnelUp then s else (s.bump R.USB_ERRCNT.WRERR 1).raise R.USB_EVENTS.BAR4WR

/-! ### DMA descriptors (R490, R491, Table 22.5) -/

/-- The status of a host-memory access that failed, and of a malformed descriptor. -/
def dmaHOSTERR : Nat := 0x10
def dmaBADDESC : Nat := 0x11

/-- The length that a descriptor names. -/
def descLen (d : List Byte) : Nat := fieldAt d 16 3 + 1
/-- DIR: device to host. -/
def descIn (d : List Byte) : Bool := (fieldAt d 19 1).testBit 0

/-- Is a descriptor well formed (Table 22.5)? STATUS and WB are the device's to write. -/
def descOk (d : List Byte) : Bool :=
  decide (d.length = 32) && decide (fieldAt d 0 8 % 4 = 0) && decide (fieldAt d 8 5 % 4 = 0) && decide (fieldAt d 13 3 = 0)
    && decide (descLen d % 4 = 0) && decide (fieldAt d 19 1 < 4) && decide (fieldAt d 20 4 = 0) && decide (fieldAt d 26 6 = 0)

/-- What the device writes to host memory. -/
def State.hostStore (s : State) (a : Nat) (data : List Byte) : State :=
  { s with usb := { s.usb with wrote := s.usb.wrote ++ [(a, data)] } }

/-- The host address of the descriptor at HEAD. -/
def State.dmaAt (s : State) (n : Nat) : Nat :=
  s.g (R.USB_DMA_BASE_LO.ADDR n) * 32 + s.g (R.USB_DMA_BASE_HI.ADDR n) * 2 ^ 32 + s.g (R.USB_DMA_HEAD.HEAD n) % s.dmaRing n * 32

/-- A descriptor is written back and ends (R490, R491). -/
def State.dmaClose (s : State) (n status : Nat) (irq : Bool) : State :=
  let s := s.setUsb (fun u => { u with dma := u.dma.del n })
  (s.hostStore (s.dmaAt n + 24) [BitVec.ofNat 8 status, 1#8]).dmaEnd n status irq

/-- Does channel `n` have a request to make? None once a request of its descriptor has failed (R491). -/
def State.dmaAsks (s : State) (n : Nat) : Bool :=
  match SMap.find s.usb.dma n with
  | some j => !j.todo.isEmpty && decide (partsStatus j.parts = 0)
  | none => false

/-- Endpoint 62 grants one request to the next channel that has one, by rotating token (R490, R20), while a tag is free; after a
request that has reset the device none follows. -/
def State.dmaGrant (s : State) : State :=
  match ringNext 8 s.usb.dmaTok s.dmaAsks with
  | none => s
  | some n =>
    match SMap.find s.usb.dma n with
    | none => s
    | some j =>
      match j.todo with
      | [] => s
      | (a, m, data) :: more =>
        if decide (s.rst.reach ≠ 0) || (s.freeTag iniHost (fun t => !s.hostWaits [] t)).isNone then s
        else
          let r := s.hostAsk [] { op := if descIn j.desc then 0 else 1, addr := a, len := m, data := data }
          if r.1.rst.reach ≠ 0 then r.1
          else
            let job := { j with todo := more, parts := j.parts ++ [r.2] }
            (r.1.setUsb (fun u => { u with dma := u.dma.ins n job, dmaTok := (n + 1) % 8 })).vsmAnswers.hostAnswers

/-- The channels' requests are made as far as tags are free. -/
def State.dmaPump (s : State) : State :=
  s.each (List.range (s.usb.dma.map (fun e => e.2.todo.length)).sum) (fun s _ => s.dmaGrant)

/-- The bytes that a descriptor's reads brought before the first that failed. -/
def goodData (l : List HostPart) : List Byte :=
  partsData (l.takeWhile (fun p => match p.got with
    | some (st, _) => decide (st = 0)
    | none => false))

/-- A descriptor whose requests are all made and answered ends; `ok` says whether the host takes what it is sent. -/
def State.dmaSettle (s : State) (n : Nat) (ok : Bool) : State :=
  match SMap.find s.usb.dma n with
  | none => s
  | some j =>
    let st := partsStatus j.parts
    if (!j.todo.isEmpty && decide (st = 0)) || !j.parts.all (fun p => p.got.isSome) then s
    else
      let irq := (fieldAt j.desc 19 1).testBit 1
      if !descIn j.desc then s.dmaClose n st irq
      else if ok then (s.hostStore (fieldAt j.desc 0 8) (goodData j.parts)).dmaClose n st irq
      else s.dmaClose n (if st = 0 then dmaHOSTERR else st) irq

/-- The accesses of a descriptor, with the data of those that write. -/
def descTodo (d data : List Byte) : List (Nat × Nat × List Byte) :=
  (spansOf (fieldAt d 8 5) (descLen d)).map (fun p => (p.1, p.2, if descIn d then [] else (data.drop (p.1 - fieldAt d 8 5)).take p.2))

/-- DMA_DESCRIPTOR_COMPLETE (R490, R491): channel `n` takes the descriptor at HEAD, as host memory gives it (`desc`), with the
bytes that host memory gives for it (`data`; for device to host, whether it takes them), none where the access fails; it goes
on with the descriptor it has taken, and ends it when every response has arrived. -/
def State.dmaRow (s : State) (n : Nat) (desc data : Option (List Byte)) : State :=
  if (SMap.find s.usb.dma n).isSome then
    s.dmaPump.dmaSettle n data.isSome
  else if !s.tunnelUp || !(s.dmaState n = dmaRUNNING || s.dmaState n = dmaSTOPPING) || !s.dmaDue n then s
  else
    match desc with
    | none => s.dmaClose n dmaHOSTERR false
    | some d =>
      if !descOk d then s.dmaClose n dmaBADDESC false
      else if !descIn d && decide ((data.getD []).length < descLen d) then s.dmaClose n dmaHOSTERR ((fieldAt d 19 1).testBit 1)
      else
        let todo := descTodo d (data.getD [])
        let s := s.setUsb (fun u => { u with dma := u.dma.ins n { desc := d, todo := todo } })
        s.dmaPump.dmaSettle n data.isSome

/-! ### Commands -/

/-- HOST_MEMORY_WRITE (R484). -/
def execHostMemoryWrite (bar off : Nat) (data : List Byte) (s : State) : Host.Outcome State Fault Refusal :=
  done (s.hostMemWrite bar off data)
/-- HOST_MEMORY_READ (R484). -/
def execHostMemoryRead (bar off len : Nat) (s : State) : Host.Outcome State Fault Refusal :=
  done (s.hostMemRead bar off len)
/-- BAR4_READ (R485). -/
def execBar4Read (off len : Nat) (s : State) : Host.Outcome State Fault Refusal := done (s.bar4Read off len)
/-- BAR4_WRITE (R485). -/
def execBar4Write (s : State) : Host.Outcome State Fault Refusal := done s.bar4Write
/-- DMA_DESCRIPTOR_COMPLETE (R490). -/
def execDmaDescriptorComplete (n : Nat) (desc data : Option (List Byte)) (s : State) : Host.Outcome State Fault Refusal :=
  done (s.dmaRow n desc data)

end Sys2Proof.Machine
end

