-- ==== Sys2Proof/Machine/Debug.lean ====
section
/-! DEFINITION. The test access port and the debug access port (spec/22, R492 to R494). -/

namespace Sys2Proof.Machine

def State.setJtag (s : State) (f : Jtag → Jtag) : State := { s with jtag := f s.jtag }

/-- Is the policy bit DBGLOCK set (Table 21.6)? -/
def State.dbgLock (s : State) : Bool := s.policyBit 3

/-! ### Instructions (R492, R493, Table 22.6) -/

/-- The instruction that opcode `op` selects; it takes the covered pins as `force` says, or leaves them as they are until the
next crossbar tick. -/
def State.tapSelect (s : State) (op : Nat) (force : Option Nat) : State :=
  s.setJtag (fun j => { j with ir := op % 256, force := force.getD j.force })

/-- EXTEST and CLAMP act as BYPASS under DBGLOCK (R493). -/
def State.tapDrive (s : State) (op : Nat) : State := if s.dbgLock then s.tapSelect 0xFF none else s.tapSelect op (some 1)

/-- What a scan shifts into the boundary register: the levels to drive, none for a cell that does not drive. -/
def State.boundaryLoad (s : State) (l : List (Nat × Option Bool)) : State :=
  s.setJtag (fun j => { j with drive := l.foldl (fun m e => m.set e.1 e.2) j.drive })

/-- The levels of the covered pins: machine I/O, DONE and HALT_N; the pins of which the device keeps nothing are free values. -/
def State.boundaryCapture (s : State) : State :=
  let f := s.free
  let level (n : Nat) : Bool :=
    if n < 640 then s.padLevel n
    else if n = 641 then s.xbar.pinsOn && !s.halted
    else if n = 642 then s.haltN
    else f.1.getLsbD (n - 640)
  f.2.setJtag (fun j => { j with capture := (List.range 645).foldl (fun m n => m.set n (level n)) [] })

/-- The identification register (Table 22.6): as SYS_ID. -/
def State.idcode (s : State) : State := (s.tapSelect 1 none).answerWith stOK (wordBytes (s.rw R.SYS_ID.reg))

/-- The opcodes of Table 22.6 that select something else than BYPASS. -/
def tapNamed (op : Nat) : Bool := [0, 1, 2, 3, 4, 0x20].contains (op % 256)

/-! ### The DAP register (R494) -/

/-- The accesses that go by the side path: the DBG, RST and SCR blocks and SYS_ID. -/
def sidePath (a : Nat) : Bool :=
  0xF000000000 ≤ a && (
    let o := a - 0xF000000000
    o = R.SYS_ID.reg || (decide (0x10000 ≤ o) && decide (o < 0x20000)) || (decide (0x500000 ≤ o) && decide (o < 0x510000))
      || (decide (0xB00000 ≤ o) && decide (o < 0xC00000)))

/-- An answer for the debug access port is there at once. -/
def State.dapArrive (s : State) (status : Nat) (data : List Byte) : State :=
  { s with noc := { s.noc with arrived := s.noc.arrived ++ [(iniDebug * 4096, status, 0, data)] } }

/-- An access by the side path, which works in a halt and in a reset. -/
def State.dapSide (s : State) (a : Nat) (v : Option Word) : State :=
  let t := match v with
    | some v => s.csrSet .debug (a - 0xF000000000) v 0
    | none => s.csrGet (a - 0xF000000000)
  let r := t.resp.getD {}
  ({ t with resp := s.resp } : State).dapArrive r.status r.data

/-- The answers for the debug access port that have come are gone. -/
def State.dapClear (s : State) : State :=
  { s with noc := { s.noc with arrived := s.noc.arrived.filter (fun x => !(x.1 / 4096 = iniDebug)) } }

/-- An update of the DAP register with OP read (`v` none) or write: ignored and counted while an access is pending, DENIED and
counted under DBGLOCK, by the side path or by the network. -/
def State.dapAccess (s : State) (a : Nat) (plain inc : Bool) (v : Option Word) : State :=
  if s.jtag.ir ≠ 0x20 then s
  else if s.jtag.wait.isSome then s.bump R.DBG_ERRCNT.OVERRUN 1
  else
    let a := a % 2 ^ 40
    let s := s.dapClear.setJtag (fun j => { j with addr := a, status := 15, wait := some (v.isNone, inc) })
    if s.dbgLock && !(sidePath a && (v.isNone || decide (a = 0xF000000000 + R.DBG_RSTREQ.reg))) then
      (s.bump R.DBG_ERRCNT.DENIED 1).dapArrive 3 []
    else if sidePath a then (if a % 4 ≠ 0 then s.dapArrive 4 [] else s.dapSide a v)
    else if s.halted then s.dapArrive 6 []
    else
      match s.freeTag iniDebug (fun _ => true) with
      | none => s.dapArrive 9 []
      | some t =>
        let q : Req := { ini := iniDebug, op := if v.isNone then 0 else 1, addr := a, len := 4, tag := t
                         data := (v.map wordBytes).getD [], raw := !plain }
        ({ (s.request q 0) with resp := s.resp } : State).vsmAnswers.hostAnswers

/-- DAP_ACCESS_COMPLETE: the answer that has come is taken into the DAP register. An access whose request a reset has swept
away answers CLOSED. -/
def State.dapComplete (s : State) : State :=
  match s.jtag.wait with
  | none => s
  | some (rd, inc) =>
    let finish (s : State) (st : Nat) (data : List Byte) : State :=
      s.dapClear.setJtag (fun j => { j with
        wait := none, status := st
        data := if rd && decide (st = 0) then BitVec.ofNat 32 (bytesNat (data.take 4)) else j.data
        addr := if inc && decide (st = 0) then (j.addr + 4) % 2 ^ 40 else j.addr })
    match s.noc.arrived.find? (fun x => x.1 / 4096 = iniDebug) with
    | some x => finish s x.2.1 x.2.2.2
    | none => if s.noc.issued.any (fun i => i.ini = iniDebug) then s else finish s 6 []

/-! ### Commands -/

/-- TAP_RESET (R492): IDCODE is selected. -/
def execTapReset (s : State) : Host.Outcome State Fault Refusal := done (s.tapSelect 1 none)
/-- EXTEST (R493): a scan has shifted `l` into the boundary register. -/
def execExtest (l : List (Nat × Option Bool)) (s : State) : Host.Outcome State Fault Refusal :=
  done ((if s.dbgLock then s else s.boundaryLoad l).tapDrive 0)
/-- IDCODE (R492). -/
def execIdcode (s : State) : Host.Outcome State Fault Refusal := done s.idcode
/-- SAMPLE_PRELOAD (R492): the levels are captured, and a scan shifts `l` in. -/
def execSamplePreload (l : List (Nat × Option Bool)) (s : State) : Host.Outcome State Fault Refusal :=
  done ((s.boundaryCapture.boundaryLoad l).tapSelect 2 none)
/-- CLAMP (R493). -/
def execClamp (s : State) : Host.Outcome State Fault Refusal := done (s.tapDrive 3)
/-- HIGHZ (R493). -/
def execHighz (s : State) : Host.Outcome State Fault Refusal := done (s.tapSelect 4 (some 2))
/-- DAPACC (R494). -/
def execDapacc (s : State) : Host.Outcome State Fault Refusal := done (s.tapSelect 0x20 none)
/-- BYPASS (R492): any opcode that Table 22.6 does not name. -/
def execBypass (op : Nat) (s : State) : Host.Outcome State Fault Refusal :=
  done (if tapNamed op then s else s.tapSelect op none)
/-- DAP_READ (R494). -/
def execDapRead (addr : Nat) (plain inc : Bool) (s : State) : Host.Outcome State Fault Refusal :=
  done (s.dapAccess addr plain inc none)
/-- DAP_WRITE (R494). -/
def execDapWrite (addr : Nat) (plain inc : Bool) (v : Word) (s : State) : Host.Outcome State Fault Refusal :=
  done (s.dapAccess addr plain inc (some v))
/-- DAP_ACCESS_COMPLETE (R494). -/
def execDapAccessComplete (s : State) : Host.Outcome State Fault Refusal := done s.dapComplete

end Sys2Proof.Machine
end

