-- ==== Sys2Proof/Machine/Start.lean ====
section
/-! DEFINITION. Start-up (spec/19, R438 to R447): the start sequencer's steps, the policy of R209, failure and retry, the start
release; with them the image's commands, since the last of them ends step FETCH. A row of a step acts when that step is
due, no reset is in force and the device is not in a halt. -/

namespace Sys2Proof.Machine

/-! ### The sequence and the policy (Table 19.1, R209) -/

def stepTRIM : Nat := 0x08
def stepPORTS : Nat := 0x09
def stepFETCH : Nat := 0x01
def stepHBMTRAIN : Nat := 0x02
def stepMARCH : Nat := 0x03
def stepCSR : Nat := 0x0A
def stepLEDGER : Nat := 0x0C
def stepLANES : Nat := 0x05
def stepPLANTTIME : Nat := 0x06
def stepREGIONS : Nat := 0x04
def stepRELEASE : Nat := 0x0B

/-- Actions of Table 8.11. -/
def actSTOP : Nat := 0
def actRETRY : Nat := 1
def actSKIP : Nat := 2
def actALTERNATE : Nat := 3

/-- Does Table 8.12 allow an action for a step? -/
def actAllowed (k a : Nat) : Bool :=
  a = actSTOP || a = actRETRY || (a = actSKIP && (k = stepMARCH || k = stepLANES || k = stepPLANTTIME))
    || (a = actALTERNATE && (k = stepFETCH || k = stepHBMTRAIN || k = stepREGIONS))

/-- The stored policy entry of a step: its word in AON_POLICYk (Table 8.11). -/
def State.policyEntry (s : State) (k : Nat) : Option Nat :=
  ((List.range 16).map (fun i => s.g (R.AON_POLICY.ENTRY i))).find? (fun w => decide (k ≠ 0) && decide (w % 256 = k))

/-- The action and ARG for a start that fails at step `k` as the `n`th in a row (R209). -/
def State.policyAction (s : State) (k n : Nat) : Nat × Nat :=
  let dflt := if n ≤ 1 then actRETRY else actSTOP
  match s.policyEntry k with
  | none => (dflt, 0)
  | some w =>
    let first := w / 256 % 16
    let later := w / 4096 % 16
    if actAllowed k first && actAllowed k later then (if n ≤ 1 then first else later, w / 65536 % 256) else (dflt, 0)

/-- The ARG of the action in force, if it is `act` for step `k`. -/
def State.applied (s : State) (k act : Nat) : Option Nat :=
  match s.start.action with
  | some (j, a, arg) => if j = k ∧ a = act then some arg else none
  | none => none

/-- Is step `k` due? -/
def State.stepDue (s : State) (k : Nat) : Bool :=
  decide (s.start.step = some k) && decide (s.rst.reach = 0) && !s.halted

/-- Step `k` is due now (R438); the log entry shows it (R447). -/
def State.stepNext (s : State) (k : Nat) : State :=
  (s.setStart (fun x => { x with step := some k })).startUpdate k resCUT 0xFFFF

/-- A flag of the start log entry. -/
def State.startFlag (s : State) (b : Nat) : State := s.setStart (fun x => { x with flags := x.flags ||| 2 ^ b })

/-- Step `k` fails with a status (R445, R446): the action that R209 gives decides between staying before the release and a
retry. STOP is this start's own action, so that its log entry records it (R209); any other is the next start's (R446). -/
def State.startFail (s : State) (k status : Nat) : State :=
  let n := s.failsAt k
  let a := s.policyAction k n
  let stop := decide (a.1 = actSTOP)
  let s := s.setStart (fun x => { x with
    status := status, fails := n, step := none, retry := !stop, action := if stop then some (k, a) else x.action })
  s.startUpdate k (if stop then resSTOPPED else resFAILED) 0xFFFF

/-! ### TRIM and PORTS (R419, R447, R217) -/

/-- The start begins (R447): its log entry, with the action that the previous start's failure calls for (R209). -/
def State.startBegin (s : State) : State :=
  let prev := (s.sec.starts.head?.filter startEntryOk).getD []
  let failed := !prev.isEmpty && decide (fieldAt prev 13 1 = resFAILED)
  let stopped := !prev.isEmpty && decide (fieldAt prev 13 1 = resSTOPPED)
  let k := fieldAt prev 12 1
  let n := fieldAt prev 15 1 / 16
  let a := s.policyAction k n
  let seq := match s.sec.starts with
    | e :: _ => (fieldAt e 0 4 + 1) % 2 ^ 32
    | [] => 0
  let s := s.setStart (fun x => { x with
    last := s.rw R.RST_LAST.reg, logged := true, fails := if failed || stopped then n else 0
    action := if failed then some (k, a) else none, flags := if x.trimErr then 16 else 0 })
  let s := (s.setSec (fun x => { x with starts := (s.startBytes seq stepPORTS resCUT 0xFFFF :: x.starts).take 16 })).stepNext stepPORTS
  if failed && decide (a.1 = actSTOP) then (s.setStart (fun x => { x with step := none })).startUpdate stepPORTS resSTOPPED 0xFFFF
  -- the ports' starts begin with their flash reset outputs low (R217)
  else s.setCfg (fun c => { c with flashRst := true })

/-- TRIM (R419, R476): trims and options are loaded and the start begins, or the device stays in reset with TRIMERR. -/
def State.trimRow (s : State) : State :=
  if !s.stepDue stepTRIM then s
  else
    let r := s.fuseLoad
    if r.2 then (r.1.putB R.RST_STATUS.TRIMVALID true).startBegin
    else (r.1.putB R.RST_STATUS.TRIMERR true).setStart (fun x => { x with step := none, trimErr := true })

/-- What a port sends at its start, once its flash reset output is high again (R217, Table 9.2): Reset Enable and Soft Reset, Read
SFDP, and the enable sequence that the SFDP declares. -/
def sfdpSends : Sfdp → List Nat
  | .octal enable _ => [0x66, 0x99, 0x5A] ++ enable
  | .absent | .invalid | .single => [0x66, 0x99, 0x5A]

/-- The mode a port reports in CFG_STATUS after its start. -/
def sfdpMode : Sfdp → Nat
  | .absent => 0
  | .single => 1
  | .octal _ _ => 2
  | .invalid => 3

/-- Is a command sent in the repeated-opcode form (R216)? -/
def sfdpRepeats : Sfdp → Bool
  | .octal _ r => r
  | .absent | .invalid | .single => false

/-- One port's start, with what its SFDP read finds. -/
def State.portStart (s : State) (p : Nat) (f : Sfdp) : State :=
  let s := (s.flashSend p (sfdpSends f)).setCfg (fun c => { c with repeatExt := c.repeatExt.set p (sfdpRepeats f) })
  if p = 0 then s.put R.CFG_STATUS.XSPIA_MODE (sfdpMode f) else s.put R.CFG_STATUS.XSPIB_MODE (sfdpMode f)

/-- PORTS (R217): both ports start; the step passes with one that can be read. -/
def State.portsRow (s : State) (a b : Sfdp) : State :=
  if !s.stepDue stepPORTS then s
  else
    let s := ((s.setCfg (fun c => { c with flashRst := false })).portStart 0 a).portStart 1 b
    if (s.portMode 0 = 1 || s.portMode 0 = 2) || (s.portMode 1 = 1 || s.portMode 1 = 2) then s.stepNext stepFETCH
    else s.startFail stepPORTS 0

/-! ### FETCH (R440, R441) -/

/-- The source of FETCH as SOURCE of Table 19.2 codes it, and whether an unusable port made it the other one (R440). -/
def State.fetchSource (s : State) : Nat × Bool :=
  let usable (p : Nat) : Bool := s.portMode p = 1 || s.portMode p = 2
  match s.applied stepFETCH actALTERNATE with
  | some 1 => (3, false)
  | some _ => if usable 1 then (2, false) else (1, true)
  | none => if usable 0 then (1, false) else (2, true)

/-- When the start load has ended, FETCH has passed or failed. -/
def State.startSettle (s : State) : State :=
  if !s.stepDue stepFETCH then s
  else
    match s.cfg.startResult with
    | none => s
    | some st =>
      let s := s.setCfg (fun c => { c with startResult := none })
      if st = 0 then s.stepNext stepHBMTRAIN else s.startFail stepFETCH st

/-- FETCH (R440, R441): the start load begins; `twin` is what the partner serves, none for an error response. -/
def State.fetchRow (s : State) (twin : Option (List Byte)) : State :=
  if !s.stepDue stepFETCH || (s.loadCh 0).busy then s
  else
    let src := s.fetchSource
    let s := s.setStart (fun x => { x with source := src.1 + if src.2 then 128 else 0 })
    let s := s.setCfg (fun c => { c with twinImg := if s.on R.AON_TWINREC.VALID then twin else none, startResult := none })
    (s.loadTake 0 { start := true, src := src.1, map := identityMap }).startSettle

/-! ### HBMTRAIN and MARCH (R260, R267, R254, R479) -/

/-- The scrambler draws its keys and initialises; the step passes, or fails for the stacks in the mask `bad`. -/
def State.trainEnd (s : State) (bad : Nat) : State :=
  let s := s.drawKeys.each ((List.range 4).filter (fun k => !bad.testBit k)) State.scrInitStack
  let s := s.setStart (fun x => { x with drawing := none, hbm := s.g R.HBM_STATUS.RATE + (15 - bad) * 16 })
  s.stepNext stepMARCH

/-- HBMTRAIN (R256, R260, R267): the stacks of the mask `failed` fail training; `rng` says whether the random source delivers. -/
def State.trainRow (s : State) (failed : Nat) (rng : Bool) : State :=
  if !s.stepDue stepHBMTRAIN then s
  else
    match s.start.drawing with
    | some bad => if rng then (s.putB R.SEC_STATUS.RNGOK true).trainEnd bad else s
    | none =>
      let bad := failed % 16
      let arg := (s.applied stepHBMTRAIN actALTERNATE).getD 0
      let s := s.put R.HBM_STATUS.RATE (min (arg % 4) 2)
      let s := s.each (List.range 4) (fun s k => if bad.testBit k then (s.stackLost k).setStack k 3 else s.setStack k 2)
      let s := s.setStart (fun x => { x with hbm := s.g R.HBM_STATUS.RATE + (15 - bad) * 16 })
      if bad ≠ 0 && !(arg.testBit 2 && decide (bad < 8)) then s.startFail stepHBMTRAIN bad
      else if rng then (s.putB R.SEC_STATUS.RNGOK true).trainEnd bad
      else (s.putB R.SEC_STATUS.RNGOK false).setStart (fun x => { x with drawing := some bad })

/-- RNG_DRAW_TIMEOUT (R479): a draw that has waited 1 ms fails: a quote is answered RNG, HBMTRAIN fails with STATUS bit 4. -/
def State.drawRow (s : State) : State :=
  let waits := s.start.drawing.isSome || (List.range 16).any (fun m => s.mbxRuns m 0x50)
  if !waits then s
  else
    let s := (s.drawTimeout.bump R.SEC_ERRCNT.RNGFAIL 1).raise R.SEC_EVENTS.RNGFAIL
    match s.start.drawing with
    | some bad => (s.setStart (fun x => { x with drawing := none })).startFail stepHBMTRAIN (16 + bad)
    | none => s

/-- MARCH (R254): every bank, destructive mode; `fails` are the banks found BAD with their failing words. -/
def State.marchRow (s : State) (fails : List (Nat × Nat)) : State :=
  if !s.stepDue stepMARCH then s
  else if (s.applied stepMARCH actSKIP).isSome then (s.startFlag 1).stepNext stepCSR
  else
    let s := ((s.putB R.MEM_MARCH_CTL.MODE false).marchStart (List.range 4096)).marchEnd fails
    if fails.any (fun f => decide (f.1 < 4096)) then s.startFail stepMARCH 0 else s.stepNext stepCSR

/-! ### CSR and LEDGER (R199, R442, R175, R176, R475) -/

/-- The stream whose LGR_STREAMn_CFG lies at an offset. -/
def streamAt (a : Nat) : Option Nat := (List.range 4).find? (fun n => decide (R.LGR_STREAM_CFG.reg n = a))

/-- One held CSRW value is written: EN of a stream stays 0, and the stream is recorded (R442). The answer says whether the
write was accepted. -/
def State.heldWrite (s : State) (a : Nat) (v : Word) : State × Bool :=
  let s := match streamAt a with
    | some n => s.setStart (fun x => { x with
        streams := x.streams.filter (fun k => !(k = n)) ++ (if (R.LGR_STREAM_CFG.EN n).of v = 1 then [n] else []) })
    | none => s
  let v := match streamAt a with
    | some n => (R.LGR_STREAM_CFG.EN n).into v 0
    | none => v
  let t := s.csrAccess .image a 4 (fun s => s.csrSet .image a v 0)
  ({ t with resp := s.resp }, decide ((t.resp.getD {}).status = 0))

/-- CSR: the held values in stream order, up to the first that receives an error response; a reset that a write makes ends the
start. -/
def State.csrRow (s : State) : State :=
  if !s.stepDue stepCSR then s
  else
    let r := s.cfg.held.foldl (fun (x : State × Bool) e =>
      if x.2 && decide (x.1.rst.reach = 0) then x.1.heldWrite e.1 e.2 else x) (s, true)
    if r.1.rst.reach ≠ 0 then r.1 else if r.2 then r.1.stepNext stepLEDGER else r.1.startFail stepCSR 0x16

/-- The time of the last MAINOFF entry in the log; a free value where none is left. -/
def State.mainOffTime (s : State) : State × Nat :=
  match (s.sec.log.filter (fun e => e.src = 4)).getLast? with
  | some e => (s, e.time.toNat)
  | none => (s.free.2, s.free.1.toNat)

/-- LEDGER: earlier items are closed and reported; after a loss of main power the open ranges are (R475). `bad` says that an
ember record fails its check. -/
def State.ledgerRow (s : State) (bad : Bool) : State :=
  if !s.stepDue stepLEDGER then s
  else
    let wrong := bad || s.lgr.entries.any (fun e => e.2.bad)
    let s := s.ledgerReclose (if R.RST_LAST.HALTED.of s.start.last = 1 then rsHALT else rsRESET)
    let s :=
      if s.on R.AON_STATUS.MAINLOST then
        let any := (List.range 4).any (fun n => s.on (R.AON_LGR_OLDEST.VALID n))
        let r := (s.put R.LGR_RECSEQ.RECSEQ (s.g R.AON_LGR_RECSEQ.RECSEQ)).mainOffTime
        let s := r.1.ledgerPower r.2
        if any then s.startFlag 5 else s
      else s
    let s := s.putB R.AON_STATUS.MAINLOST false
    if wrong then s.startFail stepLEDGER 0 else s.stepNext stepLANES

/-! ### LANES and PLANTTIME (R438) -/

/-- LANES: passes when every lane with EN = 1 is UP; `late` says that 10 ms are over. -/
def State.lanesRow (s : State) (late : Bool) : State :=
  if !s.stepDue stepLANES then s
  else if (s.applied stepLANES actSKIP).isSome then (s.startFlag 2).stepNext stepPLANTTIME
  else
    match (List.range 48).find? (fun n => s.on (R.LANE_LANE_CTL.EN n) && decide (s.stage n ≠ stUP)) with
    | none => s.stepNext stepPLANTTIME
    | some n => if late then s.startFail stepLANES n else s

/-- PLANTTIME: waits for LOCKED only where plant time comes from an enabled UPPORT; `late` says that 500 ms are over. -/
def State.plantRow (s : State) (late : Bool) : State :=
  if !s.stepDue stepPLANTTIME then s
  else if (s.applied stepPLANTTIME actSKIP).isSome then (s.startFlag 3).stepNext stepREGIONS
  else if s.on R.VSM_TIME_CFG.GM || !s.on (R.VSM_PORT_CFG.EN (s.g R.VSM_TIME_CFG.UPPORT)) || s.g R.VSM_STATUS.TSTATE = 2 then s.stepNext stepREGIONS
  else if late then s.startFail stepPLANTTIME 0
  else s

/-! ### REGIONS and RELEASE (R442, R443) -/

/-- The first check of R442 that a start region fails, as STATUS codes it; 0 for none. -/
def State.regionFail (s : State) (g c : Nat) : Nat :=
  let k := s.g (R.CLK_REGION_CFG.SRC g)
  if s.slotState g c ≠ slotPROOFED then 2
  else if !s.logicOn g then 3
  else if !s.on (R.CLK_FPLL_STATUS.LOCK k) then 4
  else if s.fpllOver k (s.g (R.CLK_REGION_STATUS.FMAX g)) then 5 else 0

/-- REGIONS: a plan waiting is applied (R460); the regions of the set chosen are committed, all or none. -/
def State.regionsRow (s : State) : State :=
  if !s.stepDue stepREGIONS then s
  else
    let s := s.ageStart
    let set : Nat := if s.applied stepREGIONS actALTERNATE = some 1 then 1 else 0
    let s := if set = 1 then s.startFlag 0 else s
    let l := (s.cfg.acts.filter (fun a => a.1 = set)).map (fun (a : Nat × Nat × Nat) => a.2)
    match l, l.find? (fun e => decide (s.regionFail e.1 e.2 ≠ 0)) with
    | [], _ => s.startFail stepREGIONS 1
    | _, some e => s.startFail stepREGIONS (s.regionFail e.1 e.2)
    | l, none =>
      let s := l.foldl (fun (s : State) e => s.ffInit e.1 e.2) s
      (s.setStart (fun x => { x with committed := l })).stepNext stepRELEASE

/-- A committed slot becomes ACTIVE and its region is released (R131, R443). -/
def State.regionRelease (s : State) (g c : Nat) : State :=
  (((s.setSlot g c slotACTIVE).put (R.CTX_REGION_STATUS.ACT g) c).putB (R.CTX_REGION_STATUS.HASACT g) true).regionStart g

/-- The record of the twin port, written at the release of a device with TWIN_CFG.EN (R441). -/
def State.twinRecord (s : State) : State :=
  if s.on R.TWIN_CFG.EN then
    ((s.put R.AON_TWINREC.LANE (s.g R.TWIN_CFG.PORT)).put R.AON_TWINREC.FREQ (s.bit R.LANE_REFCFG.FREQ (s.g R.TWIN_CFG.PORT / 8)).toNat).putB R.AON_TWINREC.VALID true
  else s

/-- RELEASE (R443): slots, pins, DONE, TWINSEL, units, streams and the scrubber, on one tick. -/
def State.releaseRow (s : State) (twinsel : Bool) : State :=
  if !s.stepDue stepRELEASE then s
  else
    let l := s.start.committed
    let s := l.foldl (fun (s : State) e => s.regionRelease e.1 e.2) s
    let s : State := { s with xbar := { s.xbar with pinsOn := true } }
    let s := s.each ((l.flatMap (fun e => e.1 :: neighboursOf e.1)).eraseDups) (fun s r => (s.gateShow r).dmpShow r)
    let s := (s.putB R.TWIN_STATUS.SEL twinsel).each s.start.streams State.streamEnable
    let s := (s.each (l.map (·.1)) State.passStart).twinRecord
    let s := if s.policyBit 4 && decide (s.arbCount < s.cfg.fullArb) then s.fuseStart none (s.arbTodo s.cfg.fullArb) else s
    let ms := min 0xFFFE ((s.plantNs.toNat - s.start.began) / 1000000)
    (s.setStart (fun x => { x with step := none })).startUpdate stepRELEASE resRELEASED ms

/-- START_RETRY (R446): 100 ms after a failure the supervisor writes RST_CTL.REQ = 2. -/
def State.retryRow (s : State) : State :=
  if s.start.retry && decide (s.rst.reach = 0) then s.resetAccept 5 2 else s

/-! ### Commands -/

/-- TRIM (R419). -/
def execTrim (s : State) : Host.Outcome State Fault Refusal := done s.trimRow
/-- PORTS (R217). -/
def execPorts (a b : Sfdp) (s : State) : Host.Outcome State Fault Refusal := done (s.portsRow a b)
/-- FETCH (R440). -/
def execFetch (twin : Option (List Byte)) (s : State) : Host.Outcome State Fault Refusal := done (s.fetchRow twin)
/-- HBMTRAIN (R260). -/
def execHbmtrain (failed : Nat) (rng : Bool) (s : State) : Host.Outcome State Fault Refusal := done (s.trainRow failed rng)
/-- MARCH (R254). -/
def execMarch (fails : List (Nat × Nat)) (s : State) : Host.Outcome State Fault Refusal := done (s.marchRow fails)
/-- CSR (R199). -/
def execCsr (s : State) : Host.Outcome State Fault Refusal := done s.csrRow
/-- LEDGER (R475). -/
def execLedger (bad : Bool) (s : State) : Host.Outcome State Fault Refusal := done (s.ledgerRow bad)
/-- LANES (R438). -/
def execLanes (late : Bool) (s : State) : Host.Outcome State Fault Refusal := done (s.lanesRow late)
/-- PLANTTIME (R438). -/
def execPlanttime (late : Bool) (s : State) : Host.Outcome State Fault Refusal := done (s.plantRow late)
/-- REGIONS (R442). -/
def execRegions (s : State) : Host.Outcome State Fault Refusal := done s.regionsRow
/-- RELEASE (R443). -/
def execRelease (twinsel : Bool) (s : State) : Host.Outcome State Fault Refusal := done (s.releaseRow twinsel)
/-- START_RETRY (R446). -/
def execStartRetry (s : State) : Host.Outcome State Fault Refusal := done s.retryRow
/-- RNG_DRAW_TIMEOUT (R479). -/
def execRngDrawTimeout (s : State) : Host.Outcome State Fault Refusal := done s.drawRow

/-! ### Commands that may end the start load -/

/-- CANCEL (R219). -/
def execCancel (m : Nat) (s : State) : Host.Outcome State Fault Refusal := done (s.cancelRequest m).startSettle
/-- INVALIDATE (R221). -/
def execInvalidate (m : Nat) (s : State) : Host.Outcome State Fault Refusal := done (s.invalidateRequest m).startSettle
/-- CFG_RECLAIM (R215); only the supervisor writes it. -/
def execCfgReclaim (w : Who) (mask : Nat) (s : State) : Host.Outcome State Fault Refusal :=
  done (if w = .super then ((s.cfgReclaim mask).startSettle).answerWith stOK [] else s.answerWith stERR [])
/-- CSR_WRITE (R5 to R9, R515). -/
def execCsrWrite (who : Who) (addr size : Nat) (value : Word) (sub : Nat) (s : State) : Host.Outcome State Fault Refusal :=
  done (s.csrAccess who addr size (fun s => s.csrSet who addr value sub)).startSettle.transmit

/-! ### The image's commands (R194 to R200) -/

/-- PAD (Table 8.7). -/
def execPad (ch : Nat) (s : State) : Host.Outcome State Fault Refusal := done (s.padRow ch).startSettle
/-- FRAME (Table 8.7). -/
def execFrame (ch : Nat) (s : State) : Host.Outcome State Fault Refusal := done (s.frameRow ch).startSettle
/-- BCAST (R198). -/
def execBcast (ch : Nat) (s : State) : Host.Outcome State Fault Refusal := done (s.bcastRow ch).startSettle
/-- SUPFW (R194). -/
def execSupfw (ch : Nat) (s : State) : Host.Outcome State Fault Refusal := done (s.supfwRow ch).startSettle
/-- CSRW (R199). -/
def execCsrw (ch : Nat) (s : State) : Host.Outcome State Fault Refusal := done (s.csrwRow ch).startSettle
/-- ACTIVATE (R200). -/
def execActivate (ch : Nat) (s : State) : Host.Outcome State Fault Refusal := done (s.activateRow ch).startSettle
/-- END (Table 8.7). -/
def execEnd (ch : Nat) (s : State) : Host.Outcome State Fault Refusal := done (s.endRow ch).startSettle

end Sys2Proof.Machine
end

