-- ==== Sys2Proof/Machine/Dispatch.lean ====
section
/-! DEFINITION. Which meaning each command has: one arm per constructor, each a call of its meaning. -/

namespace Sys2Proof.Machine

def exec (i : Instr) (s : State) : Host.Outcome State Fault Refusal :=
  match i with
  | .csrWrite who addr size value sub => Sys2Proof.Machine.execCsrWrite who addr size value sub s
  | .rcFieldRead who addr size => Sys2Proof.Machine.execRcFieldRead who addr size s
  | .angleTick => Sys2Proof.Machine.execAngleTick s
  | .encoderEdge enc a b sub => Sys2Proof.Machine.execEncoderEdge enc a b sub s
  | .zPulse enc => Sys2Proof.Machine.execZPulse enc s
  | .ssiFrame enc data sub => Sys2Proof.Machine.execSsiFrame enc data sub s
  | .ssiTimeout enc => Sys2Proof.Machine.execSsiTimeout enc s
  | .coastlimExpiry axis => Sys2Proof.Machine.execCoastlimExpiry axis s
  | .angApply mask sub => Sys2Proof.Machine.execAngApply mask sub s
  | .angSnap mask => Sys2Proof.Machine.execAngSnap mask s
  | .angAxisTrimWrite n v sameCycle => Sys2Proof.Machine.execAngAxisTrimWrite n v sameCycle s
  | .axisEnable n => Sys2Proof.Machine.execAxisEnable n s
  | .axisDisable n => Sys2Proof.Machine.execAxisDisable n s
  | .rearm n => Sys2Proof.Machine.execRearm n s
  | .evtTargetCommit k n hi sub => Sys2Proof.Machine.execEvtTargetCommit k n hi sub s
  | .evtCmpCfgWrite n v sub => Sys2Proof.Machine.execEvtCmpCfgWrite n v sub s
  | .evtEdgCfgWrite n v sub => Sys2Proof.Machine.execEvtEdgCfgWrite n v sub s
  | .evtCapCfgWrite n v sub => Sys2Proof.Machine.execEvtCapCfgWrite n v sub s
  | .edgeFabricTrigger n sub => Sys2Proof.Machine.execEdgeFabricTrigger n sub s
  | .captureEdge n rising sub => Sys2Proof.Machine.execCaptureEdge n rising sub s
  | .capRec3Read n => Sys2Proof.Machine.execCapRec3Read n s
  | .cmpPortWrite g csel wsel data sub => Sys2Proof.Machine.execCmpPortWrite g csel wsel data sub s
  | .wuPass t a b => Sys2Proof.Machine.execWuPass t a b s
  | .wuAdd t a b => Sys2Proof.Machine.execWuAdd t a b s
  | .wuSub t a b => Sys2Proof.Machine.execWuSub t a b s
  | .wuAddc t a b cin => Sys2Proof.Machine.execWuAddc t a b cin s
  | .wuAnd t a b => Sys2Proof.Machine.execWuAnd t a b s
  | .wuOr t a b => Sys2Proof.Machine.execWuOr t a b s
  | .wuXor t a b => Sys2Proof.Machine.execWuXor t a b s
  | .wuMin t a b => Sys2Proof.Machine.execWuMin t a b s
  | .wuMax t a b => Sys2Proof.Machine.execWuMax t a b s
  | .wuShl t a b => Sys2Proof.Machine.execWuShl t a b s
  | .wuShr t a b => Sys2Proof.Machine.execWuShr t a b s
  | .wuCmp t a b => Sys2Proof.Machine.execWuCmp t a b s
  | .wuMul t a b => Sys2Proof.Machine.execWuMul t a b s
  | .wuMac t a b => Sys2Proof.Machine.execWuMac t a b s
  | .wuMsu t a b => Sys2Proof.Machine.execWuMsu t a b s
  | .wuLdacc t a b => Sys2Proof.Machine.execWuLdacc t a b s
  | .clracc t op a b cin => Sys2Proof.Machine.execClracc t op a b cin s
  | .kick g => Sys2Proof.Machine.execKick g s
  | .fwdExpiry g => Sys2Proof.Machine.execFwdExpiry g s
  | .sysFwdCfgWrite g v => Sys2Proof.Machine.execSysFwdCfgWrite g v s
  | .unfreeze g => Sys2Proof.Machine.execUnfreeze g s
  | .switchComplete n sub => Sys2Proof.Machine.execSwitchComplete n sub s
  | .ctxSwitch mask sub => Sys2Proof.Machine.execCtxSwitch mask sub s
  | .swtrig g => Sys2Proof.Machine.execSwtrig g s
  | .sgArm n v => Sys2Proof.Machine.execSgArm n v s
  | .regionCtlWrite g v => Sys2Proof.Machine.execRegionCtlWrite g v s
  | .lgrApply mask => Sys2Proof.Machine.execLgrApply mask s
  | .ledgerPost port stn verd code idv id => Sys2Proof.Machine.execLedgerPost port stn verd code idv id s
  | .postResolve => Sys2Proof.Machine.execPostResolve s
  | .recordRelease n => Sys2Proof.Machine.execRecordRelease n s
  | .lgrFence k v => Sys2Proof.Machine.execLgrFence k v s
  | .streamEnable n => Sys2Proof.Machine.execStreamEnable n s
  | .streamDisable n sub => Sys2Proof.Machine.execStreamDisable n sub s
  | .load m => Sys2Proof.Machine.execLoad m s
  | .pad ch => Sys2Proof.Machine.execPad ch s
  | .frame ch => Sys2Proof.Machine.execFrame ch s
  | .bcast ch => Sys2Proof.Machine.execBcast ch s
  | .supfw ch => Sys2Proof.Machine.execSupfw ch s
  | .csrw ch => Sys2Proof.Machine.execCsrw ch s
  | .activate ch => Sys2Proof.Machine.execActivate ch s
  | .endCmd ch => Sys2Proof.Machine.execEnd ch s
  | .cancel m => Sys2Proof.Machine.execCancel m s
  | .invalidate m => Sys2Proof.Machine.execInvalidate m s
  | .switch m sub => Sys2Proof.Machine.execSwitch m sub s
  | .map m => Sys2Proof.Machine.execMap m s
  | .flashprog m => Sys2Proof.Machine.execFlashprog m s
  | .flasherase m => Sys2Proof.Machine.execFlasherase m s
  | .flashOpComplete p ok => Sys2Proof.Machine.execFlashOpComplete p ok s
  | .flashWipTimeout p => Sys2Proof.Machine.execFlashWipTimeout p s
  | .cfgReclaim who mask => Sys2Proof.Machine.execCfgReclaim who mask s
  | .scrubPassStart g => Sys2Proof.Machine.execScrubPassStart g s
  | .storedFrameCheck a => Sys2Proof.Machine.execStoredFrameCheck a s
  | .bankNop q => Sys2Proof.Machine.execBankNop q s
  | .bankRead q peer => Sys2Proof.Machine.execBankRead q peer s
  | .bankWrite q peer => Sys2Proof.Machine.execBankWrite q peer s
  | .bankAdd16 q peer => Sys2Proof.Machine.execBankAdd16 q peer s
  | .bankSwap16 q peer => Sys2Proof.Machine.execBankSwap16 q peer s
  | .bankAdd32 q peer => Sys2Proof.Machine.execBankAdd32 q peer s
  | .bankSwap32 q peer => Sys2Proof.Machine.execBankSwap32 q peer s
  | .bankBadop q => Sys2Proof.Machine.execBankBadop q s
  | .memBankOwnerWrite w n v => Sys2Proof.Machine.execMemBankOwnerWrite w n v s
  | .handoverEffect n => Sys2Proof.Machine.execHandoverEffect n s
  | .memReclaim w n => Sys2Proof.Machine.execMemReclaim w n s
  | .marchStart => Sys2Proof.Machine.execMarchStart s
  | .marchEnd fails => Sys2Proof.Machine.execMarchEnd fails s
  | .pcFail k p => Sys2Proof.Machine.execPcFail k p s
  | .sweepGrant k => Sys2Proof.Machine.execSweepGrant k s
  | .sweepGroup k e => Sys2Proof.Machine.execSweepGroup k e s
  | .hbmRefresh k temp => Sys2Proof.Machine.execHbmRefresh k temp s
  | .hbmCalibration k p => Sys2Proof.Machine.execHbmCalibration k p s
  | .scraccess m => Sys2Proof.Machine.execScraccess m s
  | .nocRead q => Sys2Proof.Machine.execNocRead q s
  | .nocWrite q => Sys2Proof.Machine.execNocWrite q s
  | .nocWritep q => Sys2Proof.Machine.execNocWritep q s
  | .nocAdd16 q => Sys2Proof.Machine.execNocAdd16 q s
  | .nocSwap16 q => Sys2Proof.Machine.execNocSwap16 q s
  | .nocAdd32 q => Sys2Proof.Machine.execNocAdd32 q s
  | .nocSwap32 q => Sys2Proof.Machine.execNocSwap32 q s
  | .nocBadop q => Sys2Proof.Machine.execNocBadop q s
  | .packetForward router out hit e => Sys2Proof.Machine.execPacketForward router out hit e s
  | .nocResponse ini tag => Sys2Proof.Machine.execNocResponse ini tag s
  | .targetTimeout ep => Sys2Proof.Machine.execTargetTimeout ep s
  | .initiatorTimeout ini tag => Sys2Proof.Machine.execInitiatorTimeout ini tag s
  | .wait ep => Sys2Proof.Machine.execWait ep s
  | .flip => Sys2Proof.Machine.execFlip s
  | .flipCheckEnd => Sys2Proof.Machine.execFlipCheckEnd s
  | .epochDrained => Sys2Proof.Machine.execEpochDrained s
  | .nocReclaim w ep => Sys2Proof.Machine.execNocReclaim w ep s
  | .revive ep => Sys2Proof.Machine.execRevive ep s
  | .portCloseComplete ep => Sys2Proof.Machine.execPortCloseComplete ep s
  | .statsClear => Sys2Proof.Machine.execStatsClear s
  | .adapterRequest g q => Sys2Proof.Machine.execAdapterRequest g q s
  | .adapterResponseSend g rtag status detail data => Sys2Proof.Machine.execAdapterResponseSend g rtag status detail data s
  | .rxtake g => Sys2Proof.Machine.execRxtake g s
  | .laneEnable n => Sys2Proof.Machine.execLaneEnable n s
  | .laneDisable n => Sys2Proof.Machine.execLaneDisable n s
  | .pllLock q => Sys2Proof.Machine.execPllLock q s
  | .pllLockTimeout q => Sys2Proof.Machine.execPllLockTimeout q s
  | .cdrLock n => Sys2Proof.Machine.execCdrLock n s
  | .laneSymbolReceive n code bound => Sys2Proof.Machine.execLaneSymbolReceive n code bound s
  | .lossOfLock n => Sys2Proof.Machine.execLossOfLock n s
  | .laneRetrain n => Sys2Proof.Machine.execLaneRetrain n s
  | .adaptSetSend n => Sys2Proof.Machine.execAdaptSetSend n s
  | .escanStart n v => Sys2Proof.Machine.execEscanStart n v s
  | .escanEnd n count => Sys2Proof.Machine.execEscanEnd n count s
  | .bundleDegrade q b lost => Sys2Proof.Machine.execBundleDegrade q b lost s
  | .bundleRejoin q b => Sys2Proof.Machine.execBundleRejoin q b s
  | .rxBlockPost n => Sys2Proof.Machine.execRxBlockPost n s
  | .txBlockRead n => Sys2Proof.Machine.execTxBlockRead n s
  | .txUnderrun n => Sys2Proof.Machine.execTxUnderrun n s
  | .vsmPortEnable p cfg => Sys2Proof.Machine.execVsmPortEnable p cfg s
  | .vsmPortDisable p cfg => Sys2Proof.Machine.execVsmPortDisable p cfg s
  | .alignSetReceive n lane chk => Sys2Proof.Machine.execAlignSetReceive n lane chk s
  | .portDown p => Sys2Proof.Machine.execPortDown p s
  | .frameReceive p raw => Sys2Proof.Machine.execFrameReceive p raw s
  | .ackSend p chan => Sys2Proof.Machine.execAckSend p chan s
  | .ack p chan seq => Sys2Proof.Machine.execAck p chan seq s
  | .nak p chan seq => Sys2Proof.Machine.execNak p chan seq s
  | .retransmitTimeout p chan seq => Sys2Proof.Machine.execRetransmitTimeout p chan seq s
  | .widen p count width => Sys2Proof.Machine.execWiden p count width s
  | .widenack p count => Sys2Proof.Machine.execWidenack p count s
  | .fail chan etag reason => Sys2Proof.Machine.execFail chan etag reason s
  | .rack chan recseq => Sys2Proof.Machine.execRack chan recseq s
  | .syncSend => Sys2Proof.Machine.execSyncSend s
  | .sync p hops gm origin corr => Sys2Proof.Machine.execSync p hops gm origin corr s
  | .dreqSend => Sys2Proof.Machine.execDreqSend s
  | .dreq p => Sys2Proof.Machine.execDreq p s
  | .drsp p t2 t3 => Sys2Proof.Machine.execDrsp p t2 t3 s
  | .holdover => Sys2Proof.Machine.execHoldover s
  | .angleExport k => Sys2Proof.Machine.execAngleExport k s
  | .angleFrame k src value vel time st => Sys2Proof.Machine.execAngleFrame k src value vel time st s
  | .gaplimExpiry k => Sys2Proof.Machine.execGaplimExpiry k s
  | .switchCommand mask time => Sys2Proof.Machine.execSwitchCommand mask time s
  | .switchAtTick => Sys2Proof.Machine.execSwitchAtTick s
  | .tunnelRequest q => Sys2Proof.Machine.execTunnelRequest q s
  | .tunnelledRequestArrive src etag op addr len data => Sys2Proof.Machine.execTunnelledRequestArrive src etag op addr len data s
  | .tunnelResponse etag status detail data => Sys2Proof.Machine.execTunnelResponse etag status detail data s
  | .tunnelTimeout etag => Sys2Proof.Machine.execTunnelTimeout etag s
  | .reportFrameReceive c src data => Sys2Proof.Machine.execReportFrameReceive c src data s
  | .reportResend => Sys2Proof.Machine.execReportResend s
  | .twinEnable cfg => Sys2Proof.Machine.execTwinEnable cfg s
  | .twinDisable cfg => Sys2Proof.Machine.execTwinDisable cfg s
  | .solowaitExpiry => Sys2Proof.Machine.execSolowaitExpiry s
  | .heartbeatSend => Sys2Proof.Machine.execHeartbeatSend s
  | .heartbeat data => Sys2Proof.Machine.execHeartbeat data s
  | .primaryLost => Sys2Proof.Machine.execPrimaryLost s
  | .leaseWaitTimeout => Sys2Proof.Machine.execLeaseWaitTimeout s
  | .leaseInChange high => Sys2Proof.Machine.execLeaseInChange high s
  | .mirror data => Sys2Proof.Machine.execMirror data s
  | .resyncreq => Sys2Proof.Machine.execResyncreq s
  | .snapend => Sys2Proof.Machine.execSnapend s
  | .vmaster axis tick value vel => Sys2Proof.Machine.execVmaster axis tick value vel s
  | .handover t => Sys2Proof.Machine.execHandover t s
  | .hoack => Sys2Proof.Machine.execHoack s
  | .resetreq => Sys2Proof.Machine.execResetreq s
  | .handoverRequest => Sys2Proof.Machine.execHandoverRequest s
  | .handoverAtT => Sys2Proof.Machine.execHandoverAtT s
  | .yield => Sys2Proof.Machine.execYield s
  | .resync => Sys2Proof.Machine.execResync s
  | .rstpeer => Sys2Proof.Machine.execRstpeer s
  | .convergeComplete => Sys2Proof.Machine.execConvergeComplete s
  | .crossbarTick => Sys2Proof.Machine.execCrossbarTick s
  | .xbarCommit who mask sub => Sys2Proof.Machine.execXbarCommit who mask sub s
  | .xbarStageWrite who input n v => Sys2Proof.Machine.execXbarStageWrite who input n v s
  | .xbarReclaim g sub => Sys2Proof.Machine.execXbarReclaim g sub s
  | .xbarCgOwnerWrite who g v => Sys2Proof.Machine.execXbarCgOwnerWrite who g v s
  | .xbarPinCfgWrite n v sub => Sys2Proof.Machine.execXbarPinCfgWrite n v sub s
  | .tableSweep => Sys2Proof.Machine.execTableSweep s
  | .pinInputChange n ext => Sys2Proof.Machine.execPinInputChange n ext s
  | .peripheralEnable u cfg => Sys2Proof.Machine.execPeripheralEnable u cfg s
  | .peripheralDisable u cfg => Sys2Proof.Machine.execPeripheralDisable u cfg s
  | .i2cStart n answer => Sys2Proof.Machine.execI2cStart n answer s
  | .i2cWrite n answer => Sys2Proof.Machine.execI2cWrite n answer s
  | .i2cRead n data answer => Sys2Proof.Machine.execI2cRead n data answer s
  | .i2cStop n => Sys2Proof.Machine.execI2cStop n s
  | .i2cTimeout n => Sys2Proof.Machine.execI2cTimeout n s
  | .spiTxdata n v => Sys2Proof.Machine.execSpiTxdata n v s
  | .uartTxdata n v => Sys2Proof.Machine.execUartTxdata n v s
  | .uartRxByte n data isBreak framing parity => Sys2Proof.Machine.execUartRxByte n data isBreak framing parity s
  | .rxdataRead u => Sys2Proof.Machine.execRxdataRead u s
  | .por => Sys2Proof.Machine.execPor s
  | .bor => Sys2Proof.Machine.execBor s
  | .resetN => Sys2Proof.Machine.execResetN s
  | .swdt => Sys2Proof.Machine.execSwdt s
  | .lockup => Sys2Proof.Machine.execLockup s
  | .clkfail => Sys2Proof.Machine.execClkfail s
  | .rstCtlFabric => Sys2Proof.Machine.execRstCtlFabric s
  | .rstCtlSystem => Sys2Proof.Machine.execRstCtlSystem s
  | .fabricResetComplete g => Sys2Proof.Machine.execFabricResetComplete g s
  | .resetRelease src => Sys2Proof.Machine.execResetRelease src s
  | .blockResetEnc n => Sys2Proof.Machine.execBlockResetEnc n s
  | .blockResetI2c n => Sys2Proof.Machine.execBlockResetI2c n s
  | .blockResetSpi n => Sys2Proof.Machine.execBlockResetSpi n s
  | .blockResetUart n => Sys2Proof.Machine.execBlockResetUart n s
  | .blockResetQuad q => Sys2Proof.Machine.execBlockResetQuad q s
  | .blockResetVsm => Sys2Proof.Machine.execBlockResetVsm s
  | .blockResetUsb => Sys2Proof.Machine.execBlockResetUsb s
  | .blockResetHbm k => Sys2Proof.Machine.execBlockResetHbm k s
  | .blockResetPmb who => Sys2Proof.Machine.execBlockResetPmb who s
  | .blockResetCmp h => Sys2Proof.Machine.execBlockResetCmp h s
  | .blockResetEdg k => Sys2Proof.Machine.execBlockResetEdg k s
  | .blockResetCap k => Sys2Proof.Machine.execBlockResetCap k s
  | .blockResetAxis n => Sys2Proof.Machine.execBlockResetAxis n s
  | .pdRequestOff n => Sys2Proof.Machine.execPdRequestOff n s
  | .pdRequestOn n => Sys2Proof.Machine.execPdRequestOn n s
  | .pdRequestRetain n => Sys2Proof.Machine.execPdRequestRetain n s
  | .domainOffReached n => Sys2Proof.Machine.execDomainOffReached n s
  | .domainOnReached n => Sys2Proof.Machine.execDomainOnReached n s
  | .lowwarn => Sys2Proof.Machine.execLowwarn s
  | .avsPoll mv fault pec => Sys2Proof.Machine.execAvsPoll mv fault pec s
  | .avsStep => Sys2Proof.Machine.execAvsStep s
  | .fpllCfgWrite k v => Sys2Proof.Machine.execFpllCfgWrite k v s
  | .fpllLock k => Sys2Proof.Machine.execFpllLock k s
  | .fpllLockLoss k => Sys2Proof.Machine.execFpllLockLoss k s
  | .clkRegionStage g k => Sys2Proof.Machine.execClkRegionStage g k s
  | .trim => Sys2Proof.Machine.execTrim s
  | .ports a b => Sys2Proof.Machine.execPorts a b s
  | .fetch twin => Sys2Proof.Machine.execFetch twin s
  | .hbmtrain failed rng => Sys2Proof.Machine.execHbmtrain failed rng s
  | .march fails => Sys2Proof.Machine.execMarch fails s
  | .csr => Sys2Proof.Machine.execCsr s
  | .ledger bad => Sys2Proof.Machine.execLedger bad s
  | .lanes late => Sys2Proof.Machine.execLanes late s
  | .planttime late => Sys2Proof.Machine.execPlanttime late s
  | .regions => Sys2Proof.Machine.execRegions s
  | .release twinsel => Sys2Proof.Machine.execRelease twinsel s
  | .startRetry => Sys2Proof.Machine.execStartRetry s
  | .thmSample n temp => Sys2Proof.Machine.execThmSample n temp s
  | .thmTripWrite v => Sys2Proof.Machine.execThmTripWrite v s
  | .crystalCompensation => Sys2Proof.Machine.execCrystalCompensation s
  | .ageMeasurement l => Sys2Proof.Machine.execAgeMeasurement l s
  | .ageapply m => Sys2Proof.Machine.execAgeapply m s
  | .mainoff => Sys2Proof.Machine.execMainoff s
  | .mainon => Sys2Proof.Machine.execMainon s
  | .vbatLow mv => Sys2Proof.Machine.execVbatLow mv s
  | .xtalStop => Sys2Proof.Machine.execXtalStop s
  | .rtcMeasure ppb => Sys2Proof.Machine.execRtcMeasure ppb s
  | .aonRtcLoRead => Sys2Proof.Machine.execAonRtcLoRead s
  | .aonCmpSample mv0 mv1 mv2 mv3 => Sys2Proof.Machine.execAonCmpSample mv0 mv1 mv2 mv3 s
  | .aonCmpLock n v => Sys2Proof.Machine.execAonCmpLock n v s
  | .aonLogEnt0Read => Sys2Proof.Machine.execAonLogEnt0Read s
  | .aonLogEnt3Read => Sys2Proof.Machine.execAonLogEnt3Read s
  | .quote m rng => Sys2Proof.Machine.execQuote m rng s
  | .kbset m => Sys2Proof.Machine.execKbset m s
  | .kberase m => Sys2Proof.Machine.execKberase m s
  | .kfprog m => Sys2Proof.Machine.execKfprog m s
  | .signerprog m => Sys2Proof.Machine.execSignerprog m s
  | .signerrevoke m => Sys2Proof.Machine.execSignerrevoke m s
  | .arbadvance m => Sys2Proof.Machine.execArbadvance m s
  | .policyset m => Sys2Proof.Machine.execPolicyset m s
  | .fuseBlow r => Sys2Proof.Machine.execFuseBlow r s
  | .rngDrawTimeout => Sys2Proof.Machine.execRngDrawTimeout s
  | .hostMemoryWrite bar off data => Sys2Proof.Machine.execHostMemoryWrite bar off data s
  | .hostMemoryRead bar off len => Sys2Proof.Machine.execHostMemoryRead bar off len s
  | .bar4Read off len => Sys2Proof.Machine.execBar4Read off len s
  | .bar4Write => Sys2Proof.Machine.execBar4Write s
  | .usbIrqRearm mask => Sys2Proof.Machine.execUsbIrqRearm mask s
  | .mbxSlotWrite who m word v => Sys2Proof.Machine.execMbxSlotWrite who m word v s
  | .mbxDoorbell mask => Sys2Proof.Machine.execMbxDoorbell mask s
  | .mbxTake => Sys2Proof.Machine.execMbxTake s
  | .mbxDoneClear mask => Sys2Proof.Machine.execMbxDoneClear mask s
  | .hostLinkDrop => Sys2Proof.Machine.execHostLinkDrop s
  | .hostLinkUp gen => Sys2Proof.Machine.execHostLinkUp gen s
  | .dmaTailWrite n v => Sys2Proof.Machine.execDmaTailWrite n v s
  | .dmaDescriptorComplete n desc data => Sys2Proof.Machine.execDmaDescriptorComplete n desc data s
  | .dmaEnable n => Sys2Proof.Machine.execDmaEnable n s
  | .dmaDisable n => Sys2Proof.Machine.execDmaDisable n s
  | .tapReset => Sys2Proof.Machine.execTapReset s
  | .extest l => Sys2Proof.Machine.execExtest l s
  | .idcode => Sys2Proof.Machine.execIdcode s
  | .samplePreload l => Sys2Proof.Machine.execSamplePreload l s
  | .clamp => Sys2Proof.Machine.execClamp s
  | .highz => Sys2Proof.Machine.execHighz s
  | .dapacc => Sys2Proof.Machine.execDapacc s
  | .bypass op => Sys2Proof.Machine.execBypass op s
  | .dapRead addr plain inc => Sys2Proof.Machine.execDapRead addr plain inc s
  | .dapWrite addr plain inc v => Sys2Proof.Machine.execDapWrite addr plain inc v s
  | .dapAccessComplete => Sys2Proof.Machine.execDapAccessComplete s
  | .dbgRstreq who v => Sys2Proof.Machine.execDbgRstreq who v s
  | .fabricClockEdge gs rising sub => Sys2Proof.Machine.execFabricClockEdge gs rising sub s
  | .vccioChange k code => Sys2Proof.Machine.execVccioChange k code s
  | .upset x => Sys2Proof.Machine.execUpset x s
  | .crystalRunsAgain => Sys2Proof.Machine.execCrystalRunsAgain s
  | .vbatRestored above => Sys2Proof.Machine.execVbatRestored above s
  | .clockValidAgain => Sys2Proof.Machine.execClockValidAgain s
  | .hbmTrainingDone k ok => Sys2Proof.Machine.execHbmTrainingDone k ok s
  | .uartByteSent n => Sys2Proof.Machine.execUartByteSent n s
  | .spiFrameDone n miso => Sys2Proof.Machine.execSpiFrameDone n miso s
  | .operatingHour => Sys2Proof.Machine.execOperatingHour s

end Sys2Proof.Machine
end

