-- ==== Sys2Proof/Safety.lean ====
section
/-! DEFINITION. What counts as a safe run, and the words the statements are written in. -/

namespace Sys2Proof.Machine

/-- A step that goes on: it answers a next state, and neither a fault nor a refusal. -/
def goesOn (s : State) : Prop := ∃ t, step s = .next t

/-- Every vector that has something to report is remembered as signalled, and no other (R486). -/
def vectorsSeen (s : State) : Prop := s.msixSeen = s.vectorsUp

/-- The state without what the interrupt vectors have sent: every command's effect ends with a look at the vectors (R486), and a
statement about its own effect leaves that out. -/
def State.mute (s : State) : State := { s with msixSeen := [], msixSent := [] }

/-- Every register outside the list reads as before. -/
def regsBut (l : List Nat) (s t : State) : Prop := ∀ a, a ∉ l → t.rw a = s.rw a

/-- The start has gone on to step `k`, and its log entry shows it (R438, R447). -/
def startMoved (s t : State) (k : Nat) : Prop :=
  t.start.step = some k ∧ (s.start.logged = true → ∀ e l, s.sec.starts = e :: l →
    ∃ x, t.sec.starts = x :: l ∧ startEntryOk x = true ∧ fieldAt x 0 4 = fieldAt e 0 4 ∧ fieldAt x 12 1 = k ∧ fieldAt x 13 1 = resCUT)

/-- The start has failed at step `k` with a status (R445, R446): it stays before the release, or will be tried again, as the
policy for step `k` says, and its log entry shows it (R209, R447). -/
def startFailed (s t : State) (k st : Nat) : Prop :=
  t.start.step = none ∧ t.start.status = st ∧ t.start.fails = s.failsAt k ∧
  t.start.retry = decide ((s.policyAction k (s.failsAt k)).1 ≠ actSTOP) ∧
  (s.start.logged = true → ∀ e l, s.sec.starts = e :: l →
    ∃ x, t.sec.starts = x :: l ∧ startEntryOk x = true ∧ fieldAt x 0 4 = fieldAt e 0 4 ∧ fieldAt x 12 1 = k ∧
      fieldAt x 13 1 = (if (s.policyAction k (s.failsAt k)).1 = actSTOP then resSTOPPED else resFAILED))

/-- The commands that may write HBM, a memory bank or flash, or make such contents undefined: accesses to memory, what posts
records or data into it, and resets, power-downs and trips. Every other command leaves all of memory as it reads. -/
def writesMemory : Instr → Bool
  | .csrWrite _ _ _ _ _ => true
  | .angleTick => true
  | .captureEdge _ _ _ => true
  | .switchComplete _ _ => true
  | .recordRelease _ => true
  | .load _ => true
  | .pad _ => true
  | .frame _ => true
  | .bcast _ => true
  | .supfw _ => true
  | .csrw _ => true
  | .activate _ => true
  | .map _ => true
  | .flashprog _ => true
  | .flashOpComplete _ _ => true
  | .flashWipTimeout _ => true
  | .storedFrameCheck _ => true
  | .bankRead _ _ => true
  | .bankWrite _ _ => true
  | .bankAdd16 _ _ => true
  | .bankSwap16 _ _ => true
  | .bankAdd32 _ _ => true
  | .bankSwap32 _ _ => true
  | .bankBadop _ => true
  | .marchEnd _ => true
  | .sweepGroup _ _ => true
  | .packetForward _ _ _ _ => true
  | .frameReceive _ _ => true
  | .reportFrameReceive _ _ _ => true
  | .resetreq => true
  | .por => true
  | .bor => true
  | .resetN => true
  | .swdt => true
  | .lockup => true
  | .clkfail => true
  | .rstCtlSystem => true
  | .domainOffReached _ => true
  | .fetch _ => true
  | .hbmtrain _ _ => true
  | .march _ => true
  | .csr => true
  | .ledger _ => true
  | .startRetry => true
  | .thmSample _ _ => true
  | .quote _ _ => true
  | .kbset _ => true
  | .kfprog _ => true
  | .signerprog _ => true
  | .fuseBlow _ => true
  | .hostMemoryWrite _ _ _ => true
  | .dapRead _ _ _ => true
  | .dapWrite _ _ _ _ => true
  | .dbgRstreq _ _ => true
  | .fabricClockEdge _ _ _ => true
  | .hbmTrainingDone _ _ => true
  | _ => false

end Sys2Proof.Machine
end

