-- ==== Sys2Proof/Certificates/Slice0/Obligations.lean ====
section
/-! DEFINITION. The statements for the provers: what the rules of the spec say the commands and the device do. A command ends with a
look at the interrupt vectors (R486), so a next state is written as the command's own effect and then `signal`. -/

open Sys2Proof Sys2Proof.Machine

/-- A step with command c at the front of the queue is exec of c on the state with the rest of the queue; on an empty queue the
device idles. The queue and the idling are the model's own (log entries 6 and 7). (00 Front matter) -/
def Obligations.StepRunsFrontCommand : Prop :=
  (∀ (c : Instr) (rest : List Instr) (s : State), step { s with pending := c :: rest } = exec c { s with pending := rest }) ∧
  (∀ s : State, s.pending = [] → step s = .next s)

/-- At reset the vectors that report are those remembered, memory is in its canonical form, and no command waits. (22 Host
Attachment and Debug, 17 Reset) -/
def Obligations.ResetMeetsInvariants : Prop :=
  vectorsSeen State.reset ∧ State.reset.memWf = true ∧ State.reset.pending = []

/-- In every state whose remembered vectors are exactly those with something to report, a step that answers a next state leaves
them so: no vector is up without its message having been sent, and none that fell is still remembered. (22 Host Attachment
and Debug) -/
def Obligations.StepKeepsVectorsSeen : Prop :=
  ∀ s t : State, vectorsSeen s → step s = .next t → vectorsSeen t

/-- In every state whose memory lists its cells at strictly rising addresses and none that equals what the address reads as
unlisted, a step that answers a next state leaves it so, so that equal memories stay equal data. (10 The Memory Tier, 11
HBM3E Memory and the Inline Scrambler) -/
def Obligations.StepKeepsMemoryForm : Prop :=
  ∀ s t : State, s.memWf = true → step s = .next t → t.memWf = true

/-- A step that answers a next state leaves the queue without its front command: no command adds to the queue, drops a waiting
one or reorders it. (00 Front matter) -/
def Obligations.StepTakesOneCommand : Prop :=
  ∀ s t : State, step s = .next t → t.pending = s.pending.tail

/-- Every command of every constructor answers a next state, in every state and for every operands: the spec stops none of them.
The number of the current angle tick rises by one at ANGLE_TICK and at no other command, and the number of the current
crossbar tick by one at CROSSBAR_TICK and at no other command. (02 The Angle Timebase, 16 Machine I/O) -/
def Obligations.TimeMovesAtTicksOnly : Prop :=
  ∀ (c : Instr) (s : State), ∃ t : State, exec c s = .next t ∧
    (c = .angleTick → t.tick = s.tick + 1) ∧ (c ≠ .angleTick → t.tick = s.tick) ∧
    (c = .crossbarTick → t.xtick = s.xtick + 1) ∧ (c ≠ .crossbarTick → t.xtick = s.xtick)

/-- A command that is not one of those that may write HBM, a memory bank or flash, or make their contents undefined, completes
and leaves every byte of memory as it reads. (10 The Memory Tier, 11 HBM3E Memory and the Inline Scrambler) -/
def Obligations.OtherCommandsLeaveMemory : Prop :=
  ∀ (c : Instr) (s : State), writesMemory c = false → ∃ t : State, exec c s = .next t ∧ ∀ a, t.byte a = s.byte a

/-- A write of EN = 1 enables the axis, and shows BUSY while a disable has not taken effect; a write of EN = 0 on an enabled axis
clears BUSY and leaves the disable to the next tick; REARM reads 1 until a tick acts on it; a write of TRIM replaces the
pending trim, and in the cycle of a step that tick takes none; ANG_APPLY queues its mask for the first tick at least 8 ns
later. Nothing else changes. Commands that it shows completing: ANG_APPLY, ANG_AXIS_TRIM_WRITE, AXIS_ENABLE, AXIS_DISABLE,
REARM. (02 The Angle Timebase: R42, R43, R46 and R47) -/
def Obligations.AxisControlWrites : Prop :=
  ∀ (s : State) (n : Nat),
    ((s.axis n).disPend = false → exec (.axisEnable n) s = .next (s.putB (R.ANG_AXIS_CTL.EN n) true).signal) ∧
    ((s.axis n).disPend = true →
      exec (.axisEnable n) s = .next ((s.putB (R.ANG_AXIS_CTL.EN n) true).putB (R.ANG_AXIS_STATE.BUSY n) true).signal) ∧
    (s.on (R.ANG_AXIS_CTL.EN n) = true → exec (.axisDisable n) s =
      .next (((s.putB (R.ANG_AXIS_CTL.EN n) false).putB (R.ANG_AXIS_STATE.BUSY n) false).setAxis n { s.axis n with disPend := true }).signal) ∧
    (s.on (R.ANG_AXIS_CTL.EN n) = false → exec (.axisDisable n) s =
      .next ((s.putB (R.ANG_AXIS_CTL.EN n) false).putB (R.ANG_AXIS_STATE.BUSY n) false).signal) ∧
    exec (.rearm n) s = .next (s.putB (R.ANG_AXIS_CTL.REARM n) true).signal ∧
    (∀ (v : Word) (same : Bool), exec (.angAxisTrimWrite n v same) s =
      .next ((s.wr (R.ANG_AXIS_TRIM.reg n) v).setAxis n { s.axis n with trimSkip := same }).signal) ∧
    (∀ mask sub : Nat, exec (.angApply mask sub) s = .next (State.signal { s with
      ang := { s.ang with applies := s.ang.applies ++ [(s.tick + (sub + 11999) / 4000, mask % 65536)] } }))

/-- ANGLE_TICK answers a next state. The tick count goes up by one and the crossbar tick stays. In a reset that is all but the
real-time counter, which moves on while it runs on main power: to the next whole multiple of 4 ns of plant time when the
ticks are locked or hold their rate, else by the steered 4 ns; on the battery it stays for the crystal to drive. Outside a
reset and on main power the work of the tick is done at the new tick and the new time: nothing else changed between. That the
first locked tick is the first multiple after the tick before is the model's choice (log entry 8). Commands that it shows
completing: ANGLE_TICK. (02 The Angle Timebase: R25, R26, 21 The Ember Domain and Security) -/
def Obligations.AngleTickAdvancesTime : Prop :=
  ∀ (s : State) (rtc : BitVec 80),
    rtc = (if s.on R.ANG_STATUS.TICK_LOCK ∨ s.on R.ANG_STATUS.TICK_HOLD then ((s.rtc >>> 18) + 1) <<< 18
      else s.rtc + BitVec.ofInt 80 (262144 + s.vsm.rate)) →
    (s.sec.onBat = true → exec .angleTick s = .next (State.signal { s with tick := s.tick + 1 })) ∧
    (s.rst.reach ≠ 0 → s.sec.onBat = false → s.sec.lost = false →
      exec .angleTick s = .next (State.signal { s with tick := s.tick + 1, rtc := rtc })) ∧
    (s.rst.reach = 0 → s.sec.onBat = false → s.sec.lost = false →
      ∃ t, exec .angleTick s = .next t ∧ t.tick = s.tick + 1 ∧ t.xtick = s.xtick ∧ t.pending = s.pending ∧ (s.memWf = true → t.memWf = true) ∧
        t.mute = (State.tickRun { s with tick := s.tick + 1, rtc := rtc }).mute)

/-- At a tick an axis with a pending trim P and no skip takes a step d: P itself where its magnitude is at most TRIMSLEW, else
TRIMSLEW with the sign of P. The value, the home and the true position of the axis and its effective offset all move by d
modulo 2^64, the pending trim shrinks by d, and every other axis and every register but the axis's OFFSET_LO, OFFSET_HI and
TRIM is unchanged. A trim written in the cycle of a step takes none in that tick; with no trim pending nothing changes. (02
The Angle Timebase: R46) -/
def Obligations.TrimStepIsBounded : Prop :=
  ∀ (s : State) (n : Nat) (p slew d : Int), n < 16 →
    p = (s.rw (R.ANG_AXIS_TRIM.reg n)).toInt → slew = s.g (R.ANG_AXIS_SLEW.TRIMSLEW n) →
    d = (if p < 0 then max p (-slew) else min p slew) →
    ((s.axis n).trimSkip = true → s.trimTick n = s.setAxis n { s.axis n with trimSkip := false }) ∧
    ((s.axis n).trimSkip = false → p = 0 → s.trimTick n = s) ∧
    ((s.axis n).trimSkip = false → p ≠ 0 →
      d.natAbs ≤ slew.natAbs ∧ d.natAbs ≤ p.natAbs ∧
      ((s.trimTick n).axis n).value = (s.axis n).value + BitVec.ofInt 64 d ∧
      ((s.trimTick n).axis n).home = (s.axis n).home + BitVec.ofInt 64 d ∧
      ((s.trimTick n).axis n).truth = (s.axis n).truth + BitVec.ofInt 64 d ∧
      (s.trimTick n).axOffset n = s.axOffset n + BitVec.ofInt 64 d ∧
      ((s.trimTick n).rw (R.ANG_AXIS_TRIM.reg n)).toInt = p - d ∧
      (∀ m, m ≠ n → (s.trimTick n).axis m = s.axis m) ∧
      regsBut [R.ANG_AXIS_TRIM.reg n, R.ANG_AXIS_OFFSET_LO.reg n, R.ANG_AXIS_OFFSET_HI.reg n] s (s.trimTick n))

/-- At its tick an APPLY with a breach on some axis of the mask changes no axis, no stage and no register but the two fields that
report it: APPLY_ERR takes the code of the first axis that breaches and ERR_AXIS its number. Without a breach both read 0 and
each axis of the mask has its stages put into force. APPLY_DONE is set either way. (02 The Angle Timebase: R45) -/
def Obligations.ApplyIsWholeOrNot : Prop :=
  ∀ (s : State) (mask : Nat),
    (∀ n, n < 16 → mask.testBit n = true → s.applyBreach n ≠ 0 → (∀ m, m < n → mask.testBit m = true → s.applyBreach m = 0) →
      s.applyNow mask = ((s.put R.ANG_STATUS.APPLY_ERR (s.applyBreach n)).put R.ANG_STATUS.ERR_AXIS n).raise R.ANG_EVENTS.APPLY_DONE) ∧
    ((∀ n, n < 16 → mask.testBit n = true → s.applyBreach n = 0) →
      s.applyNow mask = (((s.each (maskBits mask 16) State.applyAxis).put R.ANG_STATUS.APPLY_ERR 0).put R.ANG_STATUS.ERR_AXIS 0).raise
        R.ANG_EVENTS.APPLY_DONE)

/-- At the tick an APPLY without a breach falls due, each staged register of each axis of the mask takes the value last written
to it, and one that has not been written since the previous APPLY takes the value in force at that tick, the offset with what
trim added among them. No register but those, the axes' TRIM and the registers that report the APPLY changes. (02 The Angle
Timebase: R44) -/
def Obligations.StagesComeIntoForceTogether : Prop :=
  ∀ (s : State) (k mask : Nat), s.ang.applies = [(k, mask)] → k ≤ s.tick →
    (∀ n, n < 16 → mask.testBit n = true → s.applyBreach n = 0) →
    (∀ n a, n < 16 → mask.testBit n = true → a ∈ stagedRegs n →
      (∀ v, s.ang.stage.get a = some v → s.applyDue.rw a = v) ∧ (s.ang.stage.get a = none → s.applyDue.rw a = s.rw a)) ∧
    regsBut (R.ANG_STATUS.reg :: R.ANG_EVENTS.reg :: ((maskBits mask 16).flatMap (fun n => R.ANG_AXIS_TRIM.reg n :: stagedRegs n))) s s.applyDue

/-- A write to ANG_SNAP sets SNAP_PEND and adds its mask to those that wait. At the tick the values of the axes in the merged
mask and the plant time are copied, SNAP_PEND clears and SNAP_DONE is set; the POS registers of the other axes stay. When
COASTLIM expires on an axis in COAST the axis goes to LOST with cause 7, its change of state is flagged, its value stands
frozen and its velocity is zero, and nothing else changes. On an axis in any other state nothing happens. Commands that it
shows completing: COASTLIM_EXPIRY, ANG_SNAP. (02 The Angle Timebase: R39, R40, R48) -/
def Obligations.SnapshotAndCoastLimit : Prop :=
  (∀ (s : State) (mask : Nat),
    (s.ang.snap = none → exec (.angSnap mask) s = .next (State.signal
      { s.putB R.ANG_STATUS.SNAP_PEND true with ang := { s.ang with snap := some (mask % 65536) } })) ∧
    (∀ m, s.ang.snap = some m → exec (.angSnap mask) s = .next (State.signal
      { s.putB R.ANG_STATUS.SNAP_PEND true with ang := { s.ang with snap := some (m ||| mask % 65536) } })) ∧
    (s.ang.snap = none → s.snapTake = s) ∧
    (s.ang.snap = some 0 → s.snapTake =
      { (((s.wr R.ANG_SNAP_TIME_LO.reg (s.plantNs.setWidth 32)).wr R.ANG_SNAP_TIME_HI.reg ((s.plantNs >>> 32).setWidth 32)).putB
          R.ANG_STATUS.SNAP_PEND false).raise R.ANG_EVENTS.SNAP_DONE with ang := { s.ang with snap := none } }) ∧
    (∀ m n, s.ang.snap = some m → n < 16 →
      s.snapTake.rw (R.ANG_AXIS_POS_LO.reg n) = (if m.testBit n then (s.axis n).value.setWidth 32 else s.rw (R.ANG_AXIS_POS_LO.reg n)) ∧
      s.snapTake.rw (R.ANG_AXIS_POS_HI.reg n) = (if m.testBit n then ((s.axis n).value >>> 32).setWidth 32 else s.rw (R.ANG_AXIS_POS_HI.reg n)))) ∧
  ∀ (s : State) (n : Nat),
    (s.axState n = axCOAST → exec (.coastlimExpiry n) s = .next
      ((((s.setAxis n { s.axis n with vel := 0 }).put (R.ANG_AXIS_STATE.STATE n) axLOST).setBit R.ANG_EVENTS.STATE_CHG n).put
        (R.ANG_AXIS_STATE.CAUSE n) 7).signal) ∧
    (s.axState n ≠ axCOAST → exec (.coastlimExpiry n) s = .next s.signal)

/-- A target T is crossed forward between positions p and q exactly when p - T, read as a signed number, is negative and q - T is
zero or positive; backward exactly when p - T is positive and q - T is zero or negative. A target met exactly counts as
crossed in either direction, and an axis that stands on it and moves away does not cross it. (03 Events Against Angle: R49) -/
def Obligations.CrossingRule : Prop :=
  ∀ (w : Nat) (p q T : BitVec w),
    (crossing p q T = some true ↔ (p - T).toInt < 0 ∧ 0 ≤ (q - T).toInt) ∧
    (crossing p q T = some false ↔ 0 < (p - T).toInt ∧ (q - T).toInt ≤ 0) ∧
    (p ≠ T → crossing p T T ≠ none) ∧
    crossing T q T = none

/-- A write of a _HI register takes the value and commits both words of the target, the low word as it was last written, for the
first tick that begins at least 8 ns after the write; a write of a comparator's, an edge unit's or a capture unit's CFG takes
its fields and waits for the same tick. Nothing else changes until then. The register that a write commits and the bits that
are fields are those of the tables. Commands that it shows completing: EVT_TARGET_COMMIT, EVT_CMP_CFG_WRITE,
EVT_EDG_CFG_WRITE, EVT_CAP_CFG_WRITE. (03 Events Against Angle: R54, R517) -/
def Obligations.TargetWritesWait : Prop :=
  ∀ (s : State) (n sub : Nat) (v : Word),
    let due := s.tick + (sub + 8000 + 3999) / 4000
    let later (s' : State) (p : EvtPend) : State := { s' with evt := { s.evt with pend := s.evt.pend ++ [p] } }
    exec (.evtTargetCommit .cmp n v sub) s = .next (later (s.wr (0x11100C + n * 0x20) v)
      { due := due, addr := 0x11100C + n * 0x20, value := v, low := s.rw (0x111008 + n * 0x20) }).signal ∧
    exec (.evtTargetCommit .edgSet n v sub) s = .next (later (s.wr (0x112008 + n * 0x20) v)
      { due := due, addr := 0x112008 + n * 0x20, value := v, low := s.rw (0x112004 + n * 0x20) }).signal ∧
    exec (.evtTargetCommit .edgClr n v sub) s = .next (later (s.wr (0x112010 + n * 0x20) v)
      { due := due, addr := 0x112010 + n * 0x20, value := v, low := s.rw (0x11200C + n * 0x20) }).signal ∧
    exec (.evtCmpCfgWrite n v sub) s = .next (later (s.wr (0x111000 + n * 0x20) (v &&& 0xFCF3#32))
      { due := due, addr := 0x111000 + n * 0x20, value := v &&& 0xFCF3#32, low := 0#32 }).signal ∧
    exec (.evtEdgCfgWrite n v sub) s = .next (later (s.wr (0x112000 + n * 0x20) (v &&& 0xFFF803#32))
      { due := due, addr := 0x112000 + n * 0x20, value := v &&& 0xFFF803#32, low := 0#32 }).signal ∧
    exec (.evtCapCfgWrite n v sub) s = .next (later (s.wr (0x114000 + n * 0x40) (v &&& 0xFFF000#32))
      { due := due, addr := 0x114000 + n * 0x40, value := v &&& 0xFFF000#32, low := 0#32 }).signal

/-- In source 2 a trigger pushes a pair in time: SET falls DELAY steps of 250 ps after the trigger, at least 32, and CLR WIDTH
steps after SET, at least 8. A full queue of four refuses the pair and sets OVERFLOW and the unit's flag. In another source,
and before the units run, nothing happens. Commands that it shows completing: EDGE_FABRIC_TRIGGER. (03 Events Against Angle:
R63, R64) -/
def Obligations.FabricTriggerPushesPair : Prop :=
  ∀ (s : State) (n sub : Nat),
    (s.edgSrc n ≠ 2 ∨ s.unitsRun = false → exec (.edgeFabricTrigger n sub) s = .next s.signal) ∧
    (s.edgSrc n = 2 → s.unitsRun = true → 4 ≤ (s.edge n).queue.length → exec (.edgeFabricTrigger n sub) s = .next
      ((s.raise (R.EVT_EDG_STATUS.OVERFLOW n)).setBit (R.EVT_EDG_FLAG.FLAG (n / 32)) (n % 32)).signal) ∧
    (∀ d w : Nat, s.edgSrc n = 2 → s.unitsRun = true → (s.edge n).queue.length < 4 →
      (s.edge n).queue ≠ [] ∨ (s.edge n).armed = false →
      d = max 32 (s.fg (R.EVT_EDG_FAB.DELAY n)) → w = max 8 (s.fg (R.EVT_EDG_FAB.WIDTH n)) →
      exec (.edgeFabricTrigger n sub) s = .next ((s.setEdge n { s.edge n with queue := (s.edge n).queue ++
        [{ set := BitVec.ofNat 64 (s.tick * 16 + sub + d), clr := BitVec.ofNat 64 (s.tick * 16 + sub + d + w) }] }).edgShow n).signal)

/-- An edge that an armed unit takes, its window open and the edge selected, is stamped with the axis value at the edge instant
and the plant time in 250 ps units and makes a record, which enters the FIFO behind those that wait, with OVF if one was
dropped before it; at a full FIFO the record is dropped and OVF set. The streams that name the unit as their product sensor
see the stamp; nothing else changes. An edge not selected, outside the window, at a unit not armed, after the first with
FIRST set, or before the units run changes nothing. A read of REC3 answers the last word of the oldest record and removes
that record. Commands that it shows completing: CAPTURE_EDGE, CAP_REC3_READ. (03 Events Against Angle: R67, R68, R69) -/
def Obligations.CaptureStamps : Prop :=
  ∀ (s : State) (n : Nat),
    (∀ (rising : Bool) (sub : Nat),
      (s.unitsRun = false ∨ (s.cap n).armed = false ∨ (s.cap n).isOpen = false ∨ s.fg (R.EVT_CAP_CFG.EDGE n) = 0 ∨
          (s.fg (R.EVT_CAP_CFG.EDGE n) = 1 ∧ rising = false) ∨ (s.fg (R.EVT_CAP_CFG.EDGE n) = 2 ∧ rising = true) ∨
          (s.fg (R.EVT_CAP_CFG.FIRST n) = 1 ∧ (s.cap n).stamped = true) →
        exec (.captureEdge n rising sub) s = .next s.signal) ∧
      (s.unitsRun = true → (s.cap n).armed = true → (s.cap n).isOpen = true → (s.cap n).stamped = false ∨ s.fg (R.EVT_CAP_CFG.FIRST n) = 0 →
          (s.fg (R.EVT_CAP_CFG.EDGE n) = 3 ∨ (s.fg (R.EVT_CAP_CFG.EDGE n) = 1 ∧ rising = true) ∨ (s.fg (R.EVT_CAP_CFG.EDGE n) = 2 ∧ rising = false)) →
          s.fg (R.EVT_CAP_CFG.POST n) = 0 → s.fg (R.EVT_CAP_CFG.WMODE n) = 1 ∨ s.fg (R.EVT_CAP_CFG.WMODE n) = 2 →
        ((s.cap n).fifo.length < 16 → exec (.captureEdge n rising sub) s = .next
          ((((s.setCap n { s.cap n with stamped := true, ovf := false, fifo := (s.cap n).fifo ++
              [capRecord n (s.fg (R.EVT_CAP_CFG.AXIS n)) (s.capValue n sub) (s.plantNs.toNat * 4 + sub) (s.cap n).jumped (s.cap n).ovf false rising] }).capShow
            n).stampStreams n (s.capValue n sub)).signal)) ∧
        (16 ≤ (s.cap n).fifo.length → exec (.captureEdge n rising sub) s = .next
          (((((s.setCap n { s.cap n with stamped := true, ovf := true }).raise (R.EVT_CAP_STATUS.OVF n)).capShow n).stampStreams n
            (s.capValue n sub)).signal)))) ∧
    ((s.stampStreams n 0#64).rw = s.rw ∧ (s.stampStreams n 0#64).evt = s.evt ∧ (s.stampStreams n 0#64).mem = s.mem) ∧
    exec (.capRec3Read n) s = .next ((((s.answerWith stOK (wordBytes (s.rw (R.EVT_CAP_REC.reg n 3)))).setCap n
      { s.cap n with fifo := (s.cap n).fifo.tail }).capShow n)).signal

/-- On an ungated region each of the sixteen operations, and an edge with CLRACC asserted, gives the unit of the tile one edge
with the code of Table 4.3, the operands and the carry in; what the spec leaves open in it is some value. The operands are
the routed ones with the angle tap in place of A and the constant K in place of B where the tile selects them, each tile of a
pair giving its own half. In a pair the odd tile's output takes the high half. No other unit changes, and nothing else of the
state but the count of free values. In a gated region, and at the odd unit of a pair, whose even partner it follows, such a
command changes nothing. Commands that it shows completing: WU_PASS, WU_ADD, WU_SUB, WU_ADDC, WU_AND, WU_OR, WU_XOR, WU_MIN,
WU_MAX, WU_SHL, WU_SHR, WU_CMP, WU_MUL, WU_MAC, WU_MSU, WU_LDACC, CLRACC. (04 Tiles, Cells and Word Units: R83, R87, R93,
R104) -/
def Obligations.WordUnitSamples : Prop :=
  ∀ (s : State) (t : Nat) (a b : Word),
    let runs (cmd : Instr) (op cin : Nat) (clr : Bool) : Prop := ∃ (x y : DWord) (s' : State), exec cmd s = .next s' ∧
      s'.fab.wu.get t = (s.fab.wu.get t).edge (s.tileSet t).wu (s.wuPair t) op (s.wuA t a.toNat) (s.wuB t b.toNat) cin clr x y ∧
      (s.wuPair t = true → (s'.fab.wu.get (t + 1)).out = (s'.fab.wu.get t).out >>> 16) ∧
      (∀ m, m ≠ t → (m ≠ t + 1 ∨ s.wuPair t = false) → s'.fab.wu.get m = s.fab.wu.get m) ∧
      s'.mute = State.mute { s with freeCtr := s'.freeCtr, fab := { s.fab with wu := s'.fab.wu } }
    (s.gated (t / 256) = false → s.wuFollows t = false →
      runs (.wuPass t a b) 0 0 false ∧
      runs (.wuAdd t a b) 1 0 false ∧
      runs (.wuSub t a b) 2 0 false ∧
      runs (.wuAnd t a b) 4 0 false ∧
      runs (.wuOr t a b) 5 0 false ∧
      runs (.wuXor t a b) 6 0 false ∧
      runs (.wuMin t a b) 7 0 false ∧
      runs (.wuMax t a b) 8 0 false ∧
      runs (.wuShl t a b) 9 0 false ∧
      runs (.wuShr t a b) 10 0 false ∧
      runs (.wuCmp t a b) 11 0 false ∧
      runs (.wuMul t a b) 12 0 false ∧
      runs (.wuMac t a b) 13 0 false ∧
      runs (.wuMsu t a b) 14 0 false ∧
      runs (.wuLdacc t a b) 15 0 false ∧
      (∀ cin : Bool, runs (.wuAddc t a b cin) 3 cin.toNat false) ∧
      (∀ (op : Nat) (cin : Bool), op < 16 → runs (.clracc t op a b cin) op cin.toNat true)) ∧
    (s.gated (t / 256) = true ∨ s.wuFollows t = true →
      exec (.wuPass t a b) s = .next s.signal ∧
      exec (.wuAdd t a b) s = .next s.signal ∧
      exec (.wuSub t a b) s = .next s.signal ∧
      exec (.wuAnd t a b) s = .next s.signal ∧
      exec (.wuOr t a b) s = .next s.signal ∧
      exec (.wuXor t a b) s = .next s.signal ∧
      exec (.wuMin t a b) s = .next s.signal ∧
      exec (.wuMax t a b) s = .next s.signal ∧
      exec (.wuShl t a b) s = .next s.signal ∧
      exec (.wuShr t a b) s = .next s.signal ∧
      exec (.wuCmp t a b) s = .next s.signal ∧
      exec (.wuMul t a b) s = .next s.signal ∧
      exec (.wuMac t a b) s = .next s.signal ∧
      exec (.wuMsu t a b) s = .next s.signal ∧
      exec (.wuLdacc t a b) s = .next s.signal ∧
      (∀ cin : Bool, exec (.wuAddc t a b cin) s = .next s.signal) ∧ (∀ (op : Nat) (cin : Bool), exec (.clracc t op a b cin) s = .next s.signal))

/-- In a free unit an operation 0x0 to 0xB with the ALU result at its output enters the pipe with latency 1 and its result of
Table 4.3 at the unit's width: A, A + B, A - B, A + B + carry in, the bitwise AND, OR and XOR, the smaller and the larger by
SGNA, A shifted left and right by B bits 3:0 (arithmetically with SGNA), and A for CMP. Z and N are those of the result (of A
- B for CMP), C and V those of the sum or difference. The accumulator and SAT stay, and the result stands at the output after
the next edge. (04 Tiles, Cells and Word Units: R83, R85, R86, R87) -/
def Obligations.WordUnitAlu : Prop :=
  ∀ (u : Wu) (c : Config.WuSet) (pair : Bool) (op a b cin w : Nat) (x y z : DWord),
    u.busy = false → u.pipe = [] → c.osel = 0 → cin ≤ 1 → w = (if pair then 32 else 16) → a < 2 ^ w → b < 2 ^ w → op < 12 →
    ∃ (r : Nat) (f : BitVec 4), (u.edge c pair op a b cin false x y).pipe = [{ left := 1, out := some (BitVec.ofNat 32 r), flags := some f }] ∧
      ((u.edge c pair op a b cin false x y).advance z).out = BitVec.ofNat 32 r ∧ ((u.edge c pair op a b cin false x y).advance z).flags = f ∧
      (u.edge c pair op a b cin false x y).acc = u.acc ∧ (u.edge c pair op a b cin false x y).sat = u.sat ∧
      (op = 0 ∨ op = 11 → r = a) ∧ (op = 1 → r = (a + b) % 2 ^ w) ∧ (op = 2 → r = (a + 2 ^ w - b) % 2 ^ w) ∧
      (op = 3 → r = (a + b + cin) % 2 ^ w) ∧ (op = 4 → r = a &&& b) ∧ (op = 5 → r = a ||| b) ∧ (op = 6 → r = a ^^^ b) ∧
      (c.sgnA = false → (op = 7 → r = min a b) ∧ (op = 8 → r = max a b) ∧ (op = 10 → r = a / 2 ^ (b % 16))) ∧
      (c.sgnA = true →
        (op = 7 → (BitVec.ofNat w r).toInt = min (BitVec.ofNat w a).toInt (BitVec.ofNat w b).toInt) ∧
        (op = 8 → (BitVec.ofNat w r).toInt = max (BitVec.ofNat w a).toInt (BitVec.ofNat w b).toInt) ∧
        (op = 10 → (BitVec.ofNat w r).toInt = (BitVec.ofNat w a).toInt / 2 ^ (b % 16))) ∧
      (op = 9 → r = a * 2 ^ (b % 16) % 2 ^ w) ∧
      (op ≠ 11 → f.getLsbD 0 = decide (r = 0) ∧ f.getLsbD 1 = r.testBit (w - 1)) ∧
      (op = 11 → f.getLsbD 0 = decide (a = b) ∧ f.getLsbD 1 = ((a + 2 ^ w - b) % 2 ^ w).testBit (w - 1)) ∧
      (op = 1 → f.getLsbD 2 = decide (2 ^ w ≤ a + b)) ∧ (op = 3 → f.getLsbD 2 = decide (2 ^ w ≤ a + b + cin)) ∧
      (op = 1 → f.getLsbD 3 = BitVec.saddOverflow (BitVec.ofNat w a) (BitVec.ofNat w b)) ∧
      (op = 2 ∨ op = 11 → f.getLsbD 2 = decide (b ≤ a) ∧ f.getLsbD 3 = BitVec.ssubOverflow (BitVec.ofNat w a) (BitVec.ofNat w b))

/-- MAC adds A × B to the accumulator, MSU subtracts it and LDACC loads it, on an accumulator of zero where CLRACC falls on the
same edge. With SATACC = 0 the 48-bit accumulator wraps modulo 2^48. With SATACC = 1 a value above the largest or below the
smallest signed 48-bit value saturates there and sets SAT, which otherwise stays until the next LDACC or CLRACC clears it.
(04 Tiles, Cells and Word Units: R84) -/
def Obligations.AccumulatorWrapsOrSaturates : Prop :=
  ∀ (u : Wu) (c : Config.WuSet) (op a b : Nat) (clr : Bool) (x y : DWord) (before prod exact : Int) (t : Wu),
    u.busy = false → (op = 13 ∨ op = 14 ∨ op = 15) → t = u.edge c false op a b 0 clr x y →
    before = (if clr then 0 else (u.acc.setWidth 48).toInt) →
    prod = (if c.sgnA then (BitVec.ofNat 16 a).toInt else (a % 65536 : Nat)) * (if c.sgnB then (BitVec.ofNat 16 b).toInt else (b % 65536 : Nat)) →
    exact = (if op = 13 then before + prod else if op = 14 then before - prod else prod) →
    (c.satAcc = false → t.acc = BitVec.ofInt 80 (exact % 281474976710656) ∧ t.sat = (u.sat && !clr && decide (op ≠ 15))) ∧
    (c.satAcc = true → 140737488355327 < exact → t.acc = 0x7FFFFFFFFFFF#80 ∧ t.sat = true) ∧
    (c.satAcc = true → exact < -140737488355328 → t.acc = 0x800000000000#80 ∧ t.sat = true) ∧
    (c.satAcc = true → -140737488355328 ≤ exact → exact ≤ 140737488355327 →
      t.acc = BitVec.ofInt 80 (exact % 281474976710656) ∧ t.sat = (u.sat && !clr && decide (op ≠ 15)))

/-- A kick reloads the count with TMO. A write to SYS_FWDn_CFG takes its fields and reloads the count with the new TMO. A write
of UNFREEZE reads 1 until the next edge of the region's switch clock, which clears it, ends a freeze and a quarantine, and
reloads the count if the region was frozen. An expiry with the count at 0 in a region that a hold does not gate sets EXPIRED
and the region's bit in SYS_FWD_EXPIRED and counts in EXPCNT, the pulse WDEXP waits for the next edge, and the count reloads;
with action 0 or 3 that is all, with action 1 the region is frozen as well, with action 2 it is reset with source 4; a region
frozen already takes no action. With TMO = 0, or at a count other than 0, nothing happens. A write names a comparator of the
active context. Target and period words are staged, nothing else changing; the word of WSEL 3 also commits the whole target,
and that of WSEL 6 the period, for the first tick that begins at least 8 ns after the write edge. A control word waits for
the same tick, its reserved bits zero. A write of WSEL 7, and any write to a region without an active context, is ignored.
Commands that it shows completing: CMP_PORT_WRITE, KICK, FWD_EXPIRY, SYS_FWD_CFG_WRITE, UNFREEZE. (04 Tiles, Cells and Word
Units: R97, R101, R102, R103, R104) -/
def Obligations.WatchdogAndComparatorPort : Prop :=
  (∀ (s : State) (g : Nat),
    exec (.kick g) s = .next (s.put (R.SYS_FWD_STATUS.COUNT g) (s.g (R.SYS_FWD_CFG.TMO g))).signal ∧
    (∀ v : Word, exec (.sysFwdCfgWrite g v) s = .next ((s.wr (R.SYS_FWD_CFG.reg g) (v &&& 0x3FFFF#32)).put (R.SYS_FWD_STATUS.COUNT g)
      ((s.wr (R.SYS_FWD_CFG.reg g) (v &&& 0x3FFFF#32)).g (R.SYS_FWD_CFG.TMO g))).signal) ∧
    exec (.unfreeze g) s = .next (s.putB (R.SYS_FWD_STATUS.UNFREEZE g) true).signal ∧
    (∀ u : State, (s.region g).held = false →
      u = ((s.putB (R.SYS_FWD_STATUS.UNFREEZE g) false).putB (R.SYS_FWD_STATUS.FROZEN g) false).putB (R.UPS_REGION_STATUS.UNCORR g) false →
      (s.on (R.SYS_FWD_STATUS.UNFREEZE g) = false → s.gatesEdge g = s.setRegion g { s.region g with settling := 0 }) ∧
      (s.on (R.SYS_FWD_STATUS.UNFREEZE g) = true → s.on (R.SYS_FWD_STATUS.FROZEN g) = false →
        s.gatesEdge g = u.setRegion g { s.region g with settling := 0 }) ∧
      (s.on (R.SYS_FWD_STATUS.UNFREEZE g) = true → s.on (R.SYS_FWD_STATUS.FROZEN g) = true →
        s.gatesEdge g = (u.put (R.SYS_FWD_STATUS.COUNT g) (u.g (R.SYS_FWD_CFG.TMO g))).setRegion g { s.region g with settling := 0 })) ∧
    (s.g (R.SYS_FWD_CFG.TMO g) = 0 ∨ s.g (R.SYS_FWD_STATUS.COUNT g) ≠ 0 → exec (.fwdExpiry g) s = .next s.signal) ∧
    (∀ base : State, s.g (R.SYS_FWD_CFG.TMO g) ≠ 0 → s.g (R.SYS_FWD_STATUS.COUNT g) = 0 → (s.region g).released = true →
      (s.region g).stopped = false → s.logicOn g = true → s.on (R.CTX_REGION_STATUS.HASACT g) = true →
      base = ((((s.raise (R.SYS_FWD_STATUS.EXPIRED g)).setBit (R.SYS_FWD_EXPIRED.EXPIRED (g / 32)) (g % 32)).bump
        (R.SYS_FWD_STATUS.EXPCNT g) 1).fwdReload g).setRegion g { s.region g with wdexpDue := true } →
      (base.on (R.SYS_FWD_STATUS.FROZEN g) = true ∨ base.g (R.SYS_FWD_CFG.ACTION g) = 0 ∨ base.g (R.SYS_FWD_CFG.ACTION g) = 3 →
        exec (.fwdExpiry g) s = .next base.signal) ∧
      (base.on (R.SYS_FWD_STATUS.FROZEN g) = false → base.g (R.SYS_FWD_CFG.ACTION g) = 1 →
        exec (.fwdExpiry g) s = .next ((base.putB (R.SYS_FWD_STATUS.FROZEN g) true).gateShow g).signal) ∧
      (base.on (R.SYS_FWD_STATUS.FROZEN g) = false → base.g (R.SYS_FWD_CFG.ACTION g) = 2 →
        exec (.fwdExpiry g) s = .next (base.fabReset 4 [g]).signal))) ∧
  (∀ (s : State) (g csel sub : Nat) (data : Half) (c : Nat) (r : RCmp), csel < 16 →
    let key := (g * 8 + c) * 16 + csel
    let later (s' : State) (w : Nat) (v : DWord) : State := { s' with fab := { s'.fab with
      rpend := s'.fab.rpend ++ [{ due := s.tick + (sub + 8000 + 3999) / 4000, key := key, wsel := w, value := v }] } }
    (s.activeCtx g = none → ∀ wsel, exec (.cmpPortWrite g csel wsel data sub) s = .next s.signal) ∧
    (s.activeCtx g = some c → r = s.fab.rcmp.get key →
      exec (.cmpPortWrite g csel 7 data sub) s = .next s.signal ∧
      exec (.cmpPortWrite g csel 4 data sub) s = .next (later s 4 ((data &&& 0xFFF8#16).setWidth 64)).signal ∧
      (∀ wsel, wsel < 3 → ∃ v : DWord, exec (.cmpPortWrite g csel wsel data sub) s = .next (s.setRcmp key { r with stTgt := v }).signal ∧
        (v >>> (16 * wsel)).setWidth 16 = data ∧ ∀ k, k < 4 → k ≠ wsel → ((v >>> (16 * k)).setWidth 16 : Half) = (r.stTgt >>> (16 * k)).setWidth 16) ∧
      exec (.cmpPortWrite g csel 3 data sub) s = .next
        (later (s.setRcmp key { r with stTgt := data ++ (r.stTgt.setWidth 48 : BitVec 48) }) 3 (data ++ (r.stTgt.setWidth 48 : BitVec 48))).signal ∧
      exec (.cmpPortWrite g csel 5 data sub) s = .next
        (s.setRcmp key { r with stPer := ((r.stPer >>> 16).setWidth 16 : Half) ++ data }).signal ∧
      exec (.cmpPortWrite g csel 6 data sub) s = .next
        (later (s.setRcmp key { r with stPer := data ++ (r.stPer.setWidth 16 : Half) }) 6 ((data ++ (r.stPer.setWidth 16 : Half) : Word).setWidth 64)).signal))

/-- An edge of CKN0 in regions of which none is powered does nothing. On a falling edge of a powered region that is not gated,
every user flip-flop and switch register of the region takes its next value, all of them sampling what stood before the edge;
those of other regions keep theirs, the count of half periods moves on, and apart from these and the word units nothing
changes: no register, no axis, no other unit. In a gated region, and in one without an active context, only the count of half
periods moves on. At a rising edge region control runs as well; the edge completes, keeps the queue and the tick, and leaves
memory in its form. (The count of free values used moves on with each edge: the model's own field.) Commands that it shows
completing: FABRIC_CLOCK_EDGE. (04 Tiles, Cells and Word Units: R81, R82, 05 Fabric Routing: R110, R116) -/
def Obligations.FabricClockEdge : Prop :=
  ∀ (s : State) (gs : List Nat) (sub : Nat),
    (∀ rising, s.edgeRegions gs (s.instant sub) = [] → exec (.fabricClockEdge gs rising sub) s = .next (State.signal { s with freeCtr := s.freeCtr + 1 })) ∧
    (∀ (g : Nat) (p : State), s.edgeRegions gs (s.instant sub) = [g] →
      p = s.setRegion g { s.region g with half := (s.region g).half / 2 * 2 + 1 } →
      (s.gated g = true ∨ s.activeCtx g = none → exec (.fabricClockEdge gs false sub) s = .next (State.signal { p with freeCtr := p.freeCtr + 1 })) ∧
      (s.gated g = false → s.activeCtx g ≠ none → ∃ t : State, exec (.fabricClockEdge gs false sub) s = .next t ∧
        (∀ tile, tile / 256 = g → t.fab.ff.get tile = p.nextFF tile ∧ t.fab.sw.get tile = p.nextSw tile) ∧
        (∀ tile, tile / 256 ≠ g → t.fab.ff.get tile = s.fab.ff.get tile ∧ t.fab.sw.get tile = s.fab.sw.get tile) ∧
        t.mute = State.mute { p with freeCtr := p.freeCtr + 1, fab := { p.fab with ff := t.fab.ff, sw := t.fab.sw, wu := t.fab.wu } })) ∧
    (∃ t : State, exec (.fabricClockEdge gs true sub) s = .next t ∧ t.pending = s.pending ∧ t.tick = s.tick ∧ (s.memWf = true → t.memWf = true))

/-- A write that sets ARM checks the group: when every check passes the settings are taken; else they are taken with ARM 0, FAIL
and FAILREG hold the code and the region, and the group's bit in CTX_SG_FAIL is set. A write without ARM is taken. A write to
CTX_REGIONn_CTL is refused with WREFUSED, and changes nothing else, when the region is a member of an armed or switching
group or would become one; else it is taken and MEMBERS of both groups follows. Commands that it shows completing: SG_ARM,
REGION_CTL_WRITE. (06 Contexts, Proofing and Switching: R141, R142, R143) -/
def Obligations.SwitchGroupArming : Prop :=
  (∀ (s : State) (n : Nat) (v : Word),
    ((R.CTX_SG_CFG.ARM n).of (v &&& 0xC1FF001F#32) = 0 ∨ (s.groupFail n (v &&& 0xC1FF001F#32)).1 = 0 →
      exec (.sgArm n v) s = .next (s.wr (R.CTX_SG_CFG.reg n) (v &&& 0xC1FF001F#32)).signal) ∧
    (∀ code g : Nat, (R.CTX_SG_CFG.ARM n).of (v &&& 0xC1FF001F#32) = 1 → s.groupFail n (v &&& 0xC1FF001F#32) = (code, g) → code ≠ 0 →
      exec (.sgArm n v) s = .next
        ((((s.wr (R.CTX_SG_CFG.reg n) ((R.CTX_SG_CFG.ARM n).into (v &&& 0xC1FF001F#32) 0)).put (R.CTX_SG_STATUS.FAIL n) code).put
          (R.CTX_SG_STATUS.FAILREG n) g).setBit R.CTX_SG_FAIL.FAIL n).signal)) ∧
  (∀ (s : State) (g old new : Nat) (v : Word), old = s.g (R.CTX_REGION_CTL.GROUP g) → new = (R.CTX_REGION_CTL.GROUP g).of (v &&& 0x9F003F00#32) →
    ((s.on (R.CTX_REGION_CTL.MEMBER g) = true ∧ s.sgLocks old = true) ∨ ((R.CTX_REGION_CTL.MEMBER g).of (v &&& 0x9F003F00#32) = 1 ∧ s.sgLocks new = true) →
      exec (.regionCtlWrite g v) s = .next (s.put (R.CTX_REGION_STATUS.WREFUSED g) 1).signal) ∧
    ((s.on (R.CTX_REGION_CTL.MEMBER g) = false ∨ s.sgLocks old = false) → ((R.CTX_REGION_CTL.MEMBER g).of (v &&& 0x9F003F00#32) = 0 ∨ s.sgLocks new = false) →
      exec (.regionCtlWrite g v) s = .next (((s.wr (R.CTX_REGION_CTL.reg g) (v &&& 0x9F003F00#32)).membersShow old).membersShow new).signal))

/-- A trigger reaches nothing before the start release. On an edge, a group whose members stand at edge 0 merges it with the
trigger that began the switch; past edge 0 it sets OVERRUN, and IGNORED too where the group is no longer armed and still
switching; a group that is not switching and not armed sets IGNORED. An armed group that is not switching is checked again:
with a failure it is refused with code and region, and disarms unless REPEAT; else edge 0 of a switch begins in every member
and BUSY is set, and no other register and no other region changes. A write to CTX_SWITCH gives each named group with EN_REG
a trigger that the first edge at least 8 ns after the write takes, or that is taken at once where no member is powered;
groups without EN_REG take no notice. SWTRIG of a region triggers, at its edge, the groups with EN_SWTRIG that name it.
Commands that it shows completing: CTX_SWITCH, SWTRIG. (06 Contexts, Proofing and Switching: R141, R143, R144, R145, 19
Start-Up and the Start Log) -/
def Obligations.SwitchTriggers : Prop :=
  (∀ (s : State) (n : Nat), s.xbar.pinsOn = false → s.sgTake s n = (s, false)) ∧
  (∀ (s : State) (n : Nat), s.xbar.pinsOn = true →
    (s.sgEdge n = some 0 → s.sgTake s n = (s, true)) ∧
    (∀ k, s.sgEdge n = some k → k ≠ 0 →
      (k = 3 ∨ s.on (R.CTX_SG_CFG.ARM n) = true → k ≤ 3 → s.sgTake s n = (s.raise (R.CTX_SG_STATUS.OVERRUN n), false)) ∧
      (k < 3 → s.on (R.CTX_SG_CFG.ARM n) = false →
        s.sgTake s n = ((s.raise (R.CTX_SG_STATUS.IGNORED n)).raise (R.CTX_SG_STATUS.OVERRUN n), false))) ∧
    (s.sgEdge n = none → s.on (R.CTX_SG_CFG.ARM n) = false → s.sgTake s n = (s.raise (R.CTX_SG_STATUS.IGNORED n), false)) ∧
    (s.sgEdge n = none → s.on (R.CTX_SG_CFG.ARM n) = true → (s.groupFail n (s.rw (R.CTX_SG_CFG.reg n))).1 = 0 →
      (s.sgTake s n).2 = true ∧ (s.sgTake s n).1.on (R.CTX_SG_STATUS.BUSY n) = true ∧
      (∀ g, g ∈ s.members n → ((s.sgTake s n).1.region g).edges = some 0) ∧
      (∀ g, g ∉ s.members n → (s.sgTake s n).1.region g = s.region g) ∧ regsBut [R.CTX_SG_STATUS.reg n] s (s.sgTake s n).1) ∧
    (∀ code g : Nat, s.sgEdge n = none → s.on (R.CTX_SG_CFG.ARM n) = true → s.groupFail n (s.rw (R.CTX_SG_CFG.reg n)) = (code, g) → code ≠ 0 →
      s.sgTake s n = (if (s.sgRefuse n code g).on (R.CTX_SG_CFG.REPEAT n) then s.sgRefuse n code g
        else (s.sgRefuse n code g).putB (R.CTX_SG_CFG.ARM n) false, false))) ∧
  (∀ (s : State) (n sub : Nat), n < 32 →
    (s.on (R.CTX_SG_CFG.EN_REG n) = false → exec (.ctxSwitch (1#32 <<< n) sub) s = .next s.signal) ∧
    (∀ g, s.on (R.CTX_SG_CFG.EN_REG n) = true → g ∈ s.members n → s.logicOn g = true →
      exec (.ctxSwitch (1#32 <<< n) sub) s = .next (State.signal { s with
        fab := { s.fab with trigs := s.fab.trigs ++ [(n, s.tick * 4000 + (sub + 8000))] } })) ∧
    (s.on (R.CTX_SG_CFG.EN_REG n) = true → (∀ g, g ∈ s.members n → s.logicOn g = false) →
      exec (.ctxSwitch (1#32 <<< n) sub) s = .next (s.sgTakeAll s n (s.tick * 4000 + (sub + 8000))).signal)) ∧
  (∀ (s : State) (n g : Nat), (List.range 32).filter (fun m => s.on (R.CTX_SG_CFG.EN_SWTRIG m) && decide (s.g (R.CTX_SG_CFG.TRIGREG m) = g)) = [n] →
    exec (.swtrig g) s = .next (s.sgTake s n).1.signal) ∧
  (∀ (s : State) (g : Nat), (List.range 32).filter (fun m => s.on (R.CTX_SG_CFG.EN_SWTRIG m) && decide (s.g (R.CTX_SG_CFG.TRIGREG m) = g)) = [] →
    exec (.swtrig g) s = .next s.signal) ∧
  (∀ (s : State) (sub : Nat), exec (.ctxSwitch 0 sub) s = .next s.signal)

/-- SWITCH_COMPLETE acts only on a busy group whose members all stand at edge 2, and is then the edge of their clock: what
FABRIC_CLOCK_EDGE does there; it completes in every state, and keeps the queue and the tick. At edge 3 of a group every
member switches as Table 6.4 states, BUSY clears, the group's bit in CTX_SG_DONE is set, SWCNT counts one, a group without
REPEAT disarms and a SWITCH request that waits for the group learns of it. For a region that had another context before, its
switch loads the flip-flops of the new slot as kept, saved or initial, and the region afterwards runs the slot NEXT named:
ACT holds it, its slot is ACTIVE, SWPEND is clear, and the slot before it is PROOFED with SAVEVALID set exactly by a warm
switch. Commands that it shows completing: SWITCH_COMPLETE, FABRIC_CLOCK_EDGE. (06 Contexts, Proofing and Switching: R136,
R137, R138, R139, R141, R146, 09 Loading and Upset Scrubbing: R219) -/
def Obligations.SwitchCompletes : Prop :=
  (∀ (s : State) (n sub : Nat), s.on (R.CTX_SG_STATUS.BUSY n) = false ∨ (s.members n).all s.third = false → exec (.switchComplete n sub) s = .next s.signal) ∧
  (∀ (s : State) (n sub : Nat), s.on (R.CTX_SG_STATUS.BUSY n) = true → (s.members n).all s.third = true →
    exec (.switchComplete n sub) s = exec (.fabricClockEdge (s.members n) true sub) s ∧
    ∃ t : State, exec (.switchComplete n sub) s = .next t ∧ t.pending = s.pending ∧ t.tick = s.tick) ∧
  (∀ (s s' : State) (n : Nat),
    s' = (((s.each (s.members n) State.switchMember).putB (R.CTX_SG_STATUS.BUSY n) false).setBit R.CTX_SG_DONE.DONE n).bump (R.CTX_SG_STATUS.SWCNT n) 1 →
    (s'.on (R.CTX_SG_CFG.REPEAT n) = true → s.switchNow n = s'.swDone n true) ∧
    (s'.on (R.CTX_SG_CFG.REPEAT n) = false → s.switchNow n = (s'.putB (R.CTX_SG_CFG.ARM n) false).swDone n true)) ∧
  (∀ (s : State) (g o c kind : Nat), g < 512 → s.activeCtx g = some o → c = s.g (R.CTX_REGION_CTL.NEXT g) → o ≠ c →
    kind = s.g (R.CTX_REGION_CTL.KIND g) → s.on (R.CLK_REGION_CFG.PEND g) = false →
    (s.switchMember g).slotState g c = slotACTIVE ∧ (s.switchMember g).slotState g o = slotPROOFED ∧
    (s.switchMember g).activeCtx g = some c ∧ (s.switchMember g).on (R.CTX_REGION_STATUS.SWPEND g) = false ∧
    ((s.switchMember g).on (R.CTX_SLOT_STATE.SAVEVALID (g * 8 + o)) = true ↔ kind = 1) ∧
    ((s.switchMember g).region g).edges = some 3 ∧
    (∀ tile, tile / 256 = g →
      (kind = 2 → (s.switchMember g).fab.ff.get tile = s.fab.ff.get tile ∧ (s.switchMember g).fab.sw.get tile = s.fab.sw.get tile) ∧
      (kind = 1 → (s.switchMember g).fab.saved.get ((g * 8 + o) * 256 + tile % 256) = s.fab.ff.get tile) ∧
      (kind ≠ 2 → (s.switchMember g).fab.sw.get tile = 0 ∧
        (s.switchMember g).fab.ff.get tile = if kind = 1 ∧ s.on (R.CTX_SLOT_STATE.SAVEVALID (g * 8 + c)) = true
          then s.fab.saved.get ((g * 8 + c) * 256 + tile % 256) else s.initBits c tile)))

/-- A port with room takes a post behind those that wait, stamped with the tick and the axis values its region holds; a full
queue of four and a fenced port drop it, and nothing changes. A write of LGR_FENCEk empties the queue of each port it fences
and answers every post of it FENCED, in turn after the answers that still wait; the other ports keep theirs, and nothing else
changes. Commands that it shows completing: LEDGER_POST, LGR_FENCE. (07 The Item Ledger: R162, R163, R179) -/
def Obligations.LedgerPostsAndFences : Prop :=
  (∀ (s : State) (port stn verd : Nat) (code : Half) (idv : Bool) (id : Word),
    (s.bit (R.LGR_FENCE.FENCE (port / 32)) (port % 32) = true ∨ 4 ≤ (s.lgr.ports.get port).queue.length →
      exec (.ledgerPost port stn verd code idv id) s = .next s.signal) ∧
    (s.bit (R.LGR_FENCE.FENCE (port / 32)) (port % 32) = false → (s.lgr.ports.get port).queue.length < 4 →
      ∃ q : LPost, q.stn = stn % 64 ∧ q.verd = verd % 4 ∧ q.code = code ∧ q.idv = idv ∧ q.id = id ∧ q.tick = (s.region (port / 4)).takenTick ∧
        q.values = (s.region (port / 4)).taken.map (·.value) ∧
        exec (.ledgerPost port stn verd code idv id) s = .next (State.signal { s with lgr := { s.lgr with
          ports := s.lgr.ports.set port { s.lgr.ports.get port with queue := (s.lgr.ports.get port).queue ++ [q] } } }))) ∧
  (∀ (s : State) (k : Nat) (v : Word), s.lgr.due = [] → ∃ t : State, exec (.lgrFence k v) s = .next t ∧
    (∀ p, p / 32 = k → v.getLsbD (p % 32) = true →
      t.lgr.ports.get p = { s.lgr.ports.get p with
        queue := [], answers := (s.lgr.ports.get p).answers ++ List.replicate (s.lgr.ports.get p).queue.length 5 }) ∧
    (∀ p, p / 32 ≠ k ∨ v.getLsbD (p % 32) = false → t.lgr.ports.get p = s.lgr.ports.get p) ∧
    t.mute = State.mute { s.wr (R.LGR_FENCE.reg k) v with lgr := { s.lgr with ports := t.lgr.ports } })

/-- POST_RESOLVE always completes: the ledger does its part, then the change is mirrored and the frame ports send what waits.
With no post waiting, or while the ledger does not work, the ledger does nothing. The one waiting port's head post leaves its
queue and its status goes behind the answers that wait for ACK. A post that resolves to no item, or to one it may not post
to, is refused with that status, and no entry changes. One that may post sets the bit of its station at the item it names and
its code, and with a reject verdict marks the item with the code as its reason; a second post of the same station changes
nothing and is answered 3. Commands that it shows completing: POST_RESOLVE. (07 The Item Ledger: R163, R164, R165) -/
def Obligations.PostsResolve : Prop :=
  (∀ s : State, exec .postResolve s = .next s.postResolve.mirrorFlush.transmit.signal) ∧
  (∀ s : State, s.lgrWorks = false ∨ (∀ p, p ∈ s.lgr.ports → p.2.queue = []) → s.postResolve = s) ∧
  (∀ (s : State) (port : Nat) (q : LPost) (rest : List LPost),
    (s.lgr.ports.filter (fun p => !p.2.queue.isEmpty)).map (·.1) = [port] → (s.lgr.ports.get port).queue = q :: rest → s.lgrWorks = true →
    let left (s' : State) (st : Nat) : State := { s' with lgr := { s'.lgr with
      ports := s'.lgr.ports.set port { s'.lgr.ports.get port with queue := rest, answers := (s'.lgr.ports.get port).answers ++ [st] }
      token := (port + 1) % 2048 } }
    (∀ st, s.resolveFind q = .inr st → s.postResolve = (left s st).lgrRun) ∧
    (∀ i, s.resolveFind q = .inl i → s.resolveJudge port i q ≠ 0 → s.resolveJudge port i q ≠ 6 →
      s.postResolve = (left s (s.resolveJudge port i q)).lgrRun) ∧
    (∀ i, s.resolveFind q = .inl i → s.resolveJudge port i q = 0 → s.lgrActs = true →
      s.postResolve = (left (s.applyPost i q).1 (s.applyPost i q).2).lgrRun)) ∧
  (∀ (s : State) (i b : Nat) (q : LPost), b = s.stField q.stn (s.entry i).bank (R.LGR_STATION_CFG.BIT q.stn) →
    (q.verd < 2 → (s.entry i).done.getLsbD b = true → s.applyPost i q = (s, 3)) ∧
    (q.verd = 0 → (s.entry i).done.getLsbD b = false → ∃ t : State, s.applyPost i q = (t, 0) ∧
      t.entry i = { s.entry i with done := (s.entry i).done ||| BitVec.ofNat 16 (2 ^ b), code := q.code } ∧ ∀ j, j ≠ i → t.entry j = s.entry j) ∧
    (q.verd = 1 → (s.entry i).done.getLsbD b = false → (s.entry i).st = itOPEN → (s.entry i).reason = 0#16 →
      s.on (R.LGR_STREAM_CFG.GATEEN (idStream (s.entry i).id)) = false → ∃ t : State, s.applyPost i q = (t, 0) ∧
      t.entry i = { s.entry i with
        done := (s.entry i).done ||| BitVec.ofNat 16 (2 ^ b), rej := (s.entry i).rej ||| BitVec.ofNat 16 (2 ^ b)
        code := q.code, st := itMARKED, reason := q.code } ∧ ∀ j, j ≠ i → t.entry j = s.entry j))

/-- An enable of a stream that is off checks its settings: with a breach CFGERR is set and nothing else; without, births begin
afresh, counted from ORIGIN to the axis's place, and the stream's ember record is valid. During a disable it is queued with
BUSY. On a stream that is enabled it changes nothing. A disable clears EN and stops births at the first tick at least 8 ns
later, BUSY meanwhile. LGR_APPLY sets APPLYPEND of a named stream whose idle bank is free of a breach, sets CFGERR for one
with a breach, and leaves one that already waits. Commands that it shows completing: LGR_APPLY, STREAM_ENABLE,
STREAM_DISABLE. (07 The Item Ledger: R158, R160, R161, R180) -/
def Obligations.StreamsAndBanks : Prop :=
  ∀ (s : State) (n : Nat), n < 4 →
    ((s.stream n).disDue = none → (s.stream n).enabled = true → exec (.streamEnable n) s = .next s.signal) ∧
    ((s.stream n).disDue = none → (s.stream n).enabled = false → s.streamOk n (s.rw (R.LGR_STREAM_CFG.reg n)) = false →
      exec (.streamEnable n) s = .next (s.raise R.LGR_EVENTS.CFGERR).signal) ∧
    ((s.stream n).disDue = none → (s.stream n).enabled = false → s.streamOk n (s.rw (R.LGR_STREAM_CFG.reg n)) = true →
      exec (.streamEnable n) s = .next (((s.setStream n { s.stream n with
        enabled := true, last := none, lost := false,
        dist := sdiff (s.axis (s.g (R.LGR_STREAM_CFG.AXIS n))).value (s.rw (R.LGR_STREAM_ORIGIN_HI.reg n) ++ s.rw (R.LGR_STREAM_ORIGIN_LO.reg n)) }).putB
        (R.LGR_STREAM_CFG.EN n) true).putB (R.AON_LGR_OLDEST.VALID n) true).signal) ∧
    ((s.stream n).disDue ≠ none → exec (.streamEnable n) s = .next
      (((s.setStream n { s.stream n with enQueued := true }).putB (R.LGR_STREAM_CFG.EN n) true).putB (R.LGR_STREAM_STATUS.BUSY n) true).signal) ∧
    (∀ sub : Nat, (s.stream n).disDue = none → (s.stream n).enabled = true → exec (.streamDisable n sub) s = .next
      (((s.putB (R.LGR_STREAM_CFG.EN n) false).setStream n { s.stream n with disDue := some (s.tick + (sub + 8000 + 3999) / 4000) }).putB
        (R.LGR_STREAM_STATUS.BUSY n) true).signal) ∧
    (∀ sub : Nat, (s.stream n).disDue = none → (s.stream n).enabled = false → exec (.streamDisable n sub) s = .next
      (s.putB (R.LGR_STREAM_CFG.EN n) false).signal) ∧
    (s.on (R.LGR_STREAM_STATUS.APPLYPEND n) = true → exec (.lgrApply (2 ^ n)) s = .next s.signal) ∧
    (s.on (R.LGR_STREAM_STATUS.APPLYPEND n) = false → s.applyOk n = true →
      exec (.lgrApply (2 ^ n)) s = .next (s.putB (R.LGR_STREAM_STATUS.APPLYPEND n) true).signal) ∧
    (s.on (R.LGR_STREAM_STATUS.APPLYPEND n) = false → s.applyOk n = false →
      exec (.lgrApply (2 ^ n)) s = .next (s.raise R.LGR_EVENTS.CFGERR).signal)

/-- RECORD_RELEASE always completes: the ledger does its part, then changes are mirrored, reports and frames sent. A device that
does not report, or whose ledger does not work, releases nothing, and a stream whose oldest item is not HELD, or whose record
has been released and not yet accepted, none. With the ring off, the record of a HELD oldest item takes the next RECSEQ, and
CLOSED is set. With no path enabled it counts in UNREP and its entry is free; with only the Vasum path enabled it waits for
that path. Commands that it shows completing: RECORD_RELEASE. (07 The Item Ledger: R159, R173, 15 Twin Operation: Table 15.1) -/
def Obligations.RecordsLeaveInOrder : Prop :=
  ∀ (s : State) (n k i : Nat) (rest : List Nat), n < 4 →
    exec (.recordRelease n) s = .next (((s.recordRelease n).mirrorFlush.sendReports false).transmit).signal ∧
    (s.lgrReports = false ∨ s.lgrWorks = false → s.recordRelease n = s) ∧
    (s.lgrReports = true → s.lgrWorks = true → s.lgr.suspects = [] → (s.stream n).items = k :: rest → i = s.entryOf n k → (s.entry i).bad = false →
      ((s.entry i).released = true ∨ (s.entry i).st ≠ itHELD → s.recordRelease n = s) ∧
      ((s.entry i).released = false → (s.entry i).st = itHELD → s.mirrored i = true → idStream (s.entry i).id = n → idSeq (s.entry i).id = k →
        s.g R.TWIN_STATUS.STATE ≠ 3 → s.on R.LGR_CTL.RING_EN = false → (∀ r, r ∈ s.lgr.out → r.ring = false ∧ r.vsm = true) →
        ∃ t : State, s.recordRelease n = t ∧ t.g R.LGR_RECSEQ.RECSEQ = (s.g R.LGR_RECSEQ.RECSEQ + 1) % 4294967296 ∧
          t.on R.LGR_EVENTS.CLOSED = true ∧
          (s.on R.LGR_CTL.VSM_EN = false →
            (t.entry i).st = itFREE ∧ (t.stream n).items = rest.filter (· ≠ k) ∧ t.lgr.out = s.lgr.out ∧
            t.g R.LGR_ERRCNT.UNREP = min 65535 (s.g R.LGR_ERRCNT.UNREP + 1)) ∧
          (s.on R.LGR_CTL.VSM_EN = true →
            (t.entry i).st = itHELD ∧ (t.entry i).released = true ∧ (t.stream n).items = k :: rest ∧
            t.lgr.out = s.lgr.out ++ [{
              recseq := BitVec.ofNat 32 (s.g R.LGR_RECSEQ.RECSEQ),
              data := recordBytes (wordBytes (s.entry i).id) (BitVec.ofNat 32 (s.g R.LGR_RECSEQ.RECSEQ)) (itemBody (s.entry i)),
              entry := some i, ring := false, vsm := true }])))

/-- On a busy channel past its checks the command that stands next acts, with what follows it still to come. PAD ends the
segment. FRAME and BCAST that pass the checks of R208 write each frame of their address set with its check and count them in
FRAMES; one that fails ends the load with that status. SUPFW whose check passes writes supervisor memory byte for byte. CSRW
holds its values for step CSR, ACTIVATE names a start region and its slot for the set, and END reads back every frame of the
slot set and makes each slot PROOFED with the image's tag. Commands that it shows completing: PAD, FRAME, BCAST, SUPFW, CSRW,
ACTIVATE, END. (08 Configuration Images: R193, R194, R197, R198, R199, R200, R208, 06 Contexts, Proofing and Switching: R134) -/
def Obligations.ImageCommands : Prop :=
  ∀ (s : State) (n : Nat) (x : LoadCh) (c : ImgCmd) (rest : List Byte), x = s.loadCh n → x.busy = true → x.waiting = false →
    nextCmd (decide (fieldAt x.hdr 6 1 = 1)) x.rest = .inr (c, rest) →
    (c.op = 0 → exec (.pad n) s = .next (s.loadGoOn n []).startSettle.signal) ∧
    (c.op = 1 ∨ c.op = 2 → ∀ set : Option (List Nat), set = (if c.op = 1 then some [c.addr] else bcastSet c.addr c.arg) →
      (∀ st, checkFrames x c set = .inl st →
        (if c.op = 1 then exec (.frame n) s else exec (.bcast n) s) = .next (s.loadAbort n st).startSettle.signal) ∧
      (∀ (l : List Nat) (d : List Byte), checkFrames x c set = .inr (l, d) → rest ≠ [] →
        (if c.op = 1 then exec (.frame n) s else exec (.bcast n) s) = .next ((({ s with fab := { s.fab with
          frames := l.foldl (fun m a => m.set a { data := d, check := c.fcheck }) s.fab.frames } } : State).put
          (R.CFG_CH_FRAMES.FRAMES n) (s.g (R.CFG_CH_FRAMES.FRAMES n) + l.length)).setLoadCh n { x with rest := rest }).startSettle.signal)) ∧
    (c.op = 0x10 → crc32c c.payload = c.fcheck → rest ≠ [] → ∃ t : State, exec (.supfw n) s = .next t.startSettle.signal ∧
      t.cfg.supMem = (c.payload.zip (List.range c.stored)).foldl (fun m e => SMap.set m (c.addr + e.2) e.1) s.cfg.supMem ∧
      t.loadCh n = { x with sup := true, rest := rest } ∧ t.mem = s.mem ∧ t.csr = s.csr) ∧
    (c.op = 0x11 → crc32c c.payload = c.fcheck → c.addr < 0x1000000 → rest ≠ [] →
      (∀ i, i < c.stored / 4 → csrwBarred (c.addr + 4 * i) = false) →
      ∀ vals, vals = (List.range (c.stored / 4)).map (fun i => (c.addr + 4 * i, BitVec.ofNat 32 (fieldAt c.payload (4 * i) 4))) →
      exec (.csrw n) s = .next (s.setLoadCh n { x with rest := rest, held := x.held ++ vals }).startSettle.signal) ∧
    (∀ g slot : Nat, c.op = 0x12 → g = c.addr / 0x100000 % 512 → slot = mapSlot x.map (c.addr / 0x20000000) → c.addr % 0x100000 = 0 →
      x.inSet g slot = true → c.arg ≤ 1 → (∀ a, a ∈ x.acts → ¬(a.1 = c.arg ∧ a.2.1 = g)) → rest ≠ [] →
      exec (.activate n) s = .next (s.setLoadCh n { x with rest := rest, acts := x.acts ++ [(c.arg, g, slot)] }).startSettle.signal) ∧
    (c.op = 0x7F → x.seg + 1 = imgSegs x.hdr → (fieldAt x.hdr 6 1 = 1 → x.sup = true) →
      (∀ e, e ∈ s.fab.frames → x.covers e.1 = true → e.2.good = true) →
      exec (.endCmd n) s = .next ((x.slotSet.foldl (fun (t : State) e =>
        ((((t.loadComp e.1 e.2).put (R.CTX_SLOT_STATE.IMGTAG (e.1 * 8 + e.2)) (fieldAt x.hdr 12 2)).put (R.CTX_SLOT_STATE.LASTERR (e.1 * 8 + e.2)) 0).setSlot
          e.1 e.2 slotPROOFED)) s).loadEnd n 0).startSettle.signal)

/-- LOAD of a source that can be read, with a channel free, takes the lowest-numbered free channel with the base and the slot map
of its arguments (A3 of 0 is the identity map); a source above 2 is refused BADREQ, no channel free NOCHAN, and a port in use
PORTBUSY. CANCEL ends the load of its channel with CANCEL and is answered OK. INVALIDATE makes every PROOFED slot of its mask
INVALID and is answered OK when none of them is ACTIVE or locked; else it is answered BUSY and changes no slot. CFG_RECLAIM
aborts the load of each busy channel it names with RECLAIM. Commands that it shows completing: LOAD, CANCEL, INVALIDATE,
CFG_RECLAIM. (09 Loading and Upset Scrubbing: R211, R212, R215, R219, R220, R221) -/
def Obligations.LoadRequests : Prop :=
  ∀ (s : State) (m : Nat),
    (s.mbxRuns m 0x20 = true →
      (2 < s.mbxArg m 0 → exec (.load m) s = .next (s.answerMbx m 0x41 0 0).signal) ∧
      (s.mbxArg m 0 ≤ 2 → (∀ n, n < 4 → (s.loadCh n).busy = true) → exec (.load m) s = .next (s.answerMbx m 0x40 0 0).signal) ∧
      (∀ n, n < 4 → (s.loadCh n).busy = false → (∀ k, k < n → (s.loadCh k).busy = true) →
        ((s.mbxArg m 0 = 1 ∨ s.mbxArg m 0 = 2) → s.portBusy (s.mbxArg m 0 - 1) = true → exec (.load m) s = .next (s.answerMbx m 0x43 0 0).signal) ∧
        ((s.mbxArg m 0 = 1 ∨ s.mbxArg m 0 = 2) → s.portBusy (s.mbxArg m 0 - 1) = false →
          (s.portMode (s.mbxArg m 0 - 1) = 1 ∨ s.portMode (s.mbxArg m 0 - 1) = 2) →
          exec (.load m) s = .next (s.loadTake n {
            mbx := some m, src := s.mbxArg m 0, base := s.mbxArg m 1, map := if s.mbxArg m 3 = 0 then 0xFAC688 else s.mbxArg m 3 % 2 ^ 24 }).signal) ∧
        (s.mbxArg m 0 = 0 → exec (.load m) s = .next (s.loadTake n {
            mbx := some m, src := 0, base := s.mbxAddr m 1, map := if s.mbxArg m 3 = 0 then 0xFAC688 else s.mbxArg m 3 % 2 ^ 24 }).signal))) ∧
    (s.mbxRuns m 0x21 = true → s.mbxArg m 0 < 4 →
      ((s.loadCh (s.mbxArg m 0)).busy = true → exec (.cancel m) s = .next ((s.loadAbort (s.mbxArg m 0) 0x18).answerMbx m 0 0 0).startSettle.signal) ∧
      ((s.loadCh (s.mbxArg m 0)).busy = false → exec (.cancel m) s = .next (s.answerMbx m 0 0 0).startSettle.signal)) ∧
    (s.mbxRuns m 0x22 = true → s.mbxArg m 0 < 512 →
      (∀ c, c < 8 → (s.mbxArg m 1).testBit c = true → (s.slotState (s.mbxArg m 0) c = slotACTIVE ∨ s.slotLocked (s.mbxArg m 0) c = true) →
        exec (.invalidate m) s = .next (s.answerMbx m 0x0A 0 0).startSettle.signal) ∧
      ((∀ c, c < 8 → (s.mbxArg m 1).testBit c = true → s.slotState (s.mbxArg m 0) c ≠ slotACTIVE ∧ s.slotLocked (s.mbxArg m 0) c = false) →
        (∀ n, n < 4 → (s.loadCh n).busy = false) →
        exec (.invalidate m) s = .next ((s.each (maskBits (s.mbxArg m 1) 8) (fun t c =>
          if t.slotState (s.mbxArg m 0) c = slotPROOFED then t.setSlot (s.mbxArg m 0) c slotINVALID else t)).answerMbx m 0 0 0).startSettle.signal)) ∧
    (∀ n, n < 4 → (s.loadCh n).busy = true →
      exec (.cfgReclaim .super (2 ^ n)) s = .next ((((s.loadAbort n 0x17).raise R.CFG_EVENTS.RECLAIMED).startSettle).answerWith stOK []).signal)

/-- An operation of a region whose owner field names it, on a bank that is running, neither fenced nor bad, in a clock domain
that matches, with a valid lane mask, is performed: READ returns the enabled lanes and clears COLLIDED of its port, WRITE
stores the enabled lanes and returns zero, ADD16 adds each enabled lane modulo 2^16, ADD32 each enabled pair modulo 2^32,
SWAP16 and SWAP32 store the enabled lanes, and each of the four returns the old enabled lanes; the result waits two edges
with STAT OK. Lanes that are not enabled keep their value, the word written reads back, and every byte outside it reads as
before. Of two writes that meet on one word of a dual-port bank port A's is performed and port B's discarded with COLLIDE.
NOP does nothing; operation 7 and an invalid lane mask perform nothing and get STAT BADOP, which MEM_ERRCNT counts. Commands
that it shows completing: BANK_NOP, BANK_READ, BANK_WRITE, BANK_ADD16, BANK_SWAP16, BANK_ADD32, BANK_SWAP32, BANK_BADOP. (10
Memory Tier: R236, R237, R238, R239, R241, R249) -/
def Obligations.BankOperations : Prop :=
  (∀ (s : State) (q : BankReq) (n w : Nat), n = portBank q → w = q.addr % 8192 → s.quadState (bankQuad n) = 1 → s.bankClockOk q.region = true →
    s.ownerOk n = true → s.mt.met.get (n / 16) = none → s.g (R.MEM_BANK_OWNER.OWNER_A n) ≠ ownFAULT → s.g (R.MEM_BANK_OWNER.OWNER_B n) ≠ ownFAULT →
    s.on (R.MEM_BANK_STATUS.FENCED n) = false → s.on (R.MEM_BANK_STATUS.BAD n) = false →
    (s.g (R.MEM_BANK_OWNER.OWNER_A n) = regionOwner q.region ∨ (n % 16 = 0 ∧ s.g (R.MEM_BANK_OWNER.OWNER_B n) = regionOwner q.region)) →
    (q.lane % 16 ≠ 0 →
      exec (.bankRead q none) s = .next ((s.readClears 1 q).bankResult q (mergeLanes 0 (s.bankWord n w) q.lane) 0).signal ∧
      exec (.bankWrite q none) s = .next ((s.setBankWord n w (mergeLanes (s.bankWord n w) q.wdata q.lane)).bankResult q 0 0).signal ∧
      exec (.bankAdd16 q none) s = .next ((s.setBankWord n w (addLanes (s.bankWord n w) q.wdata q.lane)).bankResult q
        (mergeLanes 0 (s.bankWord n w) q.lane) 0).signal ∧
      exec (.bankSwap16 q none) s = .next ((s.setBankWord n w (mergeLanes (s.bankWord n w) q.wdata q.lane)).bankResult q
        (mergeLanes 0 (s.bankWord n w) q.lane) 0).signal) ∧
    (q.lane = 3 ∨ q.lane = 12 ∨ q.lane = 15 →
      exec (.bankAdd32 q none) s = .next ((s.setBankWord n w (addPairs (s.bankWord n w) q.wdata q.lane)).bankResult q
        (mergeLanes 0 (s.bankWord n w) q.lane) 0).signal ∧
      exec (.bankSwap32 q none) s = .next ((s.setBankWord n w (mergeLanes (s.bankWord n w) q.wdata q.lane)).bankResult q
        (mergeLanes 0 (s.bankWord n w) q.lane) 0).signal) ∧
    (q.lane % 16 = 0 → exec (.bankRead q none) s = .next (((s.readClears 1 q).bump R.MEM_ERRCNT.REFUSED 1).bankResult q 0 5).signal ∧
      exec (.bankWrite q none) s = .next ((s.bump R.MEM_ERRCNT.REFUSED 1).bankResult q 0 5).signal ∧
      exec (.bankAdd16 q none) s = .next ((s.bump R.MEM_ERRCNT.REFUSED 1).bankResult q 0 5).signal ∧
      exec (.bankSwap16 q none) s = .next ((s.bump R.MEM_ERRCNT.REFUSED 1).bankResult q 0 5).signal) ∧
    (q.lane ≠ 3 → q.lane ≠ 12 → q.lane ≠ 15 →
      exec (.bankAdd32 q none) s = .next ((s.bump R.MEM_ERRCNT.REFUSED 1).bankResult q 0 5).signal ∧
      exec (.bankSwap32 q none) s = .next ((s.bump R.MEM_ERRCNT.REFUSED 1).bankResult q 0 5).signal) ∧
    exec (.bankBadop q) s = .next ((s.bump R.MEM_ERRCNT.REFUSED 1).bankResult q 0 5).signal) ∧
  (∀ (s : State) (q : BankReq), exec (.bankNop q) s = .next s.signal) ∧
  (∀ (s : State) (q : BankReq), (s.readClears 1 q).mt.out = s.mt.out.upd (q.region * 16 + q.port % 16) (fun p => { p with collided := false }) ∧
    (s.readClears 1 q).csr = s.csr ∧ (s.readClears 1 q).mem = s.mem) ∧
  (∀ (s : State) (qa qb : BankReq) (n w : Nat), n = portBank qa → w = qa.addr % 8192 → s.g (R.MEM_BANK_OWNER.OWNER_A n) ≠ regionOwner qb.region →
    s.admits 2 qa = true → s.admits 2 qb = true → w = qb.addr % 8192 → qa.lane % 16 &&& qb.lane % 16 ≠ 0 →
    exec (.bankWrite qa (some (2, qb))) s = .next (((((s.setBankWord n w (mergeLanes (s.bankWord n w) qa.wdata qa.lane)).bankResult qa 0 0).bump
      R.MEM_ERRCNT.COLLIDE 1).raise R.MEM_EVENTS.COLLIDE).bankResult qb 0 2).signal) ∧
  (∀ (old v : DWord) (m j : Nat), j < 4 → lane (mergeLanes old v m) j = (if m.testBit j then lane v j else lane old j) ∧
    lane (addLanes old v m) j = (if m.testBit j then lane old j + lane v j else lane old j)) ∧
  (∀ (old v : DWord) (m j : Nat), j < 2 → BitVec.setWidth 32 (addPairs old v m >>> (32 * j)) =
    if m.testBit (2 * j) then BitVec.setWidth 32 (old >>> (32 * j)) + BitVec.setWidth 32 (v >>> (32 * j)) else BitVec.setWidth 32 (old >>> (32 * j))) ∧
  (∀ (s : State) (n w : Nat) (v : DWord), (s.setBankWord n w v).bankWord n w = v ∧ (s.setBankWord n w v).csr = s.csr ∧
    ∀ a, a < bankAddr n w ∨ bankAddr n w + 8 ≤ a → (s.setBankWord n w v).byte a = s.byte a) ∧
  (∀ (s : State) (q : BankReq) (d : DWord) (st : Nat), (s.bankResult q d st).mt.pipe =
    s.mt.pipe ++ [{ port := q.region * 16 + q.port % 16, left := 2, rdata := d, stat := st }] ∧ (s.bankResult q d st).mem = s.mem)

/-- A write of a bank's owners that fails a check of Table 10.6 changes no owner: its code is in HERR and HANDERR is raised; one
that passes is pending until HANDOVER_EFFECT, or at once in force on a bank whose owner is FAULT. The handover makes the
written codes the owners, with a fresh check, once no operation of an owner is in flight; until then, and with nothing
pending, HANDOVER_EFFECT does nothing. A write of MEM_RECLAIM by the supervisor begins the reclaim and shows RECLBUSY, or
waits behind those before it; to any other writer it is an error response. As it begins the bank is fenced, a pending
handover ends with BUSY and a march test of the bank ABORTED; as it ends SUPER is the owner of port A and nobody of port B,
the fence goes and RECLAIMED is set. Commands that it shows completing: MEM_BANK_OWNER_WRITE, HANDOVER_EFFECT, MEM_RECLAIM.
(10 Memory Tier: R244, R245, R246, R247, R248, R255, R515, 24 Address Map and Registers) -/
def Obligations.BankOwnership : Prop :=
  (∀ (s : State) (w : Who) (n c : Nat) (v : Word), c = s.handoverCode n v.toNat (decide (w = .super)) →
    (c ≠ 0 → exec (.memBankOwnerWrite w n v) s = .next ((s.put (R.MEM_BANK_STATUS.HERR n) c).raise R.MEM_EVENTS.HANDERR).signal) ∧
    (∀ s' : State, s' = s.put (R.MEM_BANK_STATUS.HERR n) 0 → c = 0 →
      (s'.g (R.MEM_BANK_OWNER.OWNER_A n) = ownFAULT → exec (.memBankOwnerWrite w n v) s = .next (s'.setOwner n v.toNat).signal) ∧
      (s'.g (R.MEM_BANK_OWNER.OWNER_A n) ≠ ownFAULT → exec (.memBankOwnerWrite w n v) s = .next (State.signal
        { (s'.putB (R.MEM_BANK_STATUS.PEND n) true) with mt := { s'.mt with pend := s'.mt.pend.set n (some v.toNat) } })))) ∧
  (∀ (s : State) (n v : Nat) (super : Bool),
    (v % 8 = 5 ∨ v % 8 = 6 ∨ v % 8 = 7 ∨ (v % 8 = 4 ∧ super = false) → s.handoverCode n v super = 1) ∧
    (v / 16 % 8 ≠ 0 → n % 16 ≠ 0 → s.handoverCode n v super = 1) ∧
    (v % 8 = v / 16 % 8 → v % 8 ≠ 0 → v % 8 < 4 → n % 16 = 0 → s.handoverCode n v super = 2) ∧
    (v % 8 = 0 ∨ v % 8 = 3 → v / 16 % 8 = 0 →
      (s.on (R.MEM_BANK_STATUS.PEND n) = true ∨ s.mt.reclaims.any (fun r => decide (r.1 = n)) = true ∨ n ∈ s.mt.march) → s.handoverCode n v super = 4) ∧
    (v % 8 = 0 ∨ v % 8 = 3 → v / 16 % 8 = 0 → s.on (R.MEM_BANK_STATUS.PEND n) = false → s.mt.reclaims.any (fun r => decide (r.1 = n)) = false →
      n ∉ s.mt.march → s.handoverCode n v super = if s.on (R.MEM_BANK_STATUS.BAD n) then 5 else 0)) ∧
  (∀ (s : State) (n : Nat), (s.mt.pend.get n = none → exec (.handoverEffect n) s = .next s.signal) ∧
    (s.bankBusy n = true → exec (.handoverEffect n) s = .next s.signal) ∧
    ∀ v, s.mt.pend.get n = some v → s.bankBusy n = false → n < 4096 → ∃ t : State, exec (.handoverEffect n) s = .next t.signal ∧
      t.g (R.MEM_BANK_OWNER.OWNER_A n) = v % 8 ∧ t.g (R.MEM_BANK_OWNER.OWNER_B n) = v / 16 % 8 ∧ t.on (R.MEM_BANK_STATUS.PEND n) = false ∧
      t.ownerOk n = true ∧ t.mt.pend.get n = none ∧ t.mem = s.mem ∧ regsBut [R.MEM_BANK_OWNER.reg n, R.MEM_BANK_STATUS.reg n] s t) ∧
  (∀ (s : State) (w : Who) (n : Nat), w ≠ .super → exec (.memReclaim w n) s = .next (s.answerWith stERR []).signal) ∧
  (∀ (s : State) (n : Nat),
    (s.mt.reclaims = [] → exec (.memReclaim .super n) s = .next (((({ s with mt := { s.mt with reclaims := [(n, s.tick + 500)] } } : State).putB
      R.MEM_STATUS.RECLBUSY true)).answerWith stOK []).signal) ∧
    (s.mt.reclaims ≠ [] → exec (.memReclaim .super n) s = .next (State.signal
      { s with mt := { s.mt with reclaims := s.mt.reclaims ++ [(n, s.tick + 500)] }, resp := none }))) ∧
  (∀ (s : State) (n : Nat), (s.reclaimFence n).on (R.MEM_BANK_STATUS.FENCED n) = true ∧ (s.reclaimFence n).on (R.MEM_BANK_STATUS.PEND n) = false ∧
    (s.on (R.MEM_BANK_STATUS.PEND n) = true → (s.reclaimFence n).g (R.MEM_BANK_STATUS.HERR n) = 4 ∧ (s.reclaimFence n).mt.pend.get n = none) ∧
    (n ∈ s.mt.march → (s.reclaimFence n).g (R.MEM_BANK_STATUS.MRES n) = 3 ∧ n ∉ (s.reclaimFence n).mt.march)) ∧
  (∀ (s : State) (n t : Nat), n < 4096 → s.mt.reclaims = [(n, t)] → (s.reclaimEnd n).g (R.MEM_BANK_OWNER.OWNER_A n) = ownSUPER ∧
    (s.reclaimEnd n).g (R.MEM_BANK_OWNER.OWNER_B n) = ownNONE ∧ (s.reclaimEnd n).on (R.MEM_BANK_STATUS.FENCED n) = false ∧
    (s.reclaimEnd n).on R.MEM_EVENTS.RECLAIMED = true ∧ (s.reclaimEnd n).on R.MEM_STATUS.RECLBUSY = false ∧ (s.reclaimEnd n).mem = s.mem)

/-- A start of the march test is refused with a code of Table 10.9, MARCHDONE set; else every selected bank is owned by MARCH,
its owners kept, and BUSY, MARCHBUSY and START read 1. MARCH_END without a running test does nothing. The end of one gives
each bank its owners back; a bank with no failing word passes, one with failing words fails with the first of them in
FAILWORD and BAD set; FAILCNT holds the number of banks that failed, MARCHFAIL is set when there is one, and MARCHDONE; after
the destructive mode every byte of each bank reads 0. Commands that it shows completing: MARCH_START, MARCH_END. (10 Memory
Tier: R252, R253, R254, R255) -/
def Obligations.MarchTest : Prop :=
  (∀ (s : State) (c : Nat), c = s.marchRefusal s.marchSelected → c ≠ 0 →
    exec .marchStart s = .next ((s.put R.MEM_MARCH_STATUS.REFUSED c).raise R.MEM_EVENTS.MARCHDONE).signal) ∧
  (∀ s : State, (s.mt.march ≠ [] → s.marchRefusal s.marchSelected = 3) ∧
    (s.mt.march = [] → s.on R.MEM_STATUS.MARCHBUSY = false → s.marchSelected = [] → s.marchRefusal s.marchSelected = 4)) ∧
  (∀ s : State, s.marchRefusal s.marchSelected = 0 → ∃ t : State, exec .marchStart s = .next t.signal ∧
    t.mt.march = s.marchSelected ∧ t.on R.MEM_MARCH_STATUS.BUSY = true ∧ t.on R.MEM_STATUS.MARCHBUSY = true ∧ t.on R.MEM_MARCH_CTL.START = true ∧
    t.mt.preserve = ((s.put R.MEM_MARCH_STATUS.REFUSED 0).each s.marchSelected State.marchTake).on R.MEM_MARCH_CTL.MODE ∧
    ∀ n, n < 4096 → t.g (R.MEM_BANK_OWNER.OWNER_A n) = ((s.put R.MEM_MARCH_STATUS.REFUSED 0).each s.marchSelected State.marchTake).g (R.MEM_BANK_OWNER.OWNER_A n)) ∧
  (∀ (s : State) (n : Nat), (s.marchTake n).g (R.MEM_BANK_OWNER.OWNER_A n) = ownMARCH ∧
    (s.marchTake n).g (R.MEM_BANK_OWNER.OWNER_B n) = (if n % 16 = 0 then ownMARCH else ownNONE) ∧
    (s.marchTake n).mt.before.get n = some (s.rw (R.MEM_BANK_OWNER.reg n)).toNat ∧ (s.marchTake n).mem = s.mem ∧
    regsBut [R.MEM_BANK_OWNER.reg n] s (s.marchTake n)) ∧
  (∀ (s : State) (fails : List (Nat × Nat)), s.on R.MEM_STATUS.MARCHBUSY = false → exec (.marchEnd fails) s = .next s.signal) ∧
  (∀ (s : State) (fails failed : List (Nat × Nat)), s.on R.MEM_STATUS.MARCHBUSY = true → failed = fails.filter (fun f => s.mt.march.contains f.1) →
    ∃ t : State, exec (.marchEnd fails) s = .next t.signal ∧ t.mt.march = [] ∧ t.on R.MEM_MARCH_STATUS.BUSY = false ∧
    t.on R.MEM_STATUS.MARCHBUSY = false ∧ t.on R.MEM_MARCH_CTL.START = false ∧ t.on R.MEM_EVENTS.MARCHDONE = true ∧
    t.g R.MEM_MARCH_STATUS.FAILCNT = (s.mt.march.filter (fun n => failed.any (fun f => decide (f.1 = n)))).length % 65536 ∧
    (failed ≠ [] → t.on R.MEM_EVENTS.MARCHFAIL = true) ∧
    t.mem = (s.each s.mt.march (fun u n => (u.marchGive n).marchJudge (!s.mt.preserve) failed n)).mem) ∧
  (∀ (s : State) (n v : Nat), s.mt.before.get n = some v → (s.marchGive n).g (R.MEM_BANK_OWNER.OWNER_A n) = v % 8 ∧
    (s.marchGive n).g (R.MEM_BANK_OWNER.OWNER_B n) = v / 16 % 8 ∧ (s.marchGive n).mem = s.mem ∧ regsBut [R.MEM_BANK_OWNER.reg n] s (s.marchGive n)) ∧
  (∀ (s : State) (d : Bool) (failed : List (Nat × Nat)) (n : Nat),
    ((∀ f, f ∈ failed → f.1 ≠ n) → (s.marchJudge d failed n).g (R.MEM_BANK_STATUS.MRES n) = 1 ∧ (s.marchJudge d failed n).on (R.MEM_BANK_STATUS.BAD n) = false) ∧
    (∀ w more, failed = (n, w) :: more → (s.marchJudge d failed n).g (R.MEM_BANK_STATUS.MRES n) = 2 ∧
      (s.marchJudge d failed n).on (R.MEM_BANK_STATUS.BAD n) = true ∧ (s.marchJudge d failed n).g (R.MEM_BANK_STATUS.FAILWORD n) = w % 8192) ∧
    (n < 4096 → ∀ a, bankBase + n * 65536 ≤ a → a < bankBase + (n + 1) * 65536 → (s.marchJudge true failed n).byte a = 0#8))

/-- SWITCH of a group without EN_REG is answered NOTEN with the group refused; with EN_REG it posts the trigger for the first
edge at least 8 ns later and waits: it is answered with the group refused when that edge begins no switch, and otherwise when
the switch ends, with the group switched, or refused if it was cancelled. MAP of a header that does not fit the slots is
answered MAPHDR; one that fits first takes the map's valid bits away, is answered SOURCE when its data cannot be read and
MAPCRC when the digest is wrong, and else writes the map, sets the valid bits and is answered OK when the write succeeds.
FLASHPROG and FLASHERASE with an argument out of place are answered BADREQ, on a port in use PORTBUSY, on a faulty port
FLASHERR; else the port sends Write Enable and Page Program or Erase, and polls. At the end a programmed byte is the old one
AND the new one (the model's choice, log entry 60), an erased sector reads ones and the request is answered OK; one that
fails or stays busy too long is answered FLASHERR with the event set, and no byte outside the page changes. Commands that it
shows completing: SWITCH, MAP, FLASHPROG, FLASHERASE, FLASH_OP_COMPLETE, FLASH_WIP_TIMEOUT. (08 Configuration Images: R216,
R218, R219, R222, 09 Upset Scrubber: R231, R232) -/
def Obligations.FlashAndMapRequests : Prop :=
  (∀ (s : State) (m n sub : Nat), s.mbxRuns m 0x23 = true → s.mbxArg m 0 = 2 ^ n → n < 32 → (∀ r, r ∈ s.cfg.swReqs → ¬ (r.wait = 0 ∧ r.posted = 0)) →
    (s.on (R.CTX_SG_CFG.EN_REG n) = false → exec (.switch m sub) s = .next (s.answerMbx m 0x42 0 (2 ^ n)).signal) ∧
    (s.on (R.CTX_SG_CFG.EN_REG n) = true → exec (.switch m sub) s = .next (((s.setCfg (fun c => { c with swReqs := c.swReqs ++
      [{ mbx := m, posted := 2 ^ n, from_ := s.instant (sub + 8000) }] })).sgPost n (s.instant (sub + 8000))).swSettle).signal)) ∧
  (∀ (s : State) (n now : Nat) (r : SwReq), n < 32 → s.cfg.swReqs = [r] → r.posted = 2 ^ n → r.wait = 0 → r.from_ ≤ now →
    s.swTaken n now true = s.setCfg (fun c => { c with swReqs := [{ r with posted := 0, wait := 2 ^ n }] }) ∧
    s.swTaken n now false = (s.setCfg (fun c => { c with swReqs := [] })).answerMbx r.mbx (if r.noten then 0x42 else 0) r.switched (r.refused + 2 ^ n)) ∧
  (∀ (s : State) (n : Nat) (r : SwReq) (ok : Bool), n < 32 → s.cfg.swReqs = [r] → r.posted = 0 → r.wait = 2 ^ n →
    s.swDone n ok = (s.setCfg (fun c => { c with swReqs := [] })).answerMbx r.mbx (if r.noten then 0x42 else 0)
      (if ok then r.switched + 2 ^ n else r.switched) (if ok then r.refused else r.refused + 2 ^ n)) ∧
  (∀ (s : State) (m src base c : Nat), s.mbxRuns m 0x24 = true → src = s.mbxArg m 0 → base = (if src = 0 then s.mbxAddr m 1 else s.mbxArg m 1) →
    c = s.mbxArg m 3 % 8 →
    (2 < src → exec (.map m) s = .next (s.answerMbx m 0x41 0 0).signal) ∧
    (src = 1 ∨ src = 2 → s.portBusy (src - 1) = true → exec (.map m) s = .next (s.answerMbx m 0x43 0 0).signal) ∧
    (∀ (r : State) (h : List Byte) (first count : Nat) (fits : Nat → Bool), src ≤ 2 → (src = 0 ∨ (s.portBusy (src - 1) = false ∧
      (s.portMode (src - 1) = 1 ∨ s.portMode (src - 1) = 2))) → s.imgRead src base 16 = (r, .inr h) → first = fieldAt h 6 2 → count = fieldAt h 8 2 →
      (∀ g, fits g = true ↔ g < 512 ∧ (s.slotState g c = slotPROOFED ∨ s.slotState g c = slotACTIVE) ∧
        s.g (R.CTX_SLOT_STATE.IMGTAG (g * 8 + c)) = fieldAt h 4 2) →
      ((fieldAt h 0 4 ≠ 0x4D454854 ∨ count = 0 ∨ 512 < count ∨ ∃ k, k < count ∧ fits (first + k) = false) →
        exec (.map m) s = .next (r.answerMbx m 0x44 0 0).signal) ∧
      (∀ (d : State) (valid : State → Bool → State) (rd : Nat ⊕ List Byte), fieldAt h 0 4 = 0x4D454854 → count ≠ 0 → count ≤ 512 →
        (∀ k, k < count → fits (first + k) = true) → (∀ t b, valid t b = t.each ((List.range count).map (first + ·)) (fun t g =>
          t.putBit (R.UPS_MAPVALID.VALID ((g * 8 + c) / 32)) ((g * 8 + c) % 32) b)) →
        (valid r false).imgRead src (base + 16) (count * 0x8000) = (d, rd) →
        (∀ e, rd = .inl e → exec (.map m) s = .next (d.answerMbx m ldSOURCE 0 0).signal) ∧
        (∀ l w, rd = .inr l → w = d.writeAt iniSuper (mapBase first c) l →
          exec (.map m) s = .next (if crc32c l ≠ BitVec.ofNat 32 (fieldAt h 12 4) then (d.answerMbx m 0x45 0 0).signal
            else if w.2 then ((valid w.1 true).answerMbx m 0 0 0).signal else (w.1.answerMbx m ldSOURCE 0 0).signal))))) ∧
  (∀ (s : State) (m p : Nat) (erase : Bool), s.mbxRuns m (if erase then 0x26 else 0x25) = true → p = s.mbxArg m 0 →
    ((1 < p ∨ s.mbxArg m 1 % (if erase then 65536 else 256) ≠ 0 ∨ s.portMode p = 0) →
      (if erase then exec (.flasherase m) s else exec (.flashprog m) s) = .next (s.answerMbx m 0x41 0 0).signal) ∧
    (p ≤ 1 → s.mbxArg m 1 % (if erase then 65536 else 256) = 0 → s.portMode p ≠ 0 → s.portBusy p = true →
      (if erase then exec (.flasherase m) s else exec (.flashprog m) s) = .next (s.answerMbx m 0x43 0 0).signal) ∧
    (p ≤ 1 → s.mbxArg m 1 % (if erase then 65536 else 256) = 0 → s.portMode p = 3 → s.portBusy p = false →
      (if erase then exec (.flasherase m) s else exec (.flashprog m) s) = .next ((s.raise R.CFG_EVENTS.FLASHERR).answerMbx m 0x46 0 0).signal) ∧
    (p ≤ 1 → s.mbxArg m 1 % (if erase then 65536 else 256) = 0 → (s.portMode p = 1 ∨ s.portMode p = 2) → s.portBusy p = false →
      (erase = true → exec (.flasherase m) s = .next ((s.flashSend p (s.flashCmd p 0x06 ++ s.flashCmd p 0xDC ++ s.flashCmd p 0x05)).setCfg (fun c =>
        { c with ops := c.ops.ins p { mbx := m, erase := true, offset := s.mbxArg m 1 } })).signal) ∧
      (∀ (r : State) (l : List Byte), erase = false → s.readAt iniConfig (s.mbxAddr m 2) 256 = (r, some l) →
        exec (.flashprog m) s = .next ((r.flashSend p (r.flashCmd p 0x06 ++ r.flashCmd p 0x12 ++ r.flashCmd p 0x05)).setCfg (fun c =>
          { c with ops := c.ops.ins p { mbx := m, offset := s.mbxArg m 1, data := l } })).signal) ∧
      (∀ r : State, erase = false → s.readAt iniConfig (s.mbxAddr m 2) 256 = (r, none) →
        exec (.flashprog m) s = .next (r.answerMbx m ldSOURCE 0 0).signal))) ∧
  (∀ (s : State) (p : Nat), s.cfg.ops.find p = none → (∀ ok, exec (.flashOpComplete p ok) s = .next s.signal) ∧
    exec (.flashWipTimeout p) s = .next s.signal) ∧
  (∀ (s : State) (p a : Nat) (o : FlashOp), s.cfg.ops.find p = some o → a = flashAddr p o.offset →
    (∃ t : State, exec (.flashOpComplete p true) s = .next (t.answerMbx o.mbx 0 0 0).signal ∧ t.csr = s.csr ∧ t.cfg.ops = s.cfg.ops.del p ∧
      (o.erase = false → o.data.length = 256 → (∀ i, i < 256 → t.byte (a + i) = (o.data.getD i 0#8) &&& s.byte (a + i)) ∧
        ∀ b, b < a ∨ a + 256 ≤ b → t.byte b = s.byte b) ∧
      (o.erase = true → (∀ b, memUnit b = memUnit a → t.byte b = 0xFF#8) ∧ ∀ b, memUnit b ≠ memUnit a → t.byte b = s.byte b)) ∧
    (∃ t : State, exec (.flashOpComplete p false) s = .next ((t.raise R.CFG_EVENTS.FLASHERR).answerMbx o.mbx 0x46 0 0).signal ∧
      exec (.flashWipTimeout p) s = exec (.flashOpComplete p false) s ∧ t.csr = s.csr ∧ t.cfg.ops = s.cfg.ops.del p ∧
      (o.erase = false → ∀ b, b < a ∨ a + 256 ≤ b → t.byte b = s.byte b) ∧ (o.erase = true → ∀ b, memUnit b ≠ memUnit a → t.byte b = s.byte b)))

/-- A pass begins in a region that the scrubber watches, unless the region switches or a pass runs. A bad stored frame of a
PROOFED slot that no switch in progress goes to makes the slot INVALID with READBACK and is counted as STORED; one of the
active slot, or of the slot a switch in progress goes to, whose latches still match its check is rewritten from them as TIER;
any other quarantines the region as UNCORR, frozen. A good frame, a frame of another slot state, or a scrubber that is off
changes nothing. Each finding sets its event and stands in UPS_LAST with its time. An upset of a latch of the active slot
changes that byte of the latch and no stored frame; one of a stored frame leaves what the latches hold; one of a bank owner's
entry changes a bit of the owner byte or of its check; an ember content of which both copies fail reads as its last column's
value and is reported. Commands that it shows completing: SCRUB_PASS_START, STORED_FRAME_CHECK, UPSET. (09 Upset Scrubber:
R223, R224, R225, R226, R227, R229, R233, 01 Device Organization: R15) -/
def Obligations.ScrubberFinds : Prop :=
  (∀ (s : State) (g : Nat), (s.scrubs g = true → s.switching g = false → (s.scrub g).pos = none →
      exec (.scrubPassStart g) s = .next ((s.setScrub g { s.scrub g with pos := some 0, clean := true, began := s.plantNs.toNat }).putB
        (R.UPS_REGION_STATUS.SCRUBBING g) true).signal) ∧
    (s.scrubs g = false ∨ s.switching g = true ∨ (s.scrub g).pos ≠ none → exec (.scrubPassStart g) s = .next s.signal)) ∧
  (∀ (s : State) (g c tile kind a : Nat), g < 512 → c < 8 → tile < 256 → kind ≤ 2 → a = frameAddr c g (tile / 16) (tile % 16) kind →
    ((s.on R.UPS_CTL.EN = false ∨ (s.frame a).good = true ∨ (s.slotState g c ≠ slotPROOFED ∧ s.slotState g c ≠ slotACTIVE ∧ (s.switching g = false ∨ s.g (R.CTX_REGION_CTL.NEXT g) ≠ c))) →
      exec (.storedFrameCheck a) s = .next s.signal) ∧
    (s.on R.UPS_CTL.EN = true → (s.frame a).good = false →
      (s.slotState g c = slotPROOFED → (s.switching g = false ∨ s.g (R.CTX_REGION_CTL.NEXT g) ≠ c) → exec (.storedFrameCheck a) s = .next
        (((s.setSlot g c slotINVALID).put (R.CTX_SLOT_STATE.LASTERR (g * 8 + c)) 0x13).finding 3 none g c tile kind).signal) ∧
      (s.slotState g c = slotACTIVE ∨ (s.slotState g c = slotPROOFED ∧ s.switching g = true ∧ s.g (R.CTX_REGION_CTL.NEXT g) = c) → s.on (R.UPS_REGION_STATUS.UNCORR g) = false →
        (diffBytes kind (s.latched a) (s.frame a).data ≠ [] → crc32c (s.latched a) = (s.frame a).check →
          exec (.storedFrameCheck a) s = .next (State.signal (State.finding { s with fab := { s.fab with
            frames := s.fab.frames.set a { s.frame a with data := s.latched a }, latch := s.fab.latch.set a none } } 1 (some false) g c tile kind))) ∧
        (crc32c (s.latched a) ≠ (s.frame a).check → exec (.storedFrameCheck a) s = .next ((s.quarantine g).finding 2 (some true) g c tile kind).signal)))) ∧
  (∀ (s : State) (g : Nat), g < 512 → (s.quarantine g).on (R.UPS_REGION_STATUS.UNCORR g) = true ∧ (s.quarantine g).on (R.UPS_REGION_STATUS.SCRUBBING g) = false ∧
    (s.quarantine g).on (R.SYS_FWD_STATUS.FROZEN g) = true) ∧
  (∀ (s t : State) (cls g c tile kind : Nat), cls ≤ 3 → g < 512 → c < 8 → tile < 256 → kind ≤ 2 → t = s.finding cls none g c tile kind →
    t.on (match cls with
      | 0 => R.UPS_EVENTS.LATCH
      | 1 => R.UPS_EVENTS.TIER
      | 2 => R.UPS_EVENTS.UNCORR
      | _ => R.UPS_EVENTS.STORED) = true ∧
    t.g R.UPS_LAST.CLASS = cls ∧ t.g R.UPS_LAST.SLOT = c ∧ t.g R.UPS_LAST.REGION = g ∧ t.g R.UPS_LAST.TILE = tile ∧ t.g R.UPS_LAST.KIND = kind ∧
    t.on R.UPS_LAST.ESS = false ∧ t.rw R.UPS_LASTTIME_LO.reg = s.plantNs.setWidth 32 ∧ t.rw R.UPS_LASTTIME_HI.reg = (s.plantNs >>> 32).setWidth 32 ∧
    t.g (R.UPS_REGION_STATUS.CORRCNT g) = (if cls ≤ 1 then min 255 (s.g (R.UPS_REGION_STATUS.CORRCNT g) + 1) else s.g (R.UPS_REGION_STATUS.CORRCNT g)) ∧
    t.mem = s.mem) ∧
  (∀ (s : State) (a i : Nat) (mask : Byte),
    (s.activeCtx (a / 0x100000 % 512) ≠ some (a / 0x20000000) → exec (.upset (.latch a i mask)) s = .next s.signal) ∧
    (s.activeCtx (a / 0x100000 % 512) = some (a / 0x20000000) → ∃ t : State, exec (.upset (.latch a i mask)) s = .next t.signal ∧
      t.fab.frames = s.fab.frames ∧ t.csr = s.csr ∧ t.mem = s.mem ∧ ∀ k, k < frameSize (a / 256 % 16) →
        frameByte (t.latched a) k = if k = i then frameByte (s.latched a) k ^^^ mask else frameByte (s.latched a) k) ∧
    (∃ t : State, exec (.upset (.stored a i mask)) s = .next t.signal ∧ t.csr = s.csr ∧ t.mem = s.mem ∧ (t.frame a).check = (s.frame a).check ∧
      (∀ k, k < frameSize (a / 256 % 16) →
        frameByte (t.frame a).data k = if k = i then frameByte (s.frame a).data k ^^^ mask else frameByte (s.frame a).data k) ∧
      (s.activeCtx (a / 0x100000 % 512) = some (a / 0x20000000) → ∀ k, k < frameSize (a / 256 % 16) →
        frameByte (t.latched a) k = frameByte (s.latched a) k)) ∧
    (∀ bit : Nat, bit % 16 < 8 → ∀ b, b = (s.ownerByte i).toNat ^^^ 2 ^ (bit % 8) →
      exec (.upset (.owner i bit)) s = .next ((s.put (R.MEM_BANK_OWNER.OWNER_A i) (b % 8)).put (R.MEM_BANK_OWNER.OWNER_B i) (b / 16 % 8)).signal) ∧
    (∀ bit : Nat, 8 ≤ bit % 16 → exec (.upset (.owner i bit)) s = .next (State.signal
      { s with mt := { s.mt with crc := s.mt.crc.set i (s.mt.crc.get i ^^^ (1#8 <<< (bit % 8))) } })) ∧
    exec (.upset (.ember i)) s = .next ((s.emberFail i).report (.ember i)).signal ∧
    exec (.upset (.xbar i)) s = .next (State.signal { s with xbar := { s.xbar with bad := s.xbar.bad.set i true } }) ∧
    exec (.upset (.ledger i)) s = .next (State.signal
      { s with lgr := { s.lgr with entries := s.lgr.entries.upd i (fun e => { e with bad := true }) } }))

/-- A pseudo-channel that stops answering has its bit in PCFAIL. An idle sweep engine grants the next pending region in ring
order from its token: SWEEPING with BOUNDARY 0, and the token moves past it. One group swept sets the counters of its 16
lines to 0 and moves BOUNDARY by 16, and after the last group the generation is one more, the key slots change places, and
the region is STEADY, or PENDING again when AGAIN is set; no plain byte of memory changes by it, unless held writes go on; a
node that fails its check halts the device instead. A refresh shows the temperature and flags HOT when it rises past 85
degrees; a calibration changes nothing. A stack trained in service is ON with its regions STEADY in generation 1 and its
write counters 0, or FAILED. SCRACCESS sets the rights of all the regions it names or of none. Commands that it shows
completing: PC_FAIL, SWEEP_GRANT, SWEEP_GROUP, HBM_REFRESH, HBM_CALIBRATION, SCRACCESS, HBM_TRAINING_DONE. (11 HBM and the
Inline Scrambler: R256, R259, R262, R264, R267, R273, R275, R277, R280) -/
def Obligations.HbmAndScrambler : Prop :=
  (∀ (s : State) (k p : Nat), k < 4 → ∃ t : State, exec (.pcFail k p) s = .next t.signal ∧ (p < 32 → t.bit (R.HBM_STACK_PCFAIL.PCFAIL k) p = true) ∧
    t.on R.HBM_EVENTS.PCFAIL = true ∧ t.mem = s.mem ∧ regsBut [R.HBM_STACK_PCFAIL.reg k, R.HBM_EVENTS.reg] s t) ∧
  (∀ (s : State) (k : Nat), (s.hbm.engine.get k ≠ none → exec (.sweepGrant k) s = .next s.signal) ∧
    ((∀ i, i < 24 → s.scrState (24 * k + i) ≠ 1) → exec (.sweepGrant k) s = .next s.signal) ∧
    (∀ d r : Nat, s.hbm.engine.get k = none → d < 24 → r = 24 * k + (s.hbm.token.get k + d) % 24 → k < 4 → s.scrState r = 1 →
      (∀ e, e < d → s.scrState (24 * k + (s.hbm.token.get k + e) % 24) ≠ 1) →
      ∃ t : State, exec (.sweepGrant k) s = .next t.signal ∧ t.scrState r = 2 ∧ t.g (R.SCR_REGION_BOUNDARY.BOUNDARY r) = 0 ∧
        t.bit R.SCR_STATUS.SWEEPING k = true ∧ t.hbm.engine.get k = some r ∧ t.hbm.token.get k = (r - 24 * k + 1) % 24 ∧
        t.hbm.ctr = s.hbm.ctr ∧ t.mem = s.mem ∧
        regsBut [R.SCR_REGION_KEYSEL.reg r, R.SCR_REGION_BOUNDARY.reg r, R.SCR_STATUS.reg] s t)) ∧
  (∀ (s : State) (k : Nat) (e : HbmErr), (s.hbm.engine.get k = none → exec (.sweepGroup k e) s = .next s.signal) ∧
    ∀ r b : Nat, s.hbm.engine.get k = some r → b = s.g (R.SCR_REGION_BOUNDARY.BOUNDARY r) → r / 24 = k → k < 4 →
      (∀ kind level node : Nat, s.treeFinding (r * 262144 + b) e = some (kind, level, node) →
        exec (.sweepGroup k e) s = .next (s.integrityHalt kind level node).signal) ∧
      (s.treeFinding (r * 262144 + b) e = none → s.hbm.hold.get k = [] → (∀ i, i < 8 → s.hbm.waiting.get (8 * k + i) = []) →
        ∃ t : State, exec (.sweepGroup k e) s = .next t.signal ∧ t.mem = s.mem ∧ t.fill = s.fill ∧
          (∀ l, t.hbm.ctr.get l = if r * 262144 + b ≤ l ∧ l < r * 262144 + b + 16 then 0 else s.hbm.ctr.get l) ∧
          (b + 16 < 262144 → t.g (R.SCR_REGION_BOUNDARY.BOUNDARY r) = b + 16 ∧ t.hbm.engine.get k = some r ∧
            regsBut [R.SCR_REGION_BOUNDARY.reg r] s t) ∧
          (b + 16 = 262144 → t.g (R.SCR_REGION_BOUNDARY.BOUNDARY r) = 0 ∧
            t.g (R.SCR_REGION_KEYSEL.GEN r) = (s.g (R.SCR_REGION_KEYSEL.GEN r) + 1) % 16777216 ∧
            t.g (R.SCR_REGION_KEYSEL.SLOT r) = 1 - s.g (R.SCR_REGION_KEYSEL.SLOT r) ∧
            t.scrState r = (if s.on (R.SCR_REGION_KEYSEL.AGAIN r) then 1 else 0) ∧ t.on (R.SCR_REGION_KEYSEL.AGAIN r) = false ∧
            t.on R.SCR_EVENTS.REKEYDONE = true ∧ t.bit R.SCR_STATUS.SWEEPING k = false ∧ t.hbm.engine.get k = none))) ∧
  (∀ (s : State) (k : Nat) (temp : BitVec 8), k < 4 → ∃ t : State, exec (.hbmRefresh k temp) s = .next t.signal ∧
    t.g (R.HBM_STACK_TEMP.TEMP k) = temp.toNat ∧ t.mem = s.mem ∧ t.hbm.ctr = s.hbm.ctr ∧
    t.hbm.fastRefresh.get k = decide (85 < temp.toInt) ∧
    t.on R.HBM_EVENTS.HOT = (s.on R.HBM_EVENTS.HOT || (decide (85 < temp.toInt) && !s.hbm.fastRefresh.get k)) ∧
    regsBut [R.HBM_STACK_TEMP.reg k, R.HBM_EVENTS.reg] s t) ∧
  (∀ (s : State) (k p : Nat), exec (.hbmCalibration k p) s = .next s.signal) ∧
  (∀ (s : State) (k : Nat) (ok : Bool), k < 4 → (s.stackState k ≠ 1 ∨ s.start.step ≠ none → exec (.hbmTrainingDone k ok) s = .next s.signal) ∧
    (s.stackState k = 1 → s.start.step = none → ok = false → ∃ t : State, exec (.hbmTrainingDone k ok) s = .next t.signal ∧ t.stackState k = 3 ∧
      t.on R.HBM_EVENTS.STATECHG = true ∧ t.mem = s.mem) ∧
    (s.stackState k = 1 → s.start.step = none → ok = true → ∃ t : State, exec (.hbmTrainingDone k ok) s = .next t.signal ∧ t.stackState k = 2 ∧
      t.on R.HBM_EVENTS.STATECHG = true ∧ (∀ i, i < 24 → t.rw (R.SCR_REGION_KEYSEL.reg (24 * k + i)) = 1 ∧ t.rw (R.SCR_REGION_BOUNDARY.reg (24 * k + i)) = 0 ∧
        t.rw (R.SCR_REGION_MAXCTR.reg (24 * k + i)) = 0) ∧ (∀ l, stackOfLine l = k → t.hbm.ctr.get l = 0) ∧
      (∀ l, stackOfLine l ≠ k → t.hbm.ctr.get l = s.hbm.ctr.get l) ∧ t.hbm.engine.get k = none ∧ ∀ a, memUnit a ≠ k → t.byte a = s.byte a)) ∧
  (∀ (s : State) (m first count : Nat), s.mbxRuns m 0x30 = true → first = s.mbxArg m 0 → count = s.mbxArg m 1 →
    ((count = 0 ∨ 96 < first + count) → exec (.scraccess m) s = .next (s.answerMbx m 0x41 0 0).signal) ∧
    (∀ v : Word, count ≠ 0 → first + count ≤ 96 → v = BitVec.ofNat 32 (s.mbxArg m 2 % 1024) →
      ((R.SCR_REGION_ACCESS.DBG 0).of v = 2 → s.policyBit 1 = false → exec (.scraccess m) s = .next (s.answerMbx m 0x50 0 0).signal) ∧
      ((R.SCR_REGION_ACCESS.DBG 0).of v ≠ 2 ∨ s.policyBit 1 = true → ∃ t : State, exec (.scraccess m) s = .next (t.answerMbx m 0 0 0).signal ∧
        (∀ r, first ≤ r → r < first + count → t.rw (R.SCR_REGION_ACCESS.reg r) = v) ∧
        regsBut ((List.range count).map (fun i => R.SCR_REGION_ACCESS.reg (first + i))) s t ∧ t.mem = s.mem)))

/-- A request takes the tag it names where that is free, else the lowest free one, and a region's goes through its adapter, which
takes it when its logic is powered, it has an active context and the reservation fits the context's quota, and else leaves it
waiting and nothing changed. A request of an initiator whose port is FENCED is answered FENCED, with the network stopped
CLOSED, to an address of no row DECERR, to a target its class may not reach DENIED, and one that breaks R284 BADREQ, each
without entering the mesh; every other enters it as a packet at its own router. Delivered to HBM, a request is answered
ABSENT when the stack is not ON, TGTERR when the pseudo-channel has failed, DENIED where the rights say so; else a read
brings the bytes and a write stores them with its line's counter one higher, and neither counter nor byte of another line
changes. One for a bank is taken by its column's interface. A port that is OFF or CLOSING answers CLOSED, DEAD one DEAD and a
FENCED one FENCED. A successful posted write gets no response; every other answer is a response packet at the target's
router. Commands that it shows completing: NOC_READ, NOC_WRITE, NOC_WRITEP, NOC_ADD16, NOC_SWAP16, NOC_ADD32, NOC_SWAP32,
NOC_BADOP, ADAPTER_REQUEST. (12 Network-on-Chip: R240, R283, R284, R288, R289, R302, R304, 11 HBM and the Inline Scrambler:
R261, R262, R268, R278) -/
def Obligations.NocRequests : Prop :=
  (∀ (s : State) (c : Instr) (n : Nat) (q r : Req), (c = .nocRead q ∧ n = 0) ∨ (c = .nocWrite q ∧ n = 1) ∨ (c = .nocWritep q ∧ n = 2) ∨
      (c = .nocAdd16 q ∧ n = 3) ∨ (c = .nocSwap16 q ∧ n = 4) ∨ (c = .nocAdd32 q ∧ n = 5) ∨ (c = .nocSwap32 q ∧ n = 6) ∨ (c = .nocBadop q ∧ n = q.op) →
    r = { q with op := n } → exec c s = .next (if q.ini < 512 then s.adapterRequest q.ini r
      else s.request { r with tag := s.pickTag q.ini (q.tag % 4096) } 0).vsmAnswers.hostAnswers.signal) ∧
  (∀ (s : State) (g : Nat) (q : Req), exec (.adapterRequest g q) s = .next (s.adapterRequest g q).vsmAnswers.hostAnswers.signal ∧
    (s.activeCtx g = none → s.adapterRequest g q = s) ∧
    ∀ x, s.activeCtx g = some x →
      (s.logicOn g = false ∨ s.g (R.NOC_REGION_QUOTA.QUOTA g) / 16 ^ x % 16 * 128 < (s.adapter g).used.get x + reserveUnits q.op q.len →
        s.adapterRequest g q = s) ∧
      (s.logicOn g = true → (s.adapter g).used.get x + reserveUnits q.op q.len ≤ s.g (R.NOC_REGION_QUOTA.QUOTA g) / 16 ^ x % 16 * 128 →
        s.adapterRequest g q = (s.reserve g x (reserveUnits q.op q.len)).request { q with ini := g, ctx := x, tag := s.pickTag g 0 } (q.tag % 256))) ∧
  (∀ (s : State) (ini want : Nat), (s.tagFree ini want = true → s.pickTag ini want = want) ∧
    (s.issuedOf ini want = none → s.noc.quarantine = [] → s.tagFree ini want = true)) ∧
  (∀ (s : State) (q : Req) (ftag : Nat), (s.portState (iniEp q.ini) = portFENCED → s.request q ftag = s.answerAtOnce q ftag 8) ∧
    (s.portState (iniEp q.ini) ≠ portFENCED → s.g R.NOC_STATUS.RUN = 0 → s.request q ftag = s.answerAtOnce q ftag 6) ∧
    (s.portState (iniEp q.ini) ≠ portFENCED → s.g R.NOC_STATUS.RUN ≠ 0 →
      (decodeAddr q.addr = none → s.request q ftag = (s.bump R.NOC_ERRCNT.DECERR 1).answerAtOnce q ftag 2) ∧
      ∀ t, decodeAddr q.addr = some t → (mayReach (classOf q.ini) t = false → s.request q ftag = s.answerAtOnce q ftag 3) ∧
        (mayReach (classOf q.ini) t = true → reqOk t q = false → s.request q ftag = s.answerAtOnce q ftag 4) ∧
        (mayReach (classOf q.ini) t = true → reqOk t q = true → s.request q ftag = s.inject q ftag (targetEp t q.addr)))) ∧
  (∀ (s : State) (q : Req) (ftag st : Nat), 512 ≤ q.ini → q.ini ≤ 515 →
    (s.answerAtOnce q ftag st).resp = some { status := st, data := if st = 5 then [0] else [] } ∧
    (s.answerAtOnce q ftag st).mem = s.mem ∧ (s.answerAtOnce q ftag st).noc.pkts = s.noc.pkts ∧
    (s.on R.NOC_STATCTL.FREEZE = false → st ≠ 0 →
      (s.answerAtOnce q ftag st).g (R.NOC_INI_ERR.ERRRSP q.ini) = min 65535 (s.g (R.NOC_INI_ERR.ERRRSP q.ini) + 1))) ∧
  (∀ (s : State) (q : Req) (ftag ep : Nat), q.ini ≠ iniVasum → (s.inject q ftag ep).mem = s.mem ∧
    (s.inject q ftag ep).noc.pkts = s.noc.pkts ++ [{
      addr := q.addr, dest := ep, src := iniEp q.ini, tag := q.tag, ctx := q.ctx, posted := decide (q.op = 2), len := q.len, op := q.op
      epoch := decide (s.g R.NOC_EPOCH.INJ = 1), iclass := classOf q.ini, data := if q.op = 0 then [] else q.data.take q.len
      router := iniEp q.ini / 16, port := 4 + iniEp q.ini % 16, ini := q.ini, raw := q.raw }] ∧
    (s.inject q ftag ep).noc.issued = s.noc.issued ++ [{
      ini := q.ini, tag := q.tag, op := q.op, len := q.len, addr := q.addr, ctx := q.ctx, ftag := ftag, tick := s.tick }]) ∧
  (∀ (s : State) (q : Req) (e : HbmErr) (l ep : Nat), decodeAddr q.addr = some .hbm → l = lineOf q.addr → ep = targetEp .hbm q.addr →
    (s.stackState (stackOfLine l) ≠ 2 → s.portState ep ≠ portDEAD → s.portState ep ≠ portFENCED →
      s.serveRequest q e = ((s.bump R.HBM_ERRCNT.ABSENT 1).raise R.HBM_EVENTS.ABSENT).respond ep q 5 1 []) ∧
    (s.stackState (stackOfLine l) = 2 → s.portState ep = portOPEN → s.hbm.waiting.get (apOfLine l) = [] →
      (s.pcFailed q.addr = true → s.serveRequest q e = (s.pcGrant (pcKey l) 0).respond ep q 5 2 []) ∧
      (s.pcFailed q.addr = false → s.hbmPermits (classOf q.ini) q.addr (decide (q.op ≠ 0)) q.raw = false →
        s.serveRequest q e = (s.pcGrant (pcKey l) 0).scrDenied.respond ep q 3 0 []) ∧
      (s.pcFailed q.addr = false → s.hbmPermits (classOf q.ini) q.addr (decide (q.op ≠ 0)) q.raw = true → q.addr < reservedBase → q.raw = false →
        (∀ kind level node, s.treeFinding l e = some (kind, level, node) → s.serveRequest q e = (s.pcGrant (pcKey l) 0).integrityHalt kind level node) ∧
        (s.treeFinding l e = none → e = .none → ∃ u : State, u.mem = s.mem ∧ u.fill = s.fill ∧ u.csr = s.csr ∧ u.noc = s.noc ∧ u.hbm.ctr = s.hbm.ctr ∧
          (q.op = 0 → s.serveRequest q e = u.respond ep q 0 0 (u.hbmBytes q.addr false q.len)) ∧
          (q.op ≠ 0 → s.saturated l = false → s.serveRequest q e = (u.hbmStore q.addr (q.data.take q.len)).respond ep q 0 0 []))))) ∧
  (∀ (s : State) (q : Req) (e : HbmErr) (t : Target4) (x : Nat), decodeAddr q.addr = some t → t ≠ .hbm →
    (portAnswer (s.portState (targetEp t q.addr)) = some x → s.serveRequest q e = s.respond (targetEp t q.addr) q x 0 []) ∧
    (s.portState (targetEp t q.addr) = portOPEN → t = .bank → s.serveRequest q e = s.bankAccept q) ∧
    (portAnswer portOFF = some 6 ∧ portAnswer portCLOSING = some 6 ∧ portAnswer portDEAD = some 7 ∧ portAnswer portFENCED = some 8)) ∧
  (∀ (s : State) (a l : Nat) (data : List Byte), a < reservedBase → (∀ i, i < data.length → (s.hbmStore a data).byte (a + i) = data.getD i 0#8) ∧
    (∀ b, b < a ∨ a + data.length ≤ b → (s.hbmStore a data).byte b = s.byte b) ∧
    (s.hbmStore a data).hbm.ctr.get l = if l = lineOf a then s.hbm.ctr.get l + 1 else s.hbm.ctr.get l) ∧
  (∀ (s : State) (ep : Nat) (q : Req) (st detail : Nat) (data : List Byte), (q.op = 2 → st = 0 → s.respond ep q st detail data = s.postedDone q) ∧
    (q.op ≠ 2 ∨ st ≠ 0 → (s.respond ep q st detail data).noc.pkts = s.noc.pkts ++ [{
      addr := q.addr, dest := iniEp q.ini, src := iniEp q.ini, tag := q.tag, ctx := q.ctx, posted := decide (q.op = 2)
      len := if st = 0 then q.len else detail, op := st, isRsp := true, epoch := decide (s.g R.NOC_EPOCH.INJ = 1), iclass := classOf q.ini
      data := data, router := ep / 16, port := 4 + ep % 16, ini := q.ini }]))

/-- A router output forwards the packet that its token names, of the class whose turn it is or of the other, to the next router's
facing port, where there is room for it; the token moves past its port and the turn passes; with no candidate, or in a halt,
nothing moves. A packet whose header was struck is discarded, counted and reported. At a LOCAL output a request is served by
its target and a response waits at its initiator's endpoint. A response taken there completes the request it answers; WAIT
completes nothing; one for no waiting request, or at a port that is OFF, is discarded and counted LATE. The fabric's answer
to a request its adapter presented becomes a response, DONE with data padded to LEN or TGTERR; one for no such request is
dropped and counted, LATE at a dead port and BADRSP otherwise. RXTAKE takes one beat of the packet presented, and the last
beat takes the packet away. Commands that it shows completing: PACKET_FORWARD, NOC_RESPONSE, ADAPTER_RESPONSE_SEND, RXTAKE.
(12 Network-on-Chip: R286, R287, R288, R289, R291, R292, R293, R295, R299, R300, R301) -/
def Obligations.PacketsTravel : Prop :=
  (∀ (s : State) (router out : Nat) (hit : Bool) (e : HbmErr), exec (.packetForward router out hit e) s =
      .next (s.forward router out hit e).vsmAnswers.hostAnswers.signal ∧
    (s.g R.NOC_STATUS.RUN = 0 ∨ s.granted router out = none → s.forward router out hit e = s) ∧
    ∀ (cls : Bool) (port : Nat) (p : Packet) (s' : State), s.g R.NOC_STATUS.RUN ≠ 0 → s.granted router out = some (cls, port, p) →
      s' = s.leave router out cls port p →
      (∀ nx, out < 4 → neighbour router out = some nx → (hit = false → s.forward router out hit e = s'.nextRouter nx out p) ∧
        (hit = true → s.forward router out hit e = s'.headerFail nx)) ∧
      (4 ≤ out → (hit = true → s.forward router out hit e = s'.headerFail router) ∧
        (hit = false → p.isRsp = true →
          s.forward router out hit e = { s' with noc := { s'.noc with inbox := s'.noc.inbox ++ [p] } }) ∧
        (hit = false → p.isRsp = false → s.forward router out hit e = s'.serveRequest (reqOf p) e))) ∧
  (∀ (s : State) (router out : Nat) (cls first : Bool) (port : Nat) (p : Packet), first = decide (s.noc.token.get (router * 128 + out * 4 + 2) = 1) →
    s.granted router out = some (cls, port, p) → s.candidate router out cls = some (port, p) ∧
    (cls = first ∨ (cls = !first ∧ s.candidate router out first = none))) ∧
  (∀ (s : State) (router out port : Nat) (rsp : Bool) (p : Packet), s.candidate router out rsp = some (port, p) →
    p ∈ s.noc.pkts ∧ p.router = router ∧ p.port = port ∧ p.isRsp = rsp ∧ s.outOf p = some out ∧ s.roomBeyond router out p = true) ∧
  (∀ (s : State) (router out port nx : Nat) (cls : Bool) (p : Packet), s.noc.share = [] →
    (s.leave router out cls port p).noc.pkts = s.noc.pkts.erase p ∧
    (s.leave router out cls port p).noc.token.get (router * 128 + out * 4 + cls.toNat) = (port + 1) % 20 ∧
    (s.leave router out cls port p).noc.token.get (router * 128 + out * 4 + 2) = (!cls).toNat ∧ (s.leave router out cls port p).mem = s.mem ∧
    regsBut [R.NOC_ROUTER_STATUS.reg router] s (s.leave router out cls port p) ∧
    (s.nextRouter nx out p).noc.pkts = s.noc.pkts ++ [{ p with router := nx, port := farPort out }] ∧ (s.nextRouter nx out p).mem = s.mem ∧
    regsBut [R.NOC_ROUTER_STATUS.reg nx] s (s.nextRouter nx out p) ∧
    (nx < 64 → (s.headerFail nx).g (R.NOC_ROUTER_STATUS.HDRERR nx) = min 65535 (s.g (R.NOC_ROUTER_STATUS.HDRERR nx) + 1) ∧
      (s.headerFail nx).on R.NOC_EVENTS.HDRCHK = true ∧ (s.headerFail nx).faultLog = s.faultLog ++ [.nocHeader nx] ∧ (s.headerFail nx).noc = s.noc)) ∧
  (∀ (s : State) (ini tag : Nat) (here : Option Packet), here = s.noc.inbox.find? (fun p => p.ini = ini && decide (p.tag = tag)) →
    exec (.nocResponse ini tag) s = .next (s.takeResponse ini tag).vsmAnswers.hostAnswers.signal ∧ (here = none → s.takeResponse ini tag = s) ∧
    ∀ (p : Packet) (s' : State), here = some p → s' = { s with noc := { s.noc with inbox := s.noc.inbox.erase p } } →
      (p.op = 1 → s.takeResponse ini tag = s') ∧
      (p.op ≠ 1 → (s.issuedOf ini tag = none ∨ s.portState (iniEp ini) = portOFF) →
        s.takeResponse ini tag = s'.bump (R.NOC_PORT_STATUS.LATE (iniEp ini)) 1) ∧
      (∀ i, p.op ≠ 1 → s.issuedOf ini tag = some i → s.portState (iniEp ini) ≠ portOFF →
        s.takeResponse ini tag = s'.complete i p.op (if p.op = 0 then 0 else p.len) p.data)) ∧
  (∀ (s : State) (g rtag status detail : Nat) (data : List Byte) (x : Option Owed),
    x = s.noc.owed.find? (fun o => o.dest = regionEp g && decide (o.rtag = rtag) && decide (rtag < 64)) →
    (x = none → s.portState (regionEp g) = portDEAD →
      exec (.adapterResponseSend g rtag status detail data) s = .next (s.bump (R.NOC_PORT_STATUS.LATE (regionEp g)) 1).signal) ∧
    (x = none → s.portState (regionEp g) ≠ portDEAD →
      exec (.adapterResponseSend g rtag status detail data) s = .next (s.bump (R.NOC_REGION_CFG.BADRSP g) 1).signal) ∧
    (∀ (o : Owed) (s' : State), x = some o → s' = { s with noc := { s.noc with owed := s.noc.owed.filter (fun y => !(y = o)) } } →
      (∀ y, y ∈ s.noc.owed → ¬(y.dest = regionEp g ∧ y.rtag = 64)) →
      (status = 0 → exec (.adapterResponseSend g rtag status detail data) s = .next
        (s'.respond (regionEp g) o.req 0 0 (if o.req.op = 0 then (data ++ List.replicate o.req.len 0#8).take o.req.len else [])).signal) ∧
      (status ≠ 0 → exec (.adapterResponseSend g rtag status detail data) s = .next (s'.respond (regionEp g) o.req 5 (detail % 256) []).signal))) ∧
  (∀ (s : State) (g : Nat), (s.g R.NOC_STATUS.RUN = 0 → exec (.rxtake g) s = .next s.signal) ∧
    (s.rspHead g = none → (s.adapter g).req = [] → exec (.rxtake g) s = .next s.signal) ∧
    (∀ (p : FabPkt) (rest : List FabPkt), s.g R.NOC_STATUS.RUN ≠ 0 → s.rspHead g = none → (s.adapter g).req = p :: rest → p ∉ rest → p.beats ≠ [] →
      ∃ t : State, exec (.rxtake g) s = .next t.signal ∧ t.resp = some { status := stOK, data := natBytes (p.beats.headD 0#256).toNat 32 } ∧
        (t.adapter g).req = (if p.beats.length = 1 then rest else { p with beats := p.beats.drop 1, started := true } :: rest) ∧
        (t.adapter g).rsp = (s.adapter g).rsp ∧ t.csr = s.csr ∧ t.mem = s.mem) ∧
    (∀ (p : FabPkt) (c : Nat), s.g R.NOC_STATUS.RUN ≠ 0 → s.rspHead g = some p → p.ctx = some c → (s.adapter g).req = [] → p.beats.length = 1 →
      ∃ t : State, exec (.rxtake g) s = .next t.signal ∧ t.resp = some { status := stOK, data := natBytes (p.beats.headD 0#256).toNat 32 } ∧
        (t.adapter g).rsp = (s.adapter g).rsp.erase p ∧ (t.adapter g).used.get c = (s.adapter g).used.get c - p.units ∧ t.mem = s.mem ∧
        regsBut [R.NOC_REGION_CFG.reg g] s t))

/-- A port that owes an answer past its time becomes DEAD, counts it, is reported, and the router answers every request it owes;
a port that owes none, or only suspended requests, stays as it is. WAIT answers the initiator of every suspended request with
an interim WAIT. A request whose initiator gives up is completed TIMEOUT and its tag rests for 2 × INI. A reclaim by the
supervisor fences the port and answers FENCED what it owes and what it waits for; to any other writer it is an error
response. REVIVE takes a DEAD or FENCED port to OPEN or OFF by its domain. A CLOSING port with nothing left becomes OFF. FLIP
starts a check; at its end the epoch flips with DRAINED 0, or ERR names the lowest refusal of Table 12.11 and nothing else
changes. Once no packet of the old epoch is left, DRAINED is 1. STATS_CLEAR zeroes the counters of every initiator and
nothing else. Commands that it shows completing: TARGET_TIMEOUT, INITIATOR_TIMEOUT, WAIT, FLIP, FLIP_CHECK_END,
EPOCH_DRAINED, NOC_RECLAIM, REVIVE, PORT_CLOSE_COMPLETE, STATS_CLEAR. (12 Network-on-Chip: R296, R297, R298, R299, R300,
R301, R302, R303, R304, 24 Address Map and Registers: R515) -/
def Obligations.PortsAndEpochs : Prop :=
  (∀ (s : State) (ep : Nat), ep < 1024 →
    (((∀ o, o ∈ s.noc.owed → o.dest = ep → o.suspended = true) ∨ (s.portState ep ≠ portOPEN ∧ s.portState ep ≠ portCLOSING)) →
      exec (.targetTimeout ep) s = .next s.signal) ∧
    (∀ o, o ∈ s.noc.owed → o.dest = ep → o.suspended = false → (s.portState ep = portOPEN ∨ s.portState ep = portCLOSING) →
      ∃ t : State, exec (.targetTimeout ep) s = .next t.signal ∧ t.portState ep = portDEAD ∧ t.on R.NOC_EVENTS.DEAD = true ∧
        t.g (R.NOC_PORT_STATUS.DEADCNT ep) = min 255 (s.g (R.NOC_PORT_STATUS.DEADCNT ep) + 1) ∧ t.faultLog = s.faultLog ++ [.portDead ep] ∧
        t.noc.owed = s.noc.owed.filter (fun o => !(o.dest = ep)) ∧ t.mem = s.mem ∧
        regsBut [R.NOC_PORT_STATUS.reg ep, R.NOC_EVENTS.reg, R.NOC_STATUS.reg] s t ∧
        ∀ x, x ∈ s.noc.owed → x.dest = ep → ∃ p, p ∈ t.noc.pkts ∧ p.isRsp = true ∧ p.op = 7 ∧ p.dest = iniEp x.req.ini ∧ p.tag = x.req.tag)) ∧
  (∀ (s : State) (ep : Nat), ∃ t : State, exec (.wait ep) s = .next t.signal ∧ t.csr = s.csr ∧ t.mem = s.mem ∧ t.noc.owed = s.noc.owed ∧
    t.noc.pkts.length = s.noc.pkts.length + (s.noc.owed.filter (fun o => o.dest = ep && o.suspended)).length ∧
    ∀ o, o ∈ s.noc.owed → o.dest = ep → o.suspended = true → ∃ p, p ∈ t.noc.pkts ∧ p.isRsp = true ∧ p.op = 1 ∧ p.dest = iniEp o.req.ini ∧ p.tag = o.req.tag) ∧
  (∀ (s : State) (ini tag : Nat), exec (.initiatorTimeout ini tag) s = .next (s.initiatorTimeout ini tag).vsmAnswers.hostAnswers.signal ∧
    (s.issuedOf ini tag = none → s.initiatorTimeout ini tag = s) ∧
    (∀ i, s.issuedOf ini tag = some i → 512 ≤ ini → ini ≤ 515 → (s.initiatorTimeout ini tag).noc.issued = s.noc.issued.erase i ∧
      (s.initiatorTimeout ini tag).resp = some { status := 9, data := [] } ∧ (s.initiatorTimeout ini tag).on R.NOC_EVENTS.TIMEOUT = true ∧
      (s.initiatorTimeout ini tag).noc.quarantine = s.noc.quarantine ++ [(ini * 4096 + tag, s.tick + 2 * s.g R.NOC_TMO.INI * 250)] ∧
      (s.initiatorTimeout ini tag).mem = s.mem)) ∧
  (∀ (s : State) (w : Who) (ep : Nat), w ≠ .super → exec (.nocReclaim w ep) s = .next (s.answerWith stERR []).signal) ∧
  (∀ (s : State) (ep : Nat), exec (.nocReclaim .super ep) s = .next ((s.nocReclaim ep).answerWith stOK []).vsmAnswers.hostAnswers.signal ∧
    (epExists ep = false → s.nocReclaim ep = s) ∧
    (∀ t : State, ep < 1024 → epExists ep = true → iniAt ep = none → t = s.nocReclaim ep → t.portState ep = portFENCED ∧ t.on R.NOC_EVENTS.FENCED = true ∧
      t.noc.owed = s.noc.owed.filter (fun o => !(o.dest = ep)) ∧ t.mem = s.mem ∧
      regsBut [R.NOC_PORT_STATUS.reg ep, R.NOC_EVENTS.reg, R.NOC_STATUS.reg] s t ∧
      ∀ x, x ∈ s.noc.owed → x.dest = ep → ∃ p, p ∈ t.noc.pkts ∧ p.isRsp = true ∧ p.op = 8 ∧ p.dest = iniEp x.req.ini ∧ p.tag = x.req.tag)) ∧
  (∀ (s : State) (ep : Nat), ep < 1024 →
    (s.portState ep ≠ portDEAD → s.portState ep ≠ portFENCED → exec (.revive ep) s = .next s.signal) ∧
    ((s.portState ep = portDEAD ∨ s.portState ep = portFENCED) → ∃ t : State, exec (.revive ep) s = .next t.signal ∧
      t.portState ep = (if s.pdOn (epDomain ep) = true ∧ epExists ep = true then portOPEN else portOFF) ∧ t.noc = s.noc ∧
      regsBut [R.NOC_PORT_STATUS.reg ep, R.NOC_STATUS.reg] s t) ∧
    (s.portState ep ≠ portCLOSING ∨ (∃ o, o ∈ s.noc.owed ∧ o.dest = ep) → exec (.portCloseComplete ep) s = .next s.signal) ∧
    (s.portState ep = portCLOSING → (∀ o, o ∈ s.noc.owed → o.dest ≠ ep) → (∀ i ini, i ∈ s.noc.issued → iniAt ep = some ini → i.ini ≠ ini) →
      ∃ t : State, exec (.portCloseComplete ep) s = .next t.signal ∧ t.portState ep = portOFF ∧ t.on R.NOC_EVENTS.CLOSED = true ∧
        regsBut [R.NOC_PORT_STATUS.reg ep, R.NOC_EVENTS.reg] s t)) ∧
  (∀ s : State, ∃ t : State, exec .flip s = .next t.signal ∧ t.noc.checking = true ∧ t.on R.NOC_EPOCH.FLIP = true ∧ t.noc.pkts = s.noc.pkts ∧
    t.g R.NOC_EPOCH.INJ = s.g R.NOC_EPOCH.INJ ∧ regsBut [R.NOC_EPOCH.reg] s t) ∧
  (∀ s : State, (s.noc.checking = false → exec .flipCheckEnd s = .next s.signal) ∧
    (s.noc.checking = true → s.flipCheck ≠ 0 → s.flipCheck < 16 → ∃ t : State, exec .flipCheckEnd s = .next t.signal ∧ t.noc.checking = false ∧
      t.g R.NOC_EPOCH.ERR = s.flipCheck ∧ t.on R.NOC_EPOCH.FLIP = false ∧ t.g R.NOC_EPOCH.INJ = s.g R.NOC_EPOCH.INJ ∧
      t.on R.NOC_EPOCH.DRAINED = s.on R.NOC_EPOCH.DRAINED ∧ t.on R.NOC_EVENTS.FLIPERR = true ∧ regsBut [R.NOC_EPOCH.reg, R.NOC_EVENTS.reg] s t) ∧
    (s.noc.checking = true → s.flipCheck = 0 → ∃ t : State, exec .flipCheckEnd s = .next t.signal ∧ t.noc.checking = false ∧
      t.g R.NOC_EPOCH.ERR = 0 ∧ t.on R.NOC_EPOCH.FLIP = false ∧ t.g R.NOC_EPOCH.INJ = 1 - s.g R.NOC_EPOCH.INJ ∧
      t.on R.NOC_EPOCH.DRAINED = false ∧ t.on R.NOC_EVENTS.FLIPPED = true ∧ t.noc.pkts = s.noc.pkts) ∧
    (s.on R.NOC_EPOCH.DRAINED = false → s.flipCheck = 1)) ∧
  (∀ s : State, (s.on R.NOC_EPOCH.DRAINED = true ∨ (∃ p, p ∈ s.noc.pkts ∧ p.epoch ≠ decide (s.g R.NOC_EPOCH.INJ = 1)) →
      exec .epochDrained s = .next s.signal) ∧
    (s.on R.NOC_EPOCH.DRAINED = false → (∀ p, p ∈ s.noc.pkts → p.epoch = decide (s.g R.NOC_EPOCH.INJ = 1)) →
      exec .epochDrained s = .next ((s.putB R.NOC_EPOCH.DRAINED true).raise R.NOC_EVENTS.DRAINED).signal)) ∧
  (∀ s : State, ∃ t : State, exec .statsClear s = .next t.signal ∧
    (∀ a, 0x604000 ≤ a → a < 0x604000 + 520 * 0x40 → t.rw a = resetWord a) ∧ (∀ a, a < 0x604000 ∨ 0x604000 + 520 * 0x40 ≤ a → t.rw a = s.rw a) ∧
    t.noc = s.noc ∧ t.mem = s.mem)

/-- Enabling a stream lane whose ring does not fit its window sets CFGERR; else EN is set and a lane that is OFF waits for its
PLL or, with the PLL locked, for its signal; one still stopping starts again afterwards. Disabling takes the lane to OFF,
after the transmit block in progress. A PLL with a setting the device does not start fails; else its lock takes every waiting
lane of the quad to CDR. CDR lock takes an 8b/10b lane to ALIGN and a raw lane to UP. A valid code group in UP on an 8b/10b
stream lane becomes one entry, its byte and K flag; an invalid one counts CODEERR and sets the error bit of its entry; a raw
word becomes one entry. Loss of lock is counted, flagged and retrains a lane in UP, and no other. An eye scan starts only on
a lane in UP with none running (a write during one changes the fields of the next), and its end leaves the count with EDONE.
A full receive block is posted to its place in the ring, a transmit block is read from its place, and one not read in time is
replaced by fill and counted. Commands that it shows completing: LANE_ENABLE, LANE_DISABLE, PLL_LOCK, PLL_LOCK_TIMEOUT,
CDR_LOCK, LANE_SYMBOL_RECEIVE, LOSS_OF_LOCK, LANE_RETRAIN, ADAPT_SET_SEND, ESCAN_START, ESCAN_END, RX_BLOCK_POST,
TX_BLOCK_READ, TX_UNDERRUN. (13 Serial Lanes: R306, R308, R309, R310, R313, R315, R318, R321, R325, R326, R327) -/
def Obligations.SerialLanes : Prop :=
  (∀ (s : State) (n : Nat), n < 48 →
    (s.isStream n = true → (ringFits (s.rw (R.LANE_LANE_RXRING.reg n)) (s.rw (R.LANE_LANE_RXOFS.reg n)) = false ∨
        ringFits (s.rw (R.LANE_LANE_TXRING.reg n)) (s.rw (R.LANE_LANE_TXOFS.reg n)) = false) →
      exec (.laneEnable n) s = .next (s.raise R.LANE_EVENTS.CFGERR).signal) ∧
    ((s.isStream n = false ∨ (ringFits (s.rw (R.LANE_LANE_RXRING.reg n)) (s.rw (R.LANE_LANE_RXOFS.reg n)) = true ∧
        ringFits (s.rw (R.LANE_LANE_TXRING.reg n)) (s.rw (R.LANE_LANE_TXOFS.reg n)) = true)) →
      ∃ t : State, exec (.laneEnable n) s = .next t.signal ∧ t.on (R.LANE_LANE_CTL.EN n) = true ∧ t.mem = s.mem ∧
        regsBut [R.LANE_LANE_CTL.reg n, R.LANE_LANE_STATUS.reg n] s t ∧
        ((s.laneOf n).stopping = true → (t.laneOf n).again = true ∧ t.on (R.LANE_LANE_STATUS.BUSY n) = true ∧ t.stage n = s.stage n) ∧
        ((s.laneOf n).stopping = false → s.stage n = stOFF → s.laneUse n ≠ 0 → s.pdOn (quadDomain (n / 4)) = true →
          t.stage n = (if s.on (R.LANE_QUAD_STATUS.PLLLOCK (n / 4)) then stCDR else stPLL)) ∧
        ((s.laneOf n).stopping = false → (s.stage n ≠ stOFF ∨ s.laneUse n = 0 ∨ s.pdOn (quadDomain (n / 4)) = false) → t.stage n = s.stage n))) ∧
  (∀ (s : State) (n : Nat), n < 48 → ∃ t : State, exec (.laneDisable n) s = .next t.signal ∧ t.on (R.LANE_LANE_CTL.EN n) = false ∧ t.mem = s.mem ∧
    ((s.laneOf n).stopping = false → s.stage n ≠ stOFF → (s.laneOf n).again = false →
      ((s.isStream n = false ∨ (s.laneOf n).txq = []) → t.stage n = stOFF ∧ (t.laneOf n).txq = [] ∧ (t.laneOf n).bound = none) ∧
      (∀ b rest, s.isStream n = true → (s.laneOf n).txq = b :: rest → b.got = none →
        t.stage n = s.stage n ∧ (t.laneOf n).stopping = true ∧ t.on (R.LANE_LANE_STATUS.BUSY n) = true))) ∧
  (∀ (s : State) (q : Nat), q < 12 → (s.pdOn (quadDomain q) = false → exec (.pllLock q) s = .next s.signal ∧ exec (.pllLockTimeout q) s = .next s.signal) ∧
    (s.pdOn (quadDomain q) = true → s.pllOk q = false → exec (.pllLock q) s = .next (s.pllFail q).signal) ∧
    (s.pdOn (quadDomain q) = true → s.on (R.LANE_QUAD_STATUS.PLLLOCK q) = false → exec (.pllLockTimeout q) s = .next (s.pllFail q).signal) ∧
    (s.on (R.LANE_QUAD_STATUS.PLLLOCK q) = true → exec (.pllLockTimeout q) s = .next s.signal) ∧
    (s.pdOn (quadDomain q) = true → s.pllOk q = true → ∃ t : State, exec (.pllLock q) s = .next t.signal ∧ t.on (R.LANE_QUAD_STATUS.PLLLOCK q) = true ∧
      t.bit R.LANE_STATUS.PLLLOCK q = true ∧ t.bit R.LANE_STATUS.REFOK (q / 2) = true ∧ t.on (R.LANE_QUAD_STATUS.PLLERR q) = false ∧
      (∀ n, n / 4 = q → t.stage n = if s.stage n = stPLL then stCDR else s.stage n) ∧ t.lanes = s.lanes ∧ t.mem = s.mem)) ∧
  (∀ (s : State) (n : Nat), (s.stage n ≠ stCDR → s.stage n ≠ stRETRAIN → exec (.cdrLock n) s = .next s.signal) ∧
    ((s.stage n = stCDR ∨ s.stage n = stRETRAIN) → ∃ t : State, exec (.cdrLock n) s = .next t.signal ∧ t.mem = s.mem ∧
      t.stage n = (if s.laneUse n ≤ 2 then stALIGN else stUP) ∧
      (3 ≤ s.laneUse n → t.on (R.LANE_LANE_STATUS.POLINV n) = s.on (R.LANE_LANE_CFG.RXINV n)))) ∧
  (∀ (s : State) (n code b : Nat), (s.laneUse n = 0 ∨ (s.stage n ≠ stUP ∧ s.stage n ≠ stALIGN)) → exec (.laneSymbolReceive n code b) s = .next (s.laneFollow n).signal) ∧
  (∀ (s : State) (n code b : Nat) (l : Lane), l = s.laneOf n → s.stage n = stUP → s.on (R.LANE_LANE_ADAPT.MODE n) = true →
    (∀ x : Nat, s.laneUse n = 2 → l.bound = some b → l.winE < 15 → code < 1024 → x = (if s.on (R.LANE_LANE_STATUS.POLINV n) then 1023 - code else code) →
      l.entries.length + 1 < (ringBlk (s.rw (R.LANE_LANE_RXRING.reg n)) - 32) / 2 →
      (∀ d k, decodeGroup l.rd x = some (d, k) → ∃ t : State, exec (.laneSymbolReceive n code b) s = .next t.signal ∧
        (t.laneOf n).entries = (d + (if k then 256 else 0)) :: l.entries ∧ (t.laneOf n).rd = disparityAfter l.rd x ∧ t.csr = s.csr ∧ t.mem = s.mem) ∧
      (decodeGroup l.rd x = none → ∃ t : State, exec (.laneSymbolReceive n code b) s = .next t.signal ∧
        (∃ v, (t.laneOf n).entries = (v + 512) :: l.entries ∧ v < 512) ∧ (t.laneOf n).errs = l.errs + 1 ∧
        t.g (R.LANE_LANE_ERRCNT.CODEERR n) = min 65535 (s.g (R.LANE_LANE_ERRCNT.CODEERR n) + 1) ∧ regsBut [R.LANE_LANE_ERRCNT.CODEERR n |>.addr] s t)) ∧
    (∀ w : Nat, s.laneUse n = 3 ∨ s.laneUse n = 4 → w = (if s.laneUse n = 3 then 20 else 40) →
      l.entries.length + 1 < (ringBlk (s.rw (R.LANE_LANE_RXRING.reg n)) - 32) / s.entryBytes n →
      ∃ t : State, exec (.laneSymbolReceive n code b) s = .next t.signal ∧ t.csr = s.csr ∧
        (t.laneOf n).entries = (if s.on (R.LANE_LANE_CFG.RXINV n) then 2 ^ w - 1 - code % 2 ^ w else code % 2 ^ w) :: l.entries)) ∧
  (∀ (s : State) (n : Nat), n < 48 → (s.stage n ≠ stUP → exec (.lossOfLock n) s = .next s.signal ∧ exec (.laneRetrain n) s = .next s.signal) ∧
    (s.stage n = stUP → exec (.laneRetrain n) s = exec (.lossOfLock n) s ∧ ∃ t : State, exec (.lossOfLock n) s = .next t.signal ∧ t.stage n = stRETRAIN ∧
      t.on R.LANE_EVENTS.LOL = true ∧ t.g (R.LANE_LANE_STATUS.LOLCNT n) = min 255 (s.g (R.LANE_LANE_STATUS.LOLCNT n) + 1) ∧
      (t.laneOf n).bound = none ∧ (t.laneOf n).txq = [] ∧ t.mem = s.mem)) ∧
  (∀ (s : State) (n : Nat), (s.laneUse n = 1 → s.stage n = stUP ∨ s.stage n = stALIGN →
      exec (.adaptSetSend n) s = .next (s.setLane n { s.laneOf n with out := adaptSet }).signal) ∧
    (s.laneUse n ≠ 1 ∨ (s.stage n ≠ stUP ∧ s.stage n ≠ stALIGN) → exec (.adaptSetSend n) s = .next s.signal)) ∧
  (∀ (s : State) (n count : Nat) (v : Word), (s.on (R.LANE_LANE_ESCAN.START n) = true →
      exec (.escanStart n v) s = .next (s.wr (R.LANE_LANE_ESCAN.reg n) ((v &&& 0x1FFF003F#32) ||| 0x80000000#32)).signal) ∧
    (s.on (R.LANE_LANE_ESCAN.START n) = false → ∃ t : State, exec (.escanStart n v) s = .next t.signal ∧
      t.rw (R.LANE_LANE_ESCAN.reg n) = ((v &&& 0x1FFF003F#32) ||| (if s.stage n = stUP then 0x80000000#32 else 0#32)) ∧
      (s.stage n = stUP → t.rw (R.LANE_LANE_ESCNT.reg n) = 0 ∧ t.on (R.LANE_LANE_STATUS.EABORT n) = false) ∧
      regsBut [R.LANE_LANE_ESCAN.reg n, R.LANE_LANE_ESCNT.reg n, R.LANE_LANE_STATUS.reg n] s t) ∧
    (s.on (R.LANE_LANE_ESCAN.START n) = false → exec (.escanEnd n count) s = .next s.signal) ∧
    (s.on (R.LANE_LANE_ESCAN.START n) = true → ∃ t : State, exec (.escanEnd n count) s = .next t.signal ∧ t.on (R.LANE_LANE_ESCAN.START n) = false ∧
      t.rw (R.LANE_LANE_ESCNT.reg n) = BitVec.ofNat 32 (min count 0xFFFFFFFF) ∧ t.on (R.LANE_LANE_STATUS.EDONE n) = true ∧
      t.on (R.LANE_LANE_STATUS.EABORT n) = false ∧ t.on R.LANE_EVENTS.ESCANDONE = true)) ∧
  (∀ (s : State) (n : Nat), ((s.laneOf n).buf = [] → exec (.rxBlockPost n) s = .next s.signal) ∧
    (∀ (seq : Nat) (data : List Byte) (rest : List (Nat × List Byte)) (ring : Word), (s.laneOf n).buf = (seq, data) :: rest →
      s.issuedOf iniVasum (192 + 4 * n) = none → ring = s.rw (R.LANE_LANE_RXRING.reg n) →
      exec (.rxBlockPost n) s = .next ((s.setLane n { s.laneOf n with buf := rest }).request {
        ini := iniVasum, op := 2, addr := 0x6000000000 + ringRegion ring * 0x1000000 + (ringBase ring (s.rw (R.LANE_LANE_RXOFS.reg n)) +
          seq % ringLen ring * ringBlk ring), len := data.length, tag := 192 + 4 * n, data := data } 0).signal) ∧
    ((s.laneOf n).txq = [] → (s.stage n ≠ stUP ∨ s.isStream n = false) → exec (.txUnderrun n) s = .next s.signal ∧ exec (.txBlockRead n) s = .next s.signal) ∧
    (∀ ring : Word, (s.laneOf n).txq = [] → s.stage n = stUP → s.isStream n = true → (s.laneOf n).stopping = false →
      s.issuedOf iniVasum (4 * n + (s.laneOf n).txk % 4) = none → ring = s.rw (R.LANE_LANE_TXRING.reg n) →
      exec (.txBlockRead n) s = .next ((s.setLane n { s.laneOf n with
          txq := [{ tag := 4 * n + (s.laneOf n).txk % 4 }], txk := (s.laneOf n).txk + 1 }).request {
        ini := iniVasum, op := 0, addr := 0x6000000000 + ringRegion ring * 0x1000000 + (ringBase ring (s.rw (R.LANE_LANE_TXOFS.reg n)) +
          (s.laneOf n).txk % ringLen ring * ringBlk ring), len := ringBlk ring, tag := 4 * n + (s.laneOf n).txk % 4 } 0).signal) ∧
    (∀ b rest, (s.laneOf n).txq = b :: rest → b.got = none → (s.laneOf n).stopping = false → ∃ t : State, exec (.txUnderrun n) s = .next t.signal ∧
      (t.laneOf n).txq = rest ∧ (t.laneOf n).out = s.fillBlock n (ringBlk (s.rw (R.LANE_LANE_TXRING.reg n))) ∧ t.on R.LANE_EVENTS.TXUNDER = true ∧
      t.g (R.LANE_LANE_ERRCNT.TXUNDER n) = min 15 (s.g (R.LANE_LANE_ERRCNT.TXUNDER n) + 1) ∧ t.mem = s.mem))

/-- An enabled port is UP with its width when its lanes and the far end's ALIGN sets agree, ALIGNING while a lane aligns, else
DOWN; a disabled one, and one that loses its lanes, is DOWN with nothing held. An ALIGN set with a good check is noted, and
the eighth with SEEN on a lane of decided polarity takes the lane UP; one with a bad check is ignored. A bundle takes the
largest width its lanes give at DEGRADE, and widens at the agreed boundary. A frame on a port that is not UP is ignored; one
with a bad header is counted, reported and NAKed; one with a bad payload is counted; one that its port's role does not carry
fails; the next expected one is acted on. ACK frees the frames it covers, NAK and the retransmission timer send theirs again,
counted in RETX. WIDEN is answered, WIDENACK in time accepts a width. FAIL answers the tunnelled request it names or counts a
lost switch command, and RACK lets go the records it covers. A frame a command makes waits at its port; at the end of the
command each port sends what waits, one frame a grant, in rotation over its eight kinds of channel, each frame followed by an
IDLE set. Commands that it shows completing: BUNDLE_DEGRADE, BUNDLE_REJOIN, VSM_PORT_ENABLE, VSM_PORT_DISABLE,
ALIGN_SET_RECEIVE, PORT_DOWN, FRAME_RECEIVE, ACK_SEND, ACK, NAK, RETRANSMIT_TIMEOUT, WIDEN, WIDENACK, FAIL, RACK. (14 Vasum
Link: R323, R324, R332, R336, R340, R342, R343, R345, R346, R347, R350, R352, R364) -/
def Obligations.VasumPortsAndFrames : Prop :=
  (∀ (s : State) (p : Nat) (cfg : Word), p < 48 → ∃ t : State, exec (.vsmPortEnable p cfg) s = .next t.signal ∧
    t.rw (R.VSM_PORT_CFG.reg p) = ((cfg &&& 0xF0000000#32) ||| 0x80000000#32) ∧ t.mem = s.mem ∧
    (∀ u, u = s.wr (R.VSM_PORT_CFG.reg p) ((cfg &&& 0xF0000000#32) ||| 0x80000000#32) →
      t.vstate p = (if s.isUp p = true then vsUP else if u.farMatches p = true then vsUP
        else if (s.portLanes p).any (fun n => s.stage n = stALIGN || s.stage n = stUP) = true then vsALIGNING else vsDOWN) ∧
      (s.isUp p = false → u.farMatches p = true → t.g (R.VSM_PORT_STATUS.WIDTH p) = pow2Floor (s.lanesUp p)))) ∧
  (∀ (s : State) (p : Nat) (cfg : Word), p < 48 →
    (∃ t : State, exec (.vsmPortDisable p cfg) s = .next t.transmit.signal ∧ t.rw (R.VSM_PORT_CFG.reg p) = cfg &&& 0x70000000#32 ∧ t.vstate p = vsDOWN ∧
      t.vport p = {} ∧ t.mem = s.mem) ∧
    (s.vstate p = vsDOWN → exec (.portDown p) s = .next s.transmit.signal) ∧
    (s.vstate p ≠ vsDOWN → ∃ t : State, exec (.portDown p) s = .next t.twinFollow.transmit.signal ∧ t.vstate p = vsDOWN ∧ t.g (R.VSM_PORT_STATUS.WIDTH p) = 0 ∧
      t.vport p = {} ∧ t.on R.VSM_EVENTS.LINKCHG = true ∧ t.mem = s.mem)) ∧
  (∀ (s : State) (n : Nat) (lane chk : Byte), n < 48 → (chk ≠ crc8 [lane] ∨ s.laneUse n ≠ 1 → exec (.alignSetReceive n lane chk) s = .next s.transmit.signal) ∧
    (chk = crc8 [lane] → s.laneUse n = 1 → ∃ t : State, exec (.alignSetReceive n lane chk) s = .next t.transmit.signal ∧ (t.laneOf n).heard = true ∧
      (t.laneOf n).far = lane.toNat ∧ (t.laneOf n).seen = (if lane.getLsbD 7 then min 8 ((s.laneOf n).seen + 1) else (s.laneOf n).seen) ∧ t.mem = s.mem ∧
      (s.stage n = stALIGN → 7 ≤ (s.laneOf n).seen → lane.getLsbD 7 = true → (8 ≤ (s.laneOf n).keep ∨ 8 ≤ (s.laneOf n).flip) → t.stage n = stUP ∧
        t.g (R.LANE_LANE_STATUS.POLINV n) = (decide (8 ≤ (s.laneOf n).flip)).toNat ∧ t.g (R.LANE_LANE_STATUS.LPOS n) = lane.toNat % 4))) ∧
  (∀ (s : State) (q b w : Nat), q < 12 → b < 2 → w = pow2Floor (s.lanesUp (bundlePort q b)) →
    ((s.isUp (bundlePort q b) = false ∨ s.g (R.VSM_PORT_STATUS.WIDTH (bundlePort q b)) ≤ w) →
      ∀ lost, exec (.bundleDegrade q b lost) s = .next s.transmit.signal) ∧
    (s.isUp (bundlePort q b) = true → w < s.g (R.VSM_PORT_STATUS.WIDTH (bundlePort q b)) → w ≠ 0 → ∃ t : State, exec (.bundleDegrade q b []) s = .next t.transmit.signal ∧
      t.g (R.VSM_PORT_STATUS.WIDTH (bundlePort q b)) = w ∧ t.on R.LANE_EVENTS.DEGRADE = true ∧ t.isUp (bundlePort q b) = true ∧
      (t.vport (bundlePort q b)).widen = none ∧ (t.vport (bundlePort q b)).replay = (s.vport (bundlePort q b)).replay) ∧
    ((s.vport (bundlePort q b)).widen = none → exec (.bundleRejoin q b) s = .next s.signal) ∧
    (∀ c k, (s.vport (bundlePort q b)).widen = some (c, k, true) → s.isUp (bundlePort q b) = true → k ≤ w → k < 8 →
      s.g (R.VSM_PORT_STATUS.WIDTH (bundlePort q b)) < k → ∃ t : State, exec (.bundleRejoin q b) s = .next t.signal ∧
      t.g (R.VSM_PORT_STATUS.WIDTH (bundlePort q b)) = k ∧ t.on R.LANE_EVENTS.REJOIN = true ∧ (t.vport (bundlePort q b)).widen = none)) ∧
  (∀ (s : State) (p : Nat) (raw : List Byte) (f : VFrame) (hok pok : Bool), p < 48 → parseFrame raw = (f, hok, pok) → s.twin.asked = false →
    (s.isUp p = false → (f.chan ≠ 0 ∨ f.data.headD 0#8 ≠ 1#8 ∨ hok = false ∨ pok = false) → exec (.frameReceive p raw) s = .next s.transmit.signal) ∧
    (s.isUp p = true → hok = false → exec (.frameReceive p raw) s = .next
      (((s.bump (R.VSM_PORT_ERRCNT.HDRERR p) 1).report (.frame p f.chan)).sendNak p 0xFF 0).transmit.signal) ∧
    (s.isUp p = true → hok = true → chanKnown f.chan = false → exec (.frameReceive p raw) s = .next
      ((s.bump (R.VSM_PORT_ERRCNT.CTLERR p) 1).report (.frame p f.chan)).transmit.signal) ∧
    (s.isUp p = true → hok = true → pok = true → chanKnown f.chan = true → s.carries p f.chan = false → exec (.frameReceive p raw) s = .next
      (s.failCount p f.chan f.seq 1).transmit.signal) ∧
    (∀ t : State, s.isUp p = true → hok = true → pok = true → chanKnown f.chan = true → s.carries p f.chan = true → replayed f = false →
      f.seq = (s.vport p).rxSeq.get f.chan → (s.vport p).missing = [] →
      t = ((s.setVport p { s.vport p with rxSeq := (s.vport p).rxSeq.set f.chan ((f.seq + 1) % 65536) }).frameGo p f).transmit →
      exec (.frameReceive p raw) s = .next (if t.twin.asked then t.onResetReq else t).signal)) ∧
  (∀ (s : State) (p : Nat) (f : VFrame), (s.vEmit p f).vsm.sent = (p, none) :: (p, some { f with seq := (s.vport p).txSeq.get f.chan, retx := false }) :: s.vsm.sent ∧
    ((s.vEmit p f).vport p).txSeq.get f.chan = ((s.vport p).txSeq.get f.chan + 1) % 65536 ∧ (s.vEmit p f).csr = s.csr ∧
    (∀ d k : Nat, d < 8 → k = ((s.vport p).token + d) % 8 → (s.vport p).nextOf k = some f → (∀ e, e < d → (s.vport p).nextOf (((s.vport p).token + e) % 8) = none) →
      s.vGrant p = (s.setVport p { s.vport p with wait := (s.vport p).wait.erase f, token := (k + 1) % 8 }).vEmit p f) ∧
    ((∀ k, k < 8 → (s.vport p).nextOf k = none) → s.vGrant p = s) ∧
    ((∀ r, r ∈ s.vports → (s.vport r).wait = [] ∧ (s.vport r).widen = none) → s.transmit = s)) ∧
  (∀ (s : State) (p chan : Nat), ((s.vport p).ackDue.get chan = 0 → exec (.ackSend p chan) s = .next s.transmit.signal) ∧
    ((s.vport p).ackDue.get chan ≠ 0 → s.isUp p = true → exec (.ackSend p chan) s = .next
      ((s.setVport p { s.vport p with ackDue := (s.vport p).ackDue.set chan 0 }).vSend p {
        src := s.node, len := 12, data := controlData (natBytes 1 1 ++ (natBytes chan 1 ++ natBytes ((s.vport p).inOrder chan) 2)) }).transmit.signal)) ∧
  (∀ (s : State) (p chan seq : Nat),
    (chan ≠ 0x42 → s.isUp p = true → ∃ t : State, exec (.ack p chan seq) s = .next t.transmit.signal ∧ t.csr = s.csr ∧ t.mem = s.mem ∧
      (t.vport p).replay = (s.vport p).replay.filter (fun e => !(decide (e.1.chan = chan) && seqLe e.1.seq seq))) ∧
    (∀ who : VFrame → Bool, (∀ e, e ∈ (s.vport p).replay → e.2 < 4) →
      ((∀ f, who f = (decide (chan = 0xFF) || (decide (f.chan = chan) && seqLe seq f.seq))) → ∃ t : State, exec (.nak p chan seq) s = .next t.transmit.signal ∧
        (t.vport p).replay = (s.vport p).replay.map (fun e => if who e.1 then ({ e.1 with retx := true }, e.2 + 1) else e) ∧
        t.rw (R.VSM_PORT_RETX.reg p) = (s.bump (R.VSM_PORT_RETX.RETX p) ((s.vport p).replay.filter (fun e => who e.1)).length).rw (R.VSM_PORT_RETX.reg p) ∧
        t.vsm.sent = (((s.vport p).replay.filter (fun e => who e.1)).reverse.flatMap (fun e => [(p, none), (p, some { e.1 with retx := true })])) ++ s.vsm.sent) ∧
      ((∀ f, who f = (decide (f.chan = chan) && decide (f.seq = seq))) → ∃ t : State, exec (.retransmitTimeout p chan seq) s = .next t.transmit.signal ∧
        (t.vport p).replay = (s.vport p).replay.map (fun e => if who e.1 then ({ e.1 with retx := true }, e.2 + 1) else e) ∧
        t.vsm.sent = (((s.vport p).replay.filter (fun e => who e.1)).reverse.flatMap (fun e => [(p, none), (p, some { e.1 with retx := true })])) ++ s.vsm.sent))) ∧
  (∀ (s : State) (p count width : Nat), (pow2Floor (s.lanesUp p) < width → exec (.widen p count width) s = .next s.transmit.signal) ∧
    (width ≤ pow2Floor (s.lanesUp p) → s.isUp p = true → exec (.widen p count width) s = .next
      (s.vSend p { src := s.node, len := 12, data := controlData (natBytes 4 1 ++ (natBytes 0 1 ++ natBytes count 2)) }).transmit.signal) ∧
    ((s.vport p).widen = none → exec (.widenack p count) s = .next s.transmit.signal) ∧
    (∀ w b, (s.vport p).widen = some (count, w, b) → (s.vport p).frames + 1 < count → exec (.widenack p count) s = .next
      (s.setVport p { s.vport p with widen := some (count, w, true) }).transmit.signal) ∧
    (∀ c w b, (s.vport p).widen = some (c, w, b) → (c ≠ count ∨ c ≤ (s.vport p).frames + 1) → exec (.widenack p count) s = .next (s.proposeWiden p).transmit.signal)) ∧
  (∀ (s : State) (chan etag reason : Nat),
    (chan = 0x30 ∨ chan = 0x44 → (∃ x, x ∈ s.vsm.tunOut ∧ x.etag = etag) → exec (.fail chan etag reason) s = .next (s.tunAnswer etag 5 reason []).transmit.signal) ∧
    (chan = 2 → exec (.fail chan etag reason) s = .next ((s.bump R.VSM_ERRCNT.SWDROP 1).raise R.VSM_EVENTS.SWDROP).transmit.signal) ∧
    (chan ≠ 2 → (∀ x, x ∈ s.vsm.tunOut → x.etag ≠ etag) → exec (.fail chan etag reason) s = .next s.transmit.signal)) ∧
  (∀ (s : State) (chan : Nat) (recseq : Word), (chan ≠ s.g R.LGR_VSM_DEST.CHANNEL → exec (.rack chan recseq) s = .next s.transmit.signal) ∧
    (chan = s.g R.LGR_VSM_DEST.CHANNEL → ∃ t : State, exec (.rack chan recseq) s = .next t.transmit.signal ∧
      t.vsm.reported = s.vsm.reported.filter (fun q => !decide ((recseq - q).toNat < 2147483648))))

/-- Only the grandmaster sends SYNC, on its DOWN ports. A SYNC on another port than UPPORT fails; one on it shows the grandmaster
and gives OFFSET, and a device that is FREE or in HOLDOVER goes to ACQUIRING, stepping its time when it is more than 1 us
off; the sixteenth good one in a row locks, and one more than 100 ns off ends LOCKED. DREQ goes out on UPPORT and is answered
with two times, and its answer gives the link delay. An angle channel broadcasts its axis while locked; a received one
latches value and source, and one from another source is a conflict; its gap limit clears the latch and fails its axes. A
switch command waits for its time, is refused late with code 6, and is dropped when plant time is not locked or eight wait;
at its time it triggers its groups. A tunnelled request goes out by its window or is answered DECERR or BUSY; one that
arrives is performed as initiator 518, or answered NOTGT; an answer, or the end of its time, completes the request. A report
is taken into its ring and acknowledged, one that is there already only acknowledged, and a resend sends every record not yet
accepted. Commands that it shows completing: SYNC_SEND, SYNC, DREQ_SEND, DREQ, DRSP, HOLDOVER, ANGLE_EXPORT, ANGLE_FRAME,
GAPLIM_EXPIRY, SWITCH_COMMAND, SWITCH_AT_TICK, TUNNEL_REQUEST, TUNNELLED_REQUEST_ARRIVE, TUNNEL_RESPONSE, TUNNEL_TIMEOUT,
REPORT_FRAME_RECEIVE, REPORT_RESEND. (14 Vasum Link: R353, R354, R355, R357, R358, R359, R360, R361, R362, R363, R364, R365) -/
def Obligations.VasumServices : Prop :=
  (∀ s : State, (s.on R.VSM_TIME_CFG.GM = false → exec .syncSend s = .next s.transmit.signal) ∧
    (s.on R.VSM_TIME_CFG.GM = true → exec .syncSend s = .next (s.each s.downPorts (fun s p => s.sendTime p (timeData 1 1 s.node s.stamp 0#64))).transmit.signal)) ∧
  (∀ (s : State) (p hops node : Nat) (origin corr : DWord),
    (s.on R.VSM_TIME_CFG.GM = true ∨ s.g R.VSM_TIME_CFG.UPPORT ≠ p → exec (.sync p hops node origin corr) s = .next (s.failCount p 1 0 1).transmit.signal) ∧
    (∀ t : State, s.on R.VSM_TIME_CFG.GM = false → s.g R.VSM_TIME_CFG.UPPORT = p → s.twinTime = false → hops = 32 →
      t = (s.put R.VSM_GM.GMNODE node).put R.VSM_GM.GMHOPS 32 →
      exec (.sync p hops node origin corr) s = .next (t.syncApply p s.syncInt (origin + corr)).transmit.signal)) ∧
  (∀ (s t : State) (p span : Nat) (sent : DWord) (off : Int), p < 48 → off = (sent + (s.rw (R.VSM_PORT_DELAY.reg p)).signExtend 64 - s.stamp).toInt →
    t = s.syncApply p span sent →
    ((s.vport p).measured = false → t = s) ∧
    ((s.vport p).measured = true →
      t.rw R.VSM_TIME_OFS.reg = BitVec.ofInt 32 (max (-2147483648) (min 2147483647 off)) ∧
      (s.g R.VSM_STATUS.TSTATE = 0 ∨ s.g R.VSM_STATUS.TSTATE = 3 → t.g R.VSM_STATUS.TSTATE = 1 ∧
        (off.natAbs ≤ 256000 → t.rtc = s.rtc) ∧ (256000 < off.natAbs → t.rtc = s.rtc + BitVec.ofInt 80 (off * 256) ∧ t.on R.VSM_EVENTS.STEP = true)) ∧
      (s.g R.VSM_STATUS.TSTATE = 1 → t.g R.VSM_STATUS.TSTATE = (if off.natAbs ≤ 1024 ∧ 15 ≤ s.vsm.good then 2 else 1) ∧ t.rtc = s.rtc) ∧
      (s.g R.VSM_STATUS.TSTATE = 2 → t.g R.VSM_STATUS.TSTATE = (if 25600 < off.natAbs then 3 else 2) ∧ t.rtc = s.rtc))) ∧
  (∀ (s : State) (p : Nat), (s.on R.VSM_TIME_CFG.GM = true → s.twinTime = false → exec .dreqSend s = .next s.transmit.signal) ∧
    (s.on R.VSM_TIME_CFG.GM = false → s.twinTime = false → p = s.g R.VSM_TIME_CFG.UPPORT → s.isUp p = true →
      exec .dreqSend s = .next ((s.setVport p { s.vport p with t1 := s.stamp }).sendTime p (timeData 2 0 0 0#64 0#64)).transmit.signal) ∧
    exec (.dreq p) s = .next (s.sendTime p (timeData 3 0 0 s.stamp s.stamp)).transmit.signal) ∧
  (∀ (s : State) (p : Nat) (t2 t3 : DWord), s.twinTime = false →
    (s.on R.VSM_TIME_CFG.GM = true ∨ s.g R.VSM_TIME_CFG.UPPORT ≠ p → exec (.drsp p t2 t3) s = .next (s.failCount p 1 0 1).signal) ∧
    (s.on R.VSM_TIME_CFG.GM = false → s.g R.VSM_TIME_CFG.UPPORT = p → ∃ t : State, exec (.drsp p t2 t3) s = .next t.signal ∧ (t.vport p).measured = true ∧
      t.rw (R.VSM_PORT_DELAY.reg p) = BitVec.ofInt 32 (((s.stamp - (s.vport p).t1) - (t3 - t2)).toInt / 2 + (s.rw (R.VSM_PORT_ASYM.reg p)).toInt) ∧
      regsBut [R.VSM_PORT_DELAY.reg p] s t ∧ t.mem = s.mem)) ∧
  (∀ s : State, (s.g R.VSM_STATUS.TSTATE ≠ 2 ∨ s.on R.VSM_TIME_CFG.GM = true → exec .holdover s = .next s.signal) ∧
    (s.g R.VSM_STATUS.TSTATE = 2 → s.on R.VSM_TIME_CFG.GM = false → ∃ t : State, exec .holdover s = .next t.signal ∧ t.g R.VSM_STATUS.TSTATE = 3 ∧
      t.on R.ANG_STATUS.TICK_LOCK = false ∧ t.on R.ANG_STATUS.TICK_HOLD = true ∧ t.on R.VSM_EVENTS.TSTCHG = true ∧ t.rtc = s.rtc)) ∧
  (∀ (s : State) (k : Nat), (s.on (R.VSM_ANGTX.EN k) = false ∨ s.g R.VSM_STATUS.TSTATE ≠ 2 ∨ s.twinTime = true → exec (.angleExport k) s = .next s.transmit.signal) ∧
    (∀ n, s.on (R.VSM_ANGTX.EN k) = true → s.g R.VSM_STATUS.TSTATE = 2 → s.twinTime = false → n = s.g (R.VSM_ANGTX.AXIS k) →
      exec (.angleExport k) s = .next (s.originate {
        dest := 0xFFFF, chan := 0x10 + k, len := 32, data := withCrc (natBytes (s.axis n).value.toNat 8 ++ natBytes (BitVec.ofInt 32 ((s.axis n).vel / 256)).toNat 4 ++ natBytes s.plantNs.toNat 8 ++
        natBytes (s.axState n + 8 * (s.axis n).jump.toNat + 16 * s.g (R.ANG_AXIS_STATE.DIR n)) 1 ++ natBytes 0 9) }).transmit.signal)) ∧
  (∀ (s : State) (k src st : Nat) (value : DWord) (vel : Word) (time : DWord), k < 16 →
    (s.g R.VSM_STATUS.TSTATE ≠ 2 → exec (.angleFrame k src value vel time st) s = .next s.signal) ∧
    (s.g R.VSM_STATUS.TSTATE = 2 → (s.vsm.angRx.get k).latched = true → s.g (R.VSM_ANGRX.SRCNODE k) ≠ src →
      exec (.angleFrame k src value vel time st) s = .next (s.raise R.VSM_EVENTS.ANGCONF).signal) ∧
    (s.g R.VSM_STATUS.TSTATE = 2 → ((s.vsm.angRx.get k).latched = false ∨ s.g (R.VSM_ANGRX.SRCNODE k) = src) →
      (st % 8 = axLOCKED ∨ st % 8 = axCOAST) → ∃ t : State, exec (.angleFrame k src value vel time st) s = .next t.signal ∧
        t.vsm.angRx.get k = { value := value, vel := vel.toInt, time := time, latched := true, run := min 2 ((s.vsm.angRx.get k).run + 1) } ∧
        t.g (R.VSM_ANGRX.SRCNODE k) = src % 65536 ∧ regsBut [R.VSM_ANGRX.reg k] s t) ∧
    ((s.vsm.angRx.get k).latched = false → exec (.gaplimExpiry k) s = .next s.signal) ∧
    ((s.vsm.angRx.get k).latched = true → ∃ t : State, exec (.gaplimExpiry k) s = .next t.signal ∧ (t.vsm.angRx.get k).latched = false ∧
      t.g (R.VSM_ANGRX.SRCNODE k) = 0 ∧ ∀ n, n ∈ s.axesOf 4 k → s.axState n = axLOCKED → (t.axis n).fault = 2)) ∧
  (∀ (s : State) (mask time : Nat), (s.g R.VSM_STATUS.TSTATE ≠ 2 →
      exec (.switchCommand mask time) s = .next ((s.bump R.VSM_ERRCNT.SWDROP 1).raise R.VSM_EVENTS.SWUNLOCK).signal) ∧
    (s.g R.VSM_STATUS.TSTATE = 2 → s.plantNs.toNat + 200 ≤ time →
      (s.vsm.switches.length < 8 → exec (.switchCommand mask time) s = .next (s.setVsm (fun v => { v with switches := v.switches ++ [(time, mask)] })).signal) ∧
      (8 ≤ s.vsm.switches.length → exec (.switchCommand mask time) s = .next ((s.bump R.VSM_ERRCNT.SWDROP 1).raise R.VSM_EVENTS.SWDROP).signal)) ∧
    (∀ n, n < 32 → mask = 2 ^ n → s.g R.VSM_STATUS.TSTATE = 2 → time < s.plantNs.toNat + 200 → s.on (R.CTX_SG_CFG.EN_VSM n) = true →
      (s.on (R.CTX_SG_CFG.ARM n) = true → s.on (R.CTX_SG_CFG.REPEAT n) = true →
        exec (.switchCommand mask time) s = .next (s.sgRefuse n 6 ((s.members n).headD 0)).signal) ∧
      (s.on (R.CTX_SG_CFG.ARM n) = false → exec (.switchCommand mask time) s = .next s.signal))) ∧
  (∀ s : State, ((∀ x, x ∈ s.vsm.switches → s.plantNs.toNat < x.1) → exec .switchAtTick s = .next s.signal) ∧
    (∀ time n, s.vsm.switches = [(time, 2 ^ n)] → n < 32 → time ≤ s.plantNs.toNat → s.g R.VSM_STATUS.TSTATE = 2 → s.on (R.CTX_SG_CFG.EN_VSM n) = true →
      exec .switchAtTick s = .next ((s.setVsm (fun v => { v with switches := [] })).sgPostTick n).signal)) ∧
  (∀ (s : State) (q : Req) (w : Nat), w = (q.addr - 0xC000000000) / 0x100000000 →
    (s.on (R.VSM_WIN.EN w) = false → exec (.tunnelRequest q) s = .next (s.respond vasumEp q 2 0 []).transmit.signal) ∧
    (s.on (R.VSM_WIN.EN w) = true → 512 ≤ s.vsm.tunOut.length → exec (.tunnelRequest q) s = .next (s.respond vasumEp q 5 0x86 []).transmit.signal) ∧
    (∀ t : State, s.on (R.VSM_WIN.EN w) = true → s.vsm.tunOut.length < 512 → s.on R.TWIN_PEERWIN.EN = false → s.node ≠ 0 →
      t = State.setVsm { s with noc := { s.noc with owed := s.noc.owed ++ [{ dest := vasumEp, req := q }] } }
        (fun v => { v with etag := (v.etag + 1) % 65536, tunOut := v.tunOut ++ [{ req := q, etag := s.vsm.etag }] }) →
      exec (.tunnelRequest q) s = .next (t.originate {
        etag := s.vsm.etag, len := q.len, op := q.op, dest := s.g (R.VSM_WIN.NODE w), chan := 0x30,
        addr := s.g (R.VSM_WIN.REMBASE w) * 4294967296 + (q.addr - 0xC000000000) % 0x100000000,
        data := if q.op = 0 then [] else q.data.take q.len }).transmit.signal)) ∧
  (∀ (s : State) (src etag op addr len : Nat) (data : List Byte), src ≠ 0x10000 →
    (s.on R.VSM_TUN.TUNEN = false → exec (.tunnelledRequestArrive src etag op addr len data) s = .next
      (s.originate { etag := etag, op := 0xA, dest := src, chan := 0x31 }).transmit.signal) ∧
    (∀ t : State, s.on R.VSM_TUN.TUNEN = true → s.issuedOf iniVasum 512 = none → (∀ x, x ∈ s.vsm.tunIn → x.1 ≠ 512) →
      t = s.setVsm (fun v => { v with tunIn := v.tunIn ++ [(512, src, etag, op)] }) →
      exec (.tunnelledRequestArrive src etag op addr len data) s = .next
        ((t.request { ini := iniVasum, op := op, addr := addr, len := len, tag := 512, data := data } 0).vsmAnswers).transmit.signal)) ∧
  (∀ (s : State) (etag status detail : Nat) (data : List Byte), ((∀ x, x ∈ s.vsm.tunOut → x.etag ≠ etag) →
      exec (.tunnelResponse etag status detail data) s = .next (s.bump (R.NOC_PORT_STATUS.LATE vasumEp) 1).transmit.signal ∧
      exec (.tunnelTimeout etag) s = .next s.transmit.signal) ∧
    (∀ (x : TunOut) (t : State), s.vsm.tunOut.find? (fun y => y.etag = etag) = some x →
      t = s.setVsm (fun v => { v with tunOut := v.tunOut.filter (fun y => !decide (y.etag = etag)) }) →
      exec (.tunnelResponse etag status detail data) s = .next (t.settle vasumEp x.req status detail data).transmit.signal ∧
      exec (.tunnelTimeout etag) s = .next (t.settle vasumEp x.req 5 0x83 []).transmit.signal)) ∧
  (∀ (s : State) (c src : Nat) (data : List Byte),
    (s.on (R.VSM_RPT_CFG.EN c) = false ∨ s.g (R.VSM_RPT_CFG.SRC c) ≠ src → exec (.reportFrameReceive c src data) s = .next s.transmit.signal) ∧
    (∀ (size w base : Nat) (seq : Word) (u : State), seq = BitVec.ofNat 32 (bytesNat ((data.drop 4).take 4)) → s.on (R.VSM_RPT_CFG.EN c) = true → s.g (R.VSM_RPT_CFG.SRC c) = src → data.length = 32 →
      size = 2 ^ max 4 (min 20 (s.g (R.VSM_RPT_CFG.RINGLOG c))) → w = s.g (R.VSM_RPT_WPTR.WPTR c) →
      base = s.g (R.VSM_RPT_BASE_LO.ADDR c) * 32 + s.g (R.VSM_RPT_BASE_HI.ADDR c) * 4294967296 →
      (s.rptSeen c src seq = true → exec (.reportFrameReceive c src data) s = .next (s.originate {
          dest := src, len := 12, data := controlData (natBytes 6 1 ++ natBytes c 1 ++ natBytes seq.toNat 4) }).transmit.signal) ∧
      (s.rptSeen c src seq = false → (w + 1) % size = s.g (R.VSM_RPT_RPTR.RPTR c) % size → exec (.reportFrameReceive c src data) s = .next s.transmit.signal) ∧
      (s.rptSeen c src seq = false → (w + 1) % size ≠ s.g (R.VSM_RPT_RPTR.RPTR c) % size → s.postWrite iniVasum (base + w % size * 32) data = (u, stOK) →
        exec (.reportFrameReceive c src data) s = .next (((u.put (R.VSM_RPT_WPTR.WPTR c) ((w + 1) % size)).setVsm (fun v =>
          { v with rptLast := v.rptLast.set c (some (src, seq)) })).originate {
          dest := src, len := 12, data := controlData (natBytes 6 1 ++ natBytes c 1 ++ natBytes seq.toNat 4) }).transmit.signal))) ∧
  (∀ (s : State) (c src : Nat) (q : Word), (s.rptSeen c src q = true ↔ ∃ l : Word, s.vsm.rptLast.get c = some (src, l) ∧ (l - q).toNat < 2 ^ 31)) ∧
  (∀ s : State, (s.lgr.out.filter (fun r => r.vsm) = [] → exec .reportResend s = .next s.transmit.signal) ∧
    (∀ r : LRec, s.lgr.out = [r] → r.vsm = true → exec .reportResend s = .next ((s.setVsm (fun v => { v with
        reported := if v.reported.contains r.recseq then v.reported else v.reported ++ [r.recseq] })).originate
      { dest := s.g R.LGR_VSM_DEST.NODE, chan := 0x20 + s.g R.LGR_VSM_DEST.CHANNEL, len := r.data.length, data := r.data }).transmit.signal))

/-- Writing TWIN_CFG with EN takes a device from OFF to UNPAIRED, and at once to SOLO when SEL is 1, LEASE_IN low and the twin
port not UP; without EN it goes to OFF from any state but SOLO and PRIMARY, where the write is CFGERR. SOLOWAIT ends UNPAIRED
in SOLO under the same two conditions. A primary that loses its partner is SOLO; a standby, or one that may take over
unsynchronised, takes over unless LEASE_IN is enabled and high, when it waits: falling it takes over, and still high it goes
to UNPAIRED with LINKFAULT. YIELD makes a primary UNPAIRED, and RESYNC starts a DETACHED device again in SYNCING. A device
that is SYNCING, synchronised and without a failed check since becomes STANDBY. LEASE_OUT is high exactly in SOLO and PRIMARY
outside a halt and every reset after each of these changes, and each raises STATECHG. Commands that it shows completing:
TWIN_ENABLE, TWIN_DISABLE, SOLOWAIT_EXPIRY, PRIMARY_LOST, LEASE_WAIT_TIMEOUT, LEASE_IN_CHANGE, YIELD, RESYNC,
CONVERGE_COMPLETE. (15 Twin Operation: R369, R370, R371, R378, R379, R380, R383, R385, R387) -/
def Obligations.TwinStates : Prop :=
  (∀ (s : State) (st : Nat), st < 8 → s.twState ≠ st → (s.setTwin st).twState = st ∧ (s.setTwin st).on R.TWIN_EVENTS.STATECHG = true ∧
    (s.setTwin st).on R.TWIN_STATUS.LEASEOUT = ((st = twSOLO || st = twPRIMARY) && !s.halted && !s.on R.RST_STATUS.FABBUSY && decide (s.rst.reach = 0)) ∧ (s.setTwin st).mem = s.mem ∧
    regsBut [R.TWIN_STATUS.reg, R.TWIN_EVENTS.reg] s (s.setTwin st)) ∧
  (∀ (s : State) (cfg : Word), s.twState = twOFF → ∃ t : State, exec (.twinEnable cfg) s = .next t.transmit.signal ∧ t.on R.TWIN_CFG.EN = true ∧
    t.rw R.TWIN_CFG.reg &&& 0x7800003F#32 = cfg &&& 0x7800003F#32 ∧ t.mem = s.mem ∧
    (s.on R.TWIN_STATUS.SEL = true → s.on R.TWIN_STATUS.LEASEIN = false → s.isUp (cfg.toNat % 64) = false → s.halted = false → t.twState = twSOLO) ∧
    ((s.on R.TWIN_STATUS.SEL = false ∨ s.on R.TWIN_STATUS.LEASEIN = true ∨ s.halted = true) → t.twState = twUNPAIRED)) ∧
  (∀ (s : State) (cfg : Word), (s.twState = twSOLO ∨ s.twState = twPRIMARY → ∃ t : State, exec (.twinDisable cfg) s = .next t.transmit.signal ∧ t.twState = s.twState ∧
      t.on R.TWIN_EVENTS.CFGERR = true ∧ t.on R.TWIN_CFG.EN = s.on R.TWIN_CFG.EN) ∧
    (s.twState = twUNPAIRED ∨ s.twState = twSYNCING ∨ s.twState = twSTANDBY ∨ s.twState = twDETACHED → ∃ t : State,
      exec (.twinDisable cfg) s = .next t.transmit.signal ∧ t.twState = twOFF ∧ t.on R.TWIN_CFG.EN = false ∧ t.on R.TWIN_STATUS.HOPEND = false ∧ t.mem = s.mem)) ∧
  (∀ s : State, (s.twState = twUNPAIRED → s.on R.TWIN_STATUS.LEASEIN = false → s.twinUp = false → s.halted = false →
      exec .solowaitExpiry s = .next (s.setTwin twSOLO).transmit.signal) ∧
    (s.twState ≠ twUNPAIRED ∨ s.on R.TWIN_STATUS.LEASEIN = true ∨ s.twinUp = true ∨ s.halted = true → exec .solowaitExpiry s = .next s.transmit.signal)) ∧
  (∀ s : State, (s.twState = twPRIMARY → exec .primaryLost s = .next ((s.raise R.TWIN_EVENTS.PEERLOST).setTwin twSOLO).transmit.signal) ∧
    (s.twState < 3 ∨ (s.twState ≠ twPRIMARY ∧ s.twin.waiting = true) → exec .primaryLost s = .next s.transmit.signal) ∧
    (3 < s.twState → s.twin.waiting = false →
      (s.on R.TWIN_CFG.LEASEEN = true → s.on R.TWIN_STATUS.LEASEIN = true →
        exec .primaryLost s = .next ((s.raise R.TWIN_EVENTS.PEERLOST).setTwinBlk (fun t => { t with waiting := true })).transmit.signal) ∧
      ((s.on R.TWIN_CFG.LEASEEN = false ∨ s.on R.TWIN_STATUS.LEASEIN = false) →
        exec .primaryLost s = .next (if s.takesOver then (s.raise R.TWIN_EVENTS.PEERLOST).takeover else s.raise R.TWIN_EVENTS.PEERLOST).transmit.signal))) ∧
  (∀ s : State, (s.twin.waiting = false → exec .leaseWaitTimeout s = .next s.transmit.signal) ∧
    (s.twin.waiting = true → s.twState ≠ twUNPAIRED → ∃ t : State, exec .leaseWaitTimeout s = .next t.transmit.signal ∧ t.twState = twUNPAIRED ∧
      t.on R.TWIN_STATUS.LINKFAULT = true ∧ t.on R.TWIN_EVENTS.LINKFAULT = true ∧ t.twin.waiting = false ∧ t.on R.TWIN_STATUS.LEASEOUT = false)) ∧
  (∀ (s : State) (high : Bool), (s.on R.TWIN_CFG.LEASEEN = false → exec (.leaseInChange high) s = .next s.transmit.signal) ∧
    (s.on R.TWIN_CFG.LEASEEN = true → s.twin.waiting = true → high = false → ∀ t : State,
      t = (s.putB R.TWIN_STATUS.LEASEIN false).setTwinBlk (fun x => { x with waiting := false }) →
      exec (.leaseInChange high) s = .next (if t.takesOver then t.takeover else t).transmit.signal) ∧
    (s.on R.TWIN_CFG.LEASEEN = true → s.twState ≠ twUNPAIRED → (s.twin.waiting = false ∨ high = true) →
      exec (.leaseInChange high) s = .next (s.putB R.TWIN_STATUS.LEASEIN high).transmit.signal)) ∧
  (∀ s t : State, s.twState ≠ twSOLO → t = s.takeover → t.on R.TWIN_EVENTS.TAKEOVER = true ∧
    t.on R.TWIN_STATUS.HOPEND = false ∧ t.twin.doubt = [] ∧ t.twin.shadow = [] ∧ t.twin.snap = none ∧ t.twin.hoT = none) ∧
  (∀ s : State, (s.twState ≠ twPRIMARY → exec .yield s = .next s.transmit.signal) ∧
    (s.twState = twPRIMARY → exec .yield s = .next ((s.setTwin twUNPAIRED).setTwinBlk (fun t => { t with yielded := true })).transmit.signal) ∧
    (s.twState ≠ twDETACHED → exec .resync s = .next s.transmit.signal) ∧
    (s.twState = twDETACHED → ∃ t : State, exec .resync s = .next t.transmit.signal ∧ t.twState = twSYNCING ∧ t.g R.TWIN_STATUS.DETREASON = 0 ∧
      t.twin.synced = false ∧ t.twin.snap = some [] ∧ t.twin.shadow = [] ∧ t.lgr.due = [] ∧ t.mem = s.mem)) ∧
  (∀ s : State, ((s.twState ≠ twSYNCING ∨ s.twin.synced = false ∨ s.twin.fails ≠ 0) → exec .convergeComplete s = .next s.transmit.signal) ∧
    (s.twState = twSYNCING → s.twin.synced = true → s.twin.fails = 0 →
      exec .convergeComplete s = .next ((s.setTwin twSTANDBY).raise R.TWIN_EVENTS.READY).transmit.signal))

/-- A heartbeat is sent only by an enabled, running device that has not yielded and whose twin port is UP. A received one shows
the partner's SEL; in SYNCING and STANDBY its context sum, axes and time are compared, and the second failure in a row
detaches a standby with the reason. A primary sends what changed, and RESYNCREQ makes it send its whole ledger. Only SYNCING,
STANDBY and DETACHED take a MIRROR frame: they acknowledge it and drop the posts and doubts it covers; SNAPEND puts the
snapshot in place of the ledger, and VMASTER waits for its time. HANDOVER is accepted by a standby that has 100 us, else
HOERR; HOACK arms the primary; the request is only a primary's, for a tick of the angle train. At T the primary becomes
STANDBY and the standby PRIMARY, or, not accepted, the primary stays with HOERR. RSTPEER asks the partner to reset. Commands
that it shows completing: HEARTBEAT_SEND, HEARTBEAT, MIRROR, RESYNCREQ, SNAPEND, VMASTER, HANDOVER, HOACK, HANDOVER_REQUEST,
HANDOVER_AT_T, RSTPEER. (15 Twin Operation: R373, R374, R375, R376, R377, R383, R384, R385, R386) -/
def Obligations.TwinTraffic : Prop :=
  (∀ s : State, (s.on R.TWIN_CFG.EN = false ∨ s.twinUp = false ∨ s.halted = true ∨ s.on R.RST_STATUS.FABBUSY = true ∨ s.twin.yielded = true → exec .heartbeatSend s = .next s.transmit.signal) ∧
    (s.on R.TWIN_CFG.EN = true → s.twinUp = true → s.halted = false → s.on R.RST_STATUS.FABBUSY = false → s.twin.yielded = false → ∃ (t : State) (f : VFrame), exec .heartbeatSend s = .next t.transmit.signal ∧
      (t.vport s.twinPort).wait = (s.vport s.twinPort).wait ++ [f] ∧ f.chan = 0x40 ∧ f.data.length = 160 ∧ f.data.take 8 = natBytes s.stamp.toNat 8 ∧ t.csr = s.csr ∧ t.mem = s.mem)) ∧
  (∀ (s : State) (d : List Byte), (s.on R.TWIN_CFG.EN = false → exec (.heartbeat d) s = .next s.transmit.signal) ∧
    (∀ u : State, s.on R.TWIN_CFG.EN = true → s.twinTime = true → (s.twState = twSYNCING ∨ s.twState = twSTANDBY) →
      u = (let v := (s.putB R.TWIN_STATUS.PEERSEL ((bytesNat ((d.drop 8).take 1)).testBit 3)).syncApply s.twinPort 1 (BitVec.ofNat 64 (bytesNat (d.take 8)))
        v.putB R.TWIN_STATUS.TLOCK (decide (v.g R.VSM_STATUS.TSTATE = 2))) →
      exec (.heartbeat d) s = .next (u.lockstepCheck d).transmit.signal)) ∧
  (∀ (s : State) (d : List Byte), (s.lockstep d = 0 → s.lockstepCheck d = s.setTwinBlk (fun t => { t with fails := 0 })) ∧
    (∀ r, s.lockstep d = r → r ≠ 0 → r < 4 → (s.lockstepCheck d).twin.fails = (if s.twState = twSTANDBY ∧ 1 ≤ s.twin.fails then 0 else s.twin.fails + 1) ∧
      (s.twState = twSTANDBY → 1 ≤ s.twin.fails → (s.lockstepCheck d).twState = twDETACHED ∧ (s.lockstepCheck d).g R.TWIN_STATUS.DETREASON = r ∧
        (s.lockstepCheck d).on R.TWIN_EVENTS.DETACHED = true)) ∧
    (s.ctxSum.toNat ≠ bytesNat ((d.drop 12).take 4) → s.lockstep d = 1)) ∧
  (∀ (s : State) (d : List Byte), (s.twState < 4 → exec (.mirror d) s = .next s.transmit.signal) ∧
    (4 ≤ s.twState → ∀ l, s.twin.snap = some l → ∃ t : State, exec (.mirror d) s = .next t.transmit.signal ∧ t.twin.snap = some (l ++ [d]) ∧
      t.twin.tAck = bytesNat (d.take 8) ∧ t.twin.shadow = s.twin.shadow.filter (fun y => decide (bytesNat (d.take 8) < y.2)) ∧
      t.twin.doubt = s.twin.doubt.filter (fun y => decide (bytesNat (d.take 8) < y.tick)) ∧ t.lgr = s.lgr ∧ t.csr = s.csr ∧ t.mem = s.mem)) ∧
  (∀ s : State, (s.twState ≠ twPRIMARY → (s.twState ≠ twSOLO ∨ s.twinUp = false) → exec .resyncreq s = .next s.transmit.signal) ∧
    (s.twState = twPRIMARY → s.twinUp = true → ∃ t : State, exec .resyncreq s = .next t.transmit.signal ∧ t.twState = twPRIMARY ∧ t.lgr.changed = [] ∧
      t.lgr.entries = s.lgr.entries ∧ t.mem = s.mem)) ∧
  (∀ s : State, (s.twin.snap = none → exec .snapend s = .next s.signal) ∧
    (s.twin.snap = some [] → ∃ t : State, exec .snapend s = .next t.signal ∧ t.twin.snap = none ∧ t.twin.synced = true ∧ t.lgr.entries = [] ∧
      t.lgr.suspects = [] ∧ t.g R.LGR_STATUS.OPEN = 0 ∧ t.mem = s.mem ∧ t.g R.TWIN_ERRCNT.DISCARDED = min 65535 (s.g R.TWIN_ERRCNT.DISCARDED +
        ((s.lgr.entries.filter (fun e => decide (e.2.st ≠ itFREE))).length + s.lgr.suspects.length)))) ∧
  (∀ (s : State) (axis : Nat) (tick value : DWord) (vel : Word), (s.twState < 4 → exec (.vmaster axis tick value vel) s = .next s.signal) ∧
    (4 ≤ s.twState → exec (.vmaster axis tick value vel) s = .next
      (s.setTwinBlk (fun t => { t with vmaster := t.vmaster ++ [(tick.toNat, axis, value, vel.toInt * 256)] })).signal)) ∧
  (∀ (s : State) (t : DWord), (s.twState ≠ twSTANDBY ∨ t.toNat < s.plantNs.toNat + 100000 → exec (.handover t) s = .next (s.raise R.TWIN_EVENTS.HOERR).transmit.signal) ∧
    (s.twState = twSTANDBY → s.plantNs.toNat + 100000 ≤ t.toNat → exec (.handover t) s = .next
      (((s.setTwinBlk (fun x => { x with hoT := some t.toNat })).putB R.TWIN_STATUS.HOPEND true).twinControl 5 0 t.toNat 0 0).transmit.signal) ∧
    (s.twState = twPRIMARY → s.twin.hoT ≠ none → exec .hoack s = .next (s.putB R.TWIN_STATUS.HOPEND true).signal) ∧
    (s.twState ≠ twPRIMARY ∨ s.twin.hoT = none → exec .hoack s = .next s.signal)) ∧
  (∀ (s : State) (t : Nat), t = (s.rw R.TWIN_HOTIME_LO.reg).toNat + (s.rw R.TWIN_HOTIME_HI.reg).toNat * 4294967296 →
    (s.twState ≠ twPRIMARY ∨ t % 4 ≠ 0 → exec .handoverRequest s = .next (s.raise R.TWIN_EVENTS.HOERR).transmit.signal) ∧
    (s.twState = twPRIMARY → t % 4 = 0 → exec .handoverRequest s = .next ((s.setTwinBlk (fun x => { x with hoT := some t })).twinControl 4 0 t 0 0).transmit.signal)) ∧
  (∀ s : State, (s.twin.hoT = none → exec .handoverAtT s = .next s.transmit.signal) ∧
    (s.twin.hoT ≠ none → s.twState = twPRIMARY → s.on R.TWIN_STATUS.HOPEND = true → ∃ t : State, exec .handoverAtT s = .next t.transmit.signal ∧
      t.twState = twSTANDBY ∧ t.on R.TWIN_EVENTS.HANDOVER = true ∧ t.on R.TWIN_STATUS.LEASEOUT = false ∧ t.twin.hoT = none ∧ t.lgr.due = [] ∧ t.mem = s.mem) ∧
    (s.twin.hoT ≠ none → s.twState = twPRIMARY → s.on R.TWIN_STATUS.HOPEND = false → ∃ t : State, exec .handoverAtT s = .next t.transmit.signal ∧
      t.twState = twPRIMARY ∧ t.on R.TWIN_EVENTS.HOERR = true ∧ t.twin.hoT = none) ∧
    (s.twin.hoT ≠ none → s.twState = twSTANDBY → s.on R.TWIN_STATUS.HOPEND = true → ∃ t : State, exec .handoverAtT s = .next t.transmit.signal ∧
      t.twState = twPRIMARY ∧ t.on R.TWIN_EVENTS.HANDOVER = true ∧ t.twin.doubt = [] ∧ t.twin.shadow = [])) ∧
  (∀ s : State, exec .rstpeer s = .next (s.twinControl 6 0 0 0 0).transmit.signal) ∧
  (∀ (s : State) (kind axis tick : Nat) (value : DWord) (vel : Word), (s.twinUp = false → s.twinControl kind axis tick value vel = s) ∧
    (s.twinUp = true → s.twinControl kind axis tick value vel = s.vSend s.twinPort {
      src := s.node, chan := 0x43, len := 32, data := withCrc (natBytes kind 1 ++ natBytes axis 1 ++ natBytes 0 6 ++ natBytes tick 8 ++ natBytes value.toNat 8 ++ wordBytes vel ++ natBytes 0 2) }))

/-- A stage write with an enabled field out of range is ignored with CFGERR, one by a writer its group's owner does not allow is
refused with DENIED, and one that passes leaves what is in force and stands pending. A commit bit waits for the first
crossbar tick 8 ns later, or is refused; a reclaim waits likewise; an owner write by an allowed writer takes; a pin setting
waits for its tick. At its tick a commit puts every stage of its group in force together, counts and sets COMMITTED, and a
tick with nothing due changes no table entry in force. A failed entry of the source table loses both enables, one of the
destination table its enable, a pin is held, and a group returns to the supervisor. The level a pin is driven to from outside
is its input when nothing else drives it, and by IMODE 1, on a pin without a filter, its rise sets its interrupt bit; a bank
without VCCIO reads 0. Commands that it shows completing: CROSSBAR_TICK, XBAR_COMMIT, XBAR_STAGE_WRITE, XBAR_RECLAIM,
XBAR_CG_OWNER_WRITE, XBAR_PIN_CFG_WRITE, TABLE_SWEEP, PIN_INPUT_CHANGE, VCCIO_CHANGE. (16 Crossbar and Peripherals: R388,
R389, R390, R395, R396, R401, R402, R403, R405, R406, R407) -/
def Obligations.CrossbarAndPins : Prop :=
  (∀ (s : State) (who : Who) (input : Bool) (n k : Nat) (v w : Word), n < 1024 → k = xKey input n → w = v &&& xMask k →
    (badStage k w = true → exec (.xbarStageWrite who input n v) s = .next ((s.raise R.XBAR_EVENTS.CFGERR).answerWith stOK []).signal) ∧
    (badStage k w = false → (s.groupAllows (groupOf (s.rw (xStageReg k))) who = false ∨ s.groupAllows (groupOf w) who = false) →
      exec (.xbarStageWrite who input n v) s = .next (((s.bump R.XBAR_ERRCNT.DENIED 1).raise R.XBAR_EVENTS.DENIED).answerWith stERR []).signal) ∧
    (badStage k w = false → s.groupAllows (groupOf (s.rw (xStageReg k))) who = true → s.groupAllows (groupOf w) who = true →
      ∃ t : State, exec (.xbarStageWrite who input n v) s = .next t.signal ∧ t.rw (xStageReg k) = w ∧ t.xbar.pend.get k = some (XStage.write (s.xbar.pend.get k) w) ∧
        t.rw (xForceReg k) = s.rw (xForceReg k) ∧ t.resp = some { status := stOK, data := [] } ∧ regsBut [xStageReg k, R.XBAR_STATUS.reg] s t)) ∧
  (∀ (s : State) (who : Who) (g sub : Nat), g < 16 →
    (s.groupAllows g who = true → exec (.xbarCommit who (2 ^ g) sub) s = .next ((s.commitAt (s.dueXtick sub) g).answerWith stOK []).signal) ∧
    (s.groupAllows g who = false → exec (.xbarCommit who (2 ^ g) sub) s = .next
      (((s.bump R.XBAR_ERRCNT.DENIED 1).raise R.XBAR_EVENTS.DENIED).answerWith stOK []).signal) ∧
    exec (.xbarReclaim g sub) s = .next ((s.setXbar (fun x => { x with reclaims := x.reclaims ++ [(s.dueXtick sub, g)] })).answerWith stOK []).signal ∧
    (∀ v : Word, s.groupAllows g who = false → exec (.xbarCgOwnerWrite who g v) s = .next
      (((s.bump R.XBAR_ERRCNT.DENIED 1).raise R.XBAR_EVENTS.DENIED).answerWith stERR []).signal) ∧
    (∀ v : Word, s.groupAllows g who = true → ∃ t : State, exec (.xbarCgOwnerWrite who g v) s = .next t.signal ∧
      t.g (R.XBAR_CG_CTL.OWNER g) = v.toNat % 4 ∧ regsBut [R.XBAR_CG_CTL.reg g] s t)) ∧
  (∀ s : State, (∀ g, s.xbar.reclaims.any (fun e => decide (e.2 = g)) = true → s.groupAllows g .super = true ∧ s.groupAllows g .host = false) ∧
    (∀ g, s.xbar.reclaims.any (fun e => decide (e.2 = g)) = false → s.g (R.XBAR_CG_CTL.OWNER g) = 0 → ∀ w, s.groupAllows g w = true)) ∧
  (∀ (s : State) (n sub : Nat) (v : Word), exec (.xbarPinCfgWrite n v sub) s = .next ((s.wr (R.XBAR_PIN_CFG.reg n) (v &&& 0xFFFFC000#32)).setXbar
    (fun x => { x with pinPend := x.pinPend ++ [(s.dueXtick sub, n, v &&& 0xFFFFC000#32)] })).signal ∧
    s.dueXtick sub = s.xtick + (sub + 8000 + 1999) / 2000) ∧
  (∀ (s : State) (g k : Nat) (w : Word), g < 16 → SMap.rising s.xbar.pend = true →
    (∀ e, e ∈ s.xbar.pend → e.1 < 2048) → (∃ e, e ∈ s.xbar.commits ∧ e.1 ≤ s.xtick + 1 ∧ e.2 = g) →
    (∀ e, e ∈ s.xbar.commits → e.1 ≤ s.xtick + 1 → e.2 = g) → (∀ e, e ∈ s.xbar.reclaims → s.xtick + 1 < e.1) →
    (∀ e, e ∈ s.xbar.pinPend → s.xtick + 1 < e.1) → (∀ e, e ∈ s.stagesOf g → s.xbar.bad.get (xStageBad e.1) = false) → (k, w) ∈ s.stagesOf g →
    ∃ t : State, exec .crossbarTick s = .next t.signal ∧ t.xtick = s.xtick + 1 ∧ t.rw (xForceReg k) = w ∧ t.on R.XBAR_EVENTS.COMMITTED = true ∧
      t.xbar.commits = s.xbar.commits.filter (fun e => decide (s.xtick + 1 < e.1)) ∧ t.mem = s.mem) ∧
  (∀ s : State, (∀ e, e ∈ s.xbar.commits → s.xtick + 1 < e.1) → (∀ e, e ∈ s.xbar.reclaims → s.xtick + 1 < e.1) →
    ∃ t : State, exec .crossbarTick s = .next t.signal ∧ t.xtick = s.xtick + 1 ∧ (∀ n, n < 1024 → t.rw (R.XBAR_SRC_DEST.reg n) = s.rw (R.XBAR_SRC_DEST.reg n) ∧
      t.rw (R.XBAR_IN_SEL.reg n) = s.rw (R.XBAR_IN_SEL.reg n)) ∧ t.tick = s.tick ∧ t.mem = s.mem) ∧
  (∀ (s : State) (n : Nat), (s.xbar.bad = [] → exec .tableSweep s = .next s.signal) ∧
    (n < 1024 → s.xbar.bad = [(xBadKey 0 n false, true)] → ∃ t : State, exec .tableSweep s = .next t.signal ∧
      t.rw (R.XBAR_SRC_DEST.reg n) = s.rw (R.XBAR_SRC_DEST.reg n) &&& 0xFBFFFBFF#32 ∧ t.faultLog = s.faultLog ++ [.xbarTable 0 n false]) ∧
    (n < 1024 → s.xbar.bad = [(xBadKey 1 n false, true)] → ∃ t : State, exec .tableSweep s = .next t.signal ∧
      t.rw (R.XBAR_IN_SEL.reg n) = s.rw (R.XBAR_IN_SEL.reg n) &&& 0xFFFFEFFF#32 ∧ t.faultLog = s.faultLog ++ [.xbarTable 1 n false]) ∧
    (n < 640 → s.xbar.bad = [(xBadKey 2 n false, true)] → ∃ t : State, exec .tableSweep s = .next t.signal ∧ t.xbar.pinHeld.get n = true ∧
      t.on R.XBAR_EVENTS.TBLCHK = true) ∧
    (n < 16 → s.xbar.bad = [(xBadKey 3 n false, true)] → ∃ t : State, exec .tableSweep s = .next t.signal ∧ t.g (R.XBAR_CG_CTL.OWNER n) = 3)) ∧
  (∀ (s : State) (n ext : Nat), n < 640 → ∃ t : State, exec (.pinInputChange n ext) s = .next t.signal ∧ t.xbar.ext.get n = min ext 2 ∧ t.mem = s.mem ∧
    regsBut [R.XBAR_PINIRQ.reg (n / 32)] s t ∧
    (s.g (R.XBAR_BANK_STATUS.VIO (n / 32)) ≠ 0 → s.jtag.force = 0 → s.xbar.pinsOn = false → s.pinF n R.XBAR_PIN_CFG.IMODE = 1 →
      s.pinF n R.XBAR_PIN_CFG.INVIN = 0 → s.pinF n R.XBAR_PIN_CFG.FILT = 0 → s.xbar.inp.get n = false → ext = 2 → t.xbar.inp.get n = true ∧ t.bit (R.XBAR_PINIRQ.IRQ (n / 32)) (n % 32) = true)) ∧
  (∀ (s : State) (k code : Nat), k < 20 → code < 4 → ∃ t : State, exec (.vccioChange k code) s = .next t.signal ∧ t.g (R.XBAR_BANK_STATUS.VIO k) = code ∧
    (code = 0 → t.rw (R.XBAR_PAD.reg k) = 0) ∧ t.xbar = s.xbar ∧ t.mem = s.mem)

/-- On an enabled interface in mode 0 each step of A and B in the order (0,0), (1,0), (1,1), (0,1) counts one up, and each step
the other way one down; in mode 1 only a rising A counts, up with B low and down with B high; DIRINV turns the sign. The
count register moves by it modulo 2^32, FAULT clears, and the count of every axis whose encoder this is moves by it. An edge
that counts nothing, and every edge at a disabled or SSI interface, only leaves the new levels. No register but the count and
the status of the interface changes, and no axis but those that select it. Commands that it shows completing: ENCODER_EDGE.
(16 Machine I/O and Peripherals: R409, R519) -/
def Obligations.EncoderCounts : Prop :=
  ∀ (s : State) (n sub : Nat) (a b : Bool) (d sgn : Int),
    let e := s.per.enc.get n
    let up : List ((Bool × Bool) × (Bool × Bool)) :=
      [((false, false), (true, false)), ((true, false), (true, true)), ((true, true), (false, true)), ((false, true), (false, false))]
    sgn = (if s.on (R.PER_ENC_CFG.DIRINV n) then -1 else 1) →
    ((s.on (R.PER_ENC_CFG.EN n) = true ∧ s.g (R.PER_ENC_CFG.MODE n) = 0 ∧
        ((d = sgn ∧ ((e.a, e.b), (a, b)) ∈ up) ∨ (d = -sgn ∧ ((a, b), (e.a, e.b)) ∈ up))) ∨
      (s.on (R.PER_ENC_CFG.EN n) = true ∧ s.g (R.PER_ENC_CFG.MODE n) = 1 ∧ e.a = false ∧ a = true ∧ e.b = b ∧
        d = (if b then -sgn else sgn)) →
      ∃ t, exec (.encoderEdge n a b sub) s = .next t ∧
        t.rw (R.PER_ENC_COUNT.reg n) = s.rw (R.PER_ENC_COUNT.reg n) + BitVec.ofInt 32 d ∧
        t.on (R.PER_ENC_STATUS.FAULT n) = false ∧
        t.per.enc.get n = { e with a := a, b := b } ∧
        (∀ x, x ∈ s.axesOf 1 n → (t.axis x).count = (s.axis x).count + d ∧ (t.axis x).value = (s.axis x).value) ∧
        (∀ x, x ∉ s.axesOf 1 n → t.axis x = s.axis x) ∧
        regsBut [R.PER_ENC_COUNT.reg n, R.PER_ENC_STATUS.reg n] s t) ∧
    ((s.on (R.PER_ENC_CFG.EN n) = false ∨ s.g (R.PER_ENC_CFG.MODE n) = 2 ∨ (e.a = a ∧ e.b = b) ∨
        (s.g (R.PER_ENC_CFG.MODE n) = 1 ∧ a = false ∧ e.b = b)) →
      exec (.encoderEdge n a b sub) s = .next (State.signal { s with per := { s.per with enc := s.per.enc.set n { e with a := a, b := b } } }))

/-- A change of A and B in one sample, SSI data not high again in time and an SSI position that jumps by more than JUMPLIM are
encoder faults: the flag of the finding and FAULT are set, FLTCNT counts one and stays at its largest value, PER_EVENTS shows
the encoder, every LOCKED axis of the encoder takes cause 1 at the next tick, and one in ACQUIRE waits for a condition met
after the fault. An SSI frame within JUMPLIM clears FAULT and gives its position, converted from Gray code where GRAY is set,
to the axes. At a disabled interface with no frame in progress, or one of the other kind, nothing happens; a disabled one
stops at the end of its frame. A Z pulse acts on the encoder axes of the interface that are set to home, on an enabled
interface outside SSI mode, and on nothing else. On an axis that is not LOCKED the count at the pulse is kept for the next
tick. On a LOCKED one the position is compared with the nearest turn of ZPHASE: within ZTOL counts nothing happens; beyond it
ZERR counts one, and with ZCORR the axis steps back by the difference at the next tick. Commands that it shows completing:
ENCODER_EDGE, Z_PULSE, SSI_FRAME, SSI_TIMEOUT. (16 Machine I/O and Peripherals: R409, R410, 02 The Angle Timebase: R39, 02
The Angle Timebase: R32, R41, 16 Machine I/O and Peripherals: R519) -/
def Obligations.EncoderFaultsAndZ : Prop :=
  ((∀ (s : State) (n : Nat) (f : Field), s.encFault n f =
    ((((s.raise f).raise (R.PER_ENC_STATUS.FAULT n)).bump (R.PER_ENC_STATUS.FLTCNT n) 1).perEvents.failAxes
        ((((s.raise f).raise (R.PER_ENC_STATUS.FAULT n)).bump (R.PER_ENC_STATUS.FLTCNT n) 1).perEvents.axesOf 1 n) 1).each
      (((((s.raise f).raise (R.PER_ENC_STATUS.FAULT n)).bump (R.PER_ENC_STATUS.FLTCNT n) 1).perEvents.failAxes
        ((((s.raise f).raise (R.PER_ENC_STATUS.FAULT n)).bump (R.PER_ENC_STATUS.FLTCNT n) 1).perEvents.axesOf 1 n) 1).axesOf 1 n)
      (fun s x => if s.axState x = axACQUIRE then s.setAxis x { s.axis x with fresh := false, zAt := none } else s)) ∧
  (∀ (s : State) (n sub : Nat) (a b : Bool), s.on (R.PER_ENC_CFG.EN n) = true → s.encIsSsi n = false →
    (s.per.enc.get n).a ≠ a → (s.per.enc.get n).b ≠ b →
    exec (.encoderEdge n a b sub) s = .next (State.encFault
      { s with per := { s.per with enc := s.per.enc.set n { s.per.enc.get n with a := a, b := b } } } n (R.PER_ENC_STATUS.ILLEGAL n)).signal) ∧
  (∀ (s : State) (n : Nat), s.encIsSsi n = true → (s.on (R.PER_ENC_CFG.EN n) = true ∨ (s.per.enc.get n).stopping = true) →
    exec (.ssiTimeout n) s = .next ((s.encFault n (R.PER_ENC_STATUS.TIMEOUT n)).ssiEnd n).signal) ∧
  (∀ (s : State) (n : Nat), ((s.ssiEnd n).per.enc.get n = if (s.per.enc.get n).stopping then
      { s.per.enc.get n with stopping := false, again := false, had := false } else s.per.enc.get n) ∧ (s.ssiEnd n).csr = s.csr ∧ (s.ssiEnd n).ang = s.ang) ∧
  (∀ (s : State) (n : Nat) (w : DWord) (p sub : Nat), s.encIsSsi n = true → (s.on (R.PER_ENC_CFG.EN n) = true ∨ (s.per.enc.get n).stopping = true) →
    p = (if s.on (R.PER_ENC_SSI.GRAY n) then grayToBin (w.toNat % 2 ^ s.ssiBits n) else w.toNat % 2 ^ s.ssiBits n) →
    let s' : State := { (s.put (R.PER_ENC_POS.POS n) p) with
      per := { s.per with enc := s.per.enc.upd n (fun e => { e with had := true }) } }
    ((s.g (R.PER_ENC_CFG.JUMPLIM n) = 0 ∨ (s.per.enc.get n).had = false ∨
        ((p : Int) - s.g (R.PER_ENC_POS.POS n)).natAbs ≤ s.g (R.PER_ENC_CFG.JUMPLIM n)) →
      exec (.ssiFrame n w sub) s = .next (((s'.putB (R.PER_ENC_STATUS.FAULT n) false).ssiAxes n p sub).ssiEnd n).signal) ∧
    (s.g (R.PER_ENC_CFG.JUMPLIM n) ≠ 0 → (s.per.enc.get n).had = true →
        s.g (R.PER_ENC_CFG.JUMPLIM n) < ((p : Int) - s.g (R.PER_ENC_POS.POS n)).natAbs →
      exec (.ssiFrame n w sub) s = .next ((s'.encFault n (R.PER_ENC_STATUS.JUMP n)).ssiEnd n).signal)) ∧
  (∀ (s : State) (n sub : Nat) (w : DWord), ((s.on (R.PER_ENC_CFG.EN n) = false ∧ (s.per.enc.get n).stopping = false) ∨ s.encIsSsi n = false) →
    exec (.ssiFrame n w sub) s = .next s.signal ∧ exec (.ssiTimeout n) s = .next s.signal)) ∧
  (∀ (s : State) (enc n : Nat),
    (s.on (R.PER_ENC_CFG.EN enc) = false ∨ s.encIsSsi enc = true → exec (.zPulse enc) s = .next s.signal) ∧
    (s.on (R.PER_ENC_CFG.EN enc) = true → s.encIsSsi enc = false →
      (s.axesOf 1 enc).filter (fun m => s.on (R.ANG_AXIS_CFG.HOME m)) = [n] →
      (s.axState n ≠ axLOCKED → exec (.zPulse enc) s = .next (s.setAxis n { s.axis n with zAt := some (s.axis n).count }).signal) ∧
      (∀ (p : DWord) (d : Int), s.axState n = axLOCKED → p = (s.axis n).posAt (s.g (R.ANG_AXIS_CPC.CPC n)) (s.axis n).count →
        d = sdiff p (nearestPhase p (s.g (R.ANG_AXIS_HOME.ZPHASE n))) →
        (d.natAbs * s.g (R.ANG_AXIS_CPC.CPC n) ≤ s.g (R.ANG_AXIS_HOME.ZTOL n) * 4294967296 → exec (.zPulse enc) s = .next s.signal) ∧
        (s.g (R.ANG_AXIS_HOME.ZTOL n) * 4294967296 < d.natAbs * s.g (R.ANG_AXIS_CPC.CPC n) → s.on (R.ANG_AXIS_CFG.ZCORR n) = false →
          exec (.zPulse enc) s = .next (s.bump (R.ANG_AXIS_STATE.ZERR n) 1).signal) ∧
        (s.g (R.ANG_AXIS_HOME.ZTOL n) * 4294967296 < d.natAbs * s.g (R.ANG_AXIS_CPC.CPC n) → s.on (R.ANG_AXIS_CFG.ZCORR n) = true →
          exec (.zPulse enc) s = .next
            ((s.bump (R.ANG_AXIS_STATE.ZERR n) 1).setAxis n { s.axis n with zStep := BitVec.ofInt 64 (-d) }).signal))))

/-- A write to TXDATA of a unit with room queues the frame or byte behind those that wait, and one to a full queue changes
nothing. A read of RXDATA answers the oldest received entry, or zero from an empty queue or an encoder, and removes it. What
is received goes behind what waits, and a full queue keeps what it has and sets overrun. No unit but the one named changes. A
settings write takes the fields of the register. With EN = 1 a unit that was off starts afresh with empty queues, and one
that is stopping remembers to start again when it has stopped; with EN = 0 a unit with a transfer in progress completes it
and then stops, and an idle one is off at once. An encoder interface that is enabled anew forgets that it had a position.
Commands that it shows completing: PERIPHERAL_ENABLE, PERIPHERAL_DISABLE, SPI_TXDATA, UART_TXDATA, RXDATA_READ. (16 Machine
I/O and Peripherals: R411, R412, R413, 16 Machine I/O and Peripherals: R408) -/
def Obligations.PeripheralUnits : Prop :=
  (∀ (s : State) (n : Nat) (v : Word),
    ((s.perUnit (4 + n)).tx.length < perDepth (4 + n) →
      exec (.spiTxdata n v) s = .next ((s.setPerUnit (4 + n) { s.perUnit (4 + n) with tx := (s.perUnit (4 + n)).tx ++ [v] }).perNext (4 + n)).signal) ∧
    (perDepth (4 + n) ≤ (s.perUnit (4 + n)).tx.length → exec (.spiTxdata n v) s = .next s.signal) ∧
    ((s.perUnit (8 + n)).tx.length < perDepth (8 + n) →
      exec (.uartTxdata n v) s = .next
        ((s.setPerUnit (8 + n) { s.perUnit (8 + n) with tx := (s.perUnit (8 + n)).tx ++ [v &&& 0xFF#32] }).perNext (8 + n)).signal) ∧
    (perDepth (8 + n) ≤ (s.perUnit (8 + n)).tx.length → exec (.uartTxdata n v) s = .next s.signal) ∧
    (∀ (u : Per) (k : Nat), perKey u = some k → exec (.rxdataRead u) s = .next
      (((s.setPerUnit k { s.perUnit k with rx := (s.perUnit k).rx.drop 1 }).perShow k).answerWith stOK
        (wordBytes ((s.perUnit k).rx.headD 0#32))).signal) ∧
    (∀ u : Per, perKey u = none → exec (.rxdataRead u) s = .next (s.answerWith stOK [0, 0, 0, 0]).signal) ∧
    (∀ k m : Nat, ((s.perUnit k).rx.length < perDepth k → ((s.perReceive k v).perUnit k).rx = (s.perUnit k).rx ++ [v]) ∧
      (perDepth k ≤ (s.perUnit k).rx.length → s.perReceive k v = (s.raise (perERRA k)).perShow k ∧ (s.perReceive k v).perUnit k = s.perUnit k) ∧
      (m ≠ k → (s.perReceive k v).perUnit m = s.perUnit m ∧ (s.perNext k).perUnit m = s.perUnit m))) ∧
  (∀ (s : State) (u : Per) (k : Nat) (cfg : Word), perKey u = some k →
    let s1 := s.wr (perCfgReg u) ((cfg &&& perCfgMask u) ||| 0x80000000#32)
    let s0 := s.wr (perCfgReg u) ((cfg &&& perCfgMask u) &&& 0x7FFFFFFF#32)
    ((s.perUnit k).stopping = true → exec (.peripheralEnable u cfg) s =
      .next ((s1.setPerUnit k { s.perUnit k with again := true }).perShow k).signal) ∧
    ((s.perUnit k).stopping = false → s.on ⟨perCfgReg u, 31, 1⟩ = false → exec (.peripheralEnable u cfg) s =
      .next ((s1.setPerUnit k {}).perNext k).signal) ∧
    exec (.peripheralDisable u cfg) s =
      .next ((s0.setPerUnit k { s.perUnit k with stopping := (s.perUnit k).running, again := false }).perShow k).signal)

/-- A transfer that ends makes room in the queue, and the next one that waits begins on an enabled unit; DONE is set when the
queue runs empty. A unit that is stopping stops at the end of its transfer, and one whose start waited begins afresh. An SPI
frame leaves with its BITS + 1 bits in the order LSBFIRST gives, and its received frame, its bits in the same order, is
stored; bytes go out with their start, parity and stop bits on a UART and with their acknowledge bit on I2C; a UART byte sent
frees its place; a UART break is flagged and stores nothing, and a byte with a framing or parity error is flagged and still
stored. An I2C command does its parts in order, and SCL low for too long flushes the queue and sets the timeout flag.
Commands that it shows completing: I2C_START, I2C_WRITE, I2C_READ, I2C_STOP, I2C_TIMEOUT, UART_RX_BYTE, UART_BYTE_SENT,
SPI_FRAME_DONE. (16 Machine I/O and Peripherals: R408, R411, R412, R413) -/
def Obligations.TransfersComplete : Prop :=
  ∀ (s : State) (n : Nat),
    ((s.perUnit (4 + n)).running = true → ∀ miso : Word, exec (.spiFrameDone n miso) s = .next
      (((s.perWire (4 + n) (s.spiOrder n (bitList (s.spiBits n) ((s.perUnit (4 + n)).tx.headD 0#32).toNat))).perReceive (4 + n)
        (BitVec.ofNat 32 (bitsNat (s.spiOrder n (bitList (s.spiBits n) miso.toNat).reverse)))).perEnd (4 + n) false).signal) ∧
    (∀ k v : Nat, bitsNat (bitList k v) = v % 2 ^ k) ∧
    ((s.perUnit (8 + n)).running = true → exec (.uartByteSent n) s = .next
      ((s.perWire (8 + n) (s.uartBits n ((s.perUnit (8 + n)).tx.headD 0#32).toNat)).perEnd (8 + n) false).signal) ∧
    (s.perOn (8 + n) = true → ∀ (data : Byte) (framing parity : Bool),
      exec (.uartRxByte n data true framing parity) s = .next ((s.raise (perBREAK (8 + n))).perShow (8 + n)).signal) ∧
    (s.perOn (8 + n) = true → s.on (R.PER_UART_CFG.DATA7 n) = false → ∀ data : Byte,
      exec (.uartRxByte n data false false false) s = .next (s.perReceive (8 + n) (data.setWidth 32)).signal ∧
      ∃ t, exec (.uartRxByte n data false true false) s = .next t ∧
        t.mute = ((s.raise (perERRB (8 + n))).perReceive (8 + n) (if (s.raise (perERRB (8 + n))).on (R.PER_UART_CFG.DATA7 n)
          then (data &&& 0x7F#8).setWidth 32 else data.setWidth 32)).mute) ∧
    (s.g (R.PER_I2C_CFG.TOUT n) ≠ 0 → s.perOn n = true → exec (.i2cTimeout n) s = .next ((s.raise (perERRC n)).perEnd n true).signal) ∧
    (∀ (part : Nat), (s.perUnit n).running = true → (s.perUnit n).left = part →
      (part % 2 = 1 → exec (.i2cStart n .ack) s = .next (s.i2cDid n 1).signal ∧
        exec (.i2cStart n .lost) s = .next ((s.raise (perERRB n)).perEnd n true).signal) ∧
      (part % 2 = 0 → part / 2 % 2 = 1 → s.i2cSends n = true →
        exec (.i2cWrite n .ack) s = .next ((s.perWire n ((bitList 8 ((s.perUnit n).tx.headD 0#32).toNat).reverse ++ [false])).i2cDid n 2).signal ∧
        exec (.i2cWrite n .nack) s = .next
          (((s.perWire n ((bitList 8 ((s.perUnit n).tx.headD 0#32).toNat).reverse ++ [true])).raise (perERRA n)).perEnd n true).signal) ∧
      (part % 2 = 0 → part / 2 % 2 = 1 → s.i2cSends n = false → (s.perUnit n).rx.length < 16 → ∀ data : Byte,
        exec (.i2cRead n data .ack) s = .next (((s.perWire n ((bitList 8 data.toNat).reverse ++ [((s.perUnit n).tx.headD 0#32).getLsbD 10])).perReceive n
          (data.setWidth 32)).i2cDid n 2).signal) ∧
      (part = 4 → exec (.i2cStop n) s = .next (s.perEnd n false).signal)) ∧
    (∀ k part : Nat, (s.perUnit k).stopping = true → (s.perUnit k).again = false → part = (s.perUnit k).left →
      s.perEnd k false = (s.setPerUnit k { s.perUnit k with tx := (s.perUnit k).tx.drop 1, running := false, left := 0, stopping := false }).perShow k)

/-- RESET_N, SWDT, LOCKUP, RST_CTL and CLKFAIL outside a halt bring a system reset, power-on and brown-out a power-on reset:
every register that Table 17.2 does not keep reads its reset value, RST_CAUSE shows the source and RST_LAST the source and
the reach, no start runs, the pins are in reset, and the banks keep their contents at system reach. In a halt a source that
does not end it only sets its cause bit. A fabric reset holds every selected, powered region until it is complete. The end of
the last source begins the release: the domains are on, the network runs, the ports open, and TRIM is due. The debug port's
DBG_RSTREQ asserts and drops its source, and any other writer gets an error. RESETREQ is obeyed or counted as refused.
Commands that it shows completing: RESETREQ, POR, BOR, RESET_N, SWDT, LOCKUP, CLKFAIL, RST_CTL_FABRIC, RST_CTL_SYSTEM,
FABRIC_RESET_COMPLETE, RESET_RELEASE, DBG_RSTREQ, CLOCK_VALID_AGAIN. (17 Reset: R415, R416, R417, R418, R419, R420, R421,
R422, 15 Twin Operation: R384, 22 Host Interface and Debug: R495) -/
def Obligations.Resets : Prop :=
  (∀ (s : State) (c : Instr) (src : Nat), (c = .resetN ∧ src = 2) ∨ (c = .swdt ∧ src = 3) ∨ (c = .lockup ∧ src = 8) ∨ (c = .rstCtlSystem ∧ src = 5) ∨
      (c = .clkfail ∧ src = 7) ∨ (c = .resetreq ∧ src = 9 ∧ s.resetReqOk = true) →
    s.halted = false → s.rst.reach < 2 → 10 ∉ s.rst.asserted → ∃ t : State, exec c s = .next t.signal ∧ t.rst.reach = 2 ∧ src ∈ t.rst.asserted ∧
      t.bit R.RST_CAUSE.CAUSE src = true ∧ t.g R.RST_LAST.CAUSE = src ∧ t.g R.RST_LAST.REACH = 2 ∧ t.on R.RST_LAST.HALTED = false ∧
      (∀ a, keptReg false a = false → a ≠ R.CLK_STATUS.reg → t.rw a = resetWord a) ∧ t.start.step = none ∧ t.xbar.pinsOn = false ∧ t.vsm.ports = [] ∧
      t.noc.issued = [] ∧ (∀ a, 4 ≤ memUnit a → t.byte a = s.byte a) ∧ (src = 7 → t.on R.CLK_STATUS.REFOK = false)) ∧
  (∀ s : State, s.resetReqOk = false → exec .resetreq s = .next (((s.raise R.TWIN_EVENTS.RSTREQ).setTwinBlk (fun t => { t with asked := false })).bump
    R.TWIN_ERRCNT.RSTREF 1).signal) ∧
  (∀ (s : State) (c : Instr) (src : Nat), (c = .por ∧ src = 0) ∨ (c = .bor ∧ src = 1) → s.rst.reach < 3 → 10 ∉ s.rst.asserted → s.sec.lost = false →
    ∃ t : State, exec c s = .next t.signal ∧ t.rst.reach = 3 ∧ src ∈ t.rst.asserted ∧ t.g R.RST_CAUSE.CAUSE = 2 ^ src ∧ t.g R.RST_LAST.CAUSE = src ∧
      t.g R.RST_LAST.REACH = 3 ∧ (∀ a, keptReg true a = false → a ≠ R.RST_CAUSE.reg → a ≠ R.RST_LAST.reg → t.rw a = resetWord a) ∧
      t.lgr = {} ∧ t.jtag = {} ∧ t.start.step = none ∧ (src = 1 → t.on R.AON_STATUS.MAINLOST = true)) ∧
  (∀ (s : State) (c : Instr) (src : Nat), (c = .swdt ∧ src = 3) ∨ (c = .lockup ∧ src = 8) → s.halted = true →
    exec c s = .next (s.setBit R.RST_CAUSE.CAUSE src).signal) ∧
  (∀ s : State, (s.halted = true → exec .rstCtlFabric s = .next (s.setBit R.RST_CAUSE.CAUSE 5).signal) ∧
    (s.halted = false → s.rst.reach = 0 → ∃ t : State, exec .rstCtlFabric s = .next t.signal ∧ t.g R.RST_LAST.CAUSE = 5 ∧ t.g R.RST_LAST.REACH = 1 ∧
      t.bit R.RST_CAUSE.CAUSE 5 = true ∧ (∀ g, g ∈ s.fabSel → s.logicOn g = true → (t.region g).held = true ∧ g ∈ t.rst.fab ∧ t.on R.RST_STATUS.FABBUSY = true) ∧
      (∀ g, g < 512 → g ∉ s.fabSel → (t.region g).held = (s.region g).held))) ∧
  (∀ (s : State) (g : Nat), (g ∉ s.rst.fab ∨ g ∈ s.rst.dbgHeld → exec (.fabricResetComplete g) s = .next s.signal) ∧
    (g ∈ s.rst.fab → g ∉ s.rst.dbgHeld → ∃ t : State, exec (.fabricResetComplete g) s = .next t.signal ∧ (t.region g).held = false ∧
      t.rst.fab = s.rst.fab.filter (fun x => !(decide (x = g))) ∧ t.on R.RST_STATUS.FABBUSY = (t.rst.fab != []))) ∧
  (∀ (s : State) (c : Instr) (src : Nat), (c = .resetRelease src ∧ src ≠ 6 ∧ src ≠ 7) ∨ (c = .clockValidAgain ∧ src = 7) →
    (src ∉ s.rst.asserted → exec c s = .next s.signal) ∧
    (src ∈ s.rst.asserted → src ≠ 10 → (∃ x, x ∈ s.rst.asserted ∧ x ≠ src) → exec c s = .next
      (s.setRst (fun r => { r with asserted := r.asserted.filter (fun x => !(decide (x = src))) })).signal) ∧
    (s.rst.asserted = [src] → s.rst.reach ≠ 0 → ∃ t : State, exec c s = .next t.signal ∧ t.rst.reach = 0 ∧ t.rst.asserted = [] ∧ t.start.step = some 8 ∧
      t.g R.NOC_STATUS.RUN = 1 ∧ t.on R.CLK_STATUS.REFOK = true ∧ t.on R.CLK_STATUS.SYSLOCK = true ∧ t.on R.CLK_STATUS.ANGLOCK = true ∧
      (∀ n, 6 ≤ n → n < 45 → t.g (R.PWR_PD_STATUS.STATE n) = 1) ∧ (∀ ep, ep < 1024 → epExists ep = true → s.portState ep ≠ portFENCED → t.portState ep = portOPEN) ∧
      (∀ q, q < 4 → t.quadState q = 1) ∧ t.mem = s.mem)) ∧
  (∀ s : State, exec (.resetRelease 6) s = .next s.signal ∧ exec (.resetRelease 7) s = .next s.signal) ∧
  (∀ (s : State) (who : Who) (v : Word), who ≠ .debug → exec (.dbgRstreq who v) s = .next (s.answerWith stERR []).signal) ∧
  (∀ (s : State) (v : Word), (v.toNat % 4 = 2 → s.g R.DBG_RSTREQ.REQ ≠ 2 → s.halted = false → s.rst.reach = 0 → s.rst.asserted = [] →
      ∃ t : State, exec (.dbgRstreq .debug v) s = .next t.signal ∧ t.rst.reach = 2 ∧ t.rst.asserted = [6] ∧ t.g R.DBG_RSTREQ.REQ = 2 ∧
        t.on R.DBG_STATUS.RSTHELD = true ∧ t.g R.RST_LAST.CAUSE = 6 ∧ t.resp = some { status := stOK, data := [] }) ∧
    (v.toNat % 4 = 0 → s.rst.asserted = [6] → s.rst.reach = 2 → ∃ t : State, exec (.dbgRstreq .debug v) s = .next t.signal ∧ t.rst.reach = 0 ∧
      t.rst.asserted = [] ∧ t.start.step = some 8 ∧ t.g R.DBG_RSTREQ.REQ = 0 ∧ t.on R.DBG_STATUS.RSTHELD = false))

/-- While a wider reset is asserted a block reset is discarded. One of a block that is not idle is refused: RST_BLKERR counts it
and names the register, the bit and BUSY, and nothing else changes. One of an idle block returns the block's registers to
their reset values, and changes no register of another block. Commands that it shows completing: BLOCK_RESET_ENC,
BLOCK_RESET_I2C, BLOCK_RESET_SPI, BLOCK_RESET_UART, BLOCK_RESET_QUAD, BLOCK_RESET_VSM, BLOCK_RESET_USB, BLOCK_RESET_HBM,
BLOCK_RESET_PMB, BLOCK_RESET_CMP, BLOCK_RESET_EDG, BLOCK_RESET_CAP, BLOCK_RESET_AXIS. (17 Reset: R423, 24 Address Map and
Registers: R515) -/
def Obligations.BlockResets : Prop :=
  (∀ (s : State) (c : Instr) (r b lo n : Nat), (∃ k, k < 16 ∧ c = .blockResetEnc k ∧ r = 0 ∧ b = k ∧ lo = R.PER_ENC_CFG.reg k ∧ n = 0x20) ∨
      (∃ k, k < 4 ∧ c = .blockResetI2c k ∧ r = 0 ∧ b = 16 + k ∧ lo = perBase k ∧ n = 0x20) ∨
      (∃ k, k < 4 ∧ c = .blockResetSpi k ∧ r = 0 ∧ b = 20 + k ∧ lo = perBase (4 + k) ∧ n = 0x20) ∨
      (∃ k, k < 8 ∧ c = .blockResetUart k ∧ r = 0 ∧ b = 24 + k ∧ lo = perBase (8 + k) ∧ n = 0x20) ∨
      (∃ k, k < 12 ∧ c = .blockResetQuad k ∧ r = 1 ∧ b = k ∧ lo = R.LANE_LANE_CFG.reg (4 * k) ∧ n = 0x200) ∨
      (c = .blockResetVsm ∧ r = 1 ∧ b = 12 ∧ lo = 0x800000 ∧ n = 0x10000) ∨ (c = .blockResetUsb ∧ r = 1 ∧ b = 13 ∧ lo = 0xA00000 ∧ n = 0x10000) ∨
      (∃ k, k < 4 ∧ c = .blockResetHbm k ∧ r = 1 ∧ b = 14 + k ∧ lo = R.HBM_PC_ERR.reg (32 * k) ∧ n = 0x80) ∨
      (c = .blockResetPmb .super ∧ r = 1 ∧ b = 18 ∧ lo = 0xC00800 ∧ n = 8) ∨
      (∃ k, k < 2 ∧ c = .blockResetCmp k ∧ r = 2 ∧ b = k ∧ lo = R.EVT_CMP_CFG.reg (32 * k) ∧ n = 0x400) ∨
      (∃ k, k < 4 ∧ c = .blockResetEdg k ∧ r = 2 ∧ b = 2 + k ∧ lo = R.EVT_EDG_CFG.reg (32 * k) ∧ n = 0x400) ∨
      (∃ k, k < 4 ∧ c = .blockResetCap k ∧ r = 2 ∧ b = 6 + k ∧ lo = R.EVT_CAP_CFG.reg (32 * k) ∧ n = 0x800) ∨
      (∃ k, k < 16 ∧ c = .blockResetAxis k ∧ r = 3 ∧ b = k ∧ lo = R.ANG_AXIS_CFG.reg k ∧ n = 0x40) →
    (s.rst.reach ≠ 0 → exec c s = .next s.signal) ∧
    (s.rst.reach = 0 → (exec c s = .next (((((s.bump R.RST_BLKERR.COUNT 1).put R.RST_BLKERR.REG r).put R.RST_BLKERR.BIT b).put R.RST_BLKERR.CODE 1)).signal ∨
      ∃ t : State, exec c s = .next t.signal ∧ (∀ a, lo ≤ a → a < lo + n → t.rw a = resetWord a) ∧ t.rst = s.rst ∧
        t.rw R.RST_BLKERR.reg = s.rw R.RST_BLKERR.reg))) ∧
  (∀ s : State, s.rst.reach = 0 →
    (∀ k, k < 16 → s.on (R.PER_ENC_CFG.EN k) = true → exec (.blockResetEnc k) s = .next
      (((((s.bump R.RST_BLKERR.COUNT 1).put R.RST_BLKERR.REG 0).put R.RST_BLKERR.BIT k).put R.RST_BLKERR.CODE 1)).signal) ∧
    (∀ k, k < 16 → s.on (R.PER_ENC_CFG.EN k) = false → (∀ a, a < 16 → s.g (R.ANG_AXIS_CFG.KIND a) ≠ 1) → ∃ t : State,
      exec (.blockResetEnc k) s = .next t.signal ∧ (∀ a, R.PER_ENC_CFG.reg k ≤ a → a < R.PER_ENC_CFG.reg k + 0x20 → t.rw a = resetWord a) ∧
      ∀ a, (a < R.PER_ENC_CFG.reg k ∨ R.PER_ENC_CFG.reg k + 0x20 ≤ a) → a ≠ R.PER_EVENTS.reg → t.rw a = s.rw a) ∧
    (∀ (c : Instr) (k b lo : Nat), (∃ i, i < 4 ∧ c = .blockResetI2c i ∧ k = i ∧ b = 16 + i) ∨ (∃ i, i < 4 ∧ c = .blockResetSpi i ∧ k = 4 + i ∧ b = 20 + i) ∨
        (∃ i, i < 8 ∧ c = .blockResetUart i ∧ k = 8 + i ∧ b = 24 + i) → lo = perBase k →
      (s.perOn k = true → exec c s = .next (((((s.bump R.RST_BLKERR.COUNT 1).put R.RST_BLKERR.REG 0).put R.RST_BLKERR.BIT b).put R.RST_BLKERR.CODE 1)).signal) ∧
      (s.perOn k = false → s.on (perField k 7 1) = false → ∃ t : State, exec c s = .next t.signal ∧ (∀ a, lo ≤ a → a < lo + 0x20 → t.rw a = resetWord a) ∧
        ∀ a, (a < lo ∨ lo + 0x20 ≤ a) → a ≠ R.PER_EVENTS.reg → t.rw a = s.rw a)) ∧
    (∀ k, k < 4 → (s.stackState k = 1 ∨ s.stackState k = 2 → exec (.blockResetHbm k) s = .next
        (((((s.bump R.RST_BLKERR.COUNT 1).put R.RST_BLKERR.REG 1).put R.RST_BLKERR.BIT (14 + k)).put R.RST_BLKERR.CODE 1)).signal) ∧
      (s.stackState k = 0 ∨ s.stackState k = 3 → ∃ t : State, exec (.blockResetHbm k) s = .next t.signal ∧ t.mem = s.mem ∧ t.hbm.engine.get k = none ∧
        (∀ a, R.HBM_PC_ERR.reg (32 * k) ≤ a → a < R.HBM_PC_ERR.reg (32 * k) + 0x80 → t.rw a = resetWord a) ∧
        ∀ a, (a < R.HBM_PC_ERR.reg (32 * k) ∨ R.HBM_PC_ERR.reg (32 * k) + 0x80 ≤ a) → (a < R.HBM_STACK_TEMP.reg k ∨ R.HBM_STACK_TEMP.reg k + 0x10 ≤ a) →
          t.rw a = s.rw a)) ∧
    (∀ k, k < 12 → (∃ n, n / 4 = k ∧ s.stage n ≠ stOFF) → exec (.blockResetQuad k) s = .next
      (((((s.bump R.RST_BLKERR.COUNT 1).put R.RST_BLKERR.REG 1).put R.RST_BLKERR.BIT k).put R.RST_BLKERR.CODE 1)).signal) ∧
    (∀ k, k < 12 → (∀ n, n / 4 = k → s.stage n = stOFF ∧ s.on (R.LANE_LANE_STATUS.BUSY n) = false) → (∀ p, p < 48 → s.on (R.VSM_PORT_CFG.EN p) = false) →
      ∃ t : State, exec (.blockResetQuad k) s = .next t.signal ∧ (∀ n, n / 4 = k → t.laneOf n = {}) ∧
        (∀ a, R.LANE_LANE_CFG.reg (4 * k) ≤ a → a < R.LANE_LANE_CFG.reg (4 * k) + 0x200 → t.rw a = resetWord a)) ∧
    ((∃ p, p < 48 ∧ s.vstate p ≠ vsDOWN) → exec .blockResetVsm s = .next
      (((((s.bump R.RST_BLKERR.COUNT 1).put R.RST_BLKERR.REG 1).put R.RST_BLKERR.BIT 12).put R.RST_BLKERR.CODE 1)).signal) ∧
    ((∀ p, p < 48 → s.vstate p = vsDOWN ∧ s.on (R.VSM_PORT_STATUS.BUSY p) = false) → s.vsm.tunOut = [] → s.vsm.tunIn = [] →
      ∃ t : State, exec .blockResetVsm s = .next t.signal ∧ t.vsm.ports = [] ∧ t.vsm.route = [] ∧ ∀ a, 0x800000 ≤ a → a < 0x810000 → t.rw a = resetWord a) ∧
    (s.on R.USB_STATUS.LINK = true → exec .blockResetUsb s = .next
      (((((s.bump R.RST_BLKERR.COUNT 1).put R.RST_BLKERR.REG 1).put R.RST_BLKERR.BIT 13).put R.RST_BLKERR.CODE 1)).signal) ∧
    (s.on R.USB_STATUS.LINK = false → (∀ n, n < 8 → s.dmaState n = dmaSTOPPED ∨ s.dmaState n = dmaERROR) →
      ∃ t : State, exec .blockResetUsb s = .next t.signal ∧ t.usb = {} ∧ ∀ a, 0xA00000 ≤ a → a < 0xA10000 → t.rw a = resetWord a) ∧
    (s.on R.PER_PMB_STATUS.BUSY = true → exec (.blockResetPmb .super) s = .next
      (((((s.bump R.RST_BLKERR.COUNT 1).put R.RST_BLKERR.REG 1).put R.RST_BLKERR.BIT 18).put R.RST_BLKERR.CODE 1)).signal) ∧
    (s.on R.PER_PMB_STATUS.BUSY = false → ∃ t : State, exec (.blockResetPmb .super) s = .next t.signal ∧
      (∀ a, 0xC00800 ≤ a → a < 0xC00808 → t.rw a = resetWord a) ∧ ∀ a, (a < 0xC00800 ∨ 0xC00808 ≤ a) → t.rw a = s.rw a) ∧
    (∀ k, k < 2 → (∀ n, n < 64 → s.on (R.EVT_CMP_STATUS.ARMED n) = false) → ∃ t : State, exec (.blockResetCmp k) s = .next t.signal ∧
      (∀ a, R.EVT_CMP_CFG.reg (32 * k) ≤ a → a < R.EVT_CMP_CFG.reg (32 * k) + 0x400 → t.rw a = resetWord a) ∧ t.rw (R.EVT_CMP_FIRED.reg k) = resetWord (R.EVT_CMP_FIRED.reg k) ∧
      (∀ n, n / 32 = k → t.evt.cmps.get n = {}) ∧ ∀ a, (a < R.EVT_CMP_CFG.reg (32 * k) ∨ R.EVT_CMP_CFG.reg (32 * k) + 0x400 ≤ a) →
        a % 4 = 0 → a ≠ R.EVT_CMP_FIRED.reg k → a ≠ R.EVT_CMP_IRQ_EN.reg k → t.rw a = s.rw a) ∧
    ((∀ n, n < 4 → s.on (R.LGR_STREAM_CFG.EN n) = false) →
      (∀ k, k < 4 → (∀ n, n < 128 → s.on (R.EVT_EDG_STATUS.ARMED n) = false ∧ s.g (R.EVT_EDG_STATUS.QFILL n) = 0) → ∃ t : State,
        exec (.blockResetEdg k) s = .next t.signal ∧ (∀ a, R.EVT_EDG_CFG.reg (32 * k) ≤ a → a < R.EVT_EDG_CFG.reg (32 * k) + 0x400 → t.rw a = resetWord a) ∧
        (∀ n, n / 32 = k → t.evt.edges.get n = {})) ∧
      (∀ k, k < 4 → (∀ n, n < 128 → s.on (R.EVT_CAP_STATUS.ARMED n) = false ∧ s.g (R.EVT_CAP_STATUS.FILL n) = 0) → ∃ t : State,
        exec (.blockResetCap k) s = .next t.signal ∧ (∀ a, R.EVT_CAP_CFG.reg (32 * k) ≤ a → a < R.EVT_CAP_CFG.reg (32 * k) + 0x800 → t.rw a = resetWord a) ∧
        (∀ n, n / 32 = k → t.evt.caps.get n = {})) ∧
      (∀ k, k < 16 → s.axState k = axDISABLED → s.on (R.ANG_AXIS_STATE.BUSY k) = false → (∀ a, a < 16 → s.g (R.ANG_AXIS_CFG.KIND a) ≠ 3) →
        s.axisNamed k = false → ∃ t : State, exec (.blockResetAxis k) s = .next t.signal ∧ t.axis k = {} ∧
        (∀ a, R.ANG_AXIS_CFG.reg k ≤ a → a < R.ANG_AXIS_CFG.reg k + 0x40 → t.rw a = resetWord a) ∧
        ∀ a, (a < R.ANG_AXIS_CFG.reg k ∨ R.ANG_AXIS_CFG.reg k + 0x40 ≤ a) → t.rw a = s.rw a)) ∧
    (∀ k, k < 16 → s.axState k ≠ axDISABLED → exec (.blockResetAxis k) s = .next
      (((((s.bump R.RST_BLKERR.COUNT 1).put R.RST_BLKERR.REG 3).put R.RST_BLKERR.BIT k).put R.RST_BLKERR.CODE 1)).signal)) ∧
  (∀ (s : State) (who : Who), who ≠ .super → exec (.blockResetPmb who) s = .next (s.answerWith stERR []).signal)

/-- A request for a power domain that Table 18.4 refuses records its code and sets REFUSED, and changes nothing else; one for the
state the domain has is accepted and does nothing; one while the domain is in a transition is queued, the last one staying;
any other begins the transition: to ON by POWERING or WAKING, to OFF or RETAIN by CLOSING with every open endpoint of the
domain closing. The gate opens when every endpoint is done and no region of a logic group is switching, and the domain loses
what Table 18.5 says. At ON the endpoints open, all but a fenced one, and each region with an ACTIVE slot starts. The loop
over VCCL moves by at most 5 mV and holds after an error, which polls find as R433 says; LOWWARN sets its flag. A write of a
fabric PLL's setting is refused outside its limits or with users, and else unlocks it; lock releases its regions, their
watchdogs reloaded, and loss of lock gates them; a region's stage is refused, taken at once, or left pending. Commands that
it shows completing: PD_REQUEST_OFF, PD_REQUEST_ON, PD_REQUEST_RETAIN, DOMAIN_OFF_REACHED, DOMAIN_ON_REACHED, LOWWARN,
AVS_POLL, AVS_STEP, FPLL_CFG_WRITE, FPLL_LOCK, FPLL_LOCK_LOSS, CLK_REGION_STAGE. (18 Power Domains and Clocks: R425, R427,
R428, R429, R430, R431, R432, R433, R435, R436, R437) -/
def Obligations.PowerAndClocks : Prop :=
  (∀ s : State, exec .lowwarn s = .next (s.raise R.PWR_EVENTS.LOWWARN).signal) ∧
  (∀ (s : State) (n : Nat) (c : Instr) (req target : Nat), n < 45 → (c = .pdRequestOff n ∧ req = 0 ∧ target = pdOFF) ∨
      (c = .pdRequestOn n ∧ req = 1 ∧ target = pdON) ∨ (c = .pdRequestRetain n ∧ req = 2 ∧ target = pdRETAIN) →
    ((n ≤ 4 ∨ target = pdRETAIN ∧ (n < 39 ∨ 42 < n)) → s.pdRefusal n target = 1) ∧
    (n = 10 → s.pdState n = pdON → target = pdOFF → (s.stackState 0 = 2 ∨ s.stackState 1 = 2 ∨ s.stackState 2 = 2) → s.pdRefusal n target = 2) ∧
    (39 ≤ n → n ≤ 42 → s.pdState n = pdON → target ≠ pdON → s.on R.MEM_STATUS.MARCHBUSY = true → s.pdRefusal n target = 2) ∧
    (43 ≤ n → s.pdState n = pdON → target = pdOFF → (∃ g, g < 512 ∧ g % 16 / 8 = n - 43 ∧ s.pdState (logicDomain g) ≠ pdOFF) → s.pdRefusal n target = 3) ∧
    (s.pdMoving n = false ∨ s.pdRefusal n target = 1 → s.pdRefusal n target ≠ 0 →
      exec c s = .next ((s.put (R.PWR_PD_STATUS.ERR n) (s.pdRefusal n target)).raise R.PWR_EVENTS.REFUSED).signal) ∧
    (s.pdMoving n = true → s.pdRefusal n target ≠ 1 → ∃ t : State, exec c s = .next t.signal ∧
      t.pwr.queued.get n = (if s.pdEntering n = target then none else some target) ∧
      t.on (R.PWR_PD_STATUS.BUSY n) = !(decide (s.pdEntering n = target)) ∧ t.g (R.PWR_PD_STATUS.ERR n) = 0 ∧ t.g (R.PWR_PD_CTL.REQ n) = req ∧
      t.pdState n = s.pdState n ∧ t.mem = s.mem ∧ regsBut [R.PWR_PD_CTL.reg n, R.PWR_PD_STATUS.reg n, R.PWR_STATUS.reg] s t) ∧
    (s.pdMoving n = false → s.pdRefusal n target = 0 → s.pdState n = target →
      exec c s = .next ((s.put (R.PWR_PD_STATUS.ERR n) 0).put (R.PWR_PD_CTL.REQ n) req).signal) ∧
    (s.pdMoving n = false → s.pdRefusal n target = 0 → s.pdState n ≠ target → target = pdON → s.heldOff n = true →
      exec c s = .next ((s.put (R.PWR_PD_STATUS.ERR n) 0).put (R.PWR_PD_CTL.REQ n) req).signal) ∧
    (s.pdMoving n = false → s.pdRefusal n target = 0 → s.pdState n ≠ target → target ≠ pdON ∨ s.heldOff n = false → ∃ t : State,
      exec c s = .next t.signal ∧
      t.pdState n = (if target ≠ pdON then pdCLOSING else if s.pdState n = pdRETAIN then pdWAKING else pdPOWERING) ∧
      (target ≠ pdON → t.pdEntering n = target ∧ ∀ ep, ep ∈ domainPorts n →
        t.portState ep = if s.portState ep = portOPEN then portCLOSING else s.portState ep) ∧
      t.g (R.PWR_PD_STATUS.ERR n) = 0 ∧ t.g (R.PWR_PD_CTL.REQ n) = req ∧ t.on R.PWR_STATUS.TRANS = true ∧ t.on R.PWR_EVENTS.STATECHG = true ∧ t.mem = s.mem ∧
      ∀ a, a ∉ [R.PWR_PD_CTL.reg n, R.PWR_PD_STATUS.reg n, R.PWR_EVENTS.reg, R.PWR_STATUS.reg, R.MEM_STATUS.reg, R.MEM_EVENTS.reg, R.HBM_STATUS.reg,
        R.HBM_EVENTS.reg, R.NOC_STATUS.reg] → (∀ ep, ep ∈ domainPorts n → a ≠ R.NOC_PORT_STATUS.reg ep) → t.rw a = s.rw a)) ∧
  (∀ (s : State) (n : Nat), n < 45 →
    ((s.pdState n ≠ pdCLOSING ∨ (∃ ep, ep ∈ domainPorts n ∧ (s.portState ep = portOPEN ∨ s.portState ep = portCLOSING)) ∨
        (23 ≤ n ∧ n ≤ 38 ∧ ∃ g, g < 512 ∧ logicDomain g = n ∧ s.switching g = true)) → exec (.domainOffReached n) s = .next s.signal) ∧
    (5 ≤ n → s.pdState n = pdCLOSING → (∀ ep, ep ∈ domainPorts n → s.portState ep ≠ portOPEN ∧ s.portState ep ≠ portCLOSING) →
      (23 ≤ n → n ≤ 38 → ∀ g, g < 512 → logicDomain g = n → s.switching g = false) → s.pwr.queued.get n = none →
      ∀ goal : Nat, s.pwr.goal.get n = goal → goal = pdOFF ∨ goal = pdRETAIN → ∃ t : State, exec (.domainOffReached n) s = .next t.signal ∧ t.pdState n = goal ∧
        t.on R.PWR_EVENTS.STATECHG = true ∧
        (n = 5 → t.per = {} ∧ ∀ a, (0x200000 ≤ a ∧ a < 0x203300 ∨ 0x203350 ≤ a ∧ a < 0x300000 ∨ 0xC00000 ≤ a ∧ a < 0xC10000) → t.rw a = resetWord a) ∧
        (n = 6 → t.on R.USB_STATUS.LINK = false ∧ t.on R.USB_STATUS.PCIE = false ∧ t.g R.USB_MBX_STATE.STATE = 0) ∧
        (7 ≤ n → n ≤ 10 → t.stackState (n - 7) = 0 ∧ ∀ i, i < 24 → t.scrState (24 * (n - 7) + i) = 3) ∧
        (11 ≤ n → n ≤ 22 → t.on (R.LANE_QUAD_STATUS.PLLLOCK (n - 11)) = false ∧
          ∀ k, k / 4 = n - 11 → (s.laneOf k).again = false → t.stage k = stOFF) ∧
        (23 ≤ n → n ≤ 38 → ∀ g, g < 512 → logicDomain g = n → (t.region g).released = false ∧ t.on (R.SYS_FWD_STATUS.GATED g) = true ∧
          ∀ k, k < 8 → t.slotState g k = s.slotState g k) ∧
        (39 ≤ n → n ≤ 42 → goal = pdOFF → ∀ b, b < 4096 → bankQuad b = n - 39 → t.g (R.MEM_BANK_OWNER.OWNER_A b) = 0 ∧ t.g (R.MEM_BANK_OWNER.OWNER_B b) = 0) ∧
        (39 ≤ n → n ≤ 42 → goal = pdRETAIN → regsBut [R.PWR_PD_STATUS.reg n, R.PWR_EVENTS.reg, R.PWR_STATUS.reg, R.MEM_STATUS.reg, R.MEM_EVENTS.reg] s t) ∧
        (43 ≤ n → ∀ g k, g < 512 → k < 8 → g % 16 / 8 = n - 43 → t.slotState g k = slotEMPTY) ∧
        (n ≤ 6 ∨ (23 ≤ n ∧ n ≤ 38) ∨ 43 ≤ n ∨ (39 ≤ n ∧ goal = pdRETAIN) → t.mem = s.mem ∧ t.fill = s.fill)) ∧
    (∀ x : Nat, s.pdState n = pdCLOSING → (∀ ep, ep ∈ domainPorts n → s.portState ep ≠ portOPEN ∧ s.portState ep ≠ portCLOSING) → n ≤ 22 ∨ 39 ≤ n →
      s.pwr.queued.get n = some x → ∃ t : State, exec (.domainOffReached n) s = .next t.signal ∧ t.pwr.queued.get n = none ∧
        t.on (R.PWR_PD_STATUS.BUSY n) = false)) ∧
  (∀ (s : State) (n : Nat), n < 45 → (s.pdState n ≠ pdPOWERING → s.pdState n ≠ pdWAKING → exec (.domainOnReached n) s = .next s.signal) ∧
    (s.pdState n = pdPOWERING ∨ s.pdState n = pdWAKING → s.pwr.queued.get n = none → ∃ t : State, exec (.domainOnReached n) s = .next t.signal ∧
      t.pdState n = pdON ∧ t.on R.PWR_EVENTS.STATECHG = true ∧ (∀ ep, ep ∈ domainPorts n →
        t.portState ep = if s.portState ep = portFENCED then portFENCED else portOPEN) ∧ t.mem = s.mem ∧
      (7 ≤ n → n ≤ 10 → t.stackState (n - 7) = 1) ∧
      (23 ≤ n → n ≤ 38 → s.xbar.pinsOn = true → ∀ g, g < 512 → logicDomain g = n → (s.activeCtx g = none → t.region g = s.region g) ∧
        (∀ k : Nat, s.activeCtx g = some k → (t.region g).released = true ∧ (t.region g).held = false ∧
          t.g (R.SYS_FWD_STATUS.COUNT g) = s.g (R.SYS_FWD_CFG.TMO g) ∧ ∀ x, x ∈ tilesOf g → t.fab.ff.get x = s.initBits k x)))) ∧
  (∀ (s : State) (mv : Nat) (fault pec : Bool), (s.on R.PWR_AVS_CFG.EN = false → exec (.avsPoll mv fault pec) s = .next s.signal) ∧
    (∀ off : Bool, s.on R.PWR_AVS_CFG.EN = true → off = decide (s.g R.PWR_AVS_STATUS.TARGET + 15 < mv ∨ mv + 15 < s.g R.PWR_AVS_STATUS.TARGET) →
      s.pwr.waits = [] → ∃ t : State, exec (.avsPoll mv fault pec) s = .next t.signal ∧ t.g R.PWR_AVS_STATUS.TARGET = s.g R.PWR_AVS_STATUS.TARGET ∧
        (pec = false → t.g R.PWR_AVS_STATUS.MEAS = min mv 65535 ∧
          t.g R.PER_PMB_STATUS.LASTCMD = if s.on R.PWR_AVS_CFG.IF_ then s.g R.PER_PMB_STATUS.LASTCMD else 0x79) ∧
        (pec = true ∨ fault = true ∨ (off = true ∧ 2 ≤ s.pwr.misses) → t.on R.PWR_EVENTS.AVSERR = true ∧ t.pwr.held = true ∧
          t.pwr.vccl = s.g R.PWR_AVS_STATUS.TARGET ∧ t.faultLog = s.faultLog ++ [.regulator]) ∧
        (pec = false → fault = false → (off = false ∨ s.pwr.misses < 2) → t.pwr = { s.pwr with misses := if off then s.pwr.misses + 1 else 0 } ∧
          t.faultLog = s.faultLog ∧ t.rw R.PWR_EVENTS.reg = s.rw R.PWR_EVENTS.reg) ∧ t.mem = s.mem ∧
        regsBut [R.PWR_EVENTS.reg, R.PWR_AVS_STATUS.reg, R.PER_PMB_STATUS.reg] s t)) ∧
  (∀ s : State, (s.on R.PWR_AVS_CFG.EN = false ∨ s.pwr.held = true → exec .avsStep s = .next s.signal) ∧
    (s.on R.PWR_AVS_CFG.EN = true → s.pwr.held = false → s.pwr.waits = [] → s.pwr.vccl < 65536 → ∃ t : State, exec .avsStep s = .next t.signal ∧
      t.g R.PWR_AVS_STATUS.TARGET = (if s.g R.PWR_AVS_STATUS.TARGET < s.pwr.vccl then min s.pwr.vccl (s.g R.PWR_AVS_STATUS.TARGET + 5)
        else max s.pwr.vccl (s.g R.PWR_AVS_STATUS.TARGET - 5)) ∧ t.g R.PWR_AVS_STATUS.MEAS = s.g R.PWR_AVS_STATUS.MEAS ∧ t.pwr = s.pwr ∧ t.mem = s.mem ∧
      regsBut [R.PWR_AVS_STATUS.reg, R.PER_PMB_STATUS.reg] s t)) ∧
  (∀ (s : State) (k m p : Nat) (v : Word), k < 8 → m = (R.CLK_FPLL_CFG.M k).of v → p = (R.CLK_FPLL_CFG.P k).of v →
    ((m < 20 ∨ 30 < m ∨ p < 3 ∨ 120 < p ∨ 100 * m < 25 * p ∨ 750 * p < 100 * m ∨ s.fpllUsers k ≠ 0) →
      exec (.fpllCfgWrite k v) s = .next (s.raise R.CLK_EVENTS.CFGERR).signal) ∧
    (20 ≤ m → m ≤ 30 → 3 ≤ p → p ≤ 120 → 25 * p ≤ 100 * m → 100 * m ≤ 750 * p → s.fpllUsers k = 0 → ∃ t : State,
      exec (.fpllCfgWrite k v) s = .next t.signal ∧ t.g (R.CLK_FPLL_CFG.M k) = m ∧ t.g (R.CLK_FPLL_CFG.P k) = p ∧
      t.g (R.CLK_FPLL_CFG.EN k) = (R.CLK_FPLL_CFG.EN k).of v ∧ t.on (R.CLK_FPLL_STATUS.LOCK k) = false ∧ t.g (R.CLK_FPLL_STATUS.FREQ k) = 100 * m / p ∧
      t.bit R.CLK_STATUS.FPLLLOCK k = false ∧ t.mem = s.mem ∧ regsBut [R.CLK_FPLL_CFG.reg k, R.CLK_FPLL_STATUS.reg k, R.CLK_STATUS.reg] s t)) ∧
  (∀ (s : State) (c : Instr) (k : Nat) (up : Bool), k < 8 → (c = .fpllLock k ∧ up = true ∧ s.on (R.CLK_FPLL_CFG.EN k) = true) ∨
      (c = .fpllLockLoss k ∧ up = false ∧ s.on (R.CLK_FPLL_STATUS.LOCK k) = true) → ∃ t : State, exec c s = .next t.signal ∧
    t.on (R.CLK_FPLL_STATUS.LOCK k) = up ∧ t.bit R.CLK_STATUS.FPLLLOCK k = up ∧
    (up = false → t.on (R.CLK_FPLL_STATUS.LOST k) = true ∧ t.on R.CLK_EVENTS.FPLLLOST = true) ∧
    (∀ g, g < 512 → s.g (R.CLK_REGION_CFG.SRC g) = k → t.on (R.CLK_REGION_STATUS.CLKLOST g) = !up ∧ t.on (R.SYS_FWD_STATUS.GATED g) = t.gated g ∧
      (up = false → t.gated g = true) ∧
      (up = true → s.on (R.CLK_REGION_STATUS.CLKLOST g) = true → t.g (R.SYS_FWD_STATUS.COUNT g) = s.g (R.SYS_FWD_CFG.TMO g))) ∧
    (∀ g, g < 512 → s.g (R.CLK_REGION_CFG.SRC g) ≠ k → t.rw (R.CLK_REGION_STATUS.reg g) = s.rw (R.CLK_REGION_STATUS.reg g)) ∧ t.mem = s.mem ∧
    ∀ a, a ∉ [R.CLK_FPLL_STATUS.reg k, R.CLK_STATUS.reg, R.CLK_EVENTS.reg] →
      (∀ g, g < 512 → a ≠ R.CLK_REGION_STATUS.reg g ∧ a ≠ R.SYS_FWD_STATUS.reg g) → t.rw a = s.rw a) ∧
  (∀ (s : State) (k : Nat), (s.on (R.CLK_FPLL_CFG.EN k) = false → exec (.fpllLock k) s = .next s.signal) ∧
    (s.on (R.CLK_FPLL_STATUS.LOCK k) = false → exec (.fpllLockLoss k) s = .next s.signal)) ∧
  (∀ (s : State) (g k : Nat), g < 512 → k < 8 →
    ((s.on (R.CLK_FPLL_CFG.EN k) = false ∨
        s.g (R.CLK_REGION_STATUS.FMAX g) * s.g (R.CLK_FPLL_CFG.P k) < 100 * s.g (R.CLK_FPLL_CFG.M k)) →
      exec (.clkRegionStage g k) s = .next (s.raise R.CLK_EVENTS.CFGERR).signal) ∧
    (s.on (R.CLK_FPLL_CFG.EN k) = true → 100 * s.g (R.CLK_FPLL_CFG.M k) ≤ s.g (R.CLK_REGION_STATUS.FMAX g) * s.g (R.CLK_FPLL_CFG.P k) →
      (s.on (R.CTX_REGION_STATUS.HASACT g) = true → s.logicOn g = true → exec (.clkRegionStage g k) s =
        .next ((s.put (R.CLK_REGION_CFG.STAGE g) k).putB (R.CLK_REGION_CFG.PEND g) true).signal) ∧
      (s.on (R.CTX_REGION_STATUS.HASACT g) = false ∨ s.logicOn g = false → ∃ t : State, exec (.clkRegionStage g k) s = .next t.signal ∧
        t.g (R.CLK_REGION_CFG.STAGE g) = k ∧ t.g (R.CLK_REGION_CFG.SRC g) = k ∧ t.on (R.CLK_REGION_CFG.PEND g) = false ∧ t.on R.CLK_EVENTS.MOVED = true ∧
        t.mem = s.mem ∧ regsBut [R.CLK_REGION_CFG.reg g, R.CLK_REGION_STATUS.reg g, R.CLK_EVENTS.reg] s t)))

/-- A row of Table 19.1 does nothing unless its step is due. TRIM loads the fuses and begins the start with the action that the
policy gives for the failure before, or leaves the device in reset with TRIMERR. PORTS takes each port to the mode that its
SFDP read gives and goes on when one is in mode 1 or 2. FETCH takes the source of R440. HBMTRAIN brings the stacks that
trained ON and goes on, fails with the failed stacks, or waits for random numbers, a wait that ends in failure. MARCH, CSR,
LEDGER, LANES and PLANTTIME go on, are skipped, wait or fail as Table 19.1 says; REGIONS commits the regions of the chosen
set or none, with the first failed check of R442, the clock against FMAX exactly. RELEASE makes every committed slot ACTIVE,
releases its region and the pins, samples TWINSEL and enables the recorded streams. A failed start is retried by a system
reset unless its action is STOP. Commands that it shows completing: TRIM, PORTS, FETCH, HBMTRAIN, MARCH, CSR, LEDGER, LANES,
PLANTTIME, REGIONS, RELEASE, START_RETRY, RNG_DRAW_TIMEOUT. (19 Start-Up and the Start Log: R438, R440, R442, R443, R445,
R446, R447, 08 Configuration Images: R209, 17 Reset: R419, 11 HBM3E Memory and the Inline Scrambler: R260) -/
def Obligations.StartSteps : Prop :=
  (∀ (s : State) (c : Instr) (k : Nat), (c = .trim ∧ k = stepTRIM) ∨ (∃ a b, c = .ports a b ∧ k = stepPORTS) ∨
      (∃ tw, c = .fetch tw ∧ k = stepFETCH) ∨ (∃ b r, c = .hbmtrain b r ∧ k = stepHBMTRAIN) ∨ (∃ f, c = .march f ∧ k = stepMARCH) ∨
      (c = .csr ∧ k = stepCSR) ∨ (∃ b, c = .ledger b ∧ k = stepLEDGER) ∨ (∃ b, c = .lanes b ∧ k = stepLANES) ∨ (∃ b, c = .planttime b ∧ k = stepPLANTTIME) ∨
      (c = .regions ∧ k = stepREGIONS) ∨ (∃ b, c = .release b ∧ k = stepRELEASE) →
    s.start.step ≠ some k ∨ s.rst.reach ≠ 0 ∨ s.halted = true → exec c s = .next s.signal) ∧
  (∀ (s : State) (k n w : Nat), (s.policyEntry k = none → s.policyAction k n = (if n ≤ 1 then actRETRY else actSTOP, 0)) ∧
    (s.policyEntry k = some w → actAllowed k (w / 256 % 16) = true → actAllowed k (w / 4096 % 16) = true →
      s.policyAction k n = (if n ≤ 1 then w / 256 % 16 else w / 4096 % 16, w / 65536 % 256)) ∧
    (s.policyEntry k = some w → actAllowed k (w / 256 % 16) = false ∨ actAllowed k (w / 4096 % 16) = false →
      s.policyAction k n = (if n ≤ 1 then actRETRY else actSTOP, 0))) ∧
  (∀ s : State, s.stepDue stepTRIM = true →
    (s.fuseCrcWords.all s.fuseCrcOk = false → ∃ t : State, exec .trim s = .next t.signal ∧ t.on R.RST_STATUS.TRIMERR = true ∧ t.start.step = none ∧
      t.start.trimErr = true ∧ t.sec.starts = s.sec.starts) ∧
    (s.fuseCrcWords.all s.fuseCrcOk = true → ∀ (e : List Byte) (l : List (List Byte)), s.sec.starts = e :: l ∨ (s.sec.starts = [] ∧ l = [] ∧ e = []) →
      ∃ t : State, exec .trim s = .next t.signal ∧ t.on R.RST_STATUS.TRIMVALID = true ∧ t.start.logged = true ∧
      (∃ x, t.sec.starts = x :: s.sec.starts.take 15 ∧ startEntryOk x = true ∧ fieldAt x 12 1 = stepPORTS ∧
        fieldAt x 0 4 = (if s.sec.starts = [] then 0 else (fieldAt e 0 4 + 1) % 4294967296)) ∧
      (startEntryOk e = false ∨ (fieldAt e 13 1 ≠ resFAILED ∧ fieldAt e 13 1 ≠ resSTOPPED) → t.start.step = some stepPORTS ∧ t.start.action = none ∧
        t.start.fails = 0) ∧
      (startEntryOk e = true → fieldAt e 13 1 = resFAILED → ∀ k n : Nat, k = fieldAt e 12 1 → n = fieldAt e 15 1 / 16 →
        t.start.action = some (k, s.policyAction k n) ∧ t.start.fails = n ∧
        t.start.step = (if (s.policyAction k n).1 = actSTOP then none else some stepPORTS)))) ∧
  (∀ (s : State) (a b : Sfdp) (ok : Sfdp → Bool), (∀ x, ok x = decide (sfdpMode x = 1 ∨ sfdpMode x = 2)) → s.stepDue stepPORTS = true →
    ∃ t : State, exec (.ports a b) s = .next t.signal ∧ t.portMode 0 = sfdpMode a ∧ t.portMode 1 = sfdpMode b ∧ t.mem = s.mem ∧
    t.cfg.flashRst = false ∧ t.cfg.repeatExt.get 0 = sfdpRepeats a ∧ t.cfg.repeatExt.get 1 = sfdpRepeats b ∧
    (ok a = true ∨ ok b = true → startMoved s t stepFETCH) ∧ (ok a = false → ok b = false → startFailed s t stepPORTS 0)) ∧
  (∀ (s : State) (tw : Option (List Byte)), s.stepDue stepFETCH = true →
    ((s.loadCh 0).busy = true → exec (.fetch tw) s = .next s.signal) ∧
    (∀ usableA usableB : Bool, (s.loadCh 0).busy = false → usableA = decide (s.portMode 0 = 1 ∨ s.portMode 0 = 2) →
      usableB = decide (s.portMode 1 = 1 ∨ s.portMode 1 = 2) → ∃ t : State, exec (.fetch tw) s = .next t.signal ∧
        (s.applied stepFETCH actALTERNATE = none → t.start.source = if usableA then 1 else 130) ∧
        (s.applied stepFETCH actALTERNATE = some 1 → t.start.source = 3) ∧
        (∀ x : Nat, s.applied stepFETCH actALTERNATE = some x → x ≠ 1 → t.start.source = if usableB then 2 else 129))) ∧
  (∀ (s : State) (f bad arg : Nat) (rng : Bool), s.stepDue stepHBMTRAIN = true → bad = f % 16 → arg = (s.applied stepHBMTRAIN actALTERNATE).getD 0 →
    (s.start.drawing = none → bad ≠ 0 → (arg.testBit 2 = false ∨ 8 ≤ bad) → ∃ t : State, exec (.hbmtrain f rng) s = .next t.signal ∧
      startFailed s t stepHBMTRAIN bad ∧ ∀ k, k < 4 → t.stackState k = if bad.testBit k then 3 else 2) ∧
    (s.start.drawing = none → bad = 0 ∨ (arg.testBit 2 = true ∧ bad < 8) → ∃ t : State, exec (.hbmtrain f rng) s = .next t.signal ∧
      (∀ k, k < 4 → t.stackState k = if bad.testBit k then 3 else 2) ∧ t.g R.HBM_STATUS.RATE = min (arg % 4) 2 ∧ t.on R.SEC_STATUS.RNGOK = rng ∧
      (rng = true → startMoved s t stepMARCH ∧ ∀ r, r < 96 → bad.testBit (r / 24) = false → t.scrState r = 0) ∧
      (rng = false → t.start.step = some stepHBMTRAIN ∧ t.start.drawing = some bad)) ∧
    (∀ b : Nat, s.start.drawing = some b → (rng = false → exec (.hbmtrain f rng) s = .next s.signal) ∧
      (rng = true → ∃ t : State, exec (.hbmtrain f rng) s = .next t.signal ∧ startMoved s t stepMARCH ∧ t.on R.SEC_STATUS.RNGOK = true ∧
        t.start.drawing = none))) ∧
  (∀ s : State, (s.start.drawing = none → (∀ m, m < 16 → s.mbxRuns m 0x50 = false) → exec .rngDrawTimeout s = .next s.signal) ∧
    (∀ b : Nat, s.start.drawing = some b → ∃ t : State, exec .rngDrawTimeout s = .next t.signal ∧ startFailed s t stepHBMTRAIN (16 + b) ∧
      t.start.drawing = none ∧ t.on R.SEC_EVENTS.RNGFAIL = true ∧ t.on R.SEC_STATUS.RNGOK = false ∧
      t.g R.SEC_ERRCNT.RNGFAIL = min 65535 (s.g R.SEC_ERRCNT.RNGFAIL + 1)) ∧
    (∀ m : Nat, s.mbxRuns m 0x50 = true → ∃ t : State, exec .rngDrawTimeout s = .next t.signal ∧ t.mbxState m = mbxANSWERED ∧
      t.g (R.USB_MBX_RSP.RSP m) % 256 = 0x56 ∧ t.on R.SEC_EVENTS.RNGFAIL = true)) ∧
  (∀ (s : State) (f : List (Nat × Nat)), s.stepDue stepMARCH = true → ∃ t : State, exec (.march f) s = .next t.signal ∧
    ((s.applied stepMARCH actSKIP).isSome = true → startMoved s t stepCSR ∧ t.start.flags = s.start.flags ||| 2 ∧ t.mem = s.mem) ∧
    ((s.applied stepMARCH actSKIP).isSome = false → (∃ x, x ∈ f ∧ x.1 < 4096) → startFailed s t stepMARCH 0) ∧
    ((s.applied stepMARCH actSKIP).isSome = false → (∀ x, x ∈ f → 4096 ≤ x.1) → startMoved s t stepCSR)) ∧
  (∀ s : State, s.stepDue stepCSR = true →
    (s.cfg.held = [] → ∃ t : State, exec .csr s = .next t.signal ∧ startMoved s t stepLEDGER ∧ t.csr = s.csr ∧ t.mem = s.mem) ∧
    (∀ (a : Nat) (v : Word) (l : List (Nat × Word)), s.cfg.held = (a, v) :: l → (s.heldWrite a v).2 = false → (s.heldWrite a v).1.rst.reach = 0 →
      ∃ t : State, exec .csr s = .next t.signal ∧ t.start.step = none ∧ t.start.status = 0x16 ∧ t.csr = (s.heldWrite a v).1.csr) ∧
    (∀ (a : Nat) (v : Word), s.cfg.held = [(a, v)] → (s.heldWrite a v).2 = true → (s.heldWrite a v).1.rst.reach = 0 →
      ∃ t : State, exec .csr s = .next t.signal ∧ t.start.step = some stepLEDGER ∧ t.csr = (s.heldWrite a v).1.csr)) ∧
  (∀ (s : State) (n : Nat) (v : Word), n < 4 → (n ∈ (s.heldWrite (R.LGR_STREAM_CFG.reg n) v).1.start.streams ↔ (R.LGR_STREAM_CFG.EN n).of v = 1) ∧
    (s.on (R.LGR_STREAM_CFG.EN n) = false → (s.heldWrite (R.LGR_STREAM_CFG.reg n) v).1.on (R.LGR_STREAM_CFG.EN n) = false)) ∧
  (∀ (s : State) (bad : Bool), s.stepDue stepLEDGER = true → ∃ t : State, exec (.ledger bad) s = .next t.signal ∧
    t.on R.AON_STATUS.MAINLOST = false ∧
    (bad = true ∨ s.lgr.entries.any (fun e => e.2.bad) = true → t.start.step = none ∧ t.start.status = 0) ∧
    (bad = false → s.lgr.entries.any (fun e => e.2.bad) = false → t.start.step = some stepLANES)) ∧
  (∀ (s : State) (late : Bool), s.stepDue stepLANES = true →
    ((s.applied stepLANES actSKIP).isSome = true → ∃ t : State, exec (.lanes late) s = .next t.signal ∧ startMoved s t stepPLANTTIME ∧
      t.start.flags = s.start.flags ||| 4 ∧ t.csr = s.csr) ∧
    ((s.applied stepLANES actSKIP).isSome = false → (∀ n, n < 48 → s.on (R.LANE_LANE_CTL.EN n) = true → s.stage n = stUP) →
      ∃ t : State, exec (.lanes late) s = .next t.signal ∧ startMoved s t stepPLANTTIME ∧ t.csr = s.csr) ∧
    (∀ n, (s.applied stepLANES actSKIP).isSome = false → n < 48 → s.on (R.LANE_LANE_CTL.EN n) = true → s.stage n ≠ stUP →
      (∀ k, k < n → s.on (R.LANE_LANE_CTL.EN k) = true → s.stage k = stUP) →
      (late = false → exec (.lanes late) s = .next s.signal) ∧
      (late = true → ∃ t : State, exec (.lanes late) s = .next t.signal ∧ startFailed s t stepLANES n ∧ t.csr = s.csr))) ∧
  (∀ (s : State) (late pass : Bool), s.stepDue stepPLANTTIME = true →
    pass = decide (s.on R.VSM_TIME_CFG.GM = true ∨ s.on (R.VSM_PORT_CFG.EN (s.g R.VSM_TIME_CFG.UPPORT)) = false ∨ s.g R.VSM_STATUS.TSTATE = 2) →
    ((s.applied stepPLANTTIME actSKIP).isSome = true → ∃ t : State, exec (.planttime late) s = .next t.signal ∧ startMoved s t stepREGIONS ∧
      t.start.flags = s.start.flags ||| 8 ∧ t.csr = s.csr) ∧
    ((s.applied stepPLANTTIME actSKIP).isSome = false → pass = true → ∃ t : State, exec (.planttime late) s = .next t.signal ∧
      startMoved s t stepREGIONS ∧ t.csr = s.csr) ∧
    ((s.applied stepPLANTTIME actSKIP).isSome = false → pass = false → (late = false → exec (.planttime late) s = .next s.signal) ∧
      (late = true → ∃ t : State, exec (.planttime late) s = .next t.signal ∧ startFailed s t stepPLANTTIME 0 ∧ t.csr = s.csr))) ∧
  (∀ (s : State) (g c : Nat), (s.regionFail g c = 0 ↔ s.slotState g c = slotPROOFED ∧ s.logicOn g = true ∧
      s.on (R.CLK_FPLL_STATUS.LOCK (s.g (R.CLK_REGION_CFG.SRC g))) = true ∧ 100 * s.g (R.CLK_FPLL_CFG.M (s.g (R.CLK_REGION_CFG.SRC g))) ≤
        s.g (R.CLK_REGION_STATUS.FMAX g) * s.g (R.CLK_FPLL_CFG.P (s.g (R.CLK_REGION_CFG.SRC g)))) ∧
    (s.slotState g c ≠ slotPROOFED → s.regionFail g c = 2) ∧ (s.slotState g c = slotPROOFED → s.logicOn g = false → s.regionFail g c = 3)) ∧
  (∀ (s : State) (set : Nat) (l : List (Nat × Nat)), s.stepDue stepREGIONS = true →
    set = (if s.applied stepREGIONS actALTERNATE = some 1 then 1 else 0) → l = (s.cfg.acts.filter (fun a => decide (a.1 = set))).map (fun a => a.2) →
    (s.on R.AGE_STATUS.PLANPEND = true → ∃ t : State, exec .regions s = .next t.signal ∧ t.on R.AGE_STATUS.PLANPEND = false ∧
      t.on R.AGE_EVENTS.APPLIED = true) ∧
    (s.on R.AGE_STATUS.PLANPEND = false → ∃ t : State, exec .regions s = .next t.signal ∧ t.csr = s.csr ∧ t.mem = s.mem ∧
      (l = [] → startFailed s t stepREGIONS 1) ∧
      (∀ (p q : List (Nat × Nat)) (e : Nat × Nat), l = p ++ e :: q → (∀ x, x ∈ p → s.regionFail x.1 x.2 = 0) → s.regionFail e.1 e.2 ≠ 0 →
        startFailed s t stepREGIONS (s.regionFail e.1 e.2) ∧ t.fab = s.fab) ∧
      (l ≠ [] → (∀ x, x ∈ l → s.regionFail x.1 x.2 = 0) → startMoved s t stepRELEASE ∧ t.start.committed = l ∧
        ((l.map (fun e => e.1)).Nodup → ∀ e, e ∈ l → ∀ x, x ∈ tilesOf e.1 → t.fab.ff.get x = s.initBits e.2 x)))) ∧
  (∀ (s : State) (sel : Bool), s.stepDue stepRELEASE = true → ∃ t : State, exec (.release sel) s = .next t.signal ∧ t.start.step = none ∧
    t.xbar.pinsOn = true ∧ t.on R.TWIN_STATUS.SEL = sel ∧ t.mem = s.mem ∧
    ((s.start.committed.map (fun e => e.1)).Nodup → ∀ e, e ∈ s.start.committed → e.1 < 512 → e.2 < 8 → t.slotState e.1 e.2 = slotACTIVE ∧
      t.activeCtx e.1 = some e.2 ∧ (t.region e.1).released = true ∧ (t.region e.1).held = false) ∧
    (∀ n, s.start.streams = [n] → n < 4 → (s.stream n).disDue = none → (s.stream n).enabled = false → s.streamOk n (s.rw (R.LGR_STREAM_CFG.reg n)) = true →
      t.on (R.LGR_STREAM_CFG.EN n) = true) ∧
    (s.on R.TWIN_CFG.EN = true → t.on R.AON_TWINREC.VALID = true ∧ t.g R.AON_TWINREC.LANE = s.g R.TWIN_CFG.PORT) ∧
    (s.start.logged = true → ∀ e l, s.sec.starts = e :: l → ∃ x, t.sec.starts = x :: l ∧ fieldAt x 12 1 = stepRELEASE ∧ fieldAt x 13 1 = resRELEASED)) ∧
  (∀ s : State, (s.start.retry = false ∨ s.rst.reach ≠ 0 → exec .startRetry s = .next s.signal) ∧
    (s.start.retry = true → s.rst.reach = 0 → s.halted = false → ∃ t : State, exec .startRetry s = .next t.signal ∧ t.rst.reach = 2 ∧
      t.bit R.RST_CAUSE.CAUSE 5 = true ∧ t.g R.RST_LAST.CAUSE = 5 ∧ t.start.step = none))

/-- A sample of an enabled channel writes its reading, BROKEN and the two flags with their hysteresis, and raises the events of
what changed. An on-die channel also drives THROTTLE and the hottest reading, and at its second reading in a row at or above
TRIP asserts the thermal source, a system reset with TRIP shown; a machine channel whose ALARM rises commits its crossbar
group or triggers its switch group. A write to THM_TRIP may only lower it, not below 90 degrees. A measurement fills the
regions' margins and the plan: the lowest voltage of the grid that gives every region its margin, else 0.80 V. AGEAPPLY makes
the planned voltage the target and is answered once it has settled; with nothing to apply it is answered at once. An hour
counts. The rate of the crystal follows the measured offset and the distance from its turnover temperature. Commands that it
shows completing: THM_SAMPLE, THM_TRIP_WRITE, CRYSTAL_COMPENSATION, AGE_MEASUREMENT, AGEAPPLY, RTC_MEASURE, OPERATING_HOUR.
(20 Temperature and Ageing: R450, R451, R453, R454, R456, R457, R459, R460, 21 The Ember Domain and Security: R466) -/
def Obligations.TemperatureAndAgeing : Prop :=
  (∀ (s : State) (n : Nat) (temp : Option Int), (s.on (R.THM_CH_CFG.EN n) = false → exec (.thmSample n temp) s = .next s.signal) ∧
    (∀ (v hyst : Int) (w al : Bool), n < 40 → s.on (R.THM_CH_CFG.EN n) = true →
      v = (match temp with | some x => max (-32768) (min 32766 x) | none => 32767) → hyst = 16 * (s.g (R.THM_CH_CFG.HYST n) : Int) →
      w = flagAfter (s.on (R.THM_CH_READ.WARNF n)) v (signed16 (s.g (R.THM_CH_THR.WARN n))) hyst →
      al = flagAfter (s.on (R.THM_CH_READ.ALARMF n)) v (signed16 (s.g (R.THM_CH_THR.ALARM n))) hyst →
      ∃ b : State, signed16 (b.g (R.THM_CH_READ.TEMP n)) = v ∧ b.on (R.THM_CH_READ.VALID n) = true ∧ b.on (R.THM_CH_READ.BROKEN n) = temp.isNone ∧
        b.on (R.THM_CH_READ.WARNF n) = w ∧ b.on (R.THM_CH_READ.ALARMF n) = al ∧
        b.on R.THM_EVENTS.WARN = (s.on R.THM_EVENTS.WARN || (w && !s.on (R.THM_CH_READ.WARNF n))) ∧
        b.on R.THM_EVENTS.ALARM = (s.on R.THM_EVENTS.ALARM || (al && !s.on (R.THM_CH_READ.ALARMF n))) ∧
        b.on R.THM_EVENTS.BROKEN = (s.on R.THM_EVENTS.BROKEN || (temp.isNone && !s.on (R.THM_CH_READ.BROKEN n))) ∧ b.mem = s.mem ∧
        regsBut [R.THM_CH_READ.reg n, R.THM_EVENTS.reg] s b ∧
        (20 ≤ n → (al = false ∨ s.on (R.THM_CH_READ.ALARMF n) = true ∨ (s.g (R.THM_CH_CFG.ACTION n) ≠ 1 ∧ s.g (R.THM_CH_CFG.ACTION n) ≠ 2) ∨
            (s.g (R.THM_CH_CFG.ACTION n) = 2 ∧ s.on (R.CTX_SG_CFG.EN_REG (s.g (R.THM_CH_CFG.TARGET n))) = false)) →
          exec (.thmSample n temp) s = .next b.signal) ∧
        (20 ≤ n → al = true → s.on (R.THM_CH_READ.ALARMF n) = false → s.g (R.THM_CH_CFG.ACTION n) = 1 →
          exec (.thmSample n temp) s = .next (b.commitAt (b.dueXtick 0) (s.g (R.THM_CH_CFG.TARGET n) % 16)).signal) ∧
        (20 ≤ n → al = true → s.on (R.THM_CH_READ.ALARMF n) = false → s.g (R.THM_CH_CFG.ACTION n) = 2 →
          s.on (R.CTX_SG_CFG.EN_REG (s.g (R.THM_CH_CFG.TARGET n))) = true →
          exec (.thmSample n temp) s = .next (b.sgPost (s.g (R.THM_CH_CFG.TARGET n)) (b.instant 8000)).signal) ∧
        (n < 20 → ∀ hot : Nat, hot = (if signed16 (s.g R.THM_TRIP.TRIP) ≤ v then min 2 (s.age.hot.get n + 1) else 0) →
          (hot < 2 ∨ 10 ∈ s.rst.asserted → ∃ t : State, exec (.thmSample n temp) s = .next t.signal ∧ t.age.hot.get n = hot ∧
            t.on R.THM_STATUS.THROTTLE = b.dieAlarm ∧ t.g R.THM_STATUS.MAXTEMP = t.g (R.THM_CH_READ.TEMP (t.g R.THM_STATUS.MAXCH)) ∧
            (∀ m, m < 20 → t.on (R.THM_CH_READ.VALID m) = true → signed16 (t.g (R.THM_CH_READ.TEMP m)) ≤ signed16 (t.g R.THM_STATUS.MAXTEMP)) ∧
            t.rw (R.THM_CH_READ.reg n) = b.rw (R.THM_CH_READ.reg n) ∧ t.mem = s.mem ∧
            regsBut [R.THM_CH_READ.reg n, R.THM_EVENTS.reg, R.THM_STATUS.reg] s t) ∧
          (hot = 2 → 10 ∉ s.rst.asserted → s.halted = false → s.rst.reach < 2 → ∃ t : State, exec (.thmSample n temp) s = .next t.signal ∧
            t.rst.reach = 2 ∧ 10 ∈ t.rst.asserted ∧ t.bit R.RST_CAUSE.CAUSE 10 = true ∧ t.g R.RST_LAST.CAUSE = 10 ∧ t.on R.THM_STATUS.TRIP = true ∧
            ∀ d, 6 ≤ d → d < 45 → t.g (R.PWR_PD_STATUS.STATE d) = 0)))) ∧
  (∀ (s : State) (v : Word) (x : Int), x = signed16 (v.toNat % 65536) →
    (signed16 (s.g R.THM_TRIP.TRIP) < x ∨ x < 1440 → exec (.thmTripWrite v) s = .next (s.raise R.THM_EVENTS.CFGERR).signal) ∧
    (x ≤ signed16 (s.g R.THM_TRIP.TRIP) → 1440 ≤ x → exec (.thmTripWrite v) s = .next (s.put R.THM_TRIP.TRIP (v.toNat % 65536)).signal)) ∧
  (∀ (s : State) (l : List (Nat × Nat × Nat)) (good : Nat → Bool) (m pred : Nat), (∀ x, x ∈ l → x.1 < 512 ∧ s.logicOn x.1 = true) →
    (l.map (fun x => x.1)).Nodup → m = s.g R.AGE_CFG.MINMARGIN →
    (∀ mv, good mv = l.all (fun x => marginOk x.2.1 mv (s.g (R.CLK_REGION_STATUS.FMAX x.1)) m)) →
    pred = l.foldl (fun h x => min h (hoursLeft x.2.1 x.2.2 (s.g (R.CLK_REGION_STATUS.FMAX x.1)) m)) 4294967295 →
    ∃ t : State, exec (.ageMeasurement l) s = .next t.signal ∧ t.age.meas = l ∧ t.on R.AGE_STATUS.PLANPEND = true ∧ t.on R.AGE_EVENTS.MEASURED = true ∧
      t.g R.AGE_PREDHOURS.PREDHOURS = pred ∧ (pred < s.g R.AGE_CFG.WARNH → t.on R.AGE_EVENTS.MARGINLOW = true) ∧
      t.g R.AGE_PLAN.VTARGET ∈ vcclGrid ∧
      (good (t.g R.AGE_PLAN.VTARGET) = true ∨ (t.g R.AGE_PLAN.VTARGET = 800 ∧ ∀ mv, mv ∈ vcclGrid → good mv = false)) ∧
      (∀ mv, mv ∈ vcclGrid → mv < t.g R.AGE_PLAN.VTARGET → good mv = false) ∧
      (∀ x, x ∈ l → t.g (R.AGE_REGION_MARGIN.DRIFT x.1) = min 4095 x.2.2 ∧
        t.g (R.AGE_REGION_MARGIN.DWC x.1) = min 255 (hopAt x.2.1 (s.g R.PWR_AVS_STATUS.TARGET) / 500000)) ∧
      (∀ g, g < 512 → s.g (R.CLK_REGION_STATUS.FMAX g) = t.g (R.CLK_REGION_STATUS.FMAX g)) ∧ t.pwr = s.pwr ∧ t.mem = s.mem) ∧
  (∀ (s : State) (m : Nat), (s.mbxRuns m 0x60 = false → exec (.ageapply m) s = .next s.signal) ∧
    (s.mbxRuns m 0x60 = true → s.on R.AGE_STATUS.PLANPEND = false ∨ s.on R.PWR_AVS_CFG.EN = false ∨ s.pwr.held = true →
      exec (.ageapply m) s = .next (s.answerMbx m 0 0 0).signal) ∧
    (s.mbxRuns m 0x60 = true → s.on R.AGE_STATUS.PLANPEND = true → s.on R.PWR_AVS_CFG.EN = true → s.pwr.held = false → ∃ t : State,
      exec (.ageapply m) s = .next t.signal ∧ t.on R.AGE_STATUS.PLANPEND = false ∧ t.on R.AGE_EVENTS.APPLIED = true ∧
      t.pwr.vccl = s.g R.AGE_PLAN.VTARGET ∧ t.g R.PWR_AVS_STATUS.TARGET = s.g R.PWR_AVS_STATUS.TARGET ∧
      (s.g R.PWR_AVS_STATUS.TARGET ≠ s.g R.AGE_PLAN.VTARGET → t.pwr.waits = s.pwr.waits ++ [m] ∧ t.mbxState m = mbxRUNNING) ∧
      (s.g R.PWR_AVS_STATUS.TARGET = s.g R.AGE_PLAN.VTARGET → t.pwr.waits = [] ∧ t.mbxState m = mbxANSWERED))) ∧
  (∀ s : State, exec .operatingHour s = .next (s.put R.AGE_HOURS.HOURS (min 4294967295 (s.g R.AGE_HOURS.HOURS + 1))).signal) ∧
  (∀ s : State, (s.on R.THM_CRYS.EN = false → s.crysDev = 0) ∧
    (∀ t turn : Int, s.on R.THM_CRYS.EN = true → t = ((s.rw (R.THM_CH_READ.reg (s.g R.THM_CRYS.CH))).setWidth 16).toInt →
      turn = ((s.rw R.THM_CRYS.reg).setWidth 8).toInt → s.crysDev = (t - 16 * turn) * (t - 16 * turn)) ∧
    (s.g R.VSM_STATUS.TSTATE = 2 → exec .crystalCompensation s = .next s.signal) ∧
    (s.g R.VSM_STATUS.TSTATE ≠ 2 → ∃ (t : State) (r : Int), exec .crystalCompensation s = .next t.signal ∧
      t.rw R.AON_RTC_RATE.reg = BitVec.ofInt 32 r ∧ 256 * r < s.sec.ofs - 34 * s.crysDev + 256 ∧ s.sec.ofs - 34 * s.crysDev - 256 < 256 * r ∧
      t.sec = s.sec ∧ t.rtc = s.rtc ∧ regsBut [R.AON_RTC_RATE.reg] s t)) ∧
  (∀ (s : State) (ppb : Int), (s.g R.VSM_STATUS.TSTATE ≠ 2 → exec (.rtcMeasure ppb) s = .next s.signal) ∧
    (s.g R.VSM_STATUS.TSTATE = 2 → ∃ t : State, exec (.rtcMeasure ppb) s = .next t.signal ∧ t.rw R.AON_RTC_RATE.reg = BitVec.ofInt 32 ppb ∧
      t.sec = { s.sec with ofs := 256 * ppb + 34 * s.crysDev } ∧ t.rtc = s.rtc ∧ regsBut [R.AON_RTC_RATE.reg] s t))

/-- MAINOFF puts PD0 on the battery, logs it and sets MAINLOST; MAINON logs the return. VBAT below 2.6 V shows and, at the fall,
raises VBATLOW, and on battery below 2.3 V the domain is lost. A stopped crystal shows XTALFAIL until it runs again. A read
of AON_RTC_LO returns the low word and latches the high word. In a crystal period the counter advances on battery, and a
comparator takes a level that has disagreed for its debounce count; an edge it watches is logged and may erase the battery-
backed key. A locked comparator keeps its settings. AON_LOG_ENT0 copies the oldest entry, and AON_LOG_ENT3 removes the entry
copied. Commands that it shows completing: MAINOFF, MAINON, VBAT_LOW, XTAL_STOP, AON_RTC_LO_READ, AON_CMP_SAMPLE,
AON_CMP_LOCK, AON_LOG_ENT0_READ, AON_LOG_ENT3_READ, CRYSTAL_RUNS_AGAIN, VBAT_RESTORED. (21 The Ember Domain and Security:
R462, R464, R465, R467, R468, R469, R470, R471, R472, R475, R477) -/
def Obligations.EmberDomain : Prop :=
  (∀ s : State, ∃ t : State, exec .mainoff s = .next t.signal ∧ t.sec.onBat = true ∧ t.on R.AON_STATUS.MAINLOST = true ∧ t.on R.AON_STATUS.DISC = false ∧
    t.sec.lost = (s.sec.lost || decide (s.sec.vbat < 2300)) ∧ t.on R.AON_EVENTS.LOGNEW = true ∧
    (∃ e : LogEnt, e.time = s.plantNs ∧ e.seq = BitVec.ofNat 32 s.sec.logSeq ∧ e.src = 4 ∧ e.info = 0 ∧
      t.sec.log = (if 64 ≤ s.sec.log.length then s.sec.log.drop 1 else s.sec.log) ++ [e]) ∧
    (64 ≤ s.sec.log.length → t.on R.AON_EVENTS.LOGOVF = true) ∧ t.sec.logSeq = (s.sec.logSeq + 1) % 4294967296 ∧ t.mem = s.mem ∧
    regsBut [R.AON_STATUS.reg, R.AON_EVENTS.reg, R.AON_LOG_STATUS.reg] s t) ∧
  (∀ s : State, ∃ t : State, exec .mainon s = .next t.signal ∧ t.sec.onBat = false ∧
    t.on R.AON_STATUS.DISC = decide (s.g R.VSM_STATUS.TSTATE = 2 ∨ s.g R.VSM_STATUS.TSTATE = 3) ∧ t.sec.lost = s.sec.lost ∧
    (s.sec.lost = true → t.sec.log = s.sec.log) ∧ (s.sec.lost = false → ∃ e : LogEnt, e.time = s.plantNs ∧ e.src = 5 ∧ e.info = 0 ∧
      t.sec.log = (if 64 ≤ s.sec.log.length then s.sec.log.drop 1 else s.sec.log) ++ [e]) ∧ t.mem = s.mem ∧
    regsBut [R.AON_STATUS.reg, R.AON_EVENTS.reg, R.AON_LOG_STATUS.reg] s t) ∧
  (∀ (s : State) (c : Instr) (mv x : Nat), (c = .vbatLow x ∧ mv = min x 2599) ∨ (c = .vbatRestored x ∧ mv = 2600 + x) →
    ∃ t : State, exec c s = .next t.signal ∧ t.sec.vbat = mv ∧ t.on R.AON_STATUS.VBATLOW = decide (mv < 2600) ∧
      t.on R.AON_EVENTS.VBATLOW = (s.on R.AON_EVENTS.VBATLOW || (decide (mv < 2600) && !s.on R.AON_STATUS.VBATLOW)) ∧
      t.sec.lost = (s.sec.lost || (s.sec.onBat && decide (mv < 2300))) ∧ t.sec.log = s.sec.log ∧ t.sec.kb = s.sec.kb ∧ t.mem = s.mem ∧
      regsBut [R.AON_STATUS.reg, R.AON_EVENTS.reg] s t) ∧
  (∀ s : State, exec .xtalStop s = .next (s.putB R.AON_STATUS.XTALFAIL true).signal ∧
    exec .crystalRunsAgain s = .next (s.putB R.AON_STATUS.XTALFAIL false).signal) ∧
  (∀ s : State, exec .aonRtcLoRead s = .next (State.signal
    { s with sec := { s.sec with rtcHi := (s.plantNs >>> 32).setWidth 32 }, resp := some { status := stOK, data := wordBytes (s.plantNs.setWidth 32) } })) ∧
  (∀ (s : State) (v0 v1 v2 v3 : Nat), (s.on R.AON_STATUS.XTALFAIL = true ∨ s.sec.lost = true → exec (.aonCmpSample v0 v1 v2 v3) s = .next s.signal) ∧
    (s.on R.AON_STATUS.XTALFAIL = false → s.sec.lost = false → ∀ high fires : Nat → Bool,
      (∀ n, high n = decide (200 + 100 * s.g (R.AON_CMP_CFG.THR n) ≤ [v0, v1, v2, v3].getD n 0 + (if s.on (R.AON_CMP_CFG.LEVEL n) then 50 else 0))) →
      (∀ n, fires n = (s.on (R.AON_CMP_CFG.EN n) && high n != s.on (R.AON_CMP_CFG.LEVEL n) && decide (s.g (R.AON_CMP_CFG.DEB n) ≤ s.sec.runs.get n))) →
      ∃ t : State, exec (.aonCmpSample v0 v1 v2 v3) s = .next t.signal ∧
        t.rtc = (if s.sec.onBat then s.rtc + BitVec.ofInt 80 (2000000000 - 2 * s.rtcRate) else s.rtc) ∧ t.mem = s.mem ∧
        (∀ n, n < 4 → t.on (R.AON_CMP_CFG.LEVEL n) = (if fires n then high n else s.on (R.AON_CMP_CFG.LEVEL n)) ∧
          t.sec.runs.get n = (if s.on (R.AON_CMP_CFG.EN n) && high n != s.on (R.AON_CMP_CFG.LEVEL n) && !fires n then s.sec.runs.get n + 1 else 0) ∧
          (fires n = true → (s.g (R.AON_CMP_CFG.EDGE n)).testBit (if high n then 0 else 1) = true → s.on (R.AON_CMP_CFG.ERASE n) = true →
            t.sec.kb = 0 ∧ t.sec.kbValid = false ∧ t.on R.SEC_EVENTS.KBERASED = true)) ∧
        ((∀ n, n < 4 → fires n = false ∨ (s.g (R.AON_CMP_CFG.EDGE n)).testBit (if high n then 0 else 1) = false) →
          t.sec.log = s.sec.log ∧ t.sec.kb = s.sec.kb ∧ t.sec.kbValid = s.sec.kbValid) ∧
        regsBut [R.AON_CMP_CFG.reg 0, R.AON_CMP_CFG.reg 1, R.AON_CMP_CFG.reg 2, R.AON_CMP_CFG.reg 3, R.AON_EVENTS.reg, R.AON_LOG_STATUS.reg,
          R.SEC_STATUS.reg, R.SEC_EVENTS.reg] s t)) ∧
  (∀ (s : State) (n : Nat) (v : Word), n < 4 → (s.on (R.AON_CMP_CFG.LOCK n) = true → exec (.aonCmpLock n v) s = .next s.signal) ∧
    (s.on (R.AON_CMP_CFG.LOCK n) = false → ∃ t : State, exec (.aonCmpLock n v) s = .next t.signal ∧ t.on (R.AON_CMP_CFG.LOCK n) = true ∧
      t.g (R.AON_CMP_CFG.EN n) = (R.AON_CMP_CFG.EN n).of v ∧ t.g (R.AON_CMP_CFG.THR n) = (R.AON_CMP_CFG.THR n).of v ∧
      t.g (R.AON_CMP_CFG.DEB n) = (R.AON_CMP_CFG.DEB n).of v ∧ t.g (R.AON_CMP_CFG.EDGE n) = (R.AON_CMP_CFG.EDGE n).of v ∧
      t.g (R.AON_CMP_CFG.ERASE n) = (R.AON_CMP_CFG.ERASE n).of v ∧ t.on (R.AON_CMP_CFG.LEVEL n) = s.on (R.AON_CMP_CFG.LEVEL n) ∧
      regsBut [R.AON_CMP_CFG.reg n] s t)) ∧
  (∀ s : State, (s.sec.log = [] → ∃ t : State, exec .aonLogEnt0Read s = .next t.signal ∧ (∀ k, k < 4 → t.rw (R.AON_LOG_ENT.reg k) = 0) ∧
      t.resp = some { status := stOK, data := [0, 0, 0, 0] } ∧ t.sec = { s.sec with logCopy := none }) ∧
    (∀ (e : LogEnt) (l : List LogEnt), s.sec.log = e :: l → ∃ t : State, exec .aonLogEnt0Read s = .next t.signal ∧
      (List.range 4).flatMap (fun k => wordBytes (t.rw (R.AON_LOG_ENT.reg k))) = e.bytes ∧ t.resp = some { status := stOK, data := e.bytes.take 4 } ∧
      t.sec = { s.sec with logCopy := some e.seq } ∧ ∀ a, (∀ k, k < 4 → a ≠ R.AON_LOG_ENT.reg k) → t.rw a = s.rw a)) ∧
  (∀ s : State, ∃ t : State, exec .aonLogEnt3Read s = .next t.signal ∧ t.sec.logCopy = none ∧
    t.g R.AON_LOG_STATUS.FILL = t.sec.log.length % 128 ∧ t.resp = some { status := stOK, data := wordBytes (s.rw (R.AON_LOG_ENT.reg 3)) } ∧
    regsBut [R.AON_LOG_STATUS.reg] s t ∧
    (∀ (e : LogEnt) (l : List LogEnt), s.sec.log = e :: l → t.sec.log = if s.sec.logCopy = some e.seq then l else e :: l) ∧ (s.sec.log = [] → t.sec.log = []))

/-- A security request acts only while its slot runs its code. KBSET is refused by KBDIS and by a valid key, answers BADREQ where
its 32 bytes cannot be read and zeroed, and else takes them as the key and logs it; KBERASE zeroes the key and logs it.
KFPROG, SIGNERPROG, SIGNERREVOKE, ARBADVANCE and POLICYSET answer the refusals of Table 21.8 or join the fuse queue with the
copies still to blow: the words of the field with their checks, then copies A, B and C of its flag. A blow that reads back 1
sets the fuse and its request goes on to its next copy; after three attempts, or with the supply out of limits, the request
ends with FUSEERR; the last copy ends it OK. A quote waits for the random source, is refused unless aligned and readable, and
else writes the body of Table 21.7 and its signature over the buffer. Commands that it shows completing: QUOTE, KBSET,
KBERASE, KFPROG, SIGNERPROG, SIGNERREVOKE, ARBADVANCE, POLICYSET, FUSE_BLOW. (21 The Ember Domain and Security: R477, R479,
R480, R481, R482, 08 Configuration Images: R186) -/
def Obligations.SecurityRequests : Prop :=
  (∀ (s : State) (c : Instr) (m code : Nat), (c = .kbset m ∧ code = 0x51) ∨ (c = .kberase m ∧ code = 0x52) ∨ (c = .kfprog m ∧ code = 0x53) ∨
      (c = .signerprog m ∧ code = 0x54) ∨ (c = .signerrevoke m ∧ code = 0x55) ∨ (c = .arbadvance m ∧ code = 0x56) ∨ (c = .policyset m ∧ code = 0x57) ∨
      (∃ b, c = .quote m b ∧ code = 0x50) → s.mbxRuns m code = false → exec c s = .next s.signal) ∧
  (∀ (s : State) (m : Nat), s.mbxRuns m 0x51 = true →
    (s.policyBit 2 = true → exec (.kbset m) s = .next (s.answerMbx m 0x50 0 0).signal) ∧
    (s.policyBit 2 = false → s.sec.kbValid = true → exec (.kbset m) s = .next (s.answerMbx m 0x53 0 0).signal) ∧
    (∀ r : State × Option (List Byte), s.policyBit 2 = false → s.sec.kbValid = false → r = s.readAt iniSuper (s.mbxAddr m 0) 32 →
      (r.2 = none → exec (.kbset m) s = .next (r.1.answerMbx m 0x41 0 0).signal) ∧
      (∀ (l : List Byte) (z : State), r.2 = some l → z = (r.1.writeAt iniSuper (s.mbxAddr m 0) (List.replicate 32 0)).1 → z.mbxState m = mbxRUNNING →
        ∃ t : State, exec (.kbset m) s = .next t.signal ∧ t.sec.kb = BitVec.ofNat 256 (bytesNatBE l) ∧ t.sec.kbValid = true ∧
          t.on R.SEC_STATUS.KBVALID = true ∧ t.mbxState m = mbxANSWERED ∧ t.g (R.USB_MBX_RSP.RSP m) % 256 = 0 ∧ t.mem = z.mem ∧
          ∃ e : LogEnt, e.src = 7 ∧ e.info = 0 ∧ t.sec.log = (if 64 ≤ z.sec.log.length then z.sec.log.drop 1 else z.sec.log) ++ [e]))) ∧
  (∀ (s : State) (m : Nat), s.mbxRuns m 0x52 = true → ∃ t : State, exec (.kberase m) s = .next t.signal ∧ t.sec.kb = 0 ∧ t.sec.kbValid = false ∧
    t.on R.SEC_STATUS.KBVALID = false ∧ t.on R.SEC_EVENTS.KBERASED = true ∧ t.mbxState m = mbxANSWERED ∧ t.g (R.USB_MBX_RSP.RSP m) % 256 = 0 ∧
    (∃ e : LogEnt, e.src = 6 ∧ e.info = 0 ∧ t.sec.log = (if 64 ≤ s.sec.log.length then s.sec.log.drop 1 else s.sec.log) ++ [e]) ∧ t.mem = s.mem) ∧
  (∀ (s : State) (m : Nat), (s.mbxRuns m 0x53 = true → s.major fuseKFPROG = true → exec (.kfprog m) s = .next (s.answerMbx m 0x51 0 0).signal) ∧
    (s.mbxRuns m 0x54 = true → (4 ≤ s.mbxArg m 0 → exec (.signerprog m) s = .next (s.answerMbx m 0x41 0 0).signal) ∧
      (s.mbxArg m 0 < 4 → s.major (fuseSLOTPROG (s.mbxArg m 0)) = true → exec (.signerprog m) s = .next (s.answerMbx m 0x51 0 0).signal)) ∧
    (s.mbxRuns m 0x55 = true → (4 ≤ s.mbxArg m 0 → exec (.signerrevoke m) s = .next (s.answerMbx m 0x41 0 0).signal) ∧
      (s.mbxArg m 0 < 4 → (s.cfg.fullSigner = some (s.mbxArg m 0) ∨
          ∀ k, k < 4 → k ≠ s.mbxArg m 0 → s.major (fuseSLOTPROG k) = true → s.major (fuseREVOKE k) = true) →
        exec (.signerrevoke m) s = .next (s.answerMbx m 0x54 0 0).signal)) ∧
    (s.mbxRuns m 0x56 = true → s.cfg.fullArb < s.mbxArg m 0 → exec (.arbadvance m) s = .next (s.answerMbx m 0x55 0 0).signal) ∧
    (s.mbxRuns m 0x53 = true → s.major fuseKFPROG = false → (s.readAt iniSuper (s.mbxAddr m 0) 16).2 = none →
      exec (.kfprog m) s = .next ((s.readAt iniSuper (s.mbxAddr m 0) 16).1.answerMbx m 0x41 0 0).signal) ∧
    (s.mbxRuns m 0x54 = true → s.mbxArg m 0 < 4 → s.major (fuseSLOTPROG (s.mbxArg m 0)) = false → (s.readAt iniSuper (s.mbxAddr m 1) 32).2 = none →
      exec (.signerprog m) s = .next ((s.readAt iniSuper (s.mbxAddr m 1) 32).1.answerMbx m 0x41 0 0).signal)) ∧
  (∀ (s b : State) (c : Instr) (m n : Nat) (l : List Byte) (w : Nat → Word) (todo : List (Nat × Nat)),
    n = s.mbxArg m 0 → (∀ k, w k = BitVec.ofNat 32 (bytesNat ((l.drop (4 * k)).take 4))) →
    (c = .kfprog m ∧ s.mbxRuns m 0x53 = true ∧ s.major fuseKFPROG = false ∧ (s.readAt iniSuper (s.mbxAddr m 0) 16).2 = some l ∧
        b = ((s.readAt iniSuper (s.mbxAddr m 0) 16).1.writeAt iniSuper (s.mbxAddr m 0) (List.replicate 16 0)).1 ∧
        todo = b.blowWord 10 (w 0) ++ b.blowWord 11 (w 1) ++ b.blowWord 12 (w 2) ++ b.blowWord 13 (w 3) ++ b.blowThree fuseKFPROG) ∨
      (c = .signerprog m ∧ s.mbxRuns m 0x54 = true ∧ n < 4 ∧ s.major (fuseSLOTPROG n) = false ∧ (s.readAt iniSuper (s.mbxAddr m 1) 32).2 = some l ∧
        b = (s.readAt iniSuper (s.mbxAddr m 1) 32).1 ∧
        todo = (List.range 8).flatMap (fun k => b.blowWord (16 + 8 * n + k) (w k)) ++ b.blowThree (fuseSLOTPROG n)) ∨
      (c = .signerrevoke m ∧ s.mbxRuns m 0x55 = true ∧ n < 4 ∧ s.cfg.fullSigner ≠ some n ∧
        (∃ k, k < 4 ∧ k ≠ n ∧ s.major (fuseSLOTPROG k) = true ∧ s.major (fuseREVOKE k) = false) ∧ b = s ∧ todo = b.blowThree (fuseREVOKE n)) ∨
      (c = .arbadvance m ∧ s.mbxRuns m 0x56 = true ∧ n ≤ s.cfg.fullArb ∧ b = s ∧ todo = b.arbTodo n) ∨
      (c = .policyset m ∧ s.mbxRuns m 0x57 = true ∧ b = s ∧
        todo = (maskBits n 32).flatMap (fun i => if b.major (fusePOLICY i) then [] else b.blowThree (fusePOLICY i))) →
    (todo ≠ [] → (∀ j, b.sec.jobs.head? = some j → j.todo ≠ []) → ∃ t : State, exec c s = .next t.signal ∧
      t.sec = { b.sec with jobs := b.sec.jobs ++ [{ mbx := some m, todo := todo }] } ∧ t.on R.SEC_STATUS.BUSY = true ∧ t.mem = b.mem ∧
      regsBut [R.SEC_STATUS.reg] b t) ∧
    (todo = [] → b.sec.jobs = [] → b.mbxState m = mbxRUNNING → ∃ t : State, exec c s = .next t.signal ∧ t.sec.jobs = [] ∧
      t.on R.SEC_STATUS.BUSY = false ∧ t.on R.SEC_EVENTS.FUSEDONE = true ∧ t.mbxState m = mbxANSWERED ∧ t.g (R.USB_MBX_RSP.RSP m) % 256 = 0 ∧
      t.sec.fuse = b.sec.fuse)) ∧
  (∀ (s : State) (w : Nat) (v : Word) (e : Nat × Nat), e ∈ s.blowWord w v ↔
    (e.1 = w ∧ v.getLsbD e.2 = true ∧ (s.fuseWord w).getLsbD e.2 = false) ∨
    (e.1 = 512 + w ∧ (crc8 (wordBytes v)).getLsbD e.2 = true ∧ (s.sec.fuseCheck.get w).getLsbD e.2 = false)) ∧
  (∀ (s : State) (k : Nat), s.arbCount ≤ k → k ≤ 64 → (∀ i, i < 64 → s.major (fuseARB i) = decide (i < s.arbCount)) →
    s.arbTodo k = ((List.range 64).filter (fun i => decide (s.arbCount ≤ i) && decide (i < k))).flatMap (fun i => s.blowThree (fuseARB i))) ∧
  (∀ (s : State) (r : Blow), (s.sec.jobs = [] → exec (.fuseBlow r) s = .next s.loadsResume.signal) ∧
    (∀ (j : FuseJob) (rest : List FuseJob) (w b : Nat) (more : List (Nat × Nat)) (done fail : Bool), s.sec.jobs = j :: rest → j.todo = (w, b) :: more →
      (∀ x, x ∈ rest.head? → x.todo ≠ []) → done = decide (r = .one ∧ more = []) → fail = decide (r = .supply ∨ (r = .zero ∧ 2 ≤ j.tries)) →
      ∃ t : State, exec (.fuseBlow r) s = .next t.loadsResume.signal ∧
        (∀ k, t.fuseWord k = if r = .one ∧ w = k ∧ k < 512 then s.fuseWord k ||| BitVec.ofNat 32 (2 ^ b) else s.fuseWord k) ∧
        (∀ k, k < 512 → t.sec.fuseCheck.get k = if r = .one ∧ w = 512 + k then s.sec.fuseCheck.get k ||| BitVec.ofNat 8 (2 ^ b) else s.sec.fuseCheck.get k) ∧
        (done = false → fail = false → t.sec.jobs = (if r = .one then { j with todo := more, tries := 0 } else { j with tries := j.tries + 1 }) :: rest ∧
          t.csr = s.csr) ∧
        (done = true ∨ fail = true → t.sec.jobs = rest ∧ t.on R.SEC_STATUS.BUSY = decide (rest ≠ []) ∧ t.on R.SEC_EVENTS.FUSEDONE = true ∧
          ∀ m, j.mbx = some m → s.mbxState m = mbxRUNNING → m < 16 →
            t.mbxState m = mbxANSWERED ∧ t.g (R.USB_MBX_RSP.RSP m) % 256 = if fail then 0x52 else 0) ∧ t.mem = s.mem)) ∧
  (∀ (s : State) (m : Nat), s.mbxRuns m 0x50 = true → exec (.quote m false) s = .next (s.putB R.SEC_STATUS.RNGOK false).signal ∧
    (s.mbxArg m 0 % 256 ≠ 0 → exec (.quote m true) s = .next (s.answerMbx m 0x41 0 0).signal) ∧
    (∀ r : State × Option (List Byte), s.mbxArg m 0 % 256 = 0 → r = s.readAt iniSuper (s.mbxAddr m 0) 32 →
      (r.2 = none → exec (.quote m true) s = .next (r.1.answerMbx m 0x41 0 0).signal) ∧
      (∀ (nonce : List Byte) (k : Nat) (f q : State), r.2 = some nonce → r.1.freeScalar = (k, f) → q = f.putB R.SEC_STATUS.RNGOK true → (1 ≤ k ∧ k < sm2N) ∧
        (sm2Sign (q.fuseBytes 2 8) idQuote (q.quoteBody nonce) k = none → exec (.quote m true) s = .next q.signal) ∧
        (∀ (sig : List Byte) (w : State × Bool), sm2Sign (q.fuseBytes 2 8) idQuote (q.quoteBody nonce) k = some sig →
          w = q.writeAt iniSuper (s.mbxAddr m 0) (q.quoteBody nonce ++ sig) →
          exec (.quote m true) s = .next (w.1.answerMbx m (if w.2 then 0 else 0x41) 0 0).signal)))) ∧
  (∀ (s : State) (nonce : List Byte), nonce.length = 32 → fieldAt (s.quoteBody nonce) 0 4 = 0x54514854 ∧ fieldAt (s.quoteBody nonce) 4 2 = 1 ∧
    fieldAt (s.quoteBody nonce) 6 2 = s.resident.length ∧ fieldAt (s.quoteBody nonce) 8 8 = (s.fuseWord 0).toNat + (s.fuseWord 1).toNat * 4294967296 ∧
    ((s.quoteBody nonce).drop 16).take 32 = nonce ∧ fieldAt (s.quoteBody nonce) 48 8 = s.plantNs.toNat ∧ fieldAt (s.quoteBody nonce) 56 4 = s.arbCount ∧
    fieldAt (s.quoteBody nonce) 60 4 = (s.rw R.SEC_POLICY.reg).toNat ∧ ((s.quoteBody nonce).drop 64).take 32 = (s.cfg.fullDig ++ List.replicate 32 0).take 32 ∧
    (∀ k, k ∈ s.resident ↔ k < 4096 ∧ (s.slotState (k / 8) (k % 8) = slotPROOFED ∨ s.slotState (k / 8) (k % 8) = slotACTIVE)))

/-- An access to the BARs acts while the tunnel is up. Below 0x8000 of BAR0 it reads or writes the USB block, 4 aligned bytes or
BADREQ; elsewhere it becomes requests of at most 4 KiB spans under the host path's free tags, and a read completes when each
is answered, with the first failure if there is one. BAR4 reads the ring and zeros beyond its end, and a write of it is
counted and flagged. A slot word is taken from the slot's owner while the slot is FREE; a doorbell posts free slots; the
supervisor takes the next posted slot by rotating token; DONE frees answered slots. A link drop frees every slot and fails
every active channel; a link up shows its generation. A DMA channel starts, stops and processes descriptors as R490 and R491
say: a malformed or unreadable one fails the channel, one whose requests are answered is written back with its status, and
HEAD advances only when that is 0. Commands that it shows completing: HOST_MEMORY_WRITE, HOST_MEMORY_READ, BAR4_READ,
BAR4_WRITE, USB_IRQ_REARM, MBX_SLOT_WRITE, MBX_DOORBELL, MBX_TAKE, MBX_DONE_CLEAR, HOST_LINK_DROP, HOST_LINK_UP,
DMA_TAIL_WRITE, DMA_DESCRIPTOR_COMPLETE, DMA_ENABLE, DMA_DISABLE. (22 Host Attachment and Debug: R483, R484, R485, R486,
R487, R488, R489, R490, R491) -/
def Obligations.HostPath : Prop :=
  (∀ (s : State) (c : Instr), s.on R.USB_STATUS.PCIE = false → (∃ bar off data, c = .hostMemoryWrite bar off data) ∨ (∃ bar off len, c = .hostMemoryRead bar off len) ∨
      (∃ off len, c = .bar4Read off len) ∨ c = .bar4Write → exec c s = .next s.signal) ∧
  (∀ s : State, s.on R.USB_STATUS.PCIE = true → exec .bar4Write s = .next ((s.bump R.USB_ERRCNT.WRERR 1).raise R.USB_EVENTS.BAR4WR).signal) ∧
  (∀ (s : State) (off len : Nat) (data : List Byte), s.on R.USB_STATUS.PCIE = true → off < 0x8000 →
    (len ≠ 4 ∨ off % 4 ≠ 0 → exec (.hostMemoryRead 0 off len) s = .next (s.answerWith stUR []).signal) ∧
    (data.length ≠ 4 ∨ off % 4 ≠ 0 → exec (.hostMemoryWrite 0 off data) s =
      .next (({ s with resp := none } : State).bump R.USB_ERRCNT.WRERR 1 |>.raise R.USB_EVENTS.WRERR).signal) ∧
    (off % 4 = 0 → ∀ t : State, t = s.csrGet (0xA00000 + off) → ∀ a : Resp, t.resp = some a →
      exec (.hostMemoryRead 0 off 4) s = .next (t.answerWith (hostStatus a.status) (if a.status = 0 then a.data else [])).signal) ∧
    (off % 4 = 0 → data.length = 4 → ∀ t : State, t = s.csrSet .host (0xA00000 + off) (BitVec.ofNat 32 (bytesNat data)) 0 → ∀ a : Resp, t.resp = some a →
      (a.status = 0 → exec (.hostMemoryWrite 0 off data) s = .next ({ t with resp := none } : State).signal) ∧
      (a.status ≠ 0 → exec (.hostMemoryWrite 0 off data) s =
        .next (({ t with resp := none } : State).bump R.USB_ERRCNT.WRERR 1 |>.raise R.USB_EVENTS.WRERR).signal))) ∧
  (∀ a n : Nat, ((spansOf a n).map (fun p => p.2)).sum = n ∧ ∀ p, p ∈ spansOf a n → 0 < p.2 ∧ p.1 % 4096 + p.2 ≤ 4096 ∧ a ≤ p.1 ∧ p.1 + p.2 ≤ a + n) ∧
  (∀ (s : State) (off : Nat), s.barAddr 0 off = 0xF000000000 + s.g R.USB_CSRWIN.BASE * 0x8000 + (off - 0x8000) ∧
    ∀ bar, bar ≠ 0 → s.barAddr bar off = s.g R.USB_BAR2WIN.WIN * 4294967296 + off % 4294967296) ∧
  (∀ (s : State) (bar off : Nat) (data : List Byte), s.on R.USB_STATUS.PCIE = true → bar ≠ 0 ∨ 0x8000 ≤ off →
    (∃ t : State, exec (.hostMemoryWrite bar off data) s = .next t.vsmAnswers.hostAnswers.signal ∧ t.resp = none) ∧
    (∀ (a g : Nat), a = s.barAddr bar off → data ≠ [] → a % 4096 + data.length ≤ 4096 → s.freeTag iniHost (fun t => !s.hostWaits [] t) = some g →
      exec (.hostMemoryWrite bar off data) s =
        .next (({ (s.request { ini := iniHost, op := 2, addr := a, len := data.length, data := data, tag := g } 0) with resp := none } : State).vsmAnswers.hostAnswers).signal)) ∧
  (∀ (s : State) (c : Instr) (a n : Nat) (tail : List HostPart), s.on R.USB_STATUS.PCIE = true →
    (∃ bar off, c = .hostMemoryRead bar off n ∧ (bar ≠ 0 ∨ 0x8000 ≤ off) ∧ a = s.barAddr bar off ∧ tail = []) ∨
      (∃ off len, c = .bar4Read off len ∧ a = s.ringBase + off ∧ n = min len (s.ringBytes - off) ∧ tail = [{ got := some (0, List.replicate (len - n) 0) }]) →
    (∃ (u : State) (l : List HostPart), exec c s = .next (({ u with resp := none, usb := { u.usb with reads := u.usb.reads ++ [l] } } : State).vsmAnswers.hostAnswers).signal ∧
      l.length = (spansOf a n).length + tail.length) ∧
    (n = 0 → exec c s = .next (({ s with resp := none, usb := { s.usb with reads := s.usb.reads ++ [tail] } } : State).vsmAnswers.hostAnswers).signal) ∧
    (0 < n → a % 4096 + n ≤ 4096 →
      (∀ (g : Nat) (u : State), s.freeTag iniHost (fun t => !s.hostWaits [] t) = some g → u = s.request { ini := iniHost, op := 0, addr := a, len := n, tag := g } 0 →
        exec c s = .next (({ u with resp := none, usb := { u.usb with reads := u.usb.reads ++ [({ tag := g } : HostPart) :: tail] } } : State).vsmAnswers.hostAnswers).signal) ∧
      (s.freeTag iniHost (fun t => !s.hostWaits [] t) = none →
        exec c s = .next (({ s with resp := none, usb := { s.usb with reads := s.usb.reads ++ [({ got := some (9, []) } : HostPart) :: tail] } } : State).vsmAnswers.hostAnswers).signal))) ∧
  (∀ (s : State) (l : List HostPart), s.noc.arrived = [] → s.usb.reads = [l] → (∀ p, p ∈ l → p.got.isSome = true) →
    s.hostAnswers.usb.reads = [] ∧ s.hostAnswers.csr = s.csr ∧ s.hostAnswers.mem = s.mem ∧
    s.hostAnswers.resp = some { status := hostStatus (partsStatus l), data := if partsStatus l = 0 then partsData l else [] }) ∧
  (∀ st : Nat, hostStatus st = if st = 0 then stOK else if st = 2 ∨ st = 3 ∨ st = 4 then stUR else stCA) ∧
  (∀ (s : State) (mask : Nat), ∃ t : State, exec (.usbIrqRearm mask) s = .next t.signal ∧ t = { s with msixSent := t.msixSent } ∧
    ∀ v, t.msixSent.get v = s.msixSent.get v + (if v ∈ s.vectorsUp ∧ v ∈ s.msixSeen ∧ mask.testBit v = true then 1 else 0)) ∧
  (∀ (s : State) (w : Who) (m k : Nat) (v : Word) (owns : Bool), owns = decide (if m < 14 then w = .host else w = .debug) →
    (owns = false → exec (.mbxSlotWrite w m k v) s = .next (s.answerWith stERR []).signal) ∧
    (owns = true → s.mbxState m ≠ mbxFREE → exec (.mbxSlotWrite w m k v) s =
      .next (((s.bump R.USB_ERRCNT.MBXERR 1).raise R.USB_EVENTS.MBXERR).answerWith stOK []).signal) ∧
    (owns = true → s.mbxState m = mbxFREE →
      exec (.mbxSlotWrite w m 0 v) s = .next ((s.wr (R.USB_MBX_REQ.reg m) (v &&& 0xFFFF00FF#32)).answerWith stOK []).signal ∧
      (0 < k → exec (.mbxSlotWrite w m k v) s = .next ((s.wr (R.USB_MBX_A.reg m (k - 1)) v).answerWith stOK []).signal))) ∧
  (∀ (s : State) (mask : Nat), ∃ t : State, exec (.mbxDoorbell mask) s = .next t.signal ∧
    (∀ m, m < 16 → t.mbxState m = if mask.testBit m = true ∧ s.mbxState m = mbxFREE then mbxPOSTED else s.mbxState m) ∧
    t.g R.USB_ERRCNT.MBXERR = min 65535 (s.g R.USB_ERRCNT.MBXERR + ((List.range 16).filter (fun m => mask.testBit m && decide (s.mbxState m ≠ mbxFREE))).length) ∧
    (∀ m, m < 16 → mask.testBit m = true → s.mbxState m ≠ mbxFREE → t.on R.USB_EVENTS.MBXERR = true) ∧
    t.resp = some { status := stOK, data := [] } ∧ t.mem = s.mem ∧ regsBut [R.USB_MBX_STATE.reg, R.USB_ERRCNT.reg, R.USB_EVENTS.reg] s t) ∧
  (∀ s : State, ((∀ m, m < 16 → s.mbxState m ≠ mbxPOSTED) → exec .mbxTake s = .next s.signal) ∧
    (∀ (d m : Nat) (known : Bool), d < 16 → m = (s.usb.token + d) % 16 → s.mbxState m = mbxPOSTED → (∀ i, i < d → s.mbxState ((s.usb.token + i) % 16) ≠ mbxPOSTED) →
      known = decide (s.mbxCode m ∈ [0x20, 0x21, 0x22, 0x23, 0x24, 0x25, 0x26, 0x30, 0x50, 0x51, 0x52, 0x53, 0x54, 0x55, 0x56, 0x57, 0x60]) →
      ∃ t : State, exec .mbxTake s = .next t.signal ∧ t.usb.token = (m + 1) % 16 ∧ (∀ k, k < 16 → k ≠ m → t.mbxState k = s.mbxState k) ∧
        (known = true → t.mbxState m = mbxRUNNING ∧ regsBut [R.USB_MBX_STATE.reg] s t) ∧
        (known = false → t.mbxState m = mbxANSWERED ∧ t.g (R.USB_MBX_RSP.RSP m) = 0x41 + s.g (R.USB_MBX_REQ.REQ m) / 65536 * 65536 ∧
          t.bit R.USB_MBX_DONE.DONE m = true) ∧ t.mem = s.mem)) ∧
  (∀ (s : State) (mask : Nat), ∃ t : State, exec (.mbxDoneClear mask) s = .next t.signal ∧
    (∀ m, m < 16 → t.bit R.USB_MBX_DONE.DONE m = (s.bit R.USB_MBX_DONE.DONE m && !mask.testBit m) ∧
      t.mbxState m = if mask.testBit m = true ∧ s.bit R.USB_MBX_DONE.DONE m = true ∧ s.mbxState m = mbxANSWERED then mbxFREE else s.mbxState m) ∧
    t.resp = some { status := stOK, data := [] } ∧ t.mem = s.mem ∧ regsBut [R.USB_MBX_STATE.reg, R.USB_MBX_DONE.reg] s t) ∧
  (∀ s : State, ∃ t : State, exec .hostLinkDrop s = .next t.signal ∧ t.rw R.USB_STATUS.reg = 0 ∧ (∀ m, m < 16 → t.mbxState m = mbxFREE) ∧
    t.rw R.USB_MBX_DONE.reg = 0 ∧ t.usb.reads = [] ∧ t.usb.dma = [] ∧ t.pwr.waits = [] ∧
    (s.on R.USB_STATUS.LINK = true ∨ s.on R.USB_STATUS.PCIE = true → t.on R.USB_EVENTS.LINKCHG = true) ∧
    (∀ n, n < 8 → (s.dmaState n = dmaRUNNING ∨ s.dmaState n = dmaSTOPPING → t.dmaState n = dmaERROR ∧ t.on (R.USB_DMA_STATUS.ERR n) = true ∧
        t.on (R.USB_DMA_STATUS.LINK n) = true ∧ t.on (R.USB_DMA_STATUS.BUSY n) = false) ∧
      (s.dmaState n ≠ dmaRUNNING → s.dmaState n ≠ dmaSTOPPING → t.rw (R.USB_DMA_STATUS.reg n) = s.rw (R.USB_DMA_STATUS.reg n))) ∧ t.mem = s.mem ∧
    ∀ a, a ∉ [R.USB_STATUS.reg, R.USB_EVENTS.reg, R.USB_MBX_STATE.reg, R.USB_MBX_DONE.reg] → (∀ n, n < 8 → a ≠ R.USB_DMA_STATUS.reg n) → t.rw a = s.rw a) ∧
  (∀ (s : State) (gen : Nat), (s.pdOn 6 = false ∨ s.rst.reach ≠ 0 ∨ s.on R.USB_STATUS.LINK = true → exec (.hostLinkUp gen) s = .next s.signal) ∧
    (s.pdOn 6 = true → s.rst.reach = 0 → s.on R.USB_STATUS.LINK = false → ∃ t : State, exec (.hostLinkUp gen) s = .next t.signal ∧
      t.on R.USB_STATUS.LINK = true ∧ t.on R.USB_STATUS.PCIE = true ∧ t.g R.USB_STATUS.GEN = max 1 (min 3 gen) ∧ t.on R.USB_EVENTS.LINKCHG = true ∧
      t.mem = s.mem ∧ regsBut [R.USB_STATUS.reg, R.USB_EVENTS.reg] s t)) ∧
  (∀ (s : State) (n : Nat) (v : Word), exec (.dmaTailWrite n v) s = .next (s.put (R.USB_DMA_TAIL.TAIL n) (v.toNat % 65536)).signal) ∧
  (∀ (s : State) (n : Nat), n < 8 → (∃ t : State, exec (.dmaEnable n) s = .next t.signal ∧ t.on (R.USB_DMA_CTL.EN n) = true ∧
      t.dmaState n = (if s.dmaState n = dmaSTOPPED ∨ s.dmaState n = dmaERROR then dmaRUNNING else s.dmaState n) ∧
      (s.dmaState n = dmaERROR → t.on (R.USB_DMA_STATUS.LINK n) = false) ∧ t.rw (R.USB_DMA_HEAD.reg n) = s.rw (R.USB_DMA_HEAD.reg n) ∧ t.mem = s.mem ∧
      regsBut [R.USB_DMA_CTL.reg n, R.USB_DMA_STATUS.reg n] s t) ∧
    (∃ t : State, exec (.dmaDisable n) s = .next t.signal ∧ t.on (R.USB_DMA_CTL.EN n) = false ∧
      t.dmaState n = (if s.dmaState n = dmaRUNNING then (if s.dmaDue n then dmaSTOPPING else dmaSTOPPED) else s.dmaState n) ∧
      (s.dmaState n = dmaRUNNING → t.on (R.USB_DMA_STATUS.BUSY n) = s.dmaDue n) ∧ t.mem = s.mem ∧
      regsBut [R.USB_DMA_CTL.reg n, R.USB_DMA_STATUS.reg n] s t)) ∧
  (∀ (s : State) (n : Nat) (desc data : Option (List Byte)), n < 8 → SMap.find s.usb.dma n = none →
    (s.on R.USB_STATUS.PCIE = false ∨ (s.dmaState n ≠ dmaRUNNING ∧ s.dmaState n ≠ dmaSTOPPING) ∨ s.dmaDue n = false →
      exec (.dmaDescriptorComplete n desc data) s = .next s.signal) ∧
    (s.on R.USB_STATUS.PCIE = true → s.dmaState n = dmaRUNNING ∨ s.dmaState n = dmaSTOPPING → s.dmaDue n = true →
      (∀ st : Nat, (desc = none ∧ st = 0x10) ∨ (∃ d, desc = some d ∧ ((descOk d = false ∧ st = 0x11) ∨
          (descOk d = true ∧ descIn d = false ∧ (data.getD []).length < descLen d ∧ st = 0x10))) →
        ∃ t : State, exec (.dmaDescriptorComplete n desc data) s = .next t.signal ∧ t.dmaState n = dmaERROR ∧ t.g (R.USB_DMA_STATUS.LASTSTAT n) = st ∧
          t.on (R.USB_DMA_STATUS.ERR n) = true ∧ t.usb.wrote = s.usb.wrote ++ [(s.dmaAt n + 24, [BitVec.ofNat 8 st, 1])] ∧ t.mem = s.mem ∧
          regsBut [R.USB_DMA_STATUS.reg n] s t) ∧
      (∀ (d : List Byte) (todo : List (Nat × Nat × List Byte)), desc = some d → descOk d = true → descIn d = true ∨ descLen d ≤ (data.getD []).length →
        todo = descTodo d (data.getD []) → todo.map (fun e => (e.1, e.2.1)) = spansOf (fieldAt d 8 5) (descLen d) ∧
        exec (.dmaDescriptorComplete n desc data) s =
          .next ((({ s with usb := { s.usb with dma := s.usb.dma.ins n { desc := d, todo := todo } } } : State).dmaPump).dmaSettle n data.isSome).signal))) ∧
  (∀ (s : State) (n : Nat) (j : DmaJob) (desc data : Option (List Byte)) (st : Nat), n < 8 → s.usb.dma = [(n, j)] → j.todo = [] → partsStatus j.parts = st → st < 256 →
    ((∃ p, p ∈ j.parts ∧ p.got = none) → exec (.dmaDescriptorComplete n desc data) s = .next s.signal) ∧
    (∀ (e : Nat) (bytes : List (Nat × List Byte)), (∀ p, p ∈ j.parts → p.got.isSome = true) →
      (descIn j.desc = false ∧ e = st ∧ bytes = []) ∨ (descIn j.desc = true ∧ data.isSome = true ∧ e = st ∧ bytes = [(fieldAt j.desc 0 8, goodData j.parts)]) ∨
        (descIn j.desc = true ∧ data = none ∧ e = (if st = 0 then 0x10 else st) ∧ bytes = []) →
      ∃ t : State, exec (.dmaDescriptorComplete n desc data) s = .next t.signal ∧ t.usb.dma = [] ∧
        t.usb.wrote = s.usb.wrote ++ bytes ++ [(s.dmaAt n + 24, [BitVec.ofNat 8 e, 1])] ∧ t.g (R.USB_DMA_STATUS.LASTSTAT n) = e ∧
        (e ≠ 0 → t.dmaState n = dmaERROR ∧ t.on (R.USB_DMA_STATUS.ERR n) = true ∧ t.rw (R.USB_DMA_HEAD.reg n) = s.rw (R.USB_DMA_HEAD.reg n)) ∧
        (e = 0 → t.g (R.USB_DMA_HEAD.HEAD n) = (s.g (R.USB_DMA_HEAD.HEAD n) + 1) % s.dmaRing n ∧
          t.dmaState n = (if s.dmaState n = dmaSTOPPING then (if s.on (R.USB_DMA_CTL.EN n) then dmaRUNNING else dmaSTOPPED) else s.dmaState n) ∧
          ((fieldAt j.desc 19 1).testBit 1 = true → t.on (R.USB_DMA_STATUS.DONE n) = true)) ∧ t.mem = s.mem ∧
        regsBut [R.USB_DMA_STATUS.reg n, R.USB_DMA_HEAD.reg n] s t))

/-- An access on its way to the registers is refused by a fenced initiator, a stopped network or the endpoint's state. One that
arrives is answered BADREQ unless it is of 4 aligned bytes, and with the address error outside every block; at an
unimplemented offset it reads zero or writes nothing, and a write by an initiator that the register does not accept is
answered with an error and changes nothing. A write of a plain register changes its fields as their access codes say and
nothing else; a write of a register that is an operation does that operation. A read returns the word and clears the fields
that a read clears. Commands that it shows completing: CSR_WRITE, RC_FIELD_READ. (00 Front matter: R5, R6, R7, R8, R9, R10,
R515, 12 The Network on Chip: R283, R302) -/
def Obligations.RegisterAccess : Prop :=
  (∀ s : State, s.csrPath .image = none ∧ s.csrPath .remote = some stERR ∧ (∀ g, s.csrPath (.fabric g) = some stERR) ∧
    ∀ (w : Who) (ini : Nat), (w = .super ∧ ini = iniSuper) ∨ (w = .host ∧ ini = iniHost) ∨ (w = .debug ∧ ini = iniDebug) →
      s.csrPath w = if s.portState (iniEp ini) = portFENCED then some 8 else if s.g R.NOC_STATUS.RUN = 0 then some 6 else portAnswer (s.portState csrEp)) ∧
  (∀ (s : State) (w : Who) (a size : Nat) (v : Word) (sub : Nat), ∃ t : State, exec (.csrWrite w a size v sub) s = .next (t.startSettle.transmit).signal ∧
    (∀ st : Nat, s.csrPath w = some st → t = s.answerWith st []) ∧
    (s.csrPath w = none → (size ≠ 4 ∨ a % 4 ≠ 0 → t = s.answerWith stBAD []) ∧
      (size = 4 → a % 4 = 0 →
        (csrBlockOf a = none → t = s.answerWith stNONE []) ∧
        ((csrBlockOf a).isSome = true → regRowOf a = none → t = s.answerWith stOK []) ∧
        (∀ r : RegRow, (csrBlockOf a).isSome = true → regRowOf a = some r →
          (r.writer.accepts w = false → t = s.answerWith stERR []) ∧
          (r.writer.accepts w = true → csrOpOf a = none → t.resp = some { status := stOK, data := [] } ∧ t.mem = s.mem ∧ regsBut [a] s t ∧
            ∀ b, b < 32 → (t.rw a).getLsbD b =
              ((((s.rw a).getLsbD b && !r.rw.testBit b) || (v.getLsbD b && r.rw.testBit b)) && !(v.getLsbD b && r.w1c.testBit b) ||
                (v.getLsbD b && r.w1s.testBit b))) ∧
          (∀ (o : CsrOp) (n : Nat), r.writer.accepts w = true → csrOpOf a = some (o, n) → t = o.act w n v sub (s.answerWith stOK [])))))) ∧
  (∀ (s : State) (w : Who) (a size : Nat), ∃ t : State, exec (.rcFieldRead w a size) s = .next t.signal ∧
    (∀ st : Nat, s.csrPath w = some st → t = s.answerWith st []) ∧
    (s.csrPath w = none → (size ≠ 4 ∨ a % 4 ≠ 0 → t = s.answerWith stBAD []) ∧
      (size = 4 → a % 4 = 0 →
        (csrBlockOf a = none → t = s.answerWith stNONE []) ∧
        ((csrBlockOf a).isSome = true → regRowOf a = none → t = s.answerWith stOK [0, 0, 0, 0]) ∧
        (∀ r : RegRow, (csrBlockOf a).isSome = true → regRowOf a = some r → t = s.csrGet a ∧
          (a < 0x60000 ∨ (0x70000 ≤ a ∧ a < 0x114000) ∨ (0x116000 ≤ a ∧ a < 0xC00400) ∨ 0xC00700 ≤ a → t.resp = some { status := stOK, data := wordBytes (s.csrShown a) } ∧
            t.mem = s.mem ∧ regsBut [a] s t ∧ ∀ b, b < 32 → (t.rw a).getLsbD b = ((s.rw a).getLsbD b && !r.rc.testBit b))))))

/-- A reset of the port selects IDCODE, which returns SYS_ID. DAPACC and an opcode that Table 22.6 does not name select their
instructions. EXTEST and CLAMP take the pins by the boundary register unless DBGLOCK makes them BYPASS, and HIGHZ releases
them; SAMPLE/PRELOAD captures the levels and takes what is shifted in. An access of the debug port acts under DAPACC: one
while another is pending is counted and ignored; DBGLOCK denies all but reads by the side path and the reset request; the
side path answers at once, in a halt too; any other is closed in a halt, times out without a free tag, and else is a request
of the network. Completion takes the answer into the DAP register, waits for it, or finds the access swept away. Commands
that it shows completing: TAP_RESET, EXTEST, IDCODE, SAMPLE_PRELOAD, CLAMP, HIGHZ, DAPACC, BYPASS, DAP_READ, DAP_WRITE,
DAP_ACCESS_COMPLETE. (22 Host Attachment and Debug: R492, R493, R494, 12 The Network on Chip: R283, R301) -/
def Obligations.DebugPort : Prop :=
  (∀ s : State, exec .tapReset s = .next ({ s with jtag := { s.jtag with ir := 1 } } : State).signal ∧
    exec .idcode s = .next (({ s with jtag := { s.jtag with ir := 1 } } : State).answerWith stOK (wordBytes (s.rw R.SYS_ID.reg))).signal ∧
    exec .dapacc s = .next ({ s with jtag := { s.jtag with ir := 0x20 } } : State).signal ∧
    exec .highz s = .next ({ s with jtag := { s.jtag with ir := 4, force := 2 } } : State).signal ∧
    (s.policyBit 3 = true → exec .clamp s = .next ({ s with jtag := { s.jtag with ir := 0xFF } } : State).signal) ∧
    (s.policyBit 3 = false → exec .clamp s = .next ({ s with jtag := { s.jtag with ir := 3, force := 1 } } : State).signal)) ∧
  (∀ (s : State) (op : Nat), (op % 256 ∈ [0, 1, 2, 3, 4, 0x20] → exec (.bypass op) s = .next s.signal) ∧
    (op % 256 ∉ [0, 1, 2, 3, 4, 0x20] → exec (.bypass op) s = .next ({ s with jtag := { s.jtag with ir := op % 256 } } : State).signal)) ∧
  (∀ (s : State) (l : List (Nat × Option Bool)), (s.policyBit 3 = true → exec (.extest l) s = .next ({ s with jtag := { s.jtag with ir := 0xFF } } : State).signal) ∧
    (s.policyBit 3 = false → ∃ t : State, exec (.extest l) s = .next t.signal ∧ t = { s with jtag := { s.jtag with ir := 0, force := 1, drive := t.jtag.drive } } ∧
      (∀ n, (∀ e, e ∈ l → e.1 ≠ n) → t.jtag.drive.get n = s.jtag.drive.get n) ∧
      (∀ (p q : List (Nat × Option Bool)) (n : Nat) (x : Option Bool), l = p ++ (n, x) :: q → (∀ e, e ∈ q → e.1 ≠ n) → t.jtag.drive.get n = x))) ∧
  (∀ (s : State) (l : List (Nat × Option Bool)), ∃ t : State, exec (.samplePreload l) s = .next t.signal ∧ t.jtag.ir = 2 ∧ t.jtag.force = s.jtag.force ∧
    (∀ n, n < 640 → t.jtag.capture.get n = s.padLevel n) ∧ t.jtag.capture.get 641 = (s.xbar.pinsOn && !s.halted) ∧ t.jtag.capture.get 642 = s.haltN ∧
    (∀ n, (∀ e, e ∈ l → e.1 ≠ n) → t.jtag.drive.get n = s.jtag.drive.get n) ∧
    (∀ (p q : List (Nat × Option Bool)) (n : Nat) (x : Option Bool), l = p ++ (n, x) :: q → (∀ e, e ∈ q → e.1 ≠ n) → t.jtag.drive.get n = x) ∧
    t.csr = s.csr ∧ t.mem = s.mem ∧ t.xbar = s.xbar) ∧
  (∀ a : Nat, sidePath a = true ↔ a = 0xF000000000 + R.SYS_ID.reg ∨ (0xF000010000 ≤ a ∧ a < 0xF000020000) ∨ (0xF000500000 ≤ a ∧ a < 0xF000510000) ∨
    (0xF000B00000 ≤ a ∧ a < 0xF000C00000)) ∧
  (∀ (s : State) (c : Instr) (addr a : Nat) (plain inc : Bool) (v : Option Word) (free : Bool), a = addr % 1099511627776 →
    (c = .dapRead addr plain inc ∧ v = none) ∨ (∃ w, c = .dapWrite addr plain inc w ∧ v = some w) →
    free = (!s.policyBit 3 || (sidePath a && (v.isNone || decide (a = 0xF000000000 + R.DBG_RSTREQ.reg)))) →
    (s.jtag.ir ≠ 0x20 → exec c s = .next s.signal) ∧
    (s.jtag.ir = 0x20 → s.jtag.wait.isSome = true → exec c s = .next (s.bump R.DBG_ERRCNT.OVERRUN 1).signal) ∧
    (∀ b : State, b = { s with
        noc := { s.noc with arrived := s.noc.arrived.filter (fun x => !(x.1 / 4096 = iniDebug)) }
        jtag := { s.jtag with addr := a, status := 15, wait := some (v.isNone, inc) } } → s.jtag.ir = 0x20 → s.jtag.wait = none →
      (∀ st : Nat, (free = true ∧ sidePath a = true ∧ a % 4 ≠ 0 ∧ st = 4) ∨
          (free = true ∧ sidePath a = false ∧ s.halted = true ∧ st = 6) ∨
          (free = true ∧ sidePath a = false ∧ s.halted = false ∧ s.freeTag iniDebug (fun _ => true) = none ∧ st = 9) →
        exec c s = .next ({ b with noc := { b.noc with arrived := b.noc.arrived ++ [(iniDebug * 4096, st, 0, [])] } } : State).signal) ∧
      (free = false → exec c s = .next ({ (b.bump R.DBG_ERRCNT.DENIED 1) with
        noc := { b.noc with arrived := b.noc.arrived ++ [(iniDebug * 4096, 3, 0, [])] } } : State).signal) ∧
      (free = true → sidePath a = true → a % 4 = 0 → ∀ (u : State) (r : Resp),
        u = (match v with | some w => b.csrSet .debug (a - 0xF000000000) w 0 | none => b.csrGet (a - 0xF000000000)) → u.resp = some r →
        exec c s = .next ({ u with resp := s.resp, noc := { u.noc with arrived := u.noc.arrived ++ [(iniDebug * 4096, r.status, 0, r.data)] } } : State).signal) ∧
      (free = true → sidePath a = false → s.halted = false → ∀ (g : Nat) (u : State), s.freeTag iniDebug (fun _ => true) = some g →
        u = b.request { ini := iniDebug, op := if v.isNone then 0 else 1, addr := a, len := 4, tag := g, data := (v.map wordBytes).getD [], raw := !plain } 0 →
        exec c s = .next (({ u with resp := s.resp } : State).vsmAnswers.hostAnswers).signal))) ∧
  (∀ s : State, (s.jtag.wait = none → exec .dapAccessComplete s = .next s.signal) ∧
    (∀ (rd inc : Bool) (mine : List (Nat × Nat × Nat × List Byte)), s.jtag.wait = some (rd, inc) → mine = s.noc.arrived.filter (fun x => decide (x.1 / 4096 = iniDebug)) →
      (mine = [] → s.noc.issued.any (fun i => i.ini = iniDebug) = true → exec .dapAccessComplete s = .next s.signal) ∧
      (∀ (st : Nat) (data : List Byte), (mine = [] ∧ s.noc.issued.any (fun i => i.ini = iniDebug) = false ∧ st = 6 ∧ data = []) ∨
          (∃ k d l, mine = (k, st, d, data) :: l) → ∃ t : State, exec .dapAccessComplete s = .next t.signal ∧ t.jtag.wait = none ∧ t.jtag.status = st ∧
        t.jtag.data = (if rd = true ∧ st = 0 then BitVec.ofNat 32 (bytesNat (data.take 4)) else s.jtag.data) ∧
        t.jtag.addr = (if inc = true ∧ st = 0 then (s.jtag.addr + 4) % 1099511627776 else s.jtag.addr) ∧ t.jtag.ir = s.jtag.ir ∧ t.jtag.drive = s.jtag.drive ∧
        t.noc.arrived = s.noc.arrived.filter (fun x => !(x.1 / 4096 = iniDebug)) ∧ t.csr = s.csr ∧ t.mem = s.mem)))
end

