-- ==== Sys2Proof/Laws/Map.lean ====
section
/-! SUPPORT. What the operations on tables do: a key reads as what was last written for it, every other key as before, and
the canonical form is kept. -/

namespace Sys2Proof.Machine

variable {α : Type}

theorem SMap.find_del_same (m : SMap α) (k : Nat) : SMap.find (SMap.del m k) k = none := by
  induction m with
  | nil => rfl
  | cons e t ih =>
    obtain ⟨a, w⟩ := e
    by_cases h : a = k <;> simp [SMap.del, SMap.find, h, ih]

theorem SMap.find_del_other (m : SMap α) {k j : Nat} (h : j ≠ k) : SMap.find (SMap.del m k) j = SMap.find m j := by
  induction m with
  | nil => rfl
  | cons e t ih =>
    obtain ⟨a, w⟩ := e
    by_cases ha : a = k
    · simp [SMap.del, SMap.find, ha, ih, Ne.symm h]
    · simp [SMap.del, SMap.find, ha, ih]

theorem SMap.find_ins_same (m : SMap α) (k : Nat) (v : α) : SMap.find (SMap.ins m k v) k = some v := by
  induction m with
  | nil => simp [SMap.ins, SMap.find]
  | cons e t ih =>
    obtain ⟨a, w⟩ := e
    unfold SMap.ins
    split
    · simp [SMap.find]
    · split
      · simp [SMap.find]
      · rename_i h1 h2
        simp [SMap.find, h2, ih]

theorem SMap.find_ins_other (m : SMap α) {k j : Nat} (v : α) (h : j ≠ k) :
    SMap.find (SMap.ins m k v) j = SMap.find m j := by
  induction m with
  | nil => simp [SMap.ins, SMap.find, Ne.symm h]
  | cons e t ih =>
    obtain ⟨a, w⟩ := e
    unfold SMap.ins
    split
    · simp [SMap.find, Ne.symm h]
    · split
      · rename_i h2
        subst h2
        simp [SMap.find, Ne.symm h]
      · simp [SMap.find, ih]

section Values

variable [Inhabited α] [DecidableEq α]

omit [DecidableEq α] in
@[simp] theorem SMap.get_nil (k : Nat) : SMap.get ([] : SMap α) k = default := rfl

@[simp] theorem SMap.get_set_same (m : SMap α) (k : Nat) (v : α) : SMap.get (SMap.set m k v) k = v := by
  unfold SMap.get SMap.set
  split
  · rename_i h
    rw [SMap.find_del_same, h]
    rfl
  · rw [SMap.find_ins_same]
    rfl

theorem SMap.get_set_other (m : SMap α) {k j : Nat} (v : α) (h : j ≠ k) : SMap.get (SMap.set m k v) j = SMap.get m j := by
  unfold SMap.get SMap.set
  split
  · rw [SMap.find_del_other m h]
  · rw [SMap.find_ins_other m v h]

/-- A write is seen at its own key only. -/
theorem SMap.get_set (m : SMap α) (k j : Nat) (v : α) : SMap.get (SMap.set m k v) j = if j = k then v else SMap.get m j := by
  by_cases h : j = k
  · simp [h]
  · simp [h, SMap.get_set_other m v h]

@[simp] theorem SMap.get_upd_same (m : SMap α) (k : Nat) (f : α → α) : SMap.get (SMap.upd m k f) k = f (SMap.get m k) :=
  SMap.get_set_same m k _

theorem SMap.get_upd_other (m : SMap α) {k j : Nat} (f : α → α) (h : j ≠ k) : SMap.get (SMap.upd m k f) j = SMap.get m j :=
  SMap.get_set_other m _ h

end Values

/-! ### The canonical form -/

/-- Every key of the table is greater than `a`. -/
theorem SMap.rising_cons {a : Nat} {w : α} {t : SMap α} :
    SMap.rising ((a, w) :: t) = true ↔ (∀ e ∈ t, a < e.1) ∧ SMap.rising t = true := by
  induction t generalizing a w with
  | nil => simp [SMap.rising]
  | cons e t ih =>
    obtain ⟨b, x⟩ := e
    simp only [SMap.rising, Bool.and_eq_true, decide_eq_true_eq, List.mem_cons, forall_eq_or_imp]
    constructor
    · rintro ⟨hab, hr⟩
      exact ⟨⟨hab, fun e he => Nat.lt_trans hab ((ih.1 hr).1 e he)⟩, hr⟩
    · rintro ⟨⟨hab, _⟩, hr⟩
      exact ⟨hab, hr⟩

theorem SMap.mem_del {m : SMap α} {k : Nat} {e : Nat × α} (h : e ∈ SMap.del m k) : e ∈ m ∧ e.1 ≠ k := by
  induction m with
  | nil => simp [SMap.del] at h
  | cons x t ih =>
    obtain ⟨a, w⟩ := x
    unfold SMap.del at h
    split at h
    · exact ⟨List.mem_cons_of_mem _ (ih h).1, (ih h).2⟩
    · rcases List.mem_cons.1 h with rfl | h
      · exact ⟨List.mem_cons_self, by assumption⟩
      · exact ⟨List.mem_cons_of_mem _ (ih h).1, (ih h).2⟩

theorem SMap.mem_ins {m : SMap α} {k : Nat} {v : α} {e : Nat × α} (h : e ∈ SMap.ins m k v) : e = (k, v) ∨ e ∈ m := by
  induction m with
  | nil => simpa [SMap.ins] using h
  | cons x t ih =>
    obtain ⟨a, w⟩ := x
    unfold SMap.ins at h
    split at h
    · simpa using h
    · split at h
      · rcases List.mem_cons.1 h with h | h
        · exact .inl h
        · exact .inr (List.mem_cons_of_mem _ h)
      · rcases List.mem_cons.1 h with h | h
        · exact .inr (h ▸ List.mem_cons_self)
        · exact (ih h).imp id (List.mem_cons_of_mem _)

theorem SMap.rising_del {m : SMap α} (k : Nat) (h : SMap.rising m = true) : SMap.rising (SMap.del m k) = true := by
  induction m with
  | nil => rfl
  | cons x t ih =>
    obtain ⟨a, w⟩ := x
    have hc := SMap.rising_cons.1 h
    unfold SMap.del
    split
    · exact ih hc.2
    · exact SMap.rising_cons.2 ⟨fun e he => hc.1 e (SMap.mem_del he).1, ih hc.2⟩

theorem SMap.rising_ins {m : SMap α} (k : Nat) (v : α) (h : SMap.rising m = true) : SMap.rising (SMap.ins m k v) = true := by
  induction m with
  | nil => rfl
  | cons x t ih =>
    obtain ⟨a, w⟩ := x
    have hc := SMap.rising_cons.1 h
    unfold SMap.ins
    split
    · rename_i hk
      refine SMap.rising_cons.2 ⟨fun e he => ?_, h⟩
      rcases List.mem_cons.1 he with rfl | he
      · exact hk
      · exact Nat.lt_trans hk (hc.1 e he)
    · split
      · rename_i hk
        subst hk
        exact SMap.rising_cons.2 hc
      · refine SMap.rising_cons.2 ⟨fun e he => ?_, ih hc.2⟩
        rcases SMap.mem_ins he with rfl | he
        · simp only
          omega
        · exact hc.1 e he

theorem SMap.rising_keep {m : SMap α} (p : Nat → Bool) (h : SMap.rising m = true) : SMap.rising (SMap.keep m p) = true := by
  induction m with
  | nil => rfl
  | cons x t ih =>
    obtain ⟨a, w⟩ := x
    have hc := SMap.rising_cons.1 h
    unfold SMap.keep at *
    rw [List.filter_cons]
    split
    · exact SMap.rising_cons.2 ⟨fun e he => hc.1 e (List.mem_filter.1 he).1, ih hc.2⟩
    · exact ih hc.2

/-- Writing a key keeps the canonical form. -/
theorem SMap.wf_set [Inhabited α] [DecidableEq α] {m : SMap α} (k : Nat) (v : α) (h : SMap.wf m = true) :
    SMap.wf (SMap.set m k v) = true := by
  simp only [SMap.wf, Bool.and_eq_true, List.all_eq_true, decide_eq_true_eq] at *
  unfold SMap.set
  split
  · exact ⟨SMap.rising_del k h.1, fun e he => h.2 e (SMap.mem_del he).1⟩
  · refine ⟨SMap.rising_ins k v h.1, fun e he => ?_⟩
    rcases SMap.mem_ins he with rfl | he
    · assumption
    · exact h.2 e he

theorem SMap.del_ins (m : SMap α) (k : Nat) (v : α) : SMap.del (SMap.ins m k v) k = SMap.del m k := by
  induction m with
  | nil => simp [SMap.ins, SMap.del]
  | cons e t ih =>
    simp only [SMap.ins]
    by_cases h1 : k < e.1
    · simp [h1, SMap.del]
    · by_cases h2 : e.1 = k <;> simp [h1, h2, SMap.del, ih]

theorem SMap.ins_ins (m : SMap α) (k : Nat) (v w : α) : SMap.ins (SMap.ins m k v) k w = SMap.ins m k w := by
  induction m with
  | nil => simp [SMap.ins]
  | cons e t ih =>
    simp only [SMap.ins]
    by_cases h1 : k < e.1
    · simp [h1, SMap.ins]
    · by_cases h2 : e.1 = k <;> simp [h1, h2, SMap.ins, ih]

/-- Of two writes of a key the second stays, when the first lists a value. -/
theorem SMap.set_set [Inhabited α] [DecidableEq α] (m : SMap α) (k : Nat) {v : α} (w : α) (hv : v ≠ default) :
    SMap.set (SMap.set m k v) k w = SMap.set m k w := by
  unfold SMap.set
  rw [if_neg hv]
  split
  · exact SMap.del_ins m k v
  · exact SMap.ins_ins m k v w

end Sys2Proof.Machine
end

