-- ==== Sys2Proof/Laws/Memory.lean ====
section
/-! SUPPORT. What a write of memory does: the byte written reads back, every other byte reads as before, and the canonical
form is kept; a unit's new filling changes no byte of another unit. -/

namespace Sys2Proof.Machine

@[simp] theorem State.unlisted_setByte (s : State) (a b : Nat) (v : Byte) : (s.setByte a v).unlisted b = s.unlisted b := rfl

/-- The byte written reads back. -/
theorem State.byte_setByte_same (s : State) (a : Nat) (v : Byte) : (s.setByte a v).byte a = v := by
  unfold State.byte
  rw [State.unlisted_setByte]
  unfold State.setByte
  simp only
  split
  · rename_i w h
    split at h
    · rw [SMap.find_del_same] at h
      cases h
    · rw [SMap.find_ins_same] at h
      exact (Option.some.inj h).symm
  · rename_i h
    split at h
    · rename_i hu
      simp [hu]
    · rw [SMap.find_ins_same] at h
      cases h

/-- Every other byte reads as before. -/
theorem State.byte_setByte_other (s : State) {a b : Nat} (v : Byte) (h : b ≠ a) : (s.setByte a v).byte b = s.byte b := by
  unfold State.byte
  rw [State.unlisted_setByte]
  have hf : SMap.find (s.setByte a v).mem b = SMap.find s.mem b := by
    unfold State.setByte
    simp only
    split
    · exact SMap.find_del_other s.mem h
    · exact SMap.find_ins_other s.mem v h
  rw [hf]
  rfl

/-- A write keeps the canonical form. -/
theorem State.memWf_setByte (s : State) (a : Nat) (v : Byte) (h : s.memWf = true) : (s.setByte a v).memWf = true := by
  simp only [State.memWf, Bool.and_eq_true, List.all_eq_true, decide_eq_true_eq] at *
  unfold State.setByte
  split
  · exact ⟨SMap.rising_del a h.1, fun e he => h.2 e (SMap.mem_del he).1⟩
  · rename_i hu
    refine ⟨SMap.rising_ins a v h.1, fun e he => ?_⟩
    rcases SMap.mem_ins he with rfl | he
    · exact hu
    · exact h.2 e he

/-- Bytes outside those written read as before. -/
theorem State.byte_setBytes_other (s : State) (a : Nat) (l : List Byte) {b : Nat} (h : b < a ∨ a + l.length ≤ b) :
    (s.setBytes a l).byte b = s.byte b := by
  induction l generalizing s a with
  | nil => rfl
  | cons v l ih =>
    simp only [List.length_cons] at h
    exact (ih (s.setByte a v) (a + 1) (by omega)).trans (State.byte_setByte_other s v (by omega))

/-- The bytes written read back. -/
theorem State.bytes_setBytes (s : State) (a : Nat) (l : List Byte) : (s.setBytes a l).bytes a l.length = l := by
  induction l generalizing s a with
  | nil => rfl
  | cons v l ih =>
    have hv : ((s.setByte a v).setBytes (a + 1) l).byte a = v :=
      (State.byte_setBytes_other (s.setByte a v) (a + 1) l (by omega)).trans (State.byte_setByte_same s a v)
    simp only [State.setBytes, List.length_cons, State.bytes, hv, ih]

theorem State.memWf_setBytes (s : State) (a : Nat) (l : List Byte) (h : s.memWf = true) : (s.setBytes a l).memWf = true := by
  induction l generalizing s a with
  | nil => exact h
  | cons v l ih => exact ih (s.setByte a v) (a + 1) (State.memWf_setByte s a v h)

/-- A filling changes what unlisted bytes of its own unit read as, and no other. -/
theorem State.unlisted_refill_other (s : State) (u f : Nat) {a : Nat} (h : memUnit a ≠ u) :
    (s.refill u f).unlisted a = s.unlisted a := by
  unfold State.unlisted State.refill
  simp only
  rw [SMap.get_set_other s.fill f h]

/-- A unit's new filling keeps the canonical form. -/
theorem State.memWf_refill (s : State) (u f : Nat) (h : s.memWf = true) : (s.refill u f).memWf = true := by
  simp only [State.memWf, Bool.and_eq_true, List.all_eq_true, decide_eq_true_eq] at *
  refine ⟨SMap.rising_keep (fun a => decide (memUnit a ≠ u)) h.1, fun e he => ?_⟩
  have hm : e ∈ s.mem ∧ memUnit e.1 ≠ u := by
    have := List.mem_filter.1 he
    exact ⟨this.1, by simpa using this.2⟩
  rw [State.unlisted_refill_other s u f hm.2]
  exact h.2 e hm.1

/-- A unit whose contents become undefined keeps the canonical form. -/
theorem State.memWf_forget (s : State) (u : Nat) (h : s.memWf = true) : (s.forget u).memWf = true :=
  State.memWf_refill s u (s.epoch + 3) h

theorem State.memWf_reset : State.reset.memWf = true := rfl

/-- A byte of another unit reads as before when a unit is filled. -/
theorem State.byte_refill_other (s : State) (u f : Nat) {a : Nat} (h : memUnit a ≠ u) : (s.refill u f).byte a = s.byte a := by
  have hk : ∀ m : SMap Byte, SMap.find (SMap.keep m (fun b => decide (memUnit b ≠ u))) a = SMap.find m a := by
    intro m
    induction m with
    | nil => rfl
    | cons e t ih =>
      obtain ⟨b, w⟩ := e
      simp only [SMap.keep, List.filter_cons] at *
      by_cases hb : b = a
      · subst hb
        simp [h, SMap.find]
      · split
        · simp only [SMap.find, hb, if_false]
          exact ih
        · simp only [SMap.find, hb, if_false]
          exact ih
  unfold State.byte
  rw [State.unlisted_refill_other s u f h]
  unfold State.refill
  simp only
  rw [hk, SMap.get_set_other s.fill f h]

end Sys2Proof.Machine
end

