-- ==== Sys2Proof/Laws/Still.lean ====
section
/-! SUPPORT. The operations that leave the command queue, the numbers of the ticks and all of memory alone: one lemma for each, so
that a proof about any of these cites it and unfolds nothing. -/

namespace Sys2Proof.Machine

/-- What most operations never touch: the queue of commands, the numbers of the current angle and crossbar tick, and everything that
memory is made of. -/
def State.still (s : State) : List Instr × Nat × Nat × SMap Byte × SMap Nat × Nat :=
  (s.pending, s.tick, s.xtick, s.mem, s.fill, s.epoch)

/-- A record update that does not name them leaves them alone. -/
theorem State.still_mk (a1 a2 tick xtick a5 a6 a7 a8 a9 mem fill epoch b1 b2 b3 b4 b5 b6 b7 b8 b9 b10 b11 b12 b13 b14 b15 b16 b17 b18
    b19 b20 b21 pending) : State.still (State.mk a1 a2 tick xtick a5 a6 a7 a8 a9 mem fill epoch b1 b2 b3 b4 b5 b6 b7 b8 b9 b10 b11 b12
      b13 b14 b15 b16 b17 b18 b19 b20 b21 pending) = (pending, tick, xtick, mem, fill, epoch) := (rfl)

theorem State.still_fold (s : State) : (s.pending, s.tick, s.xtick, s.mem, s.fill, s.epoch) = s.still := (rfl)

theorem foldl_still {β : Type} (f : State → β → State) (h : ∀ s x, (f s x).still = s.still) (l : List β) (s : State) :
    (l.foldl f s).still = s.still := by
  induction l generalizing s with
  | nil => rfl
  | cons x l ih => exact (ih _).trans (h s x)

theorem foldl_still_fst {β γ : Type} (f : State × γ → β → State × γ) (h : ∀ a x, (f a x).1.still = a.1.still) (l : List β)
    (a : State × γ) : (l.foldl f a).1.still = a.1.still := by
  induction l generalizing a with
  | nil => rfl
  | cons x l ih => exact (ih _).trans (h a x)

theorem foldl_still_snd {β γ : Type} (f : γ × State → β → γ × State) (h : ∀ a x, (f a x).2.still = a.2.still) (l : List β)
    (a : γ × State) : (l.foldl f a).2.still = a.2.still := by
  induction l generalizing a with
  | nil => rfl
  | cons x l ih => exact (ih _).trans (h a x)

theorem State.setRst_still (s : State) (f : Rst → Rst) : (s.setRst f).still = s.still := by
  unfold State.setRst
  simp only [State.still_mk, State.still_fold]

theorem State.setStart_still (s : State) (f : Start → Start) : (s.setStart f).still = s.still := by
  unfold State.setStart
  simp only [State.still_mk, State.still_fold]

theorem State.setSec_still (s : State) (f : Sec → Sec) : (s.setSec f).still = s.still := by
  unfold State.setSec
  simp only [State.still_mk, State.still_fold]

theorem State.startUpdate_still (s : State) (step result relms : Nat) : (s.startUpdate step result relms).still = s.still := by
  unfold State.startUpdate
  (repeat' split) <;> simp only [State.setSec_still]

theorem State.each_still (s : State) (l : List Nat) (f : State → Nat → State) (h_f : ∀ x0 x1,
    (f x0 x1).still = x0.still) : (s.each l f).still = s.still := by
  unfold State.each
  exact foldl_still f h_f l s

theorem State.wr_still (s : State) (a : Nat) (v : Word) : (s.wr a v).still = s.still := by
  unfold State.wr
  simp only [State.still_mk, State.still_fold]

theorem State.put_still (s : State) (f : Field) (x : Nat) : (s.put f x).still = s.still := by
  unfold State.put
  simp only [State.wr_still]

theorem State.putB_still (s : State) (f : Field) (b : Bool) : (s.putB f b).still = s.still := by
  unfold State.putB
  simp only [State.put_still]

theorem State.lgrQuiet_still (s : State) : s.lgrQuiet.still = s.still := by
  unfold State.lgrQuiet
  repeat' (first
    | with_reducible rfl
    | intro _
    | simp only [State.putB_still]
    | refine (State.each_still _ _ _ ?_).trans ?_)

theorem State.raise_still (s : State) (f : Field) : (s.raise f).still = s.still := by
  unfold State.raise
  simp only [State.put_still]

theorem State.setQuad_still (s : State) (q st : Nat) : (s.setQuad q st).still = s.still := by
  unfold State.setQuad
  split <;> simp only [State.put_still, State.raise_still]

theorem State.setBit_still (s : State) (f : Field) (b : Nat) : (s.setBit f b).still = s.still := by
  unfold State.setBit
  simp only [State.put_still]

theorem State.resetNote_still (s : State) (src reach : Nat) (halted : Bool) : (s.resetNote src reach halted).still = s.still := by
  unfold State.resetNote
  simp only [State.put_still, State.putB_still, State.setBit_still]

theorem State.startCut_still (s : State) (src : Nat) : (s.startCut src).still = s.still := by
  unfold State.startCut
  (repeat' split) <;> simp only [State.setStart_still, State.startUpdate_still]

theorem State.discShow_still (s : State) : s.discShow.still = s.still := by
  unfold State.discShow
  simp only [State.putB_still]

theorem State.bump_still (s : State) (f : Field) (k : Nat) : (s.bump f k).still = s.still := by
  unfold State.bump
  simp only [State.put_still]

theorem State.setPort_still (s : State) (ep st : Nat) : (s.setPort ep st).still = s.still := by
  unfold State.setPort
  simp only [State.bump_still, State.put_still, apply_ite State.still, ite_self]

theorem State.openPorts_still (s : State) (eps : List Nat) : (s.openPorts eps).still = s.still := by
  unfold State.openPorts
  repeat' (first
    | with_reducible rfl
    | intro _
    | simp only [State.setPort_still, apply_ite State.still, ite_self]
    | split
    | refine (State.each_still _ _ _ ?_).trans ?_)

theorem State.releaseBegin_still (s : State) : s.releaseBegin.still = s.still := by
  unfold State.releaseBegin
  repeat' (first
    | with_reducible rfl
    | intro _
    | simp only [State.openPorts_still, State.put_still, State.putB_still, State.setQuad_still, State.setRst_still,
    State.setStart_still]
    | refine (State.each_still _ _ _ ?_).trans ?_)

theorem State.resetDrop_still (s : State) (src : Nat) : (s.resetDrop src).still = s.still := by
  unfold State.resetDrop
  simp only [State.putB_still, State.releaseBegin_still, State.setRst_still, apply_ite State.still, ite_self]

theorem State.setRegion_still (s : State) (g : Nat) (r : Region) : (s.setRegion g r).still = s.still := by
  unfold State.setRegion
  simp only [State.still_mk, State.still_fold]

theorem State.holdAsk_still (s : State) (g : Nat) (fixes : List Nat) (reinit : Bool) : (s.holdAsk g fixes reinit).still = s.still := by
  unfold State.holdAsk
  simp only [State.setRegion_still]

theorem State.setCfg_still (s : State) (f : Cfg → Cfg) : (s.setCfg f).still = s.still := by
  unfold State.setCfg
  simp only [State.still_mk, State.still_fold]

theorem State.scrubStop_still (s : State) (g : Nat) : (s.scrubStop g).still = s.still := by
  unfold State.scrubStop
  simp only [State.setCfg_still]

theorem State.sgRefuse_still (s : State) (n code g : Nat) : (s.sgRefuse n code g).still = s.still := by
  unfold State.sgRefuse
  simp only [State.put_still, State.setBit_still]

theorem State.setMbx_still (s : State) (m st : Nat) : (s.setMbx m st).still = s.still := by
  unfold State.setMbx
  simp only [State.put_still]

theorem State.answerMbx_still (s : State) (m status r0 r1 : Nat) : (s.answerMbx m status r0 r1).still = s.still := by
  unfold State.answerMbx
  split <;> simp only [State.put_still, State.setBit_still, State.setMbx_still]

theorem State.swSettle_still (s : State) : s.swSettle.still = s.still := by
  unfold State.swSettle
  repeat' (first
    | with_reducible rfl
    | intro _
    | simp only [State.answerMbx_still, State.setCfg_still]
    | split
    | refine (foldl_still _ ?_ _ _).trans ?_)

theorem State.swDone_still (s : State) (n : Nat) (ok : Bool) : (s.swDone n ok).still = s.still := by
  unfold State.swDone
  simp only [State.setCfg_still, State.swSettle_still]

theorem State.switchCancel_still (s : State) (g : Nat) : (s.switchCancel g).still = s.still := by
  unfold State.switchCancel
  repeat' (first
    | with_reducible rfl
    | intro _
    | simp only [State.putB_still, State.setRegion_still, State.sgRefuse_still, State.swDone_still, apply_ite State.still]
    | split
    | refine (State.each_still _ _ _ ?_).trans ?_)

theorem State.fabHold_still (s : State) (g : Nat) : (s.fabHold g).still = s.still := by
  unfold State.fabHold
  simp only [State.holdAsk_still, State.scrubStop_still, State.setRegion_still, State.switchCancel_still,
    apply_ite State.still, ite_self]

theorem State.leaseShow_still (s : State) : s.leaseShow.still = s.still := by
  unfold State.leaseShow
  simp only [State.putB_still]

theorem State.fabShow_still (s : State) : s.fabShow.still = s.still := by
  unfold State.fabShow
  simp only [State.leaseShow_still, State.putB_still]

theorem State.fabReset_still (s : State) (src : Nat) (l : List Nat) : (s.fabReset src l).still = s.still := by
  unfold State.fabReset
  repeat' (first
    | with_reducible rfl
    | intro _
    | simp only [State.fabHold_still, State.fabShow_still, State.resetNote_still, State.setBit_still, State.setRst_still,
    apply_ite State.still]
    | split
    | refine (State.each_still _ _ _ ?_).trans ?_)

theorem State.latchClear_still (s : State) (a : Nat) : (s.latchClear a).still = s.still := by
  unfold State.latchClear
  simp only [State.still_mk, State.still_fold]

theorem State.setAdapter_still (s : State) (g : Nat) (a : Adapter) : (s.setAdapter g a).still = s.still := by
  unfold State.setAdapter
  simp only [State.still_mk, State.still_fold]

theorem State.reserve_still (s : State) (g c : Nat) (d : Int) : (s.reserve g c d).still = s.still := by
  unfold State.reserve
  simp only [State.put_still, State.setAdapter_still]

theorem State.adapterDiscard_still (s : State) (g c : Nat) : (s.adapterDiscard g c).still = s.still := by
  unfold State.adapterDiscard
  simp only [State.bump_still, State.reserve_still, State.setAdapter_still]

theorem State.adapterStale_still (s : State) (g c : Nat) : (s.adapterStale g c).still = s.still := by
  unfold State.adapterStale
  simp only [State.still_mk, State.still_fold]

theorem State.dampersFresh_still (s : State) (g : Nat) : (s.dampersFresh g).still = s.still := by
  unfold State.dampersFresh
  simp only [State.still_mk, State.still_fold]

theorem State.ffInit_still (s : State) (g c : Nat) : (s.ffInit g c).still = s.still := by
  unfold State.ffInit
  simp only [State.still_mk, State.still_fold]

theorem State.fwdReload_still (s : State) (g : Nat) : (s.fwdReload g).still = s.still := by
  unfold State.fwdReload
  simp only [State.put_still]

theorem State.place_still (s : State) (p : Packet) : (s.place p).still = s.still := by
  unfold State.place
  simp only [State.still_mk, State.still_fold]

theorem State.postedDone_still (s : State) (q : Req) : (s.postedDone q).still = s.still := by
  unfold State.postedDone
  (repeat' split) <;> simp only [State.still_mk, State.still_fold, State.reserve_still]

theorem State.respond_still (s : State) (ep : Nat) (q : Req) (status detail : Nat) (data : List Byte) : (s.respond ep q status detail data).still = s.still := by
  unfold State.respond
  split <;> simp only [State.place_still, State.postedDone_still]

theorem State.swWuClear_still (s : State) (g : Nat) : (s.swWuClear g).still = s.still := by
  unfold State.swWuClear
  simp only [State.still_mk, State.still_fold]

theorem State.reinitNow_still (s : State) (g : Nat) : (s.reinitNow g).still = s.still := by
  unfold State.reinitNow
  repeat' (first
    | with_reducible rfl
    | intro _
    | simp only [State.still_mk, State.still_fold, State.adapterDiscard_still, State.adapterStale_still,
    State.dampersFresh_still, State.ffInit_still, State.fwdReload_still, State.put_still, State.putB_still,
    State.respond_still, State.setAdapter_still, State.swWuClear_still]
    | split
    | refine (State.each_still _ _ _ ?_).trans ?_
    | refine (foldl_still _ ?_ _ _).trans ?_)

theorem State.holdWork_still (s : State) (g : Nat) : (s.holdWork g).still = s.still := by
  unfold State.holdWork
  repeat' (first
    | with_reducible rfl
    | intro _
    | simp only [State.latchClear_still, State.reinitNow_still, State.setRegion_still, apply_ite State.still, ite_self]
    | split
    | refine (foldl_still _ ?_ _ _).trans ?_)

theorem State.gateShow_still (s : State) (g : Nat) : (s.gateShow g).still = s.still := by
  unfold State.gateShow
  simp only [State.putB_still]

theorem State.ungate_still (s : State) (g : Nat) : (s.ungate g).still = s.still := by
  unfold State.ungate
  simp only [State.fwdReload_still, State.gateShow_still, State.setRegion_still]

theorem State.fabComplete_still (s : State) (g : Nat) : (s.fabComplete g).still = s.still := by
  unfold State.fabComplete
  simp only [State.fabShow_still, State.holdWork_still, State.setRst_still, State.ungate_still, apply_ite State.still, ite_self]

theorem State.fwdExpiry_still (s : State) (g : Nat) : (s.fwdExpiry g).still = s.still := by
  unfold State.fwdExpiry
  repeat' (first
    | with_reducible rfl
    | intro _
    | simp only [State.bump_still, State.fabReset_still, State.fwdReload_still, State.gateShow_still, State.putB_still,
    State.raise_still, State.setBit_still, State.setRegion_still, apply_ite State.still]
    | split)

theorem State.setTwinBlk_still (s : State) (f : Twin → Twin) : (s.setTwinBlk f).still = s.still := by
  unfold State.setTwinBlk
  simp only [State.still_mk, State.still_fold]

theorem State.regsReset_still (s : State) (lo n : Nat) : (s.regsReset lo n).still = s.still := by
  unfold State.regsReset
  simp only [State.still_mk, State.still_fold]

theorem State.blockReset_still (s : State) (r b : Nat) (idle : Bool) (f : State → State) (h_f : ∀ x0,
    (f x0).still = x0.still) : (s.blockReset r b idle f).still = s.still := by
  unfold State.blockReset
  simp only [State.bump_still, State.put_still, h_f, apply_ite State.still, ite_self]

theorem State.perEvents_still (s : State) : s.perEvents.still = s.still := by
  unfold State.perEvents
  simp only [State.put_still]

theorem State.encReset_still (s : State) (n : Nat) : (s.encReset n).still = s.still := by
  unfold State.encReset
  repeat' (first
    | with_reducible rfl
    | intro _
    | simp only [State.still_mk, State.still_fold, State.perEvents_still, State.regsReset_still]
    | refine (State.blockReset_still _ _ _ _ _ ?_).trans ?_)

theorem State.perReset_still (s : State) (k b : Nat) : (s.perReset k b).still = s.still := by
  unfold State.perReset
  repeat' (first
    | with_reducible rfl
    | intro _
    | simp only [State.still_mk, State.still_fold, State.perEvents_still, State.regsReset_still]
    | refine (State.blockReset_still _ _ _ _ _ ?_).trans ?_)

theorem State.quadReset_still (s : State) (q : Nat) : (s.quadReset q).still = s.still := by
  unfold State.quadReset
  repeat' (first
    | with_reducible rfl
    | intro _
    | simp only [State.still_mk, State.still_fold, State.regsReset_still]
    | refine (State.blockReset_still _ _ _ _ _ ?_).trans ?_)

theorem State.setAxis_still (s : State) (n : Nat) (a : Axis) : (s.setAxis n a).still = s.still := by
  unfold State.setAxis
  simp only [State.still_mk, State.still_fold]

theorem State.failAxes_still (s : State) (l : List Nat) (cause : Nat) : (s.failAxes l cause).still = s.still := by
  unfold State.failAxes
  repeat' (first
    | with_reducible rfl
    | intro _
    | simp only [State.setAxis_still, apply_ite State.still, ite_self]
    | split
    | refine (State.each_still _ _ _ ?_).trans ?_)

theorem State.setVsm_still (s : State) (f : Vsm → Vsm) : (s.setVsm f).still = s.still := by
  unfold State.setVsm
  simp only [State.still_mk, State.still_fold]

theorem State.setTstate_still (s : State) (st : Nat) : (s.setTstate st).still = s.still := by
  unfold State.setTstate
  simp only [State.failAxes_still, State.put_still, State.putB_still, State.raise_still, State.setVsm_still,
    apply_ite State.still, ite_self]

theorem State.vsmReset_still (s : State) : s.vsmReset.still = s.still := by
  unfold State.vsmReset
  repeat' (first
    | with_reducible rfl
    | intro _
    | simp only [State.still_mk, State.still_fold, State.discShow_still, State.regsReset_still, State.setTstate_still,
    State.setVsm_still]
    | refine (State.blockReset_still _ _ _ _ _ ?_).trans ?_)

theorem State.mbxDrop_still (s : State) : s.mbxDrop.still = s.still := by
  unfold State.mbxDrop
  simp only [State.still_mk, State.still_fold, State.setCfg_still, State.setSec_still, State.wr_still]

theorem State.usbReset_still (s : State) : s.usbReset.still = s.still := by
  unfold State.usbReset
  repeat' (first
    | with_reducible rfl
    | intro _
    | simp only [State.still_mk, State.still_fold, State.mbxDrop_still, State.regsReset_still]
    | refine (State.blockReset_still _ _ _ _ _ ?_).trans ?_)

theorem State.hbmReset_still (s : State) (k : Nat) : (s.hbmReset k).still = s.still := by
  unfold State.hbmReset
  repeat' (first
    | with_reducible rfl
    | intro _
    | simp only [State.still_mk, State.still_fold, State.regsReset_still]
    | refine (State.blockReset_still _ _ _ _ _ ?_).trans ?_)

theorem State.answerWith_still (s : State) (status : Nat) (data : List Byte) : (s.answerWith status data).still = s.still := by
  unfold State.answerWith
  simp only [State.still_mk, State.still_fold]

theorem State.pmbReset_still (s : State) (who : Who) : (s.pmbReset who).still = s.still := by
  unfold State.pmbReset
  repeat' (first
    | with_reducible rfl
    | intro _
    | simp only [State.answerWith_still, State.regsReset_still, apply_ite State.still]
    | split
    | refine (State.blockReset_still _ _ _ _ _ ?_).trans ?_)

theorem State.cmpReset_still (s : State) (h : Nat) : (s.cmpReset h).still = s.still := by
  unfold State.cmpReset
  repeat' (first
    | with_reducible rfl
    | intro _
    | simp only [State.still_mk, State.still_fold, State.regsReset_still]
    | refine (State.blockReset_still _ _ _ _ _ ?_).trans ?_)

theorem State.edgReset_still (s : State) (k : Nat) : (s.edgReset k).still = s.still := by
  unfold State.edgReset
  repeat' (first
    | with_reducible rfl
    | intro _
    | simp only [State.still_mk, State.still_fold, State.regsReset_still]
    | refine (State.blockReset_still _ _ _ _ _ ?_).trans ?_)

theorem State.capReset_still (s : State) (k : Nat) : (s.capReset k).still = s.still := by
  unfold State.capReset
  repeat' (first
    | with_reducible rfl
    | intro _
    | simp only [State.still_mk, State.still_fold, State.regsReset_still]
    | refine (State.blockReset_still _ _ _ _ _ ?_).trans ?_)

theorem State.axisReset_still (s : State) (n : Nat) : (s.axisReset n).still = s.still := by
  unfold State.axisReset
  repeat' (first
    | with_reducible rfl
    | intro _
    | simp only [State.still_mk, State.still_fold, State.regsReset_still]
    | refine (State.blockReset_still _ _ _ _ _ ?_).trans ?_)

theorem State.plainWrite_still (s : State) (r : RegRow) (a : Nat) (v : Word) : (s.plainWrite r a v).still = s.still := by
  unfold State.plainWrite
  simp only [State.wr_still]

theorem State.axisStage_still (s : State) (a : Nat) (v : Word) : (s.axisStage a v).still = s.still := by
  unfold State.axisStage
  simp only [State.still_mk, State.still_fold]

theorem State.axDisable_still (s : State) (n : Nat) : (s.axDisable n).still = s.still := by
  unfold State.axDisable
  simp only [State.putB_still, State.setAxis_still, apply_ite State.still, ite_self]

theorem State.axEnable_still (s : State) (n : Nat) : (s.axEnable n).still = s.still := by
  unfold State.axEnable
  simp only [State.putB_still, apply_ite State.still, ite_self]

theorem State.axisCtl_still (s : State) (n : Nat) (v : Word) : (s.axisCtl n v).still = s.still := by
  unfold State.axisCtl
  simp only [State.axDisable_still, State.axEnable_still, State.putB_still, apply_ite State.still, ite_self]

theorem State.unfreeze_still (s : State) (g : Nat) : (s.unfreeze g).still = s.still := by
  unfold State.unfreeze
  simp only [State.putB_still]

theorem State.fwdStatusWrite_still (s : State) (g : Nat) (v : Word) : (s.fwdStatusWrite g v).still = s.still := by
  unfold State.fwdStatusWrite
  simp only [State.putB_still, State.unfreeze_still, apply_ite State.still, ite_self]

theorem State.bankCount_still (s : State) (st : Nat) : (s.bankCount st).still = s.still := by
  unfold State.bankCount
  simp only [State.bump_still, State.raise_still, apply_ite State.still, ite_self]

theorem State.report_still (s : State) (e : FaultNote) : (s.report e).still = s.still := by
  unfold State.report
  simp only [State.still_mk, State.still_fold]

theorem State.setOwner_still (s : State) (n v : Nat) : (s.setOwner n v).still = s.still := by
  unfold State.setOwner
  simp only [State.still_mk, State.still_fold, State.put_still]

theorem State.ownerFault_still (s : State) (n : Nat) : (s.ownerFault n).still = s.still := by
  unfold State.ownerFault
  simp only [State.raise_still, State.report_still, State.setOwner_still]

theorem State.bankGate_still (s : State) (n who : Nat) (avail : Bool) : (s.bankGate n who avail).1.still = s.still := by
  unfold State.bankGate
  repeat' (first
    | with_reducible rfl
    | intro _
    | simp only [State.ownerFault_still]
    | split)

theorem State.nocGate_still (s : State) (n : Nat) (avail super : Bool) : (s.nocGate n avail super).1.still = s.still := by
  unfold State.nocGate
  dsimp only
  split <;> exact State.bankGate_still ..

theorem State.absentCount_still (s : State) : s.absentCount.still = s.still := by
  unfold State.absentCount
  simp only [State.bump_still, State.raise_still]

theorem State.setWidth_still (s : State) (p w : Nat) : (s.setWidth p w).still = s.still := by
  unfold State.setWidth
  simp only [State.put_still, apply_ite State.still, ite_self]

theorem State.freeBytes_still (s : State) (n : Nat) : (s.freeBytes n).2.still = s.still := by
  unfold State.freeBytes
  simp only [State.still_mk, State.still_fold]

theorem State.hbmErrCount_still (s : State) (a : Nat) (e : HbmErr) : (s.hbmErrCount a e).still = s.still := by
  unfold State.hbmErrCount
  split <;> simp only [State.bump_still, State.raise_still, State.report_still]

theorem State.countWrite_still (s : State) (l : Nat) : (s.countWrite l).still = s.still := by
  unfold State.countWrite
  simp only [State.still_mk, State.still_fold, State.put_still, State.putB_still, State.raise_still, apply_ite State.still,
    ite_self]

theorem State.integrityHalt_still (s : State) (kind level node : Nat) : (s.integrityHalt kind level node).still = s.still := by
  unfold State.integrityHalt
  split <;> simp only [State.still_mk, State.still_fold, State.leaseShow_still, State.put_still, State.putB_still,
    State.report_still]

theorem State.pcGrant_still (s : State) (pc i : Nat) : (s.pcGrant pc i).still = s.still := by
  unfold State.pcGrant
  simp only [State.still_mk, State.still_fold]

theorem State.scrDenied_still (s : State) : s.scrDenied.still = s.still := by
  unfold State.scrDenied
  simp only [State.bump_still, State.raise_still]

theorem State.treeGrants_still (s : State) (l : Nat) : (s.treeGrants l).still = s.still := by
  unfold State.treeGrants
  repeat' (first
    | with_reducible rfl
    | intro _
    | simp only [State.pcGrant_still]
    | refine (foldl_still _ ?_ _ _).trans ?_)

theorem State.targetGate_still (s : State) (t : Target4) (q : Req) : (s.targetGate t q).1.still = s.still := by
  unfold State.targetGate
  split <;> simp only [State.absentCount_still]

theorem State.nocCount_still (s : State) (i : Issued) (status nbytes : Nat) : (s.nocCount i status nbytes).still = s.still := by
  unfold State.nocCount
  simp only [State.bump_still, State.put_still, apply_ite State.still, ite_self]

theorem State.ctrNote_still (s : State) (n : Nat) : (s.ctrNote n).still = s.still := by
  unfold State.ctrNote
  split <;> simp only [State.still_mk, State.still_fold]

theorem State.emberOpen_still (s : State) (n : Nat) : (s.emberOpen n).still = s.still := by
  unfold State.emberOpen
  simp only [State.ctrNote_still, State.put_still]

theorem State.emberValid_still (s : State) (n : Nat) : (s.emberValid n).still = s.still := by
  unfold State.emberValid
  split <;> simp only [State.putB_still]

theorem State.setEntry_still (s : State) (n i : Nat) (e : LEntry) : (s.setEntry n i e).still = s.still := by
  unfold State.setEntry
  simp only [State.still_mk, State.still_fold, State.bump_still, State.put_still, apply_ite State.still, ite_self]

theorem State.setStream_still (s : State) (n : Nat) (x : LStream) : (s.setStream n x).still = s.still := by
  unfold State.setStream
  simp only [State.still_mk, State.still_fold]

theorem State.recordDone_still (s : State) (r : LRec) : (s.recordDone r).still = s.still := by
  unfold State.recordDone
  split <;> simp only [State.emberOpen_still, State.emberValid_still, State.setEntry_still, State.setStream_still]

theorem State.recordsSettle_still (s : State) : s.recordsSettle.still = s.still := by
  unfold State.recordsSettle
  repeat' (first
    | with_reducible rfl
    | intro _
    | simp only [State.still_mk, State.still_fold, State.recordDone_still]
    | refine (foldl_still _ ?_ _ _).trans ?_)

theorem State.setLane_still (s : State) (n : Nat) (l : Lane) : (s.setLane n l).still = s.still := by
  unfold State.setLane
  simp only [State.still_mk, State.still_fold]

theorem State.blockEnd_still (s : State) (n : Nat) (loss fin : Bool) : (s.blockEnd n loss fin).still = s.still := by
  unfold State.blockEnd
  simp only [State.bump_still, State.raise_still, State.setLane_still, apply_ite State.still, ite_self]

theorem State.scanAbort_still (s : State) (n : Nat) : (s.scanAbort n).still = s.still := by
  unfold State.scanAbort
  split <;> simp only [State.putB_still, State.raise_still]

theorem State.laneForget_still (s : State) (n : Nat) : (s.laneForget n).still = s.still := by
  unfold State.laneForget
  simp only [State.still_mk, State.still_fold, State.scanAbort_still]

theorem State.setStage_still (s : State) (n st : Nat) : (s.setStage n st).still = s.still := by
  unfold State.setStage
  simp only [State.put_still]

theorem State.laneStart_still (s : State) (n : Nat) : (s.laneStart n).still = s.still := by
  unfold State.laneStart
  split <;> simp only [State.put_still, State.setStage_still]

theorem State.updLane_still (s : State) (n : Nat) (f : Lane → Lane) : (s.updLane n f).still = s.still := by
  unfold State.updLane
  simp only [State.setLane_still]

theorem State.laneOff_still (s : State) (n : Nat) : (s.laneOff n).still = s.still := by
  unfold State.laneOff
  simp only [State.blockEnd_still, State.laneForget_still, State.laneStart_still, State.putB_still, State.setStage_still,
    State.updLane_still, apply_ite State.still, ite_self]

theorem State.laneDisable_still (s : State) (n : Nat) : (s.laneDisable n).still = s.still := by
  unfold State.laneDisable
  simp only [State.laneOff_still, State.putB_still, State.setLane_still, apply_ite State.still, ite_self]

theorem State.laneErr_still (s : State) : s.laneErr.still = s.still := by
  unfold State.laneErr
  simp only [State.raise_still]

theorem State.laneEnable_still (s : State) (n : Nat) : (s.laneEnable n).still = s.still := by
  unfold State.laneEnable
  simp only [State.laneErr_still, State.laneStart_still, State.putB_still, State.updLane_still, apply_ite State.still, ite_self]

theorem State.loseLock_still (s : State) (n : Nat) : (s.loseLock n).still = s.still := by
  unfold State.loseLock
  simp only [State.blockEnd_still, State.bump_still, State.laneForget_still, State.raise_still, State.setStage_still,
    apply_ite State.still, ite_self]

theorem State.laneCtl_still (s : State) (n : Nat) (v : Word) : (s.laneCtl n v).still = s.still := by
  unfold State.laneCtl
  simp only [State.laneDisable_still, State.laneEnable_still, State.loseLock_still, apply_ite State.still, ite_self]

theorem State.setVport_still (s : State) (p : Nat) (x : VPort) : (s.setVport p x).still = s.still := by
  unfold State.setVport
  simp only [State.still_mk, State.still_fold]

theorem State.updVport_still (s : State) (p : Nat) (f : VPort → VPort) : (s.updVport p f).still = s.still := by
  unfold State.updVport
  simp only [State.setVport_still]

theorem State.vSend_still (s : State) (p : Nat) (f : VFrame) : (s.vSend p f).still = s.still := by
  unfold State.vSend
  simp only [State.updVport_still]

theorem State.twinControl_still (s : State) (kind axis tick : Nat) (value : DWord) (vel : Word) : (s.twinControl kind axis tick value vel).still = s.still := by
  unfold State.twinControl
  split <;> simp only [State.vSend_still]

theorem State.askReset_still (s : State) : s.askReset.still = s.still := by
  unfold State.askReset
  simp only [State.twinControl_still]

theorem State.handoverRequest_still (s : State) : s.handoverRequest.still = s.still := by
  unfold State.handoverRequest
  simp only [State.raise_still, State.setTwinBlk_still, State.twinControl_still, apply_ite State.still, ite_self]

theorem State.mirrorBegin_still (s : State) : s.mirrorBegin.still = s.still := by
  unfold State.mirrorBegin
  simp only [State.still_mk, State.still_fold, State.setTwinBlk_still]

theorem State.setTwin_still (s : State) (st : Nat) : (s.setTwin st).still = s.still := by
  unfold State.setTwin
  simp only [State.leaseShow_still, State.put_still, State.putB_still, State.raise_still, State.setTwinBlk_still,
    apply_ite State.still, ite_self]

theorem State.twinSync_still (s : State) : s.twinSync.still = s.still := by
  unfold State.twinSync
  simp only [State.mirrorBegin_still, State.put_still, State.setTwin_still, State.setTwinBlk_still, State.twinControl_still]

theorem State.yieldRole_still (s : State) : s.yieldRole.still = s.still := by
  unfold State.yieldRole
  split <;> simp only [State.setTwin_still, State.setTwinBlk_still]

theorem State.twinCtl_still (s : State) (v : Word) : (s.twinCtl v).still = s.still := by
  unfold State.twinCtl
  simp only [State.askReset_still, State.handoverRequest_still, State.twinSync_still, State.yieldRole_still,
    apply_ite State.still, ite_self]

theorem State.perStatusWrite_still (s : State) (a : Nat) (v mask : Word) : (s.perStatusWrite a v mask).still = s.still := by
  unfold State.perStatusWrite
  simp only [State.perEvents_still, State.wr_still]

theorem State.perShow_still (s : State) (k : Nat) : (s.perShow k).still = s.still := by
  unfold State.perShow
  simp only [State.perEvents_still, State.put_still, State.putB_still]

theorem State.setPerUnit_still (s : State) (k : Nat) (u : PerUnit) : (s.setPerUnit k u).still = s.still := by
  unfold State.setPerUnit
  simp only [State.still_mk, State.still_fold]

theorem State.perDisable_still (s : State) (u : Per) (cfg : Word) : (s.perDisable u cfg).still = s.still := by
  unfold State.perDisable
  (repeat' split) <;> simp only [State.still_mk, State.still_fold, State.perShow_still, State.setPerUnit_still, State.wr_still]

theorem State.perNext_still (s : State) (k : Nat) : (s.perNext k).still = s.still := by
  unfold State.perNext
  repeat' (first
    | with_reducible rfl
    | intro _
    | simp only [State.perShow_still, State.setPerUnit_still, apply_ite State.still]
    | split)

theorem State.perEnable_still (s : State) (u : Per) (cfg : Word) : (s.perEnable u cfg).still = s.still := by
  unfold State.perEnable
  (repeat' split) <;> simp only [State.still_mk, State.still_fold, State.perNext_still, State.perShow_still,
    State.setPerUnit_still, State.wr_still, apply_ite State.still, ite_self]

theorem State.perCfgWrite_still (s : State) (u : Per) (v : Word) : (s.perCfgWrite u v).still = s.still := by
  unfold State.perCfgWrite
  split <;> simp only [State.perDisable_still, State.perEnable_still]

theorem State.block0_still (s : State) (v : Word) : (s.block0 v).still = s.still := by
  unfold State.block0
  repeat' (first
    | with_reducible rfl
    | intro _
    | simp only [State.encReset_still, State.perReset_still, apply_ite State.still, ite_self]
    | split
    | refine (State.each_still _ _ _ ?_).trans ?_)

theorem State.block1_still (s : State) (who : Who) (v : Word) : (s.block1 who v).still = s.still := by
  unfold State.block1
  repeat' (first
    | with_reducible rfl
    | intro _
    | simp only [State.hbmReset_still, State.pmbReset_still, State.quadReset_still, State.usbReset_still,
    State.vsmReset_still, apply_ite State.still, ite_self]
    | split
    | refine (State.each_still _ _ _ ?_).trans ?_)

theorem State.block2_still (s : State) (v : Word) : (s.block2 v).still = s.still := by
  unfold State.block2
  repeat' (first
    | with_reducible rfl
    | intro _
    | simp only [State.capReset_still, State.cmpReset_still, State.edgReset_still, apply_ite State.still, ite_self]
    | split
    | refine (State.each_still _ _ _ ?_).trans ?_)

theorem State.angApply_still (s : State) (mask sub : Nat) : (s.angApply mask sub).still = s.still := by
  unfold State.angApply
  simp only [State.still_mk, State.still_fold]

theorem State.angSnap_still (s : State) (mask : Nat) : (s.angSnap mask).still = s.still := by
  unfold State.angSnap
  simp only [State.still_mk, State.still_fold, State.putB_still]

theorem State.setPwr_still (s : State) (f : Pwr → Pwr) : (s.setPwr f).still = s.still := by
  unfold State.setPwr
  simp only [State.still_mk, State.still_fold]

theorem State.avsCfgWrite_still (s : State) (v : Word) : (s.avsCfgWrite v).still = s.still := by
  unfold State.avsCfgWrite
  simp only [State.setPwr_still, State.wr_still, apply_ite State.still, ite_self]

theorem State.bankedWrite_still (s : State) (n a : Nat) (v : Word) : (s.bankedWrite n a v).still = s.still := by
  unfold State.bankedWrite
  split <;> simp only [State.raise_still, State.wr_still]

theorem State.clrBit_still (s : State) (f : Field) (b : Nat) : (s.clrBit f b).still = s.still := by
  unfold State.clrBit
  split <;> simp only [State.put_still]

theorem State.setLoadCh_still (s : State) (n : Nat) (x : LoadCh) : (s.setLoadCh n x).still = s.still := by
  unfold State.setLoadCh
  simp only [State.setCfg_still]

theorem State.loadEnd_still (s : State) (n status : Nat) : (s.loadEnd n status).still = s.still := by
  unfold State.loadEnd
  repeat' (first
    | with_reducible rfl
    | intro _
    | simp only [State.still_mk, State.still_fold, State.answerMbx_still, State.clrBit_still, State.put_still,
    State.putB_still, State.setBit_still, State.setCfg_still, State.setLoadCh_still, apply_ite State.still, ite_self]
    | split)

theorem State.setSlot_still (s : State) (g c st : Nat) : (s.setSlot g c st).still = s.still := by
  unfold State.setSlot
  simp only [State.put_still]

theorem State.loadAbort_still (s : State) (n status : Nat) : (s.loadAbort n status).still = s.still := by
  unfold State.loadAbort
  repeat' (first
    | with_reducible rfl
    | intro _
    | simp only [State.loadEnd_still, State.put_still, State.report_still, State.setSlot_still, apply_ite State.still, ite_self]
    | split
    | refine (foldl_still _ ?_ _ _).trans ?_)

theorem State.cfgReclaim_still (s : State) (mask : Nat) : (s.cfgReclaim mask).still = s.still := by
  unfold State.cfgReclaim
  repeat' (first
    | with_reducible rfl
    | intro _
    | simp only [State.loadAbort_still, State.raise_still, apply_ite State.still, ite_self]
    | split
    | refine (State.each_still _ _ _ ?_).trans ?_)

theorem State.srcMove_still (s : State) (g : Nat) : (s.srcMove g).still = s.still := by
  unfold State.srcMove
  simp only [State.put_still, State.putB_still, State.raise_still, apply_ite State.still, ite_self]

theorem State.clkStage_still (s : State) (g k : Nat) : (s.clkStage g k).still = s.still := by
  unfold State.clkStage
  simp only [State.put_still, State.putB_still, State.raise_still, State.srcMove_still, apply_ite State.still, ite_self]

theorem State.cmpCfgWrite_still (s : State) (n : Nat) (v : Word) : (s.cmpCfgWrite n v).still = s.still := by
  unfold State.cmpCfgWrite
  split <;> simp only [State.wr_still]

theorem State.colCfgWrite_still (s : State) (c : Nat) (v : Word) : (s.colCfgWrite c v).still = s.still := by
  unfold State.colCfgWrite
  simp only [State.put_still, State.raise_still, apply_ite State.still, ite_self]

theorem State.setXbar_still (s : State) (f : Xbar → Xbar) : (s.setXbar f).still = s.still := by
  unfold State.setXbar
  simp only [State.still_mk, State.still_fold]

theorem State.commitAt_still (s : State) (t g : Nat) : (s.commitAt t g).still = s.still := by
  unfold State.commitAt
  simp only [State.setXbar_still]

theorem State.xDeny_still (s : State) : s.xDeny.still = s.still := by
  unfold State.xDeny
  simp only [State.bump_still, State.raise_still]

theorem State.commitWrite_still (s : State) (who : Who) (mask sub : Nat) : (s.commitWrite who mask sub).still = s.still := by
  unfold State.commitWrite
  repeat' (first
    | with_reducible rfl
    | intro _
    | simp only [State.answerWith_still, State.commitAt_still, State.xDeny_still, apply_ite State.still, ite_self]
    | split
    | refine (State.each_still _ _ _ ?_).trans ?_)

theorem State.sgTake_still (s p : State) (n : Nat) : (s.sgTake p n).1.still = s.still := by
  unfold State.sgTake
  repeat' (first
    | with_reducible rfl
    | intro _
    | simp only [State.putB_still, State.raise_still, State.setRegion_still, State.sgRefuse_still, apply_ite State.still,
    ite_self]
    | split
    | refine (State.each_still _ _ _ ?_).trans ?_)

theorem State.swTaken_still (s : State) (n now : Nat) (ok : Bool) : (s.swTaken n now ok).still = s.still := by
  unfold State.swTaken
  simp only [State.setCfg_still, State.swSettle_still]

theorem State.sgTakeAll_still (s p : State) (n now : Nat) : (s.sgTakeAll p n now).still = s.still := by
  unfold State.sgTakeAll
  simp only [State.still_mk, State.still_fold, State.sgTake_still, State.swTaken_still]

theorem State.sgPost_still (s : State) (n at_ : Nat) : (s.sgPost n at_).still = s.still := by
  unfold State.sgPost
  split <;> simp only [State.still_mk, State.still_fold, State.sgTakeAll_still]

theorem State.ctxSwitch_still (s : State) (mask sub : Nat) : (s.ctxSwitch mask sub).still = s.still := by
  unfold State.ctxSwitch
  repeat' (first
    | with_reducible rfl
    | intro _
    | simp only [State.sgPost_still, apply_ite State.still, ite_self]
    | split
    | refine (State.each_still _ _ _ ?_).trans ?_)

theorem State.setDma_still (s : State) (n st : Nat) : (s.setDma n st).still = s.still := by
  unfold State.setDma
  simp only [State.put_still, State.putB_still]

theorem State.dmaStart_still (s : State) (n : Nat) : (s.dmaStart n).still = s.still := by
  unfold State.dmaStart
  simp only [State.putB_still, State.setDma_still, apply_ite State.still, ite_self]

theorem State.dmaStop_still (s : State) (n : Nat) : (s.dmaStop n).still = s.still := by
  unfold State.dmaStop
  simp only [State.putB_still, State.setDma_still, apply_ite State.still, ite_self]

theorem State.dmaCtlWrite_still (s : State) (n : Nat) (v : Word) : (s.dmaCtlWrite n v).still = s.still := by
  unfold State.dmaCtlWrite
  simp only [State.dmaStart_still, State.dmaStop_still, State.wr_still, apply_ite State.still, ite_self]

theorem State.dmaTail_still (s : State) (n : Nat) (v : Word) : (s.dmaTail n v).still = s.still := by
  unfold State.dmaTail
  simp only [State.put_still]

theorem State.mbxErr_still (s : State) : s.mbxErr.still = s.still := by
  unfold State.mbxErr
  simp only [State.bump_still, State.raise_still]

theorem State.doorbell_still (s : State) (mask : Nat) : (s.doorbell mask).still = s.still := by
  unfold State.doorbell
  repeat' (first
    | with_reducible rfl
    | intro _
    | simp only [State.answerWith_still, State.mbxErr_still, State.setMbx_still, apply_ite State.still, ite_self]
    | split
    | refine (State.each_still _ _ _ ?_).trans ?_)

theorem State.eqWrite_still (s : State) (n a : Nat) (v mask : Word) : (s.eqWrite n a v mask).still = s.still := by
  unfold State.eqWrite
  split <;> simp only [State.wr_still]

theorem State.evtLater_still (s : State) (addr : Nat) (value low : Word) (sub : Nat) : (s.evtLater addr value low sub).still = s.still := by
  unfold State.evtLater
  simp only [State.still_mk, State.still_fold]

theorem State.evtWrite_still (s : State) (a : Nat) (v : Word) (mask sub : Nat) : (s.evtWrite a v mask sub).still = s.still := by
  unfold State.evtWrite
  simp only [State.evtLater_still, State.wr_still]

theorem State.failItem_still (s : State) (n i : Nat) (reason : Half) (time : Nat) : (s.failItem n i reason time).still = s.still := by
  unfold State.failItem
  simp only [State.setEntry_still]

theorem State.entryCheck_still (s : State) (n i : Nat) : (s.entryCheck n i).still = s.still := by
  unfold State.entryCheck
  repeat' (first
    | with_reducible rfl
    | intro _
    | simp only [State.bump_still, State.failItem_still, State.raise_still, State.report_still, State.setEntry_still,
    apply_ite State.still]
    | split)

theorem State.axisClose_still (s : State) (n i time : Nat) : (s.axisClose n i time).still = s.still := by
  unfold State.axisClose
  simp only [State.entryCheck_still, State.failItem_still, State.raise_still, apply_ite State.still, ite_self]

theorem State.edgFlag_still (s : State) (n : Nat) (f : Field) : (s.edgFlag n f).still = s.still := by
  unfold State.edgFlag
  simp only [State.raise_still, State.setBit_still]

theorem State.setEdge_still (s : State) (n : Nat) (e : Edge) : (s.setEdge n e).still = s.still := by
  unfold State.setEdge
  simp only [State.still_mk, State.still_fold]

theorem State.edgLedgerPush_still (s : State) (n : Nat) (p : EdgePair) : (s.edgLedgerPush n p).1.still = s.still := by
  unfold State.edgLedgerPush
  repeat' (first
    | with_reducible rfl
    | intro _
    | simp only [State.edgFlag_still, State.setEdge_still]
    | split)

theorem State.gatePush_still (s : State) (n i : Nat) : (s.gatePush n i).still = s.still := by
  unfold State.gatePush
  simp only [State.edgLedgerPush_still, State.raise_still, State.setEntry_still, apply_ite State.still, ite_self]

theorem State.markItem_still (s : State) (n i : Nat) (reason : Half) : (s.markItem n i reason).still = s.still := by
  unfold State.markItem
  simp only [State.gatePush_still, State.setEntry_still, apply_ite State.still, ite_self]

theorem State.closeItem_still (s : State) (n i : Nat) (coast : Bool) (time : Nat) : (s.closeItem n i coast time).still = s.still := by
  unfold State.closeItem
  simp only [State.entryCheck_still, State.failItem_still, State.markItem_still, State.setEntry_still, apply_ite State.still,
    ite_self]

theorem State.deadline_still (s : State) (n i st : Nat) (coast late : Bool) : (s.deadline n i st coast late).still = s.still := by
  unfold State.deadline
  simp only [State.entryCheck_still, State.markItem_still, State.setEntry_still, apply_ite State.still, ite_self]

theorem State.lgrRun_still (s : State) : s.lgrRun.still = s.still := by
  unfold State.lgrRun
  repeat' (first
    | with_reducible rfl
    | intro _
    | simp only [State.still_mk, State.still_fold, State.axisClose_still, State.closeItem_still, State.deadline_still,
    apply_ite State.still]
    | split
    | refine (foldl_still _ ?_ _ _).trans ?_)

theorem State.fenceWrite_still (s : State) (k : Nat) (v : Word) : (s.fenceWrite k v).still = s.still := by
  unfold State.fenceWrite
  repeat' (first
    | with_reducible rfl
    | intro _
    | simp only [State.still_mk, State.still_fold, State.lgrRun_still, State.wr_still, apply_ite State.still, ite_self]
    | split
    | refine (State.each_still _ _ _ ?_).trans ?_)

theorem State.fpllWrite_still (s : State) (k : Nat) (v : Word) : (s.fpllWrite k v).still = s.still := by
  unfold State.fpllWrite
  simp only [State.clrBit_still, State.put_still, State.putB_still, State.raise_still, State.wr_still, apply_ite State.still,
    ite_self]

theorem State.fwdCfgWrite_still (s : State) (g : Nat) (v : Word) : (s.fwdCfgWrite g v).still = s.still := by
  unfold State.fwdCfgWrite
  simp only [State.fwdReload_still, State.wr_still]

theorem State.xRefuse_still (s : State) : s.xRefuse.still = s.still := by
  unfold State.xRefuse
  simp only [State.answerWith_still, State.xDeny_still]

theorem State.groupOwnerWrite_still (s : State) (who : Who) (g : Nat) (v : Word) : (s.groupOwnerWrite who g v).still = s.still := by
  unfold State.groupOwnerWrite
  split <;> simp only [State.answerWith_still, State.put_still, State.setXbar_still, State.xRefuse_still]

theorem State.writeFailed_still (s : State) : s.writeFailed.still = s.still := by
  unfold State.writeFailed
  simp only [State.bump_still, State.raise_still]

theorem State.hostPart_still (s : State) (tag st : Nat) (data : List Byte) : (s.hostPart tag st data).still = s.still := by
  unfold State.hostPart
  (repeat' split) <;> simp only [State.still_mk, State.still_fold, State.writeFailed_still]

theorem State.hostReads_still (s : State) : s.hostReads.still = s.still := by
  unfold State.hostReads
  repeat' (first
    | with_reducible rfl
    | intro _
    | simp only [State.still_mk, State.still_fold, State.answerWith_still]
    | split
    | refine (foldl_still _ ?_ _ _).trans ?_)

theorem State.hostAnswers_still (s : State) : s.hostAnswers.still = s.still := by
  unfold State.hostAnswers
  repeat' (first
    | with_reducible rfl
    | intro _
    | simp only [State.still_mk, State.still_fold, State.hostPart_still, State.hostReads_still]
    | refine (foldl_still _ ?_ _ _).trans ?_)

theorem State.laneRegWrite_still (s : State) (n a : Nat) (v mask : Word) : (s.laneRegWrite n a v mask).still = s.still := by
  unfold State.laneRegWrite
  simp only [State.laneErr_still, State.wr_still, apply_ite State.still, ite_self]

theorem State.lgrApply_still (s : State) (mask : Nat) : (s.lgrApply mask).still = s.still := by
  unfold State.lgrApply
  repeat' (first
    | with_reducible rfl
    | intro _
    | simp only [State.putB_still, State.raise_still, apply_ite State.still, ite_self]
    | split
    | refine (State.each_still _ _ _ ?_).trans ?_)

theorem State.marchTake_still (s : State) (n : Nat) : (s.marchTake n).still = s.still := by
  unfold State.marchTake
  simp only [State.still_mk, State.still_fold, State.setOwner_still]

theorem State.marchStart_still (s : State) (sel : List Nat) : (s.marchStart sel).still = s.still := by
  unfold State.marchStart
  repeat' (first
    | with_reducible rfl
    | intro _
    | simp only [State.still_mk, State.still_fold, State.marchTake_still, State.put_still, State.putB_still,
    State.raise_still, apply_ite State.still]
    | split
    | refine (State.each_still _ _ _ ?_).trans ?_)

theorem State.mbxDone_still (s : State) (mask : Nat) : (s.mbxDone mask).still = s.still := by
  unfold State.mbxDone
  repeat' (first
    | with_reducible rfl
    | intro _
    | simp only [State.answerWith_still, State.clrBit_still, State.setMbx_still, apply_ite State.still, ite_self]
    | split
    | refine (State.each_still _ _ _ ?_).trans ?_)

theorem State.answerOwed_still (s : State) (ep status : Nat) : (s.answerOwed ep status).still = s.still := by
  unfold State.answerOwed
  repeat' (first
    | with_reducible rfl
    | intro _
    | simp only [State.still_mk, State.still_fold, State.respond_still]
    | refine (foldl_still _ ?_ _ _).trans ?_)

theorem State.adapterResponse_still (s : State) (i : Issued) (status detail : Nat) (data : List Byte) : (s.adapterResponse i status detail data).still = s.still := by
  unfold State.adapterResponse
  split <;> simp only [State.bump_still, State.reserve_still, State.setAdapter_still]

theorem State.arrive_still (s : State) (i : Issued) (status detail : Nat) (data : List Byte) : (s.arrive i status detail data).still = s.still := by
  unfold State.arrive
  simp only [State.still_mk, State.still_fold, apply_ite State.still, ite_self]

theorem State.laneResponse_still (s : State) (tag : Nat) (stale : Bool) (status : Nat) (data : List Byte) : (s.laneResponse tag stale status data).still = s.still := by
  unfold State.laneResponse
  simp only [State.still_mk, State.still_fold, State.bump_still, State.raise_still, apply_ite State.still, ite_self]

theorem State.complete_still (s : State) (i : Issued) (status detail : Nat) (data : List Byte) : (s.complete i status detail data).still = s.still := by
  unfold State.complete
  simp only [State.still_mk, State.still_fold, State.adapterResponse_still, State.answerWith_still, State.arrive_still,
    State.laneResponse_still, State.nocCount_still, State.raise_still, apply_ite State.still, ite_self]

theorem State.nocReclaim_still (s : State) (ep : Nat) : (s.nocReclaim ep).still = s.still := by
  unfold State.nocReclaim
  repeat' (first
    | with_reducible rfl
    | intro _
    | simp only [State.answerOwed_still, State.complete_still, State.raise_still, State.setPort_still, apply_ite State.still]
    | split
    | refine (foldl_still _ ?_ _ _).trans ?_)

theorem State.nodeWrite_still (s : State) (v : Word) : (s.nodeWrite v).still = s.still := by
  unfold State.nodeWrite
  split <;> simp only [State.raise_still, State.wr_still]

theorem State.ownerWrite_still (s : State) (n v : Nat) (super : Bool) : (s.ownerWrite n v super).still = s.still := by
  unfold State.ownerWrite
  simp only [State.still_mk, State.still_fold, State.put_still, State.putB_still, State.raise_still, State.setOwner_still,
    apply_ite State.still, ite_self]

theorem State.closePorts_still (s : State) (eps : List Nat) : (s.closePorts eps).still = s.still := by
  unfold State.closePorts
  repeat' (first
    | with_reducible rfl
    | intro _
    | simp only [State.setPort_still, apply_ite State.still, ite_self]
    | split
    | refine (State.each_still _ _ _ ?_).trans ?_)

theorem State.pwrShow_still (s : State) : s.pwrShow.still = s.still := by
  unfold State.pwrShow
  simp only [State.putB_still]

theorem State.setStack_still (s : State) (k st : Nat) : (s.setStack k st).still = s.still := by
  unfold State.setStack
  split <;> simp only [State.put_still, State.raise_still]

theorem State.setPd_still (s : State) (n st : Nat) : (s.setPd n st).still = s.still := by
  unfold State.setPd
  simp only [State.put_still, State.pwrShow_still, State.raise_still, State.setQuad_still, State.setStack_still,
    apply_ite State.still, ite_self]

theorem State.pdRun_still (s : State) (n target : Nat) : (s.pdRun n target).still = s.still := by
  unfold State.pdRun
  simp only [State.closePorts_still, State.put_still, State.raise_still, State.setPd_still, State.setPwr_still,
    apply_ite State.still, ite_self]

theorem State.pdRequest_still (s : State) (n req : Nat) : (s.pdRequest n req).still = s.still := by
  unfold State.pdRequest
  simp only [State.pdRun_still, State.put_still, State.putB_still, State.pwrShow_still, State.setPwr_still,
    apply_ite State.still, ite_self]

theorem State.perSend_still (s : State) (k : Nat) (v : Word) : (s.perSend k v).still = s.still := by
  unfold State.perSend
  simp only [State.perNext_still, State.setPerUnit_still, apply_ite State.still, ite_self]

theorem State.pinCfgWrite_still (s : State) (n : Nat) (v : Word) (sub : Nat) : (s.pinCfgWrite n v sub).still = s.still := by
  unfold State.pinCfgWrite
  simp only [State.setXbar_still, State.wr_still]

theorem State.pllFail_still (s : State) (q : Nat) : (s.pllFail q).still = s.still := by
  unfold State.pllFail
  simp only [State.clrBit_still, State.putB_still, State.raise_still]

theorem State.pllStart_still (s : State) (q : Nat) : (s.pllStart q).still = s.still := by
  unfold State.pllStart
  split <;> simp only [State.clrBit_still, State.pllFail_still, State.putB_still]

theorem State.quadCfgWrite_still (s : State) (q : Nat) (v : Word) : (s.quadCfgWrite q v).still = s.still := by
  unfold State.quadCfgWrite
  simp only [State.laneErr_still, State.pllStart_still, State.put_still, apply_ite State.still, ite_self]

theorem State.quotaWrite_still (s : State) (g : Nat) (v : Word) : (s.quotaWrite g v).still = s.still := by
  unfold State.quotaWrite
  split <;> simp only [State.raise_still, State.wr_still]

theorem State.rearm_still (s : State) (mask : Nat) : (s.rearm mask).still = s.still := by
  unfold State.rearm
  simp only [State.still_mk, State.still_fold]

theorem State.memReclaim_still (s : State) (n : Nat) : (s.memReclaim n).still = s.still := by
  unfold State.memReclaim
  simp only [State.still_mk, State.still_fold, State.putB_still, apply_ite State.still, ite_self]

theorem State.reclaimAsk_still (s : State) (n : Nat) : (s.reclaimAsk n).still = s.still := by
  unfold State.reclaimAsk
  split <;> simp only [State.still_mk, State.still_fold, State.answerWith_still, State.memReclaim_still]

theorem State.reclaimWrite_still (s : State) (g sub : Nat) : (s.reclaimWrite g sub).still = s.still := by
  unfold State.reclaimWrite
  simp only [State.answerWith_still, State.setXbar_still]

theorem State.membersShow_still (s : State) (n : Nat) : (s.membersShow n).still = s.still := by
  unfold State.membersShow
  simp only [State.putB_still]

theorem State.regionCtlWrite_still (s : State) (g : Nat) (v : Word) : (s.regionCtlWrite g v).still = s.still := by
  unfold State.regionCtlWrite
  simp only [State.membersShow_still, State.raise_still, State.wr_still, apply_ite State.still, ite_self]

theorem State.revive_still (s : State) (ep : Nat) : (s.revive ep).still = s.still := by
  unfold State.revive
  split <;> simp only [State.setPort_still]

theorem State.routeWrite_still (s : State) (n k : Nat) (v : Word) : (s.routeWrite n k v).still = s.still := by
  unfold State.routeWrite
  split <;> simp only [State.raise_still, State.wr_still]

theorem State.rtWrite_still (s : State) (v : Word) : (s.rtWrite v).still = s.still := by
  unfold State.rtWrite
  simp only [State.setVsm_still]

theorem State.scanWrite_still (s : State) (n : Nat) (v : Word) : (s.scanWrite n v).still = s.still := by
  unfold State.scanWrite
  simp only [State.putB_still, State.wr_still, apply_ite State.still, ite_self]

theorem State.sgCfgWrite_still (s : State) (n : Nat) (v : Word) : (s.sgCfgWrite n v).still = s.still := by
  unfold State.sgCfgWrite
  simp only [State.sgRefuse_still, State.wr_still, apply_ite State.still, ite_self]

theorem State.slotWrite_still (s : State) (who : Who) (m word : Nat) (v : Word) : (s.slotWrite who m word v).still = s.still := by
  unfold State.slotWrite
  simp only [State.answerWith_still, State.mbxErr_still, State.wr_still, apply_ite State.still, ite_self]

theorem State.xbarShow_still (s : State) : s.xbarShow.still = s.still := by
  unfold State.xbarShow
  simp only [State.put_still]

theorem State.stageWrite_still (s : State) (who : Who) (input : Bool) (n : Nat) (v : Word) : (s.stageWrite who input n v).still = s.still := by
  unfold State.stageWrite
  simp only [State.answerWith_still, State.raise_still, State.setXbar_still, State.wr_still, State.xRefuse_still,
    State.xbarShow_still, apply_ite State.still, ite_self]

theorem State.swapCopy_still (s : State) (a : Nat) : (s.swapCopy a).still = s.still := by
  unfold State.swapCopy
  simp only [State.still_mk, State.still_fold, State.wr_still]

theorem State.stationWrite_still (s : State) (st a : Nat) (v : Word) : (s.stationWrite st a v).still = s.still := by
  unfold State.stationWrite
  simp only [State.still_mk, State.still_fold, State.raise_still, State.swapCopy_still, State.wr_still,
    apply_ite State.still, ite_self]

theorem State.statsClear_still (s : State) : s.statsClear.still = s.still := by
  unfold State.statsClear
  simp only [State.still_mk, State.still_fold]

theorem State.streamDisable_still (s : State) (n sub : Nat) : (s.streamDisable n sub).still = s.still := by
  unfold State.streamDisable
  simp only [State.putB_still, State.setStream_still, apply_ite State.still, ite_self]

theorem State.streamOn_still (s : State) (n : Nat) : (s.streamOn n).still = s.still := by
  unfold State.streamOn
  simp only [State.putB_still, State.setStream_still]

theorem State.streamEnable_still (s : State) (n : Nat) : (s.streamEnable n).still = s.still := by
  unfold State.streamEnable
  simp only [State.putB_still, State.raise_still, State.setStream_still, State.streamOn_still, apply_ite State.still, ite_self]

theorem State.streamCfgWrite_still (s : State) (n : Nat) (v : Word) (sub : Nat) : (s.streamCfgWrite n v sub).still = s.still := by
  unfold State.streamCfgWrite
  simp only [State.raise_still, State.streamDisable_still, State.streamEnable_still, State.wr_still, apply_ite State.still,
    ite_self]

theorem State.streamRegWrite_still (s : State) (n a : Nat) (v : Word) : (s.streamRegWrite n a v).still = s.still := by
  unfold State.streamRegWrite
  split <;> simp only [State.raise_still, State.wr_still]

theorem State.targetCommit_still (s : State) (hiReg loReg : Nat) (hi : Word) (sub : Nat) : (s.targetCommit hiReg loReg hi sub).still = s.still := by
  unfold State.targetCommit
  simp only [State.evtLater_still, State.wr_still]

theorem State.timeCfgWrite_still (s : State) (v : Word) : (s.timeCfgWrite v).still = s.still := by
  unfold State.timeCfgWrite
  simp only [State.setTstate_still, State.setVsm_still, State.wr_still, apply_ite State.still, ite_self]

theorem State.tmoWrite_still (s : State) (v : Word) : (s.tmoWrite v).still = s.still := by
  unfold State.tmoWrite
  simp only [State.raise_still, State.wr_still, apply_ite State.still, ite_self]

theorem State.trimWrite_still (s : State) (n : Nat) (v : Word) (sameCycle : Bool) : (s.trimWrite n v sameCycle).still = s.still := by
  unfold State.trimWrite
  simp only [State.setAxis_still, State.wr_still]

theorem State.tripWrite_still (s : State) (v : Word) : (s.tripWrite v).still = s.still := by
  unfold State.tripWrite
  simp only [State.put_still, State.raise_still, apply_ite State.still, ite_self]

theorem State.tunWrite_still (s : State) (v : Word) : (s.tunWrite v).still = s.still := by
  unfold State.tunWrite
  split <;> simp only [State.raise_still, State.wr_still]

theorem State.twinFollow_still (s : State) : s.twinFollow.still = s.still := by
  unfold State.twinFollow
  split <;> simp only [State.setTwin_still]

theorem State.twinCfgWrite_still (s : State) (v : Word) : (s.twinCfgWrite v).still = s.still := by
  unfold State.twinCfgWrite
  simp only [State.put_still, State.putB_still, State.raise_still, State.setTwin_still, State.setTwinBlk_still,
    State.twinFollow_still, State.wr_still, apply_ite State.still, ite_self]

theorem State.twinFixedWrite_still (s : State) (a : Nat) (v : Word) : (s.twinFixedWrite a v).still = s.still := by
  unfold State.twinFixedWrite
  split <;> simp only [State.raise_still, State.wr_still]

theorem State.setVstate_still (s : State) (p st : Nat) : (s.setVstate p st).still = s.still := by
  unfold State.setVstate
  split <;> simp only [State.put_still, State.raise_still]

theorem State.failCount_still (s : State) (p chan seq k : Nat) : (s.failCount p chan seq k).still = s.still := by
  unfold State.failCount
  simp only [State.bump_still, State.put_still, State.raise_still]

theorem State.settle_still (s : State) (ep : Nat) (q : Req) (status detail : Nat) (data : List Byte) : (s.settle ep q status detail data).still = s.still := by
  unfold State.settle
  (repeat' split) <;> simp only [State.still_mk, State.still_fold, State.bump_still, State.respond_still]

theorem State.tunAnswer_still (s : State) (etag status detail : Nat) (data : List Byte) : (s.tunAnswer etag status detail data).still = s.still := by
  unfold State.tunAnswer
  split <;> simp only [State.bump_still, State.setVsm_still, State.settle_still]

theorem State.originFail_still (s : State) (chan etag reason : Nat) : (s.originFail chan etag reason).still = s.still := by
  unfold State.originFail
  simp only [State.bump_still, State.raise_still, State.tunAnswer_still, apply_ite State.still, ite_self]

theorem State.vFail_still (s : State) (p : Nat) (f : VFrame) (reason : Nat) : (s.vFail p f reason).still = s.still := by
  unfold State.vFail
  repeat' (first
    | with_reducible rfl
    | intro _
    | simp only [State.bump_still, State.failCount_still, State.originFail_still, State.vSend_still, apply_ite State.still,
    ite_self]
    | split)

theorem State.portDown_still (s : State) (p : Nat) : (s.portDown p).still = s.still := by
  unfold State.portDown
  repeat' (first
    | with_reducible rfl
    | intro _
    | simp only [State.setTstate_still, State.setVport_still, State.setVstate_still, State.setWidth_still, State.vFail_still,
    apply_ite State.still, ite_self]
    | split
    | refine (foldl_still _ ?_ _ _).trans ?_)

theorem State.vportDisable_still (s : State) (p : Nat) (cfg : Word) : (s.vportDisable p cfg).still = s.still := by
  unfold State.vportDisable
  simp only [State.portDown_still, State.wr_still]

theorem State.portFollow_still (s : State) (p : Nat) : (s.portFollow p).still = s.still := by
  unfold State.portFollow
  simp only [State.setVport_still, State.setVstate_still, State.setWidth_still, apply_ite State.still, ite_self]

theorem State.vportEnable_still (s : State) (p : Nat) (cfg : Word) : (s.vportEnable p cfg).still = s.still := by
  unfold State.vportEnable
  simp only [State.portFollow_still, State.wr_still]

theorem State.vOut_still (s : State) (p : Nat) (f : VFrame) : (s.vOut p f).still = s.still := by
  unfold State.vOut
  simp only [State.setVsm_still]

theorem State.vEmit_still (s : State) (p : Nat) (f : VFrame) : (s.vEmit p f).still = s.still := by
  unfold State.vEmit
  simp only [State.setVport_still, State.vOut_still]

theorem State.vGrant_still (s : State) (p : Nat) : (s.vGrant p).still = s.still := by
  unfold State.vGrant
  repeat' (first
    | with_reducible rfl
    | intro _
    | simp only [State.setVport_still, State.vEmit_still]
    | split)

theorem State.free_still (s : State) : (s.free).2.still = s.still := by
  unfold State.free
  simp only [State.still_mk, State.still_fold]

theorem State.vControl_still (s : State) (p kind : Nat) (bytes : List Byte) : (s.vControl p kind bytes).still = s.still := by
  unfold State.vControl
  split <;> simp only [State.vSend_still]

theorem State.proposeWiden_still (s : State) (p : Nat) : (s.proposeWiden p).still = s.still := by
  unfold State.proposeWiden
  simp only [State.free_still, State.updVport_still, State.vControl_still, apply_ite State.still, ite_self]

theorem State.widenDue_still (s : State) (p : Nat) : (s.widenDue p).still = s.still := by
  unfold State.widenDue
  (repeat' split) <;> simp only [State.proposeWiden_still, State.vGrant_still]

theorem State.transmit_still (s : State) : s.transmit.still = s.still := by
  unfold State.transmit
  repeat' (first
    | with_reducible rfl
    | intro _
    | simp only [State.vGrant_still, State.widenDue_still]
    | refine (State.each_still _ _ _ ?_).trans ?_)

theorem State.tunInDrop_still (s : State) (tag : Nat) : (s.tunInDrop tag).still = s.still := by
  unfold State.tunInDrop
  simp only [State.setVsm_still]

theorem State.vRoute_still (s : State) (p : Nat) (f : VFrame) : (s.vRoute p f).still = s.still := by
  unfold State.vRoute
  (repeat' split) <;> simp only [State.vFail_still, State.vSend_still]

theorem State.originate_still (s : State) (f : VFrame) : (s.originate f).still = s.still := by
  unfold State.originate
  repeat' (first
    | with_reducible rfl
    | intro _
    | simp only [State.vRoute_still, State.vSend_still, apply_ite State.still]
    | split
    | refine (State.each_still _ _ _ ?_).trans ?_)

theorem State.tunReply_still (s : State) (src : Nat) (f : VFrame) : (s.tunReply src f).still = s.still := by
  unfold State.tunReply
  simp only [State.originate_still, State.vSend_still, apply_ite State.still, ite_self]

theorem State.vsmAnswers_still (s : State) : s.vsmAnswers.still = s.still := by
  unfold State.vsmAnswers
  repeat' (first
    | with_reducible rfl
    | intro _
    | simp only [State.still_mk, State.still_fold, State.transmit_still, State.tunInDrop_still, State.tunReply_still]
    | split
    | refine (foldl_still _ ?_ _ _).trans ?_)

theorem State.csrAccess_still (s : State) (who : Who) (a size : Nat) (f : State → State) (h_f : ∀ x0,
    (f x0).still = x0.still) : (s.csrAccess who a size f).still = s.still := by
  unfold State.csrAccess
  (repeat' split) <;> simp only [State.answerWith_still, h_f]

theorem State.putBit_still (s : State) (f : Field) (b : Nat) (v : Bool) : (s.putBit f b v).still = s.still := by
  unfold State.putBit
  split <;> simp only [State.clrBit_still, State.setBit_still]

theorem State.capShow_still (s : State) (n : Nat) : (s.capShow n).still = s.still := by
  unfold State.capShow
  repeat' (first
    | with_reducible rfl
    | intro _
    | simp only [State.put_still, State.putB_still, State.putBit_still, State.wr_still]
    | refine (State.each_still _ _ _ ?_).trans ?_)

theorem State.setCap_still (s : State) (n : Nat) (c : Capture) : (s.setCap n c).still = s.still := by
  unfold State.setCap
  simp only [State.still_mk, State.still_fold]

theorem State.capRead_still (s : State) (n : Nat) : (s.capRead n).still = s.still := by
  unfold State.capRead
  simp only [State.answerWith_still, State.capShow_still, State.setCap_still]

theorem State.logEnt0Read_still (s : State) : s.logEnt0Read.still = s.still := by
  unfold State.logEnt0Read
  repeat' (first
    | with_reducible rfl
    | intro _
    | simp only [State.answerWith_still, State.put_still, State.setSec_still]
    | split
    | refine (State.each_still _ _ _ ?_).trans ?_)

theorem State.logEnt3Read_still (s : State) : s.logEnt3Read.still = s.still := by
  unfold State.logEnt3Read
  (repeat' split) <;> simp only [State.answerWith_still, State.put_still, State.setSec_still]

theorem State.rxTake_still (s : State) (k : Nat) : (s.rxTake k).still = s.still := by
  unfold State.rxTake
  simp only [State.answerWith_still, State.perShow_still, State.setPerUnit_still]

theorem State.csrTake_still (s : State) (a : Nat) : (s.csrTake a).still = s.still := by
  unfold State.csrTake
  (repeat' split) <;> simp only [State.capRead_still, State.logEnt0Read_still, State.logEnt3Read_still, State.rxTake_still,
    State.setSec_still, State.wr_still]

theorem State.csrGet_still (s : State) (a : Nat) : (s.csrGet a).still = s.still := by
  unfold State.csrGet
  (repeat' split) <;> simp only [State.answerWith_still, State.csrTake_still]

theorem State.mirrorSend_still (s : State) (y0 : Nat) (y1 : List (Nat × List Byte)) : (s.mirrorSend y0 y1).still = s.still := by
  induction y0 generalizing s y1 with
  | zero => rfl
  | succ k ih =>
    unfold State.mirrorSend
    dsimp only
    split
    · rfl
    · exact (ih _ _).trans ((State.vSend_still ..).trans (State.setTwinBlk_still ..))

theorem State.mirrorFlush_still (s : State) : s.mirrorFlush.still = s.still := by
  unfold State.mirrorFlush
  split <;> simp only [State.still_mk, State.still_fold, State.mirrorSend_still]

theorem State.mirrorItems_still (s : State) (n : Nat) : (s.mirrorItems n).still = s.still := by
  unfold State.mirrorItems
  simp only [State.emberOpen_still, State.setStream_still]

theorem State.bankFlip_still (s : State) (n : Nat) : (s.bankFlip n).still = s.still := by
  unfold State.bankFlip
  repeat' (first
    | with_reducible rfl
    | intro _
    | simp only [State.still_mk, State.still_fold, State.put_still, State.putB_still, State.raise_still,
    State.setStream_still, State.swapCopy_still, apply_ite State.still, ite_self]
    | split
    | refine (State.each_still _ _ _ ?_).trans ?_)

theorem State.birth_still (s : State) (n : Nat) (k : Int) (v : DWord) (time : Nat) (jump : Bool) : (s.birth n k v time jump).still = s.still := by
  unfold State.birth
  simp only [State.still_mk, State.still_fold, State.bankFlip_still, State.ctrNote_still, State.emberOpen_still,
    State.entryCheck_still, State.put_still, State.putB_still, State.raise_still, State.setEntry_still,
    State.setStream_still, apply_ite State.still, ite_self]

theorem State.mirrorTrack_still (s : State) (n i : Nat) : (s.mirrorTrack n i).still = s.still := by
  unfold State.mirrorTrack
  simp only [State.still_mk, State.still_fold, apply_ite State.still, ite_self]

theorem State.mirrorRecord_still (s : State) (r : List Byte) : (s.mirrorRecord r).still = s.still := by
  unfold State.mirrorRecord
  simp only [State.bankFlip_still, State.bump_still, State.free_still, State.mirrorItems_still, State.mirrorTrack_still,
    State.put_still, State.putB_still, State.raise_still, State.report_still, State.setEntry_still, State.setStream_still,
    apply_ite State.still, ite_self]

theorem State.mirrorApply_still (s : State) (d : List Byte) : (s.mirrorApply d).still = s.still := by
  unfold State.mirrorApply
  repeat' (first
    | with_reducible rfl
    | intro _
    | simp only [State.mirrorRecord_still]
    | refine (foldl_still _ ?_ _ _).trans ?_)

theorem State.sendAck_still (s : State) (p chan : Nat) : (s.sendAck p chan).still = s.still := by
  unfold State.sendAck
  simp only [State.setVport_still, State.vControl_still]

theorem State.onMirror_still (s : State) (d : List Byte) : (s.onMirror d).still = s.still := by
  unfold State.onMirror
  (repeat' split) <;> simp only [State.mirrorApply_still, State.sendAck_still, State.setTwinBlk_still]

theorem State.onSnapEnd_still (s : State) : s.onSnapEnd.still = s.still := by
  unfold State.onSnapEnd
  repeat' (first
    | with_reducible rfl
    | intro _
    | simp only [State.still_mk, State.still_fold, State.bump_still, State.mirrorApply_still, State.put_still,
    State.putB_still, State.setStream_still, State.setTwinBlk_still]
    | split
    | refine (State.each_still _ _ _ ?_).trans ?_
    | refine (foldl_still _ ?_ _ _).trans ?_)

theorem State.onResyncReq_still (s : State) : s.onResyncReq.still = s.still := by
  unfold State.onResyncReq
  repeat' (first
    | with_reducible rfl
    | intro _
    | simp only [State.still_mk, State.still_fold, State.mirrorFlush_still, State.setTwin_still, State.setTwinBlk_still,
    State.twinControl_still, apply_ite State.still, ite_self]
    | split
    | refine (State.each_still _ _ _ ?_).trans ?_)

theorem State.onVmaster_still (s : State) (axis tick : Nat) (value : DWord) (vel : Word) : (s.onVmaster axis tick value vel).still = s.still := by
  unfold State.onVmaster
  split <;> simp only [State.setTwinBlk_still]

theorem State.births_still (s : State) (n : Nat) : (s.births n).still = s.still := by
  unfold State.births
  repeat' (first
    | with_reducible rfl
    | intro _
    | simp only [State.birth_still, State.setStream_still, apply_ite State.still, ite_self]
    | split
    | refine (foldl_still _ ?_ _ _).trans ?_)

theorem State.itemEvents_still (s : State) (n k : Nat) : (s.itemEvents n k).still = s.still := by
  unfold State.itemEvents
  simp only [State.still_mk, State.still_fold, apply_ite State.still, ite_self]

theorem State.streamDue_still (s : State) (n : Nat) : (s.streamDue n).still = s.still := by
  unfold State.streamDue
  repeat' (first
    | with_reducible rfl
    | intro _
    | simp only [State.emberValid_still, State.putB_still, State.raise_still, State.setStream_still, State.streamOn_still,
    apply_ite State.still, ite_self]
    | split)

theorem State.trackTick_still (s : State) (n : Nat) : (s.trackTick n).still = s.still := by
  unfold State.trackTick
  simp only [State.still_mk, State.still_fold, apply_ite State.still, ite_self]

theorem State.mirrorTick_still (s : State) : s.mirrorTick.still = s.still := by
  unfold State.mirrorTick
  repeat' (first
    | with_reducible rfl
    | intro _
    | simp only [State.still_mk, State.still_fold, State.setStream_still, State.setTwinBlk_still, State.streamDue_still]
    | refine (State.each_still _ _ _ ?_).trans ?_)

theorem State.histTick_still (s : State) : s.histTick.still = s.still := by
  unfold State.histTick
  split <;> simp only [State.setTwinBlk_still]

theorem State.doubtBirths_still (s : State) : s.doubtBirths.still = s.still := by
  unfold State.doubtBirths
  repeat' (first
    | with_reducible rfl
    | intro _
    | simp only [State.birth_still, State.setStream_still, apply_ite State.still, ite_self]
    | split
    | refine (foldl_still _ ?_ _ _).trans ?_)

theorem State.doubtClose_still (s : State) : s.doubtClose.still = s.still := by
  unfold State.doubtClose
  repeat' (first
    | with_reducible rfl
    | intro _
    | simp only [State.failItem_still, apply_ite State.still, ite_self]
    | split
    | refine (foldl_still _ ?_ _ _).trans ?_)

theorem State.regate_still (s : State) : s.regate.still = s.still := by
  unfold State.regate
  repeat' (first
    | with_reducible rfl
    | intro _
    | simp only [State.gatePush_still, apply_ite State.still, ite_self]
    | split
    | refine (State.each_still _ _ _ ?_).trans ?_)

theorem State.takeover_still (s : State) : s.takeover.still = s.still := by
  unfold State.takeover
  simp only [State.askReset_still, State.doubtBirths_still, State.doubtClose_still, State.put_still, State.putB_still,
    State.raise_still, State.regate_still, State.setTwin_still, State.setTwinBlk_still, State.wr_still,
    apply_ite State.still, ite_self]

theorem State.primaryLost_still (s : State) : s.primaryLost.still = s.still := by
  unfold State.primaryLost
  simp only [State.raise_still, State.setTwin_still, State.setTwinBlk_still, State.takeover_still, apply_ite State.still,
    ite_self]

theorem State.leaseTimeout_still (s : State) : s.leaseTimeout.still = s.still := by
  unfold State.leaseTimeout
  split <;> simp only [State.putB_still, State.raise_still, State.setTwin_still]

theorem State.leaseIn_still (s : State) (high : Bool) : (s.leaseIn high).still = s.still := by
  unfold State.leaseIn
  simp only [State.putB_still, State.setTwinBlk_still, State.takeover_still, State.twinFollow_still, apply_ite State.still,
    ite_self]

theorem State.heartbeatSend_still (s : State) : s.heartbeatSend.still = s.still := by
  unfold State.heartbeatSend
  split <;> simp only [State.vSend_still]

theorem State.lockstepCheck_still (s : State) (d : List Byte) : (s.lockstepCheck d).still = s.still := by
  unfold State.lockstepCheck
  (repeat' split) <;> simp only [State.bump_still, State.put_still, State.raise_still, State.setTwin_still,
    State.setTwinBlk_still, apply_ite State.still, ite_self]

theorem State.aonLog_still (s : State) (src info : Nat) : (s.aonLog src info).still = s.still := by
  unfold State.aonLog
  simp only [State.bump_still, State.put_still, State.raise_still, State.setSec_still, apply_ite State.still, ite_self]

theorem State.syncApply_still (s : State) (p span : Nat) (sent : DWord) : (s.syncApply p span sent).still = s.still := by
  unfold State.syncApply
  simp only [State.still_mk, State.still_fold, State.aonLog_still, State.put_still, State.raise_still, State.setTstate_still,
    State.setVsm_still, apply_ite State.still, ite_self]

theorem State.onHeartbeat_still (s : State) (d : List Byte) : (s.onHeartbeat d).still = s.still := by
  unfold State.onHeartbeat
  simp only [State.lockstepCheck_still, State.put_still, State.putB_still, State.setTwin_still, State.syncApply_still,
    State.twinSync_still, apply_ite State.still, ite_self]

theorem State.converged_still (s : State) : s.converged.still = s.still := by
  unfold State.converged
  split <;> simp only [State.raise_still, State.setTwin_still]

theorem State.onHandover_still (s : State) (t : Nat) : (s.onHandover t).still = s.still := by
  unfold State.onHandover
  split <;> simp only [State.putB_still, State.raise_still, State.setTwinBlk_still, State.twinControl_still]

theorem State.onHoack_still (s : State) : s.onHoack.still = s.still := by
  unfold State.onHoack
  split <;> simp only [State.putB_still]

theorem State.handoverAtT_still (s : State) : s.handoverAtT.still = s.still := by
  unfold State.handoverAtT
  (repeat' split) <;> simp only [State.still_mk, State.still_fold, State.doubtBirths_still, State.lgrRun_still,
    State.mirrorBegin_still, State.mirrorFlush_still, State.putB_still, State.raise_still, State.regate_still,
    State.setTwin_still, State.setTwinBlk_still, apply_ite State.still, ite_self]

theorem State.kbErase_still (s : State) : s.kbErase.still = s.still := by
  unfold State.kbErase
  simp only [State.aonLog_still, State.putB_still, State.raise_still, State.setSec_still]

theorem State.cmpSample_still (s : State) (n mv : Nat) : (s.cmpSample n mv).still = s.still := by
  unfold State.cmpSample
  simp only [State.aonLog_still, State.putB_still, State.setSec_still, apply_ite State.still, ite_self]

theorem State.crystalPeriod_still (s : State) (mv : Nat → Nat) : (s.crystalPeriod mv).still = s.still := by
  unfold State.crystalPeriod
  repeat' (first
    | with_reducible rfl
    | intro _
    | simp only [State.still_mk, State.still_fold, State.cmpSample_still, State.kbErase_still, apply_ite State.still, ite_self]
    | split
    | refine (State.each_still _ _ _ ?_).trans ?_)

theorem State.pd0Check_still (s : State) : s.pd0Check.still = s.still := by
  unfold State.pd0Check
  split <;> simp only [State.setSec_still]

theorem State.mainOff_still (s : State) : s.mainOff.still = s.still := by
  unfold State.mainOff
  simp only [State.aonLog_still, State.discShow_still, State.pd0Check_still, State.putB_still, State.setSec_still]

theorem State.mainOn_still (s : State) : s.mainOn.still = s.still := by
  unfold State.mainOn
  simp only [State.aonLog_still, State.discShow_still, State.setSec_still, apply_ite State.still, ite_self]

theorem State.vbatAt_still (s : State) (mv : Nat) : (s.vbatAt mv).still = s.still := by
  unfold State.vbatAt
  simp only [State.pd0Check_still, State.putB_still, State.raise_still, State.setSec_still, apply_ite State.still, ite_self]

theorem State.emberDefaults_still (s : State) : s.emberDefaults.still = s.still := by
  unfold State.emberDefaults
  simp only [State.still_mk, State.still_fold, State.putB_still, State.setSec_still, State.wr_still]

theorem State.markerCheck_still (s : State) : s.markerCheck.still = s.still := by
  unfold State.markerCheck
  split <;> simp only [State.emberDefaults_still, State.kbErase_still, State.putB_still, State.setSec_still]

theorem State.rtcMeasure_still (s : State) (ppb : Int) : (s.rtcMeasure ppb).still = s.still := by
  unfold State.rtcMeasure
  split <;> simp only [State.setSec_still, State.wr_still]

theorem State.crystalCompensate_still (s : State) : s.crystalCompensate.still = s.still := by
  unfold State.crystalCompensate
  split <;> simp only [State.free_still, State.wr_still]

theorem State.fuseShow_still (s : State) : s.fuseShow.still = s.still := by
  unfold State.fuseShow
  repeat' (first
    | with_reducible rfl
    | intro _
    | simp only [State.put_still, State.putB_still, State.wr_still]
    | split
    | refine (State.each_still _ _ _ ?_).trans ?_)

theorem State.fuseLoad_still (s : State) : (s.fuseLoad).1.still = s.still := by
  unfold State.fuseLoad
  simp only [State.bump_still, State.fuseShow_still, State.raise_still, apply_ite State.still, ite_self]

theorem State.fuseEnd_still (s : State) (j : FuseJob) (status : Nat) : (s.fuseEnd j status).still = s.still := by
  unfold State.fuseEnd
  split <;> simp only [State.answerMbx_still, State.fuseShow_still, State.putB_still, State.raise_still, State.setSec_still]

theorem State.fuseSettle_still (s : State) (y0 : Nat) : (s.fuseSettle y0).still = s.still := by
  induction y0 generalizing s with
  | zero => rfl
  | succ k ih =>
    unfold State.fuseSettle
    split
    · split
      · exact (ih _).trans (State.fuseEnd_still ..)
      · rfl
    · rfl

theorem State.fuseStart_still (s : State) (m : Option Nat) (todo : List (Nat × Nat)) : (s.fuseStart m todo).still = s.still := by
  unfold State.fuseStart
  simp only [State.fuseSettle_still, State.putB_still, State.setSec_still]

theorem State.fuseBlow_still (s : State) (r : Blow) : (s.fuseBlow r).still = s.still := by
  unfold State.fuseBlow
  (repeat' split) <;> simp only [State.fuseEnd_still, State.fuseSettle_still, State.setSec_still]

theorem State.policySet_still (s : State) (m : Nat) : (s.policySet m).still = s.still := by
  unfold State.policySet
  split <;> simp only [State.fuseStart_still]

theorem State.portHeard_still (s : State) (p : Nat) : (s.portHeard p).still = s.still := by
  unfold State.portHeard
  repeat' (first
    | with_reducible rfl
    | intro _
    | simp only [State.portFollow_still, State.updLane_still, apply_ite State.still]
    | split
    | refine (State.each_still _ _ _ ?_).trans ?_)

theorem State.laneFollow_still (s : State) (n : Nat) : (s.laneFollow n).still = s.still := by
  unfold State.laneFollow
  split <;> simp only [State.portFollow_still]

theorem State.forwardFrame_still (s : State) (p : Nat) (f : VFrame) : (s.forwardFrame p f).still = s.still := by
  unfold State.forwardFrame
  split <;> simp only [State.vFail_still, State.vRoute_still]

theorem State.sendNak_still (s : State) (p chan seq : Nat) : (s.sendNak p chan seq).still = s.still := by
  unfold State.sendNak
  simp only [State.vControl_still]

theorem State.onAck_still (s : State) (p chan seq : Nat) : (s.onAck p chan seq).still = s.still := by
  unfold State.onAck
  simp only [State.updVport_still]

theorem State.resend_still (s : State) (p : Nat) (who : VFrame → Bool) : (s.resend p who).still = s.still := by
  unfold State.resend
  repeat' (first
    | with_reducible rfl
    | intro _
    | simp only [State.bump_still, State.setVport_still, State.vFail_still, State.vOut_still]
    | split
    | refine (foldl_still _ ?_ _ _).trans ?_)

theorem State.onNak_still (s : State) (p chan seq : Nat) : (s.onNak p chan seq).still = s.still := by
  unfold State.onNak
  simp only [State.resend_still]

theorem State.degrade_still (s : State) (q b : Nat) (lost : List (Nat × Nat)) : (s.degrade q b lost).still = s.still := by
  unfold State.degrade
  repeat' (first
    | with_reducible rfl
    | intro _
    | simp only [State.failCount_still, State.portDown_still, State.raise_still, State.sendNak_still, State.setWidth_still,
    State.updVport_still, apply_ite State.still, ite_self]
    | split
    | refine (foldl_still _ ?_ _ _).trans ?_)

theorem State.rejoin_still (s : State) (q b : Nat) : (s.rejoin q b).still = s.still := by
  unfold State.rejoin
  repeat' (first
    | with_reducible rfl
    | intro _
    | simp only [State.raise_still, State.setWidth_still, State.updVport_still, apply_ite State.still, ite_self]
    | split)

theorem State.onWidenAck_still (s : State) (p count : Nat) : (s.onWidenAck p count).still = s.still := by
  unfold State.onWidenAck
  (repeat' split) <;> simp only [State.proposeWiden_still, State.updVport_still]

theorem State.laneUp_still (s : State) (n : Nat) (inv : Bool) : (s.laneUp n inv).still = s.still := by
  unfold State.laneUp
  simp only [State.putB_still, State.setStage_still, State.updLane_still]

theorem State.vsmLaneUp_still (s : State) (n : Nat) : (s.vsmLaneUp n).still = s.still := by
  unfold State.vsmLaneUp
  simp only [State.laneUp_still, State.put_still, apply_ite State.still, ite_self]

theorem State.alignSet_still (s : State) (n : Nat) (lane chk : Byte) : (s.alignSet n lane chk).still = s.still := by
  unfold State.alignSet
  repeat' (first
    | with_reducible rfl
    | intro _
    | simp only [State.portFollow_still, State.proposeWiden_still, State.updLane_still, State.vsmLaneUp_still,
    apply_ite State.still, ite_self]
    | split)

theorem State.sendTime_still (s : State) (p : Nat) (data : List Byte) : (s.sendTime p data).still = s.still := by
  unfold State.sendTime
  split <;> simp only [State.vSend_still]

theorem State.syncSend_still (s : State) : s.syncSend.still = s.still := by
  unfold State.syncSend
  repeat' (first
    | with_reducible rfl
    | intro _
    | simp only [State.sendTime_still, apply_ite State.still]
    | split
    | refine (State.each_still _ _ _ ?_).trans ?_)

theorem State.dreqOn_still (s : State) (p : Nat) : (s.dreqOn p).still = s.still := by
  unfold State.dreqOn
  split <;> simp only [State.sendTime_still, State.updVport_still]

theorem State.dreqSend_still (s : State) : s.dreqSend.still = s.still := by
  unfold State.dreqSend
  simp only [State.dreqOn_still, apply_ite State.still, ite_self]

theorem State.onDreq_still (s : State) (p : Nat) : (s.onDreq p).still = s.still := by
  unfold State.onDreq
  simp only [State.sendTime_still]

theorem State.onDrsp_still (s : State) (p : Nat) (t2 t3 : DWord) : (s.onDrsp p t2 t3).still = s.still := by
  unfold State.onDrsp
  split <;> simp only [State.failCount_still, State.updVport_still, State.wr_still]

theorem State.onSync_still (s : State) (p hops node : Nat) (origin corr : DWord) : (s.onSync p hops node origin corr).still = s.still := by
  unfold State.onSync
  repeat' (first
    | with_reducible rfl
    | intro _
    | simp only [State.failCount_still, State.put_still, State.sendTime_still, State.syncApply_still, apply_ite State.still,
    ite_self]
    | split
    | refine (State.each_still _ _ _ ?_).trans ?_)

theorem State.holdover_still (s : State) : s.holdover.still = s.still := by
  unfold State.holdover
  split <;> simp only [State.setTstate_still]

theorem State.angleExport_still (s : State) (k : Nat) : (s.angleExport k).still = s.still := by
  unfold State.angleExport
  split <;> simp only [State.originate_still]

theorem State.onAngle_still (s : State) (k src : Nat) (value : DWord) (vel : Word) (time : DWord) (st : Nat) : (s.onAngle k src value vel time st).still = s.still := by
  unfold State.onAngle
  simp only [State.put_still, State.raise_still, State.setVsm_still, apply_ite State.still, ite_self]

theorem State.gapExpiry_still (s : State) (k : Nat) : (s.gapExpiry k).still = s.still := by
  unfold State.gapExpiry
  simp only [State.failAxes_still, State.put_still, State.setVsm_still, apply_ite State.still, ite_self]

theorem State.swDrop_still (s : State) (f : Field) : (s.swDrop f).still = s.still := by
  unfold State.swDrop
  simp only [State.bump_still, State.raise_still]

theorem State.onSwitch_still (s : State) (mask time : Nat) : (s.onSwitch mask time).still = s.still := by
  unfold State.onSwitch
  repeat' (first
    | with_reducible rfl
    | intro _
    | simp only [State.putB_still, State.setVsm_still, State.sgRefuse_still, State.swDrop_still, apply_ite State.still,
    ite_self]
    | split
    | refine (State.each_still _ _ _ ?_).trans ?_)

theorem State.sgPostTick_still (s : State) (n : Nat) : (s.sgPostTick n).still = s.still := by
  unfold State.sgPostTick
  simp only [State.sgPost_still]

theorem State.switchAtTick_still (s : State) : s.switchAtTick.still = s.still := by
  unfold State.switchAtTick
  repeat' (first
    | with_reducible rfl
    | intro _
    | simp only [State.setVsm_still, State.sgPostTick_still, State.swDrop_still, apply_ite State.still]
    | split
    | refine (State.each_still _ _ _ ?_).trans ?_
    | refine (foldl_still _ ?_ _ _).trans ?_)

theorem State.tunnel_still (s : State) (q : Req) : (s.tunnel q).still = s.still := by
  unfold State.tunnel
  simp only [State.still_mk, State.still_fold, State.originFail_still, State.originate_still, State.respond_still,
    State.setVsm_still, State.vSend_still, apply_ite State.still, ite_self]

theorem State.serveImage_still (s : State) (etag op addr len : Nat) : (s.serveImage etag op addr len).still = s.still := by
  unfold State.serveImage
  split <;> simp only [State.tunReply_still]

theorem State.answerAtOnce_still (s : State) (q : Req) (ftag status : Nat) : (s.answerAtOnce q ftag status).still = s.still := by
  unfold State.answerAtOnce
  simp only [State.complete_still]

theorem State.issue_still (s : State) (q : Req) (ftag : Nat) : (s.issue q ftag).still = s.still := by
  unfold State.issue
  split <;> simp only [State.still_mk, State.still_fold, State.bump_still]

theorem State.shareGrant_still (s : State) : s.shareGrant.still = s.still := by
  unfold State.shareGrant
  repeat' (first
    | with_reducible rfl
    | intro _
    | simp only [State.still_mk, State.still_fold, State.place_still, apply_ite State.still, ite_self]
    | split)

theorem State.shareFill_still (s : State) : s.shareFill.still = s.still := by
  unfold State.shareFill
  repeat' (first
    | with_reducible rfl
    | intro _
    | simp only [State.shareGrant_still]
    | refine (State.each_still _ _ _ ?_).trans ?_)

theorem State.inject_still (s : State) (q : Req) (ftag ep : Nat) : (s.inject q ftag ep).still = s.still := by
  unfold State.inject
  simp only [State.still_mk, State.still_fold, State.issue_still, State.place_still, State.shareFill_still,
    apply_ite State.still, ite_self]

theorem State.request_still (s : State) (q : Req) (ftag : Nat) : (s.request q ftag).still = s.still := by
  unfold State.request
  (repeat' split) <;> simp only [State.answerAtOnce_still, State.bump_still, State.inject_still]

theorem State.onTunnelled_still (s : State) (src etag op addr len : Nat) (data : List Byte) : (s.onTunnelled src etag op addr len data).still = s.still := by
  unfold State.onTunnelled
  (repeat' split) <;> simp only [State.request_still, State.serveImage_still, State.setVsm_still, State.tunReply_still,
    State.vsmAnswers_still]

theorem State.sendReports_still (s : State) (all : Bool) : (s.sendReports all).still = s.still := by
  unfold State.sendReports
  repeat' (first
    | with_reducible rfl
    | intro _
    | simp only [State.originate_still, State.setVsm_still]
    | refine (foldl_still _ ?_ _ _).trans ?_)

theorem State.onRack_still (s : State) (chan : Nat) (recseq : Word) : (s.onRack chan recseq).still = s.still := by
  unfold State.onRack
  split <;> simp only [State.still_mk, State.still_fold, State.putB_still, State.recordsSettle_still, State.setVsm_still]

theorem State.hostAsk_still (s : State) (parts : List HostPart) (q : Req) : (s.hostAsk parts q).1.still = s.still := by
  unfold State.hostAsk
  split <;> simp only [State.request_still]

theorem State.hostAsks_still (s : State) (parts : List HostPart) (a n : Nat) : (s.hostAsks parts a n).1.still = s.still := by
  unfold State.hostAsks
  repeat' (first
    | with_reducible rfl
    | intro _
    | simp only [State.hostAsk_still]
    | refine (foldl_still _ ?_ _ _).trans ?_
    | refine (foldl_still_fst _ ?_ _ _).trans ?_)

theorem State.hostReadWait_still (s : State) (parts : List HostPart) : (s.hostReadWait parts).still = s.still := by
  unfold State.hostReadWait
  simp only [State.still_mk, State.still_fold, State.hostAnswers_still, State.vsmAnswers_still]

theorem State.hostWrite_still (s : State) (a : Nat) (data : List Byte) : (s.hostWrite a data).still = s.still := by
  unfold State.hostWrite
  repeat' (first
    | with_reducible rfl
    | intro _
    | simp only [State.still_mk, State.still_fold, State.hostAnswers_still, State.hostAsk_still, State.vsmAnswers_still,
    State.writeFailed_still]
    | split
    | refine (foldl_still _ ?_ _ _).trans ?_)

theorem State.barLocal_still (s : State) (off len : Nat) (f : State → State) (h_f : ∀ x0,
    (f x0).still = x0.still) : (s.barLocal off len f).still = s.still := by
  unfold State.barLocal
  split <;> simp only [State.answerWith_still, h_f]

theorem State.hostMemRead_still (s : State) (bar off len : Nat) : (s.hostMemRead bar off len).still = s.still := by
  unfold State.hostMemRead
  repeat' (first
    | with_reducible rfl
    | intro _
    | simp only [State.answerWith_still, State.csrGet_still, State.hostAsks_still, State.hostReadWait_still,
    apply_ite State.still]
    | split
    | refine (State.barLocal_still _ _ _ _ ?_).trans ?_)

theorem State.bar4Read_still (s : State) (off len : Nat) : (s.bar4Read off len).still = s.still := by
  unfold State.bar4Read
  split <;> simp only [State.hostAsks_still, State.hostReadWait_still]

theorem State.bar4Write_still (s : State) : s.bar4Write.still = s.still := by
  unfold State.bar4Write
  split <;> simp only [State.bump_still, State.raise_still]

theorem State.hostStore_still (s : State) (a : Nat) (data : List Byte) : (s.hostStore a data).still = s.still := by
  unfold State.hostStore
  simp only [State.still_mk, State.still_fold]

theorem State.dmaFail_still (s : State) (n : Nat) : (s.dmaFail n).still = s.still := by
  unfold State.dmaFail
  simp only [State.raise_still, State.setDma_still]

theorem State.dmaEnd_still (s : State) (n status : Nat) (irq : Bool) : (s.dmaEnd n status irq).still = s.still := by
  unfold State.dmaEnd
  simp only [State.dmaFail_still, State.put_still, State.raise_still, State.setDma_still, apply_ite State.still, ite_self]

theorem State.setUsb_still (s : State) (f : Usb → Usb) : (s.setUsb f).still = s.still := by
  unfold State.setUsb
  simp only [State.still_mk, State.still_fold]

theorem State.dmaClose_still (s : State) (n status : Nat) (irq : Bool) : (s.dmaClose n status irq).still = s.still := by
  unfold State.dmaClose
  simp only [State.dmaEnd_still, State.hostStore_still, State.setUsb_still]

theorem State.dmaGrant_still (s : State) : s.dmaGrant.still = s.still := by
  unfold State.dmaGrant
  (repeat' split) <;> simp only [State.hostAnswers_still, State.hostAsk_still, State.setUsb_still, State.vsmAnswers_still,
    apply_ite State.still, ite_self]

theorem State.dmaPump_still (s : State) : s.dmaPump.still = s.still := by
  unfold State.dmaPump
  repeat' (first
    | with_reducible rfl
    | intro _
    | simp only [State.dmaGrant_still]
    | refine (State.each_still _ _ _ ?_).trans ?_)

theorem State.dmaSettle_still (s : State) (n : Nat) (ok : Bool) : (s.dmaSettle n ok).still = s.still := by
  unfold State.dmaSettle
  (repeat' split) <;> simp only [State.dmaClose_still, State.hostStore_still, apply_ite State.still, ite_self]

theorem State.dmaRow_still (s : State) (n : Nat) (desc data : Option (List Byte)) : (s.dmaRow n desc data).still = s.still := by
  unfold State.dmaRow
  (repeat' split) <;> simp only [State.dmaClose_still, State.dmaPump_still, State.dmaSettle_still, State.setUsb_still]

theorem State.swtrig_still (s : State) (g : Nat) : (s.swtrig g).still = s.still := by
  unfold State.swtrig
  repeat' (first
    | with_reducible rfl
    | intro _
    | simp only [State.sgTake_still]
    | refine (State.each_still _ _ _ ?_).trans ?_)

theorem State.ffSave_still (s : State) (g c : Nat) : (s.ffSave g c).still = s.still := by
  unfold State.ffSave
  simp only [State.still_mk, State.still_fold]

theorem State.ffRestore_still (s : State) (g c : Nat) : (s.ffRestore g c).still = s.still := by
  unfold State.ffRestore
  simp only [State.still_mk, State.still_fold]

theorem State.setRcmp_still (s : State) (key : Nat) (r : RCmp) : (s.setRcmp key r).still = s.still := by
  unfold State.setRcmp
  simp only [State.still_mk, State.still_fold]

theorem State.rcEnter_still (s : State) (key : Nat) : (s.rcEnter key).still = s.still := by
  unfold State.rcEnter
  simp only [State.setRcmp_still]

theorem State.compEnter_still (s : State) (g c : Nat) : (s.compEnter g c).still = s.still := by
  unfold State.compEnter
  repeat' (first
    | with_reducible rfl
    | intro _
    | simp only [State.rcEnter_still, State.setRcmp_still, State.setRegion_still]
    | split
    | refine (State.each_still _ _ _ ?_).trans ?_)

theorem State.switchMember_still (s : State) (g : Nat) : (s.switchMember g).still = s.still := by
  unfold State.switchMember
  repeat' (first
    | with_reducible rfl
    | intro _
    | simp only [State.still_mk, State.still_fold, State.adapterDiscard_still, State.adapterStale_still,
    State.compEnter_still, State.ffInit_still, State.ffRestore_still, State.ffSave_still, State.fwdReload_still,
    State.gateShow_still, State.put_still, State.putB_still, State.setRegion_still, State.setSlot_still, State.srcMove_still,
    State.swWuClear_still, apply_ite State.still, ite_self]
    | split)

theorem State.switchNow_still (s : State) (n : Nat) : (s.switchNow n).still = s.still := by
  unfold State.switchNow
  repeat' (first
    | with_reducible rfl
    | intro _
    | simp only [State.bump_still, State.putB_still, State.setBit_still, State.swDone_still, State.switchMember_still,
    apply_ite State.still, ite_self]
    | split
    | refine (State.each_still _ _ _ ?_).trans ?_)

theorem State.suspectMark_still (s : State) (r since : Nat) : (s.suspectMark r since).still = s.still := by
  unfold State.suspectMark
  repeat' (first
    | with_reducible rfl
    | intro _
    | simp only [State.still_mk, State.still_fold, State.entryCheck_still, State.markItem_still, State.raise_still,
    State.setEntry_still, apply_ite State.still, ite_self]
    | split
    | refine (foldl_still _ ?_ _ _).trans ?_)

theorem State.finding_still (s : State) (cls : Nat) (weigh : Option Bool) (g c tile kind : Nat) : (s.finding cls weigh g c tile kind).still = s.still := by
  unfold State.finding
  (repeat' split) <;> simp only [State.bump_still, State.put_still, State.putB_still, State.raise_still, State.report_still,
    State.suspectMark_still, State.wr_still]

theorem State.quarantine_still (s : State) (g : Nat) : (s.quarantine g).still = s.still := by
  unfold State.quarantine
  simp only [State.gateShow_still, State.putB_still]

theorem State.setScrub_still (s : State) (g : Nat) (x : Scrub) : (s.setScrub g x).still = s.still := by
  unfold State.setScrub
  simp only [State.setCfg_still]

theorem State.emberFail_still (s : State) (k : Nat) : (s.emberFail k).still = s.still := by
  unfold State.emberFail
  repeat' (first
    | with_reducible rfl
    | intro _
    | simp only [State.still_mk, State.still_fold, State.put_still, State.putB_still, State.wr_still]
    | split
    | refine (State.each_still _ _ _ ?_).trans ?_)

theorem State.strike_still (s : State) (y0 : Strike) : (s.strike y0).still = s.still := by
  unfold State.strike
  (repeat' split) <;> simp only [State.still_mk, State.still_fold, State.emberFail_still, State.put_still,
    State.report_still, apply_ite State.still, ite_self]

theorem State.wuStep_still (s p : State) (t op a b cin : Nat) (clr : Bool) (x y : DWord) : (s.wuStep p t op a b cin clr x y).still = s.still := by
  unfold State.wuStep
  simp only [State.still_mk, State.still_fold]

theorem State.wuOp_still (s : State) (t op : Nat) (a b : Word) (cin clr : Bool) : (s.wuOp t op a b cin clr).still = s.still := by
  unfold State.wuOp
  split <;> simp only [State.free_still, State.wuStep_still]

theorem State.rcForce_still (s : State) (p : RCmpPend) : (s.rcForce p).still = s.still := by
  unfold State.rcForce
  (repeat' split) <;> simp only [State.rcEnter_still, State.setRcmp_still, apply_ite State.still, ite_self]

theorem State.rcDue_still (s : State) : s.rcDue.still = s.still := by
  unfold State.rcDue
  repeat' (first
    | with_reducible rfl
    | intro _
    | simp only [State.still_mk, State.still_fold, State.rcForce_still]
    | refine (foldl_still _ ?_ _ _).trans ?_)

theorem State.cmpPortWrite_still (s : State) (g csel wsel : Nat) (data : Half) (sub : Nat) : (s.cmpPortWrite g csel wsel data sub).still = s.still := by
  unfold State.cmpPortWrite
  (repeat' split) <;> simp only [State.still_mk, State.still_fold, State.setRcmp_still]

theorem State.shotAdd_still (s : State) (g pulses levels : Nat) (ports : List Nat) : (s.shotAdd g pulses levels ports).still = s.still := by
  unfold State.shotAdd
  simp only [State.setRegion_still]

theorem State.rcmpTick_still (s : State) (key : Nat) : (s.rcmpTick key).1.still = s.still := by
  unfold State.rcmpTick
  repeat' (first
    | with_reducible rfl
    | intro _
    | simp only [State.setRcmp_still, State.shotAdd_still]
    | split)

theorem State.rcmpsTick_still (s : State) : (s.rcmpsTick).1.still = s.still := by
  unfold State.rcmpsTick
  repeat' (first
    | with_reducible rfl
    | intro _
    | simp only [State.rcmpTick_still]
    | refine (foldl_still _ ?_ _ _).trans ?_
    | refine (foldl_still_fst _ ?_ _ _).trans ?_)

theorem State.dmpShow_still (s : State) (g : Nat) : (s.dmpShow g).still = s.still := by
  unfold State.dmpShow
  simp only [State.putB_still]

theorem State.dampersEdge_still (s p e : State) (same : List Nat) (g : Nat) : (s.dampersEdge p e same g).still = s.still := by
  unfold State.dampersEdge
  simp only [State.still_mk, State.still_fold, State.setRegion_still]

theorem State.userEdge_still (s p : State) (g : Nat) : (s.userEdge p g).still = s.still := by
  unfold State.userEdge
  simp only [State.still_mk, State.still_fold]

theorem State.unitsEdge_still (s p : State) (g : Nat) : (s.unitsEdge p g).still = s.still := by
  unfold State.unitsEdge
  repeat' (first
    | with_reducible rfl
    | intro _
    | simp only [State.wuStep_still, apply_ite State.still, ite_self]
    | split
    | refine (foldl_still _ ?_ _ _).trans ?_)

theorem State.fxoEdge_still (s p : State) (g : Nat) : (s.fxoEdge p g).still = s.still := by
  unfold State.fxoEdge
  simp only [State.setRegion_still]

theorem State.controlEdge_still (s p : State) (g sub : Nat) (fxi : Bool) : (s.controlEdge p g sub fxi).still = s.still := by
  unfold State.controlEdge
  simp only [State.putB_still, State.setRegion_still, apply_ite State.still, ite_self]

theorem State.loadComp_still (s : State) (g c : Nat) : (s.loadComp g c).still = s.still := by
  unfold State.loadComp
  repeat' (first
    | with_reducible rfl
    | intro _
    | simp only [State.setRcmp_still]
    | refine (foldl_still _ ?_ _ _).trans ?_)

theorem State.fwdTick_still (s : State) : s.fwdTick.still = s.still := by
  unfold State.fwdTick
  repeat' (first
    | with_reducible rfl
    | intro _
    | simp only [State.put_still, apply_ite State.still, ite_self]
    | split
    | refine (State.each_still _ _ _ ?_).trans ?_)

theorem State.thaw_still (s : State) (g : Nat) : (s.thaw g).still = s.still := by
  unfold State.thaw
  simp only [State.fwdReload_still, State.putB_still, apply_ite State.still, ite_self]

theorem State.hottest_still (s : State) : s.hottest.still = s.still := by
  unfold State.hottest
  repeat' (first
    | with_reducible rfl
    | intro _
    | simp only [State.put_still]
    | split)

theorem State.channelAct_still (s : State) (n : Nat) : (s.channelAct n).still = s.still := by
  unfold State.channelAct
  split <;> simp only [State.commitAt_still, State.ctxSwitch_still]

theorem State.ageMeasure_still (s : State) (l : List (Nat × Nat × Nat)) : (s.ageMeasure l).still = s.still := by
  unfold State.ageMeasure
  repeat' (first
    | with_reducible rfl
    | intro _
    | simp only [State.still_mk, State.still_fold, State.put_still, State.putB_still, State.raise_still,
    apply_ite State.still, ite_self]
    | split
    | refine (foldl_still _ ?_ _ _).trans ?_)

theorem State.vcclSettle_still (s : State) : s.vcclSettle.still = s.still := by
  unfold State.vcclSettle
  repeat' (first
    | with_reducible rfl
    | intro _
    | simp only [State.answerMbx_still, State.setPwr_still, apply_ite State.still]
    | split
    | refine (State.each_still _ _ _ ?_).trans ?_)

theorem State.ageApply_still (s : State) (m : Nat) : (s.ageApply m).still = s.still := by
  unfold State.ageApply
  simp only [State.answerMbx_still, State.putB_still, State.raise_still, State.setPwr_still, State.vcclSettle_still,
    apply_ite State.still, ite_self]

theorem State.ageStart_still (s : State) : s.ageStart.still = s.still := by
  unfold State.ageStart
  repeat' (first
    | with_reducible rfl
    | intro _
    | simp only [State.still_mk, State.still_fold, State.put_still, State.putB_still, State.raise_still, State.setPwr_still,
    apply_ite State.still]
    | split
    | refine (foldl_still _ ?_ _ _).trans ?_)

theorem State.serveConfig_still (s : State) (q : Req) : (s.serveConfig q).still = s.still := by
  unfold State.serveConfig
  simp only [State.free_still, State.freeBytes_still, State.respond_still, apply_ite State.still, ite_self]

theorem State.flashSend_still (s : State) (p : Nat) (l : List Nat) : (s.flashSend p l).still = s.still := by
  unfold State.flashSend
  simp only [State.setCfg_still]

theorem State.bankAccept_still (s : State) (q : Req) : (s.bankAccept q).still = s.still := by
  unfold State.bankAccept
  simp only [State.still_mk, State.still_fold]

theorem State.present_still (s : State) (g : Nat) (q : Req) : (s.present g q).still = s.still := by
  unfold State.present
  split <;> simp only [State.still_mk, State.still_fold, State.setAdapter_still]

theorem State.toRegion_still (s : State) (g : Nat) (q : Req) : (s.toRegion g q).still = s.still := by
  unfold State.toRegion
  split <;> simp only [State.present_still, State.respond_still]

theorem State.headerFail_still (s : State) (router : Nat) : (s.headerFail router).still = s.still := by
  unfold State.headerFail
  simp only [State.bump_still, State.raise_still, State.report_still]

theorem State.leave_still (s : State) (router out : Nat) (cls : Bool) (port : Nat) (p : Packet) : (s.leave router out cls port p).still = s.still := by
  unfold State.leave
  simp only [State.still_mk, State.still_fold, State.putB_still, State.shareFill_still]

theorem State.nextRouter_still (s : State) (nx out : Nat) (p : Packet) : (s.nextRouter nx out p).still = s.still := by
  unfold State.nextRouter
  simp only [State.place_still, State.putB_still]

theorem State.adapterRequest_still (s : State) (g : Nat) (q : Req) : (s.adapterRequest g q).still = s.still := by
  unfold State.adapterRequest
  (repeat' split) <;> simp only [State.request_still, State.reserve_still, apply_ite State.still, ite_self]

theorem State.nocRequest_still (s : State) (q : Req) : (s.nocRequest q).still = s.still := by
  unfold State.nocRequest
  split <;> simp only [State.adapterRequest_still, State.hostAnswers_still, State.request_still, State.vsmAnswers_still]

theorem State.scrAccess_still (s : State) (m : Nat) : (s.scrAccess m).still = s.still := by
  unfold State.scrAccess
  repeat' (first
    | with_reducible rfl
    | intro _
    | simp only [State.answerMbx_still, State.wr_still, apply_ite State.still]
    | split
    | refine (State.each_still _ _ _ ?_).trans ?_)

theorem State.setJtag_still (s : State) (f : Jtag → Jtag) : (s.setJtag f).still = s.still := by
  unfold State.setJtag
  simp only [State.still_mk, State.still_fold]

theorem State.tapSelect_still (s : State) (op : Nat) (force : Option Nat) : (s.tapSelect op force).still = s.still := by
  unfold State.tapSelect
  simp only [State.setJtag_still]

theorem State.tapDrive_still (s : State) (op : Nat) : (s.tapDrive op).still = s.still := by
  unfold State.tapDrive
  split <;> simp only [State.tapSelect_still]

theorem State.boundaryLoad_still (s : State) (l : List (Nat × Option Bool)) : (s.boundaryLoad l).still = s.still := by
  unfold State.boundaryLoad
  simp only [State.setJtag_still]

theorem State.boundaryCapture_still (s : State) : s.boundaryCapture.still = s.still := by
  unfold State.boundaryCapture
  simp only [State.free_still, State.setJtag_still]

theorem State.idcode_still (s : State) : s.idcode.still = s.still := by
  unfold State.idcode
  simp only [State.answerWith_still, State.tapSelect_still]

theorem State.dapArrive_still (s : State) (status : Nat) (data : List Byte) : (s.dapArrive status data).still = s.still := by
  unfold State.dapArrive
  simp only [State.still_mk, State.still_fold]

theorem State.dapClear_still (s : State) : s.dapClear.still = s.still := by
  unfold State.dapClear
  simp only [State.still_mk, State.still_fold]

theorem State.dapComplete_still (s : State) : s.dapComplete.still = s.still := by
  unfold State.dapComplete
  (repeat' split) <;> simp only [State.dapClear_still, State.setJtag_still]

theorem State.bumpWrap_still (s : State) (f : Field) (k : Nat) : (s.bumpWrap f k).still = s.still := by
  unfold State.bumpWrap
  simp only [State.put_still]

theorem State.signal_still (s : State) : s.signal.still = s.still := by
  unfold State.signal
  simp only [State.still_mk, State.still_fold]

theorem State.stepNext_still (s : State) (k : Nat) : (s.stepNext k).still = s.still := by
  unfold State.stepNext
  simp only [State.setStart_still, State.startUpdate_still]

theorem State.startFlag_still (s : State) (b : Nat) : (s.startFlag b).still = s.still := by
  unfold State.startFlag
  simp only [State.setStart_still]

theorem State.startFail_still (s : State) (k status : Nat) : (s.startFail k status).still = s.still := by
  unfold State.startFail
  simp only [State.setStart_still, State.startUpdate_still]

theorem State.startBegin_still (s : State) : s.startBegin.still = s.still := by
  unfold State.startBegin
  simp only [State.setCfg_still, State.setSec_still, State.setStart_still, State.startUpdate_still, State.stepNext_still,
    apply_ite State.still, ite_self]

theorem State.trimRow_still (s : State) : s.trimRow.still = s.still := by
  unfold State.trimRow
  simp only [State.fuseLoad_still, State.putB_still, State.setStart_still, State.startBegin_still, apply_ite State.still,
    ite_self]

theorem State.portStart_still (s : State) (p : Nat) (f : Sfdp) : (s.portStart p f).still = s.still := by
  unfold State.portStart
  split <;> simp only [State.flashSend_still, State.put_still, State.setCfg_still]

theorem State.portsRow_still (s : State) (a b : Sfdp) : (s.portsRow a b).still = s.still := by
  unfold State.portsRow
  simp only [State.portStart_still, State.setCfg_still, State.startFail_still, State.stepNext_still, apply_ite State.still,
    ite_self]

theorem State.startSettle_still (s : State) : s.startSettle.still = s.still := by
  unfold State.startSettle
  (repeat' split) <;> simp only [State.setCfg_still, State.startFail_still, State.stepNext_still]

theorem State.slotLoading_still (s : State) (g c : Nat) : (s.slotLoading g c).still = s.still := by
  unfold State.slotLoading
  simp only [State.still_mk, State.still_fold, State.adapterDiscard_still, State.clrBit_still, State.putB_still,
    State.setSlot_still]

theorem State.drawKeys_still (s : State) : s.drawKeys.still = s.still := by
  unfold State.drawKeys
  simp only [State.still_mk, State.still_fold, State.free_still]

theorem State.drawTimeout_still (s : State) : s.drawTimeout.still = s.still := by
  unfold State.drawTimeout
  repeat' (first
    | with_reducible rfl
    | intro _
    | simp only [State.answerMbx_still, State.putB_still]
    | refine (State.each_still _ _ _ ?_).trans ?_)

theorem State.drawRow_still (s : State) : s.drawRow.still = s.still := by
  unfold State.drawRow
  repeat' (first
    | with_reducible rfl
    | intro _
    | simp only [State.bump_still, State.drawTimeout_still, State.raise_still, State.setStart_still, State.startFail_still,
    apply_ite State.still]
    | split)

theorem State.marchGive_still (s : State) (n : Nat) : (s.marchGive n).still = s.still := by
  unfold State.marchGive
  split <;> simp only [State.still_mk, State.still_fold, State.setOwner_still]

theorem State.mainOffTime_still (s : State) : (s.mainOffTime).1.still = s.still := by
  unfold State.mainOffTime
  split <;> simp only [State.free_still]

theorem State.recordRenew_still (s : State) (i : Nat) : (s.recordRenew i).still = s.still := by
  unfold State.recordRenew
  simp only [State.still_mk, State.still_fold]

theorem State.ledgerReclose_still (s : State) (reason : Half) : (s.ledgerReclose reason).still = s.still := by
  unfold State.ledgerReclose
  repeat' (first
    | with_reducible rfl
    | intro _
    | simp only [State.entryCheck_still, State.failItem_still, State.recordRenew_still, apply_ite State.still, ite_self]
    | split
    | refine (State.each_still _ _ _ ?_).trans ?_)

theorem State.lanesRow_still (s : State) (late : Bool) : (s.lanesRow late).still = s.still := by
  unfold State.lanesRow
  (repeat' split) <;> simp only [State.startFail_still, State.startFlag_still, State.stepNext_still]

theorem State.plantRow_still (s : State) (late : Bool) : (s.plantRow late).still = s.still := by
  unfold State.plantRow
  simp only [State.startFail_still, State.startFlag_still, State.stepNext_still, apply_ite State.still, ite_self]

theorem State.regionsRow_still (s : State) : s.regionsRow.still = s.still := by
  unfold State.regionsRow
  repeat' (first
    | with_reducible rfl
    | intro _
    | simp only [State.ageStart_still, State.ffInit_still, State.setStart_still, State.startFail_still,
    State.startFlag_still, State.stepNext_still, apply_ite State.still, ite_self]
    | split
    | refine (foldl_still _ ?_ _ _).trans ?_)

theorem State.regionStart_still (s : State) (g : Nat) : (s.regionStart g).still = s.still := by
  unfold State.regionStart
  split <;> simp only [State.compEnter_still, State.dampersFresh_still, State.ffInit_still, State.fwdReload_still,
    State.gateShow_still, State.setRegion_still, State.swWuClear_still]

theorem State.regionRelease_still (s : State) (g c : Nat) : (s.regionRelease g c).still = s.still := by
  unfold State.regionRelease
  simp only [State.put_still, State.putB_still, State.regionStart_still, State.setSlot_still]

theorem State.twinRecord_still (s : State) : s.twinRecord.still = s.still := by
  unfold State.twinRecord
  split <;> simp only [State.put_still, State.putB_still]

theorem State.passStart_still (s : State) (g : Nat) : (s.passStart g).still = s.still := by
  unfold State.passStart
  simp only [State.putB_still, State.setScrub_still, apply_ite State.still, ite_self]

theorem State.releaseRow_still (s : State) (twinsel : Bool) : (s.releaseRow twinsel).still = s.still := by
  unfold State.releaseRow
  repeat' (first
    | with_reducible rfl
    | intro _
    | simp only [State.still_mk, State.still_fold, State.dmpShow_still, State.fuseStart_still, State.gateShow_still,
    State.passStart_still, State.putB_still, State.regionRelease_still, State.setStart_still, State.startUpdate_still,
    State.streamEnable_still, State.twinRecord_still, apply_ite State.still, ite_self]
    | split
    | refine (State.each_still _ _ _ ?_).trans ?_
    | refine (foldl_still _ ?_ _ _).trans ?_)

theorem State.pdNext_still (s : State) (n : Nat) : (s.pdNext n).still = s.still := by
  unfold State.pdNext
  split <;> simp only [State.pdRun_still, State.putB_still, State.pwrShow_still, State.setPwr_still]

theorem State.regionDark_still (s : State) (g : Nat) : (s.regionDark g).still = s.still := by
  unfold State.regionDark
  repeat' (first
    | with_reducible rfl
    | intro _
    | simp only [State.dmpShow_still, State.fabShow_still, State.gateShow_still, State.put_still, State.scrubStop_still,
    State.setAdapter_still, State.setRegion_still, State.setRst_still]
    | refine (State.each_still _ _ _ ?_).trans ?_)

theorem State.slotsGone_still (s : State) (g : Nat) : (s.slotsGone g).still = s.still := by
  unfold State.slotsGone
  repeat' (first
    | with_reducible rfl
    | intro _
    | simp only [State.still_mk, State.still_fold, State.put_still, State.putB_still, State.wr_still]
    | refine (State.each_still _ _ _ ?_).trans ?_)

theorem State.linkDrop_still (s : State) : s.linkDrop.still = s.still := by
  unfold State.linkDrop
  repeat' (first
    | with_reducible rfl
    | intro _
    | simp only [State.still_mk, State.still_fold, State.dmaFail_still, State.mbxDrop_still, State.raise_still,
    State.setUsb_still, State.wr_still, apply_ite State.still, ite_self]
    | split
    | refine (State.each_still _ _ _ ?_).trans ?_)

theorem State.domainOn_still (s : State) (n : Nat) : (s.domainOn n).still = s.still := by
  unfold State.domainOn
  repeat' (first
    | with_reducible rfl
    | intro _
    | simp only [State.dmpShow_still, State.laneStart_still, State.openPorts_still, State.pdNext_still, State.pllStart_still,
    State.regionStart_still, State.setPd_still, apply_ite State.still, ite_self]
    | split
    | refine (State.each_still _ _ _ ?_).trans ?_)

theorem State.avsFault_still (s : State) : s.avsFault.still = s.still := by
  unfold State.avsFault
  simp only [State.raise_still, State.report_still, State.setPwr_still, State.vcclSettle_still]

theorem State.pmbSend_still (s : State) (code : Nat) : (s.pmbSend code).still = s.still := by
  unfold State.pmbSend
  split <;> simp only [State.put_still]

theorem State.avsPoll_still (s : State) (mv : Nat) (fault pec : Bool) : (s.avsPoll mv fault pec).still = s.still := by
  unfold State.avsPoll
  simp only [State.avsFault_still, State.bump_still, State.pmbSend_still, State.put_still, State.setPwr_still,
    apply_ite State.still, ite_self]

theorem State.avsStep_still (s : State) : s.avsStep.still = s.still := by
  unfold State.avsStep
  simp only [State.pmbSend_still, State.put_still, State.vcclSettle_still, apply_ite State.still, ite_self]

theorem State.fpllLock_still (s : State) (k : Nat) : (s.fpllLock k).still = s.still := by
  unfold State.fpllLock
  repeat' (first
    | with_reducible rfl
    | intro _
    | simp only [State.fwdReload_still, State.gateShow_still, State.putB_still, State.setBit_still, apply_ite State.still,
    ite_self]
    | split
    | refine (State.each_still _ _ _ ?_).trans ?_)

theorem State.fpllLost_still (s : State) (k : Nat) : (s.fpllLost k).still = s.still := by
  unfold State.fpllLost
  repeat' (first
    | with_reducible rfl
    | intro _
    | simp only [State.clrBit_still, State.gateShow_still, State.putB_still, State.raise_still, apply_ite State.still]
    | split
    | refine (State.each_still _ _ _ ?_).trans ?_)

theorem State.holdTry_still (s : State) (g : Nat) : (s.holdTry g).still = s.still := by
  unfold State.holdTry
  simp only [State.holdWork_still, apply_ite State.still, ite_self]

theorem State.gatesEdge_still (s : State) (g : Nat) : (s.gatesEdge g).still = s.still := by
  unfold State.gatesEdge
  simp only [State.setRegion_still, State.thaw_still, State.ungate_still, apply_ite State.still, ite_self]

theorem State.ackHolds_still (s : State) (g : Nat) : (s.ackHolds g).still = s.still := by
  unfold State.ackHolds
  repeat' (first
    | with_reducible rfl
    | intro _
    | simp only [State.bump_still, State.setRegion_still, apply_ite State.still, ite_self]
    | split
    | refine (State.each_still _ _ _ ?_).trans ?_)

theorem State.takeDeferred_still (s : State) (g : Nat) : (s.takeDeferred g).still = s.still := by
  unfold State.takeDeferred
  simp only [State.holdAsk_still, State.setRegion_still, apply_ite State.still, ite_self]

theorem State.serviceEdge_still (s p : State) (g sub : Nat) : (s.serviceEdge p g sub).still = s.still := by
  unfold State.serviceEdge
  repeat' (first
    | with_reducible rfl
    | intro _
    | simp only [State.cmpPortWrite_still, State.fwdReload_still, State.setRegion_still, State.sgPost_still,
    apply_ite State.still, ite_self]
    | split
    | refine (State.each_still _ _ _ ?_).trans ?_)

theorem State.ledgerPost_still (s : State) (port stn verd : Nat) (code : Half) (idv : Bool) (id : Word) : (s.ledgerPost port stn verd code idv id).still = s.still := by
  unfold State.ledgerPost
  simp only [State.still_mk, State.still_fold, apply_ite State.still, ite_self]

theorem State.ledgerEdge_still (s p : State) (g sub : Nat) (runs : Bool) : (s.ledgerEdge p g sub runs).still = s.still := by
  unfold State.ledgerEdge
  repeat' (first
    | with_reducible rfl
    | intro _
    | simp only [State.ledgerPost_still, apply_ite State.still, ite_self]
    | split
    | refine (State.each_still _ _ _ ?_).trans ?_)

theorem State.halfStep_still (s : State) (rising : Bool) (g : Nat) : (s.halfStep rising g).still = s.still := by
  unfold State.halfStep
  simp only [State.setRegion_still]

theorem State.bankEdge_still (s : State) (g : Nat) : (s.bankEdge g).still = s.still := by
  unfold State.bankEdge
  simp only [State.still_mk, State.still_fold]

theorem State.jobEnd_still (s : State) (j : BankJob) : (s.jobEnd j).still = s.still := by
  unfold State.jobEnd
  simp only [State.still_mk, State.still_fold, State.settle_still]

theorem State.handoverDropped_still (s : State) (n : Nat) : (s.handoverDropped n).still = s.still := by
  unfold State.handoverDropped
  split <;> simp only [State.still_mk, State.still_fold, State.put_still, State.putB_still, State.raise_still]

theorem State.marchAborted_still (s : State) (n : Nat) : (s.marchAborted n).still = s.still := by
  unfold State.marchAborted
  split <;> simp only [State.still_mk, State.still_fold, State.put_still]

theorem State.reclaimFence_still (s : State) (n : Nat) : (s.reclaimFence n).still = s.still := by
  unfold State.reclaimFence
  simp only [State.handoverDropped_still, State.marchAborted_still, State.putB_still]

theorem State.reclaimDrain_still (s : State) (n : Nat) : (s.reclaimDrain n).still = s.still := by
  unfold State.reclaimDrain
  repeat' (first
    | with_reducible rfl
    | intro _
    | simp only [State.still_mk, State.still_fold, State.jobEnd_still, State.reclaimFence_still]
    | split
    | refine (foldl_still _ ?_ _ _).trans ?_)

theorem State.reclaimEnd_still (s : State) (n : Nat) : (s.reclaimEnd n).still = s.still := by
  unfold State.reclaimEnd
  repeat' (first
    | with_reducible rfl
    | intro _
    | simp only [State.still_mk, State.still_fold, State.answerWith_still, State.putB_still, State.raise_still,
    State.setOwner_still]
    | split)

theorem State.reclaimEdge_still (s : State) (c : Nat) (late : Bool) : (s.reclaimEdge c late).still = s.still := by
  unfold State.reclaimEdge
  (repeat' split) <;> simp only [State.reclaimDrain_still, State.reclaimEnd_still]

theorem State.ledgerAcks_still (s : State) (g : Nat) : (s.ledgerAcks g).still = s.still := by
  unfold State.ledgerAcks
  repeat' (first
    | with_reducible rfl
    | intro _
    | simp only [State.still_mk, State.still_fold, apply_ite State.still, ite_self]
    | split
    | refine (State.each_still _ _ _ ?_).trans ?_)

theorem State.setForce_still (s : State) (a : Nat) (v : Word) : (s.setForce a v).still = s.still := by
  unfold State.setForce
  simp only [State.still_mk, State.still_fold]

theorem State.setCmp_still (s : State) (n : Nat) (t : Target) : (s.setCmp n t).still = s.still := by
  unfold State.setCmp
  simp only [State.still_mk, State.still_fold]

theorem State.cmpShow_still (s : State) (n : Nat) (o : TargetOut) : (s.cmpShow n o).still = s.still := by
  unfold State.cmpShow
  simp only [State.bump_still, State.put_still, State.putB_still, State.raise_still, State.setBit_still,
    State.setForce_still, apply_ite State.still, ite_self]

theorem State.cmpEnter_still (s : State) (n : Nat) : (s.cmpEnter n).still = s.still := by
  unfold State.cmpEnter
  simp only [State.cmpShow_still, State.setCmp_still]

theorem State.cmpForce_still (s : State) (n : Nat) (p : EvtPend) : (s.cmpForce n p).still = s.still := by
  unfold State.cmpForce
  simp only [State.cmpEnter_still, State.cmpShow_still, State.setCmp_still, State.setForce_still, apply_ite State.still,
    ite_self]

theorem State.cmpsTick_still (s : State) : (s.cmpsTick).1.still = s.still := by
  unfold State.cmpsTick
  repeat' (first
    | with_reducible rfl
    | intro _
    | simp only [State.cmpShow_still, State.setCmp_still]
    | split
    | refine (foldl_still _ ?_ _ _).trans ?_
    | refine (foldl_still_fst _ ?_ _ _).trans ?_)

theorem State.edgDrive_still (s : State) (n inst : Nat) (lv : Bool) : (s.edgDrive n inst lv).still = s.still := by
  unfold State.edgDrive
  simp only [State.still_mk, State.still_fold, State.putB_still, State.setEdge_still]

theorem State.edgShow_still (s : State) (n : Nat) : (s.edgShow n).still = s.still := by
  unfold State.edgShow
  simp only [State.put_still, State.putB_still]

theorem State.edgDisarm_still (s : State) (n : Nat) : (s.edgDisarm n).still = s.still := by
  unfold State.edgDisarm
  simp only [State.edgShow_still, State.put_still, State.setEdge_still, State.setForce_still, apply_ite State.still, ite_self]

theorem State.gateTell_still (s : State) (p : EdgePair) (ok : Bool) : (s.gateTell p ok).still = s.still := by
  unfold State.gateTell
  split <;> simp only [State.still_mk, State.still_fold]

theorem State.edgAdvance_still (s : State) (n : Nat) : (s.edgAdvance n).still = s.still := by
  unfold State.edgAdvance
  simp only [State.edgFlag_still, State.setEdge_still, apply_ite State.still, ite_self]

theorem State.edgEnter_still (s : State) (n : Nat) : (s.edgEnter n).still = s.still := by
  unfold State.edgEnter
  repeat' (first
    | with_reducible rfl
    | intro _
    | simp only [State.edgAdvance_still, State.edgDisarm_still, State.edgFlag_still, State.gateTell_still,
    State.setEdge_still, apply_ite State.still, ite_self]
    | split)

theorem State.edgClrEnter_still (s : State) (n : Nat) : (s.edgClrEnter n).still = s.still := by
  unfold State.edgClrEnter
  simp only [State.edgFlag_still, State.setEdge_still, apply_ite State.still, ite_self]

theorem State.edgHeads_still (s : State) (n : Nat) (y0 : Nat) : (s.edgHeads n y0).still = s.still := by
  induction y0 generalizing s with
  | zero => rfl
  | succ k ih =>
    unfold State.edgHeads
    dsimp only
    split
    · rfl
    · split
      · exact (ih _).trans (State.edgEnter_still ..)
      · exact State.edgEnter_still ..

theorem State.edgPop_still (s : State) (n : Nat) : (s.edgPop n).still = s.still := by
  unfold State.edgPop
  simp only [State.edgHeads_still, State.setEdge_still]

theorem State.edgMiss_still (s : State) (n : Nat) : (s.edgMiss n).still = s.still := by
  unfold State.edgMiss
  repeat' (first
    | with_reducible rfl
    | intro _
    | simp only [State.edgAdvance_still, State.edgDisarm_still, State.edgFlag_still, State.edgPop_still,
    State.gateTell_still, apply_ite State.still, ite_self]
    | split)

theorem State.edgClear_still (s : State) (n inst : Nat) : (s.edgClear n inst).still = s.still := by
  unfold State.edgClear
  simp only [State.edgAdvance_still, State.edgDisarm_still, State.edgDrive_still, State.edgFlag_still, State.edgPop_still,
    State.setEdge_still, apply_ite State.still, ite_self]

theorem State.edgRise_still (s : State) (n inst : Nat) (p : EdgePair) : (s.edgRise n inst p).still = s.still := by
  unfold State.edgRise
  simp only [State.edgDrive_still, State.setEdge_still]

theorem State.edgClrTick_still (s : State) (n : Nat) (p : EdgePair) (justSet : Bool) : (s.edgClrTick n p justSet).still = s.still := by
  unfold State.edgClrTick
  repeat' (first
    | with_reducible rfl
    | intro _
    | simp only [State.edgClear_still, State.edgFlag_still, State.setEdge_still, apply_ite State.still, ite_self]
    | split)

theorem State.edgPairTick_still (s : State) (n : Nat) : (s.edgPairTick n).still = s.still := by
  unfold State.edgPairTick
  repeat' (first
    | with_reducible rfl
    | intro _
    | simp only [State.edgClrTick_still, State.edgFlag_still, State.edgMiss_still, State.edgRise_still, State.gateTell_still,
    State.setEdge_still, apply_ite State.still, ite_self]
    | split)

theorem State.edgEveryTick_still (s : State) (n : Nat) : (s.edgEveryTick n).still = s.still := by
  unfold State.edgEveryTick
  repeat' (first
    | with_reducible rfl
    | intro _
    | simp only [State.edgClear_still, State.edgDrive_still, State.edgFlag_still, State.setEdge_still, apply_ite State.still,
    ite_self]
    | split)

theorem State.edgEntry_still (s : State) (n : Nat) : (s.edgEntry n).still = s.still := by
  unfold State.edgEntry
  simp only [State.edgHeads_still, State.edgShow_still, State.setEdge_still, apply_ite State.still, ite_self]

theorem State.edgTick_still (s : State) (n : Nat) : (s.edgTick n).still = s.still := by
  unfold State.edgTick
  repeat' (first
    | with_reducible rfl
    | intro _
    | simp only [State.edgEntry_still, State.edgEveryTick_still, State.edgPairTick_still, State.edgShow_still,
    apply_ite State.still, ite_self]
    | split
    | refine (State.each_still _ _ _ ?_).trans ?_)

theorem State.edgesTick_still (s : State) : s.edgesTick.still = s.still := by
  unfold State.edgesTick
  repeat' (first
    | with_reducible rfl
    | intro _
    | simp only [State.edgTick_still]
    | refine (State.each_still _ _ _ ?_).trans ?_)

theorem State.edgFlush_still (s : State) (n : Nat) : (s.edgFlush n).still = s.still := by
  unfold State.edgFlush
  repeat' (first
    | with_reducible rfl
    | intro _
    | simp only [State.gateTell_still, State.setEdge_still, apply_ite State.still, ite_self]
    | split
    | refine (foldl_still _ ?_ _ _).trans ?_)

theorem State.edgArm_still (s : State) (n : Nat) : (s.edgArm n).still = s.still := by
  unfold State.edgArm
  simp only [State.edgClrEnter_still, State.edgEnter_still, State.edgHeads_still, State.edgShow_still, State.setEdge_still,
    State.setForce_still, apply_ite State.still, ite_self]

theorem State.edgForce_still (s : State) (n : Nat) (p : EvtPend) : (s.edgForce n p).still = s.still := by
  unfold State.edgForce
  simp only [State.edgArm_still, State.edgClrEnter_still, State.edgDrive_still, State.edgEnter_still, State.edgFlush_still,
    State.edgShow_still, State.setEdge_still, State.setForce_still, apply_ite State.still, ite_self]

theorem State.edgPush_still (s : State) (n : Nat) (p : EdgePair) : (s.edgPush n p).still = s.still := by
  unfold State.edgPush
  simp only [State.edgFlag_still, State.edgHeads_still, State.edgShow_still, State.setEdge_still, apply_ite State.still,
    ite_self]

theorem State.capArm_still (s : State) (n : Nat) : (s.capArm n).still = s.still := by
  unfold State.capArm
  simp only [State.capShow_still, State.setCap_still, State.setForce_still]

theorem State.capForce_still (s : State) (n : Nat) (p : EvtPend) : (s.capForce n p).still = s.still := by
  unfold State.capForce
  simp only [State.capArm_still, State.capShow_still, State.setCap_still, State.setForce_still, apply_ite State.still, ite_self]

theorem State.forceOne_still (s : State) (p : EvtPend) : (s.forceOne p).still = s.still := by
  unfold State.forceOne
  simp only [State.capForce_still, State.cmpForce_still, State.edgForce_still, apply_ite State.still, ite_self]

theorem State.evtDue_still (s : State) : s.evtDue.still = s.still := by
  unfold State.evtDue
  repeat' (first
    | with_reducible rfl
    | intro _
    | simp only [State.still_mk, State.still_fold, State.capArm_still, State.edgArm_still, State.forceOne_still,
    State.put_still, apply_ite State.still, ite_self]
    | split
    | refine (foldl_still _ ?_ _ _).trans ?_)

theorem State.edgTrigger_still (s : State) (n sub : Nat) : (s.edgTrigger n sub).still = s.still := by
  unfold State.edgTrigger
  split <;> simp only [State.edgPush_still]

theorem State.xDrop_still (s : State) : s.xDrop.still = s.still := by
  unfold State.xDrop
  simp only [State.bump_still, State.raise_still]

theorem State.tableFail_still (s : State) (table n : Nat) (stage : Bool) : (s.tableFail table n stage).still = s.still := by
  unfold State.tableFail
  simp only [State.bump_still, State.put_still, State.putB_still, State.raise_still, State.report_still]

theorem State.restage_still (s : State) (g : Nat) : (s.restage g).still = s.still := by
  unfold State.restage
  repeat' (first
    | with_reducible rfl
    | intro _
    | simp only [State.put_still, State.setXbar_still, State.wr_still, State.xbarShow_still]
    | split
    | refine (State.each_still _ _ _ ?_).trans ?_)

theorem State.commitNow_still (s : State) (g : Nat) : (s.commitNow g).still = s.still := by
  unfold State.commitNow
  repeat' (first
    | with_reducible rfl
    | intro _
    | simp only [State.bump_still, State.raise_still, State.setXbar_still, State.tableFail_still, State.wr_still,
    State.xDrop_still, State.xbarShow_still]
    | split
    | refine (foldl_still _ ?_ _ _).trans ?_)

theorem State.pinsLog_still (s : State) : s.pinsLog.still = s.still := by
  unfold State.pinsLog
  simp only [State.still_mk, State.still_fold]

theorem State.filterStep_still (s : State) (n now : Nat) : (s.filterStep n now).still = s.still := by
  unfold State.filterStep
  simp only [State.setXbar_still]

theorem State.pinSense_still (s : State) (n now : Nat) : (s.pinSense n now).still = s.still := by
  unfold State.pinSense
  simp only [State.filterStep_still, State.setBit_still, State.setXbar_still, apply_ite State.still, ite_self]

theorem State.padSample_still (s : State) : s.padSample.still = s.still := by
  unfold State.padSample
  repeat' (first
    | with_reducible rfl
    | intro _
    | simp only [State.wr_still, apply_ite State.still, ite_self]
    | split
    | refine (State.each_still _ _ _ ?_).trans ?_)

theorem State.pinForceNow_still (s : State) (n : Nat) (v : Word) : (s.pinForceNow n v).still = s.still := by
  unfold State.pinForceNow
  simp only [State.pinSense_still, State.setXbar_still]

theorem State.xbarRun_still (s : State) : s.xbarRun.still = s.still := by
  unfold State.xbarRun
  repeat' (first
    | with_reducible rfl
    | intro _
    | simp only [State.still_mk, State.still_fold, State.commitNow_still, State.padSample_still, State.pinForceNow_still,
    State.pinSense_still, State.raise_still, State.restage_still, State.setXbar_still, State.xDrop_still,
    apply_ite State.still, ite_self]
    | split
    | refine (State.each_still _ _ _ ?_).trans ?_
    | refine (foldl_still _ ?_ _ _).trans ?_)

theorem State.tableAct_still (s : State) (table n : Nat) : (s.tableAct table n).still = s.still := by
  unfold State.tableAct
  split <;> simp only [State.restage_still, State.setXbar_still, State.tableFail_still, State.wr_still]

theorem State.tableSweep_still (s : State) : s.tableSweep.still = s.still := by
  unfold State.tableSweep
  repeat' (first
    | with_reducible rfl
    | intro _
    | simp only [State.setXbar_still, State.tableAct_still]
    | refine (foldl_still _ ?_ _ _).trans ?_)

theorem State.pinChange_still (s : State) (n ext : Nat) : (s.pinChange n ext).still = s.still := by
  unfold State.pinChange
  simp only [State.still_mk, State.still_fold, State.pinSense_still, State.setXbar_still]

theorem State.vccio_still (s : State) (k code : Nat) : (s.vccio k code).still = s.still := by
  unfold State.vccio
  simp only [State.padSample_still, State.put_still]

theorem State.rtcTick_still (s : State) : s.rtcTick.still = s.still := by
  unfold State.rtcTick
  simp only [State.still_mk, State.still_fold, apply_ite State.still, ite_self]

theorem State.tickActions_still (s : State) (acts : List (Nat × Nat)) (groups : List Nat) : (s.tickActions acts groups).still = s.still := by
  unfold State.tickActions
  repeat' (first
    | with_reducible rfl
    | intro _
    | simp only [State.still_mk, State.still_fold, State.commitAt_still, State.sgPostTick_still]
    | refine (State.each_still _ _ _ ?_).trans ?_)

theorem State.birthsTick_still (s : State) : s.birthsTick.still = s.still := by
  unfold State.birthsTick
  repeat' (first
    | with_reducible rfl
    | intro _
    | simp only [State.births_still, State.streamDue_still]
    | refine (State.each_still _ _ _ ?_).trans ?_)

theorem State.distTick_still (s : State) : s.distTick.still = s.still := by
  unfold State.distTick
  repeat' (first
    | with_reducible rfl
    | intro _
    | simp only [State.setStream_still, apply_ite State.still, ite_self]
    | split
    | refine (State.each_still _ _ _ ?_).trans ?_)

theorem State.axisLostClose_still (s : State) (n : Nat) : (s.axisLostClose n).still = s.still := by
  unfold State.axisLostClose
  simp only [State.still_mk, State.still_fold, State.setStream_still]

theorem State.stationsTick_still (s : State) : s.stationsTick.still = s.still := by
  unfold State.stationsTick
  repeat' (first
    | with_reducible rfl
    | intro _
    | simp only [State.axisLostClose_still, State.itemEvents_still, State.lgrRun_still, State.trackTick_still,
    apply_ite State.still, ite_self]
    | split
    | refine (State.each_still _ _ _ ?_).trans ?_)

theorem State.ledgerTick_still (s : State) : s.ledgerTick.still = s.still := by
  unfold State.ledgerTick
  simp only [State.birthsTick_still, State.distTick_still, State.mirrorTick_still, State.stationsTick_still,
    apply_ite State.still, ite_self]

theorem State.gateResults_still (s : State) : s.gateResults.still = s.still := by
  unfold State.gateResults
  repeat' (first
    | with_reducible rfl
    | intro _
    | simp only [State.still_mk, State.still_fold, State.entryCheck_still, State.raise_still, State.setEntry_still,
    apply_ite State.still, ite_self]
    | split
    | refine (foldl_still _ ?_ _ _).trans ?_)

theorem State.applyAxis_still (s : State) (n : Nat) : (s.applyAxis n).still = s.still := by
  unfold State.applyAxis
  repeat' (first
    | with_reducible rfl
    | intro _
    | simp only [State.still_mk, State.still_fold, State.setAxis_still, State.wr_still, apply_ite State.still, ite_self]
    | split
    | refine (State.each_still _ _ _ ?_).trans ?_)

theorem State.applyNow_still (s : State) (mask : Nat) : (s.applyNow mask).still = s.still := by
  unfold State.applyNow
  repeat' (first
    | with_reducible rfl
    | intro _
    | simp only [State.applyAxis_still, State.put_still, State.raise_still]
    | split
    | refine (State.each_still _ _ _ ?_).trans ?_)

theorem State.applyDue_still (s : State) : s.applyDue.still = s.still := by
  unfold State.applyDue
  repeat' (first
    | with_reducible rfl
    | intro _
    | simp only [State.still_mk, State.still_fold, State.applyNow_still]
    | refine (foldl_still _ ?_ _ _).trans ?_)

theorem State.axGoto_still (s : State) (n st : Nat) : (s.axGoto n st).still = s.still := by
  unfold State.axGoto
  split <;> simp only [State.put_still, State.setBit_still]

theorem State.axEdges_still (s : State) (n : Nat) : (s.axEdges n).1.still = s.still := by
  unfold State.axEdges
  repeat' (first
    | with_reducible rfl
    | intro _
    | simp only [State.axGoto_still, State.putB_still, State.setAxis_still, apply_ite State.still, ite_self]
    | split)

theorem State.axShow_still (s : State) (n : Nat) : (s.axShow n).still = s.still := by
  unfold State.axShow
  simp only [State.putB_still, State.wr_still, apply_ite State.still, ite_self]

theorem State.axGotoCause_still (s : State) (n st cause : Nat) : (s.axGotoCause n st cause).still = s.still := by
  unfold State.axGotoCause
  simp only [State.axGoto_still, State.put_still]

theorem State.followSource_still (s : State) (n src : Nat) : (s.followSource n src).still = s.still := by
  unfold State.followSource
  simp only [State.setAxis_still, apply_ite State.still, ite_self]

theorem State.leaveLocked_still (s : State) (n cause : Nat) : (s.leaveLocked n cause).still = s.still := by
  unfold State.leaveLocked
  split <;> simp only [State.axGotoCause_still]

theorem State.derivedTick_still (s : State) (n : Nat) : (s.derivedTick n).still = s.still := by
  unfold State.derivedTick
  simp only [State.axGoto_still, State.axGotoCause_still, State.followSource_still, State.leaveLocked_still,
    State.setAxis_still, apply_ite State.still, ite_self]

theorem State.relock_still (s : State) (n : Nat) (a : Axis) (t : DWord) : (s.relock n a t).still = s.still := by
  unfold State.relock
  simp only [State.axGoto_still, State.axGotoCause_still, State.setAxis_still, apply_ite State.still, ite_self]

theorem State.encTick_still (s : State) (n : Nat) : (s.encTick n).still = s.still := by
  unfold State.encTick
  repeat' (first
    | with_reducible rfl
    | intro _
    | simp only [State.axGoto_still, State.axGotoCause_still, State.leaveLocked_still, State.relock_still,
    State.setAxis_still, apply_ite State.still, ite_self]
    | split)

theorem State.remoteTick_still (s : State) (n : Nat) : (s.remoteTick n).still = s.still := by
  unfold State.remoteTick
  simp only [State.axGoto_still, State.leaveLocked_still, State.relock_still, State.setAxis_still, apply_ite State.still,
    ite_self]

theorem State.setAxOffset_still (s : State) (n : Nat) (v : DWord) : (s.setAxOffset n v).still = s.still := by
  unfold State.setAxOffset
  simp only [State.wr_still]

theorem State.trimTick_still (s : State) (n : Nat) : (s.trimTick n).still = s.still := by
  unfold State.trimTick
  simp only [State.setAxOffset_still, State.setAxis_still, State.wr_still, apply_ite State.still, ite_self]

theorem State.virtualTick_still (s : State) (n : Nat) : (s.virtualTick n).still = s.still := by
  unfold State.virtualTick
  split <;> simp only [State.still_mk, State.still_fold, State.setAxis_still]

theorem State.axisTick_still (s : State) (n : Nat) : (s.axisTick n).still = s.still := by
  unfold State.axisTick
  repeat' (first
    | with_reducible rfl
    | intro _
    | simp only [State.axEdges_still, State.axShow_still, State.derivedTick_still, State.encTick_still,
    State.remoteTick_still, State.setAxis_still, State.trimTick_still, State.virtualTick_still, apply_ite State.still, ite_self]
    | split)

theorem State.snapTake_still (s : State) : s.snapTake.still = s.still := by
  unfold State.snapTake
  repeat' (first
    | with_reducible rfl
    | intro _
    | simp only [State.still_mk, State.still_fold, State.putB_still, State.raise_still, State.wr_still]
    | split
    | refine (State.each_still _ _ _ ?_).trans ?_)

theorem State.axesTick_still (s : State) : s.axesTick.still = s.still := by
  unfold State.axesTick
  repeat' (first
    | with_reducible rfl
    | intro _
    | simp only [State.still_mk, State.still_fold, State.applyDue_still, State.axisTick_still, State.setAxis_still,
    State.snapTake_still]
    | refine (State.each_still _ _ _ ?_).trans ?_)

theorem State.lanesTick_still (s : State) : s.lanesTick.still = s.still := by
  unfold State.lanesTick
  repeat' (first
    | with_reducible rfl
    | intro _
    | simp only [State.setStage_still, apply_ite State.still, ite_self]
    | split
    | refine (State.each_still _ _ _ ?_).trans ?_)

theorem State.bankResult_still (s : State) (q : BankReq) (rdata : DWord) (stat : Nat) : (s.bankResult q rdata stat).still = s.still := by
  unfold State.bankResult
  simp only [State.still_mk, State.still_fold]

theorem State.portGate_still (s : State) (q : BankReq) : (s.portGate q).1.still = s.still := by
  unfold State.portGate
  simp only [State.bankGate_still]

theorem State.readClears_still (s : State) (op : Nat) (q : BankReq) : (s.readClears op q).still = s.still := by
  unfold State.readClears
  split <;> simp only [State.still_mk, State.still_fold]

theorem State.metResult_still (s : State) (q : BankReq) (rdata : DWord) (coll : Bool) : (s.metResult q rdata coll).still = s.still := by
  unfold State.metResult
  split <;> simp only [State.bankCount_still, State.bankResult_still]

theorem State.handover_still (s : State) (n : Nat) : (s.handover n).still = s.still := by
  unfold State.handover
  (repeat' split) <;> simp only [State.still_mk, State.still_fold, State.putB_still, State.setOwner_still]

theorem State.takeResponse_still (s : State) (ini tag : Nat) : (s.takeResponse ini tag).still = s.still := by
  unfold State.takeResponse
  repeat' (first
    | with_reducible rfl
    | intro _
    | simp only [State.still_mk, State.still_fold, State.bump_still, State.complete_still, apply_ite State.still, ite_self]
    | split)

theorem State.targetTimeout_still (s : State) (ep : Nat) : (s.targetTimeout ep).still = s.still := by
  unfold State.targetTimeout
  split <;> simp only [State.answerOwed_still, State.bump_still, State.raise_still, State.report_still, State.setPort_still]

theorem State.initiatorTimeout_still (s : State) (ini tag : Nat) : (s.initiatorTimeout ini tag).still = s.still := by
  unfold State.initiatorTimeout
  split <;> simp only [State.still_mk, State.still_fold, State.complete_still, State.raise_still]

theorem State.sendWait_still (s : State) (ep : Nat) : (s.sendWait ep).still = s.still := by
  unfold State.sendWait
  repeat' (first
    | with_reducible rfl
    | intro _
    | simp only [State.respond_still]
    | refine (foldl_still _ ?_ _ _).trans ?_)

theorem State.portClosed_still (s : State) (ep : Nat) : (s.portClosed ep).still = s.still := by
  unfold State.portClosed
  simp only [State.raise_still, State.setPort_still, apply_ite State.still, ite_self]

theorem State.flipEnd_still (s : State) : s.flipEnd.still = s.still := by
  unfold State.flipEnd
  repeat' (first
    | with_reducible rfl
    | intro _
    | simp only [State.still_mk, State.still_fold, State.put_still, State.putB_still, State.raise_still, apply_ite State.still]
    | split
    | refine (State.each_still _ _ _ ?_).trans ?_)

theorem State.drained_still (s : State) : s.drained.still = s.still := by
  unfold State.drained
  split <;> simp only [State.putB_still, State.raise_still]

theorem State.sweepEnd_still (s : State) (k r : Nat) : (s.sweepEnd k r).still = s.still := by
  unfold State.sweepEnd
  simp only [State.still_mk, State.still_fold, State.bumpWrap_still, State.clrBit_still, State.put_still, State.putB_still,
    State.raise_still, apply_ite State.still, ite_self]

theorem State.sweepLines_still (s : State) (k r : Nat) : (s.sweepLines k r).still = s.still := by
  unfold State.sweepLines
  repeat' (first
    | with_reducible rfl
    | intro _
    | simp only [State.still_mk, State.still_fold, State.pcGrant_still, State.put_still, State.sweepEnd_still,
    State.treeGrants_still, apply_ite State.still, ite_self]
    | split
    | refine (foldl_still _ ?_ _ _).trans ?_)

theorem State.hbmRefresh_still (s : State) (k : Nat) (temp : BitVec 8) : (s.hbmRefresh k temp).still = s.still := by
  unfold State.hbmRefresh
  simp only [State.still_mk, State.still_fold, State.put_still, State.raise_still, apply_ite State.still, ite_self]

theorem State.perEnd_still (s : State) (k : Nat) (flush : Bool) : (s.perEnd k flush).still = s.still := by
  unfold State.perEnd
  simp only [State.perNext_still, State.perShow_still, State.raise_still, State.setPerUnit_still, apply_ite State.still,
    ite_self]

theorem State.perReceive_still (s : State) (k : Nat) (v : Word) : (s.perReceive k v).still = s.still := by
  unfold State.perReceive
  simp only [State.perShow_still, State.raise_still, State.setPerUnit_still, apply_ite State.still, ite_self]

theorem State.encFault_still (s : State) (n : Nat) (f : Field) : (s.encFault n f).still = s.still := by
  unfold State.encFault
  repeat' (first
    | with_reducible rfl
    | intro _
    | simp only [State.bump_still, State.failAxes_still, State.perEvents_still, State.raise_still, State.setAxis_still,
    apply_ite State.still, ite_self]
    | split
    | refine (State.each_still _ _ _ ?_).trans ?_)

theorem State.countTo_still (s : State) (n : Nat) (c : Int) (sub : Nat) : (s.countTo n c sub).still = s.still := by
  unfold State.countTo
  simp only [State.setAxis_still]

theorem State.countAxes_still (s : State) (enc : Nat) (d : Int) (sub : Nat) : (s.countAxes enc d sub).still = s.still := by
  unfold State.countAxes
  repeat' (first
    | with_reducible rfl
    | intro _
    | simp only [State.countTo_still]
    | refine (State.each_still _ _ _ ?_).trans ?_)

theorem State.encEdge_still (s : State) (n : Nat) (a b : Bool) (sub : Nat) : (s.encEdge n a b sub).still = s.still := by
  unfold State.encEdge
  simp only [State.still_mk, State.still_fold, State.countAxes_still, State.encFault_still, State.putB_still, State.wr_still,
    apply_ite State.still, ite_self]

theorem State.ssiEnd_still (s : State) (n : Nat) : (s.ssiEnd n).still = s.still := by
  unfold State.ssiEnd
  simp only [State.still_mk, State.still_fold]

theorem State.ssiAxes_still (s : State) (enc p sub : Nat) : (s.ssiAxes enc p sub).still = s.still := by
  unfold State.ssiAxes
  repeat' (first
    | with_reducible rfl
    | intro _
    | simp only [State.countTo_still, State.setAxis_still, apply_ite State.still, ite_self]
    | split
    | refine (State.each_still _ _ _ ?_).trans ?_)

theorem State.ssiFrame_still (s : State) (n : Nat) (data : DWord) (sub : Nat) : (s.ssiFrame n data sub).still = s.still := by
  unfold State.ssiFrame
  simp only [State.still_mk, State.still_fold, State.encFault_still, State.put_still, State.putB_still, State.ssiAxes_still,
    State.ssiEnd_still, apply_ite State.still, ite_self]

theorem State.ssiTimeout_still (s : State) (n : Nat) : (s.ssiTimeout n).still = s.still := by
  unfold State.ssiTimeout
  split <;> simp only [State.encFault_still, State.ssiEnd_still]

theorem State.i2cDid_still (s : State) (n part : Nat) : (s.i2cDid n part).still = s.still := by
  unfold State.i2cDid
  simp only [State.perEnd_still, State.perShow_still, State.setPerUnit_still, apply_ite State.still, ite_self]

theorem State.i2cPart_still (s : State) (n part : Nat) (x : BusAnswer) : (s.i2cPart n part x).still = s.still := by
  unfold State.i2cPart
  split <;> simp only [State.i2cDid_still, State.perEnd_still, State.raise_still]

theorem State.perWire_still (s : State) (k : Nat) (l : List Bool) : (s.perWire k l).still = s.still := by
  unfold State.perWire
  simp only [State.setPerUnit_still]

theorem State.fabricAnswer_still (s : State) (g rtag status detail : Nat) (data : List Byte) : (s.fabricAnswer g rtag status detail data).still = s.still := by
  unfold State.fabricAnswer
  repeat' (first
    | with_reducible rfl
    | intro _
    | simp only [State.still_mk, State.still_fold, State.bump_still, State.present_still, State.respond_still,
    apply_ite State.still, ite_self]
    | split)

theorem State.rxTakeBeat_still (s : State) (g : Nat) : (s.rxTakeBeat g).still = s.still := by
  unfold State.rxTakeBeat
  repeat' (first
    | with_reducible rfl
    | intro _
    | simp only [State.answerWith_still, State.reserve_still, State.setAdapter_still, apply_ite State.still]
    | split)

theorem State.sweepGrant_still (s : State) (k : Nat) : (s.sweepGrant k).still = s.still := by
  unfold State.sweepGrant
  (repeat' split) <;> simp only [State.still_mk, State.still_fold, State.put_still, State.setBit_still]

theorem State.seqFail_still (s : State) (p chan : Nat) (rep : Bool) (l : List Nat) : (s.seqFail p chan rep l).still = s.still := by
  unfold State.seqFail
  (repeat' split) <;> simp only [State.failCount_still, State.sendNak_still, State.updVport_still]

theorem State.seqTake_still (s : State) (p : Nat) (f : VFrame) (ok : Bool) : (s.seqTake p f ok).1.still = s.still := by
  unfold State.seqTake
  repeat' (first
    | with_reducible rfl
    | intro _
    | simp only [State.sendAck_still, State.sendNak_still, State.seqFail_still, State.setVport_still, apply_ite State.still,
    ite_self]
    | split)

theorem State.ackOwe_still (s : State) (p : Nat) (f : VFrame) : (s.ackOwe p f).still = s.still := by
  unfold State.ackOwe
  simp only [State.sendAck_still, State.updVport_still, apply_ite State.still, ite_self]

theorem State.linkAck_still (s : State) (p chan seq : Nat) : (s.linkAck p chan seq).still = s.still := by
  unfold State.linkAck
  split <;> simp only [State.onAck_still, State.setTwinBlk_still]

theorem State.onControl_still (s : State) (d : List Byte) : (s.onControl d).still = s.still := by
  unfold State.onControl
  repeat' (first
    | with_reducible rfl
    | intro _
    | simp only [State.onHandover_still, State.onHoack_still, State.onResyncReq_still, State.onSnapEnd_still,
    State.onVmaster_still, State.setTwinBlk_still]
    | split)

theorem State.deliverLink_still (s : State) (p : Nat) (f : VFrame) : (s.deliverLink p f).still = s.still := by
  unfold State.deliverLink
  repeat' (first
    | with_reducible rfl
    | intro _
    | simp only [State.forwardFrame_still, State.linkAck_still, State.onNak_still, State.onRack_still,
    State.onWidenAck_still, State.originFail_still, State.vControl_still, apply_ite State.still, ite_self]
    | split)

theorem State.deliverTime_still (s : State) (p : Nat) (f : VFrame) : (s.deliverTime p f).still = s.still := by
  unfold State.deliverTime
  repeat' (first
    | with_reducible rfl
    | intro _
    | simp only [State.onDreq_still, State.onDrsp_still, State.onSync_still, apply_ite State.still, ite_self]
    | split)

theorem State.zPulse_still (s : State) (enc : Nat) : (s.zPulse enc).still = s.still := by
  unfold State.zPulse
  repeat' (first
    | with_reducible rfl
    | intro _
    | simp only [State.bump_still, State.setAxis_still, apply_ite State.still, ite_self]
    | split
    | refine (State.each_still _ _ _ ?_).trans ?_)

theorem State.mbxTake_still (s : State) : s.mbxTake.still = s.still := by
  unfold State.mbxTake
  (repeat' split) <;> simp only [State.answerMbx_still, State.setMbx_still, State.setUsb_still, apply_ite State.still, ite_self]

theorem State.linkUp_still (s : State) (gen : Nat) : (s.linkUp gen).still = s.still := by
  unfold State.linkUp
  split <;> simp only [State.put_still, State.putB_still, State.raise_still]

theorem State.pushEntry_still (s : State) (n e : Nat) (err : Bool) : (s.pushEntry n e err).still = s.still := by
  unfold State.pushEntry
  simp only [State.blockEnd_still, State.setLane_still, apply_ite State.still, ite_self]

theorem State.eqAdapt_still (s : State) (n : Nat) : (s.eqAdapt n).still = s.still := by
  unfold State.eqAdapt
  split <;> simp only [State.free_still, State.put_still, State.wr_still]

theorem State.idleStep_still (s : State) (n : Nat) (idle adapts : Bool) : (s.idleStep n idle adapts).still = s.still := by
  unfold State.idleStep
  simp only [State.eqAdapt_still, State.put_still, State.setLane_still, State.updLane_still, apply_ite State.still, ite_self]

theorem State.pllLock_still (s : State) (q : Nat) : (s.pllLock q).still = s.still := by
  unfold State.pllLock
  repeat' (first
    | with_reducible rfl
    | intro _
    | simp only [State.pllFail_still, State.putB_still, State.setBit_still, State.setStage_still, apply_ite State.still,
    ite_self]
    | split
    | refine (State.each_still _ _ _ ?_).trans ?_)

theorem State.cdrLock_still (s : State) (n : Nat) : (s.cdrLock n).still = s.still := by
  unfold State.cdrLock
  simp only [State.eqAdapt_still, State.laneUp_still, State.setStage_still, apply_ite State.still, ite_self]

theorem State.alignStep_still (s : State) (n code b : Nat) : (s.alignStep n code b).still = s.still := by
  unfold State.alignStep
  repeat' (first
    | with_reducible rfl
    | intro _
    | simp only [State.idleStep_still, State.laneUp_still, State.putB_still, State.setLane_still, State.vsmLaneUp_still,
    apply_ite State.still, ite_self]
    | split)

theorem State.elastic_still (s : State) (n : Nat) : (s.elastic n).still = s.still := by
  unfold State.elastic
  simp only [State.free_still, State.setLane_still, apply_ite State.still, ite_self]

theorem State.sofArrives_still (s : State) (n : Nat) : (s.sofArrives n).still = s.still := by
  unfold State.sofArrives
  repeat' (first
    | with_reducible rfl
    | intro _
    | simp only [State.loseLock_still, State.setLane_still, State.updLane_still, apply_ite State.still]
    | split
    | refine (State.each_still _ _ _ ?_).trans ?_)

theorem State.vsmChar_still (s : State) (n v : Nat) : (s.vsmChar n v).still = s.still := by
  unfold State.vsmChar
  simp only [State.elastic_still, State.setLane_still, State.sofArrives_still, State.updLane_still, apply_ite State.still,
    ite_self]

theorem State.codeStep_still (s : State) (n code b : Nat) : (s.codeStep n code b).still = s.still := by
  unfold State.codeStep
  simp only [State.bump_still, State.free_still, State.idleStep_still, State.loseLock_still, State.pushEntry_still,
    State.setLane_still, State.vsmChar_still, apply_ite State.still, ite_self]

theorem State.rawStep_still (s : State) (n word : Nat) : (s.rawStep n word).still = s.still := by
  unfold State.rawStep
  simp only [State.idleStep_still, State.pushEntry_still]

theorem State.symbol_still (s : State) (n code b : Nat) : (s.symbol n code b).still = s.still := by
  unfold State.symbol
  simp only [State.alignStep_still, State.codeStep_still, State.rawStep_still, apply_ite State.still, ite_self]

theorem State.laneSend_still (s : State) (n : Nat) (bytes : List Byte) : (s.laneSend n bytes).still = s.still := by
  unfold State.laneSend
  simp only [State.free_still, State.updLane_still, apply_ite State.still, ite_self]

theorem State.txDrain_still (s : State) (n : Nat) : (s.txDrain n).still = s.still := by
  unfold State.txDrain
  repeat' (first
    | with_reducible rfl
    | intro _
    | simp only [State.laneOff_still, State.laneSend_still, State.setLane_still, apply_ite State.still, ite_self]
    | split
    | refine (foldl_still _ ?_ _ _).trans ?_)

theorem State.txRead_still (s : State) (n : Nat) : (s.txRead n).still = s.still := by
  unfold State.txRead
  simp only [State.request_still, State.setLane_still, State.txDrain_still, apply_ite State.still, ite_self]

theorem State.staleTag_still (s : State) (tag : Nat) : (s.staleTag tag).still = s.still := by
  unfold State.staleTag
  simp only [State.still_mk, State.still_fold]

theorem State.txUnderrun_still (s : State) (n : Nat) : (s.txUnderrun n).still = s.still := by
  unfold State.txUnderrun
  repeat' (first
    | with_reducible rfl
    | intro _
    | simp only [State.bump_still, State.laneOff_still, State.laneSend_still, State.raise_still, State.setLane_still,
    State.staleTag_still, State.txDrain_still, apply_ite State.still, ite_self]
    | split)

theorem State.rxPost_still (s : State) (n : Nat) : (s.rxPost n).still = s.still := by
  unfold State.rxPost
  repeat' (first
    | with_reducible rfl
    | intro _
    | simp only [State.request_still, State.setLane_still]
    | split)

theorem State.scanEnd_still (s : State) (n count : Nat) : (s.scanEnd n count).still = s.still := by
  unfold State.scanEnd
  split <;> simp only [State.putB_still, State.raise_still, State.wr_still]

theorem State.endImage_still (s : State) (n : Nat) : (s.endImage n).still = s.still := by
  unfold State.endImage
  repeat' (first
    | with_reducible rfl
    | intro _
    | simp only [State.loadAbort_still, State.loadComp_still, State.loadEnd_still, State.put_still, State.setSlot_still,
    apply_ite State.still]
    | split
    | refine (foldl_still _ ?_ _ _).trans ?_)

theorem State.loadRow_still (s : State) (n op : Nat) (act : State → ImgCmd → List Byte → State) (h_act : ∀ x0 x1 x2,
    (act x0 x1 x2).still = x0.still) : (s.loadRow n op act).still = s.still := by
  unfold State.loadRow
  repeat' (first
    | with_reducible rfl
    | intro _
    | with_reducible assumption
    | simp only [State.loadAbort_still, h_act, apply_ite State.still, ite_self]
    | split)

theorem State.endRow_still (s : State) (n : Nat) : (s.endRow n).still = s.still := by
  unfold State.endRow
  repeat' (first
    | with_reducible rfl
    | intro _
    | simp only [State.endImage_still]
    | refine (State.loadRow_still _ _ _ _ ?_).trans ?_)

theorem State.cancelRequest_still (s : State) (m : Nat) : (s.cancelRequest m).still = s.still := by
  unfold State.cancelRequest
  simp only [State.answerMbx_still, State.loadAbort_still, apply_ite State.still, ite_self]

theorem State.invalidateRequest_still (s : State) (m : Nat) : (s.invalidateRequest m).still = s.still := by
  unfold State.invalidateRequest
  repeat' (first
    | with_reducible rfl
    | intro _
    | simp only [State.answerMbx_still, State.loadAbort_still, State.setSlot_still, apply_ite State.still, ite_self]
    | split
    | refine (State.each_still _ _ _ ?_).trans ?_)

theorem State.switchRequest_still (s : State) (m sub : Nat) : (s.switchRequest m sub).still = s.still := by
  unfold State.switchRequest
  split <;> simp only [State.ctxSwitch_still, State.setCfg_still, State.swSettle_still]

theorem State.flashRequest_still (s : State) (m code unit : Nat) (start : State → Nat → State) (h_start : ∀ x0 x1,
    (start x0 x1).still = x0.still) : (s.flashRequest m code unit start).still = s.still := by
  unfold State.flashRequest
  simp only [State.answerMbx_still, State.raise_still, h_start, apply_ite State.still, ite_self]

theorem State.flashErase_still (s : State) (m : Nat) : (s.flashErase m).still = s.still := by
  unfold State.flashErase
  repeat' (first
    | with_reducible rfl
    | intro _
    | simp only [State.flashSend_still, State.setCfg_still]
    | refine (State.flashRequest_still _ _ _ _ _ ?_).trans ?_)

theorem State.signerRevoke_still (s : State) (m : Nat) : (s.signerRevoke m).still = s.still := by
  unfold State.signerRevoke
  simp only [State.answerMbx_still, State.fuseStart_still, apply_ite State.still, ite_self]

theorem State.arbAdvance_still (s : State) (m : Nat) : (s.arbAdvance m).still = s.still := by
  unfold State.arbAdvance
  simp only [State.answerMbx_still, State.fuseStart_still, apply_ite State.still, ite_self]

theorem State.freeScalar_still (s : State) : (s.freeScalar).2.still = s.still := by
  unfold State.freeScalar
  simp only [State.free_still]

theorem State.stampStreams_still (s : State) (cap : Nat) (v : DWord) : (s.stampStreams cap v).still = s.still := by
  unfold State.stampStreams
  repeat' (first
    | with_reducible rfl
    | intro _
    | simp only [State.setStream_still]
    | refine (State.each_still _ _ _ ?_).trans ?_)

theorem State.postLate_still (s : State) (i : Nat) (q : LPost) : (s.postLate i q).still = s.still := by
  unfold State.postLate
  simp only [State.still_mk, State.still_fold]

theorem State.applyPost_still (s : State) (i : Nat) (q : LPost) : (s.applyPost i q).1.still = s.still := by
  unfold State.applyPost
  repeat' (first
    | with_reducible rfl
    | intro _
    | simp only [State.markItem_still, State.postLate_still, State.setEntry_still, apply_ite State.still, ite_self]
    | split)

theorem State.resolvePost_still (s : State) (port : Nat) (q : LPost) : (s.resolvePost port q).1.still = s.still := by
  unfold State.resolvePost
  repeat' (first
    | with_reducible rfl
    | intro _
    | simp only [State.still_mk, State.still_fold, State.applyPost_still, State.entryCheck_still]
    | split)

theorem State.resolvePort_still (s : State) (port : Nat) : (s.resolvePort port).still = s.still := by
  unfold State.resolvePort
  split <;> simp only [State.still_mk, State.still_fold, State.lgrRun_still, State.resolvePost_still]

theorem State.postResolve_still (s : State) : s.postResolve.still = s.still := by
  unfold State.postResolve
  (repeat' split) <;> simp only [State.resolvePort_still]

end Sys2Proof.Machine
end

