-- ==== Sys2Proof/Laws/Kept.lean ====
section
/-! SUPPORT. The operations that write memory: each leaves the command queue and the numbers of the ticks alone and
keeps memory in its canonical form; and what the two ticks do to all of these. -/

namespace Sys2Proof.Machine

/-- The queue of commands and the numbers of the two ticks. -/
def State.lead (s : State) : List Instr × Nat × Nat := (s.pending, s.tick, s.xtick)

theorem lead_mk (a1 a2 tick xtick a5 a6 a7 a8 a9 mem fill epoch b1 b2 b3 b4 b5 b6 b7 b8 b9 b10 b11 b12 b13 b14 b15 b16 b17 b18 b19 b20
    b21 p) : State.lead (State.mk a1 a2 tick xtick a5 a6 a7 a8 a9 mem fill epoch b1 b2 b3 b4 b5 b6 b7 b8 b9 b10 b11 b12 b13 b14 b15 b16
      b17 b18 b19 b20 b21 p) = (p, tick, xtick) := (rfl)

theorem lead_fold (s : State) : (s.pending, s.tick, s.xtick) = s.lead := (rfl)

theorem State.still_lead {s t : State} (h : t.still = s.still) : t.lead = s.lead := by
  have hp : t.pending = s.pending := congrArg (·.1) h
  have ht : t.tick = s.tick := congrArg (·.2.1) h
  have hx : t.xtick = s.xtick := congrArg (·.2.2.1) h
  unfold State.lead
  rw [hp, ht, hx]

theorem State.still_memWf {s t : State} (h : t.still = s.still) : t.memWf = s.memWf := by
  have hm : t.mem = s.mem := congrArg (·.2.2.2.1) h
  have hf : t.fill = s.fill := congrArg (·.2.2.2.2.1) h
  unfold State.memWf State.unlisted
  rw [hm, hf]

/-- An operation that leaves memory alone leaves every byte as it reads. -/
theorem State.still_byte {s t : State} (h : t.still = s.still) (a : Nat) : t.byte a = s.byte a := by
  have hm : t.mem = s.mem := congrArg (·.2.2.2.1) h
  have hf : t.fill = s.fill := congrArg (·.2.2.2.2.1) h
  unfold State.byte State.unlisted
  rw [hm, hf]

/-- The canonical form as a function of the two fields it looks at. -/
def memOk (mem : SMap Byte) (fill : SMap Nat) : Bool := State.memWf { mem := mem, fill := fill }

theorem memWf_mk (a1 a2 a3 a4 a5 a6 a7 a8 a9 mem fill epoch b1 b2 b3 b4 b5 b6 b7 b8 b9 b10 b11 b12 b13 b14 b15 b16 b17 b18 b19 b20
    b21 p) : State.memWf (State.mk a1 a2 a3 a4 a5 a6 a7 a8 a9 mem fill epoch b1 b2 b3 b4 b5 b6 b7 b8 b9 b10 b11 b12 b13 b14 b15 b16
      b17 b18 b19 b20 b21 p) = memOk mem fill := (rfl)

theorem memOk_fold (s : State) : memOk s.mem s.fill = s.memWf := (rfl)

theorem foldl_memWf {β : Type} (f : State → β → State) (h : ∀ s x, s.memWf = true → (f s x).memWf = true) (l : List β) (s : State) (w : s.memWf = true) : (l.foldl f s).memWf = true := by
  induction l generalizing s with
  | nil => exact w
  | cons x l ih => exact ih _ (h s x w)

theorem foldl_memWf_fst {β γ : Type} (f : State × γ → β → State × γ) (h : ∀ a x, a.1.memWf = true → (f a x).1.memWf = true) (l : List β) (a : State × γ) (w : a.1.memWf = true) : (l.foldl f a).1.memWf = true := by
  induction l generalizing a with
  | nil => exact w
  | cons x l ih => exact ih _ (h a x w)

theorem foldl_lead {β : Type} (f : State → β → State) (h : ∀ s x, (f s x).lead = s.lead) (l : List β) (s : State) : (l.foldl f s).lead = s.lead := by
  induction l generalizing s with
  | nil => rfl
  | cons x l ih => exact (ih _).trans (h s x)

theorem foldl_lead_fst {β γ : Type} (f : State × γ → β → State × γ) (h : ∀ a x, (f a x).1.lead = a.1.lead) (l : List β) (a : State × γ) : (l.foldl f a).1.lead = a.1.lead := by
  induction l generalizing a with
  | nil => rfl
  | cons x l ih => exact (ih _).trans (h a x)

theorem State.each_lead (s : State) (l : List Nat) (f : State → Nat → State) (h_f : ∀ x0 x1,
    (f x0 x1).lead = x0.lead) : (s.each l f).lead = s.lead := by
  unfold State.each
  repeat' (first
    | with_reducible rfl
    | with_reducible assumption
    | intro _
    | simp only [h_f, lead_mk, lead_fold, apply_ite State.lead, ite_self]
    | refine (foldl_lead _ ?_ _ _).trans ?_)

theorem State.each_memWf (s : State) (l : List Nat) (f : State → Nat → State) (h_f : ∀ x0 x1,
    x0.memWf = true → (f x0 x1).memWf = true) (hw : s.memWf = true) : (s.each l f).memWf = true := by
  unfold State.each
  repeat' (first
    | with_reducible exact hw
    | simp only [h_f, hw]
    | refine foldl_memWf _ (fun s1 x1 hw => ?_) _ _ ?_)

theorem State.refill_lead (s : State) (unit f : Nat) : (s.refill unit f).lead = s.lead := by
  unfold State.refill
  simp only [lead_mk, lead_fold]

theorem State.refill_memWf (s : State) (unit f : Nat) (hw : s.memWf = true) : (s.refill unit f).memWf = true := by
  exact State.memWf_refill s unit f hw

theorem State.forget_lead (s : State) (unit : Nat) : (s.forget unit).lead = s.lead := by
  unfold State.forget
  simp only [State.refill_lead, lead_mk, lead_fold]

theorem State.forget_memWf (s : State) (unit : Nat) (hw : s.memWf = true) : (s.forget unit).memWf = true := by
  unfold State.forget
  simp only [State.refill_memWf, memWf_mk, memOk_fold, hw]

theorem State.wipe_lead (s : State) (power : Bool) : (s.wipe power).lead = s.lead := by
  unfold State.wipe
  repeat' (first
    | with_reducible rfl
    | intro _
    | simp only [State.forget_lead, State.still_lead (State.lgrQuiet_still ..), lead_mk, lead_fold, apply_ite State.lead]
    | split
    | refine (State.each_lead _ _ _ ?_).trans ?_)

theorem State.wipe_memWf (s : State) (power : Bool) (hw : s.memWf = true) : (s.wipe power).memWf = true := by
  unfold State.wipe
  repeat' (first
    | with_reducible exact hw
    | simp only [State.forget_memWf, State.still_memWf (State.lgrQuiet_still ..), memWf_mk, memOk_fold, hw]
    | split
    | refine State.each_memWf _ _ _ (fun s1 k1 hw => ?_) ?_)

theorem State.trippedOff_lead (s : State) : s.trippedOff.lead = s.lead := by
  unfold State.trippedOff
  repeat' (first
    | with_reducible rfl
    | intro _
    | simp only [State.forget_lead, State.still_lead (State.put_still ..), State.still_lead (State.putB_still ..),
    State.still_lead (State.setQuad_still ..), apply_ite State.lead, ite_self]
    | split
    | refine (State.each_lead _ _ _ ?_).trans ?_)

theorem State.trippedOff_memWf (s : State) (hw : s.memWf = true) : s.trippedOff.memWf = true := by
  unfold State.trippedOff
  repeat' (first
    | with_reducible exact hw
    | simp only [State.forget_memWf, State.still_memWf (State.put_still ..), State.still_memWf (State.putB_still ..),
    State.still_memWf (State.setQuad_still ..), hw]
    | split
    | refine State.each_memWf _ _ _ (fun s1 k1 hw => ?_) ?_)

theorem State.resetAccept_lead (s : State) (src reach : Nat) : (s.resetAccept src reach).lead = s.lead := by
  unfold State.resetAccept
  simp only [State.still_lead (State.discShow_still ..), State.still_lead (State.resetNote_still ..),
    State.still_lead (State.setBit_still ..), State.still_lead (State.setRst_still ..),
    State.still_lead (State.startCut_still ..), State.trippedOff_lead, State.wipe_lead, State.still_lead (State.wr_still ..),
    apply_ite State.lead, ite_self]

theorem State.resetAccept_memWf (s : State) (src reach : Nat) (hw : s.memWf = true) : (s.resetAccept src reach).memWf = true := by
  unfold State.resetAccept
  repeat' (first
    | with_reducible exact hw
    | simp only [State.still_memWf (State.discShow_still ..), State.still_memWf (State.resetNote_still ..),
    State.still_memWf (State.setBit_still ..), State.still_memWf (State.setRst_still ..),
    State.still_memWf (State.startCut_still ..), State.trippedOff_memWf, State.wipe_memWf,
    State.still_memWf (State.wr_still ..), hw]
    | split)

theorem State.debugReset_lead (s : State) (v : Nat) : (s.debugReset v).lead = s.lead := by
  unfold State.debugReset
  simp only [State.still_lead (State.fabReset_still ..), State.still_lead (State.put_still ..),
    State.still_lead (State.putB_still ..), State.resetAccept_lead, State.still_lead (State.resetDrop_still ..),
    State.still_lead (State.setRst_still ..), apply_ite State.lead, ite_self]

theorem State.debugReset_memWf (s : State) (v : Nat) (hw : s.memWf = true) : (s.debugReset v).memWf = true := by
  unfold State.debugReset
  repeat' (first
    | with_reducible exact hw
    | simp only [State.still_memWf (State.fabReset_still ..), State.still_memWf (State.put_still ..),
    State.still_memWf (State.putB_still ..), State.resetAccept_memWf, State.still_memWf (State.resetDrop_still ..),
    State.still_memWf (State.setRst_still ..), hw]
    | split)

theorem State.onResetReq_lead (s : State) : s.onResetReq.lead = s.lead := by
  unfold State.onResetReq
  simp only [State.still_lead (State.bump_still ..), State.still_lead (State.raise_still ..), State.resetAccept_lead,
    State.still_lead (State.setTwinBlk_still ..), apply_ite State.lead, ite_self]

theorem State.onResetReq_memWf (s : State) (hw : s.memWf = true) : s.onResetReq.memWf = true := by
  unfold State.onResetReq
  repeat' (first
    | with_reducible exact hw
    | simp only [State.still_memWf (State.bump_still ..), State.still_memWf (State.raise_still ..), State.resetAccept_memWf,
    State.still_memWf (State.setTwinBlk_still ..), hw]
    | split)

theorem State.blockReset_lead (s : State) (r b : Nat) (idle : Bool) (f : State → State) (h_f : ∀ x0,
    (f x0).lead = x0.lead) : (s.blockReset r b idle f).lead = s.lead := by
  unfold State.blockReset
  simp only [h_f, State.still_lead (State.bump_still ..), State.still_lead (State.put_still ..), apply_ite State.lead,
    ite_self]

theorem State.blockReset_memWf (s : State) (r b : Nat) (idle : Bool) (f : State → State) (h_f : ∀ x0,
    x0.memWf = true → (f x0).memWf = true) (hw : s.memWf = true) : (s.blockReset r b idle f).memWf = true := by
  unfold State.blockReset
  repeat' (first
    | with_reducible exact hw
    | simp only [h_f, State.still_memWf (State.bump_still ..), State.still_memWf (State.put_still ..), hw]
    | split)

theorem State.setByte_lead (s : State) (a : Nat) (b : Byte) : (s.setByte a b).lead = s.lead := by
  unfold State.setByte
  simp only [lead_mk, lead_fold]

theorem State.setByte_memWf (s : State) (a : Nat) (b : Byte) (hw : s.memWf = true) : (s.setByte a b).memWf = true := by
  exact State.memWf_setByte s a b hw

theorem State.setBytes_lead (s : State) (a : Nat) (y0 : List Byte) : (s.setBytes a y0).lead = s.lead := by
  induction y0 generalizing s a with
  | nil => rfl
  | cons b l ih => exact (ih _ _).trans (State.setByte_lead ..)

theorem State.setBytes_memWf (s : State) (a : Nat) (y0 : List Byte) (hw : s.memWf = true) : (s.setBytes a y0).memWf = true := by
  exact State.memWf_setBytes s a y0 hw

theorem State.setBankWord_lead (s : State) (n w : Nat) (v : DWord) : (s.setBankWord n w v).lead = s.lead := by
  unfold State.setBankWord
  simp only [State.setBytes_lead]

theorem State.setBankWord_memWf (s : State) (n w : Nat) (v : DWord) (hw : s.memWf = true) : (s.setBankWord n w v).memWf = true := by
  unfold State.setBankWord
  simp only [State.setBytes_memWf, hw]

theorem State.bankPerform_lead (s : State) (n op w : Nat) (v : DWord) (m : Nat) : (s.bankPerform n op w v m).1.lead = s.lead := by
  unfold State.bankPerform
  simp only [State.setBankWord_lead, apply_ite State.lead, ite_self]

theorem State.bankPerform_memWf (s : State) (n op w : Nat) (v : DWord) (m : Nat) (hw : s.memWf = true) : (s.bankPerform n op w v m).1.memWf = true := by
  unfold State.bankPerform
  repeat' (first
    | with_reducible exact hw
    | simp only [State.setBankWord_memWf, hw]
    | split)

theorem State.jobStep_lead (s : State) (j : BankJob) (super : Bool) : (s.jobStep j super).1.lead = s.lead := by
  unfold State.jobStep
  repeat' (first
    | with_reducible rfl
    | intro _
    | simp only [State.still_lead (State.bankCount_still ..), State.bankPerform_lead,
    State.still_lead (State.nocGate_still ..), lead_mk, lead_fold]
    | split)

theorem State.jobStep_memWf (s : State) (j : BankJob) (super : Bool) (hw : s.memWf = true) : (s.jobStep j super).1.memWf = true := by
  unfold State.jobStep
  repeat' (first
    | with_reducible exact hw
    | simp only [State.still_memWf (State.bankCount_still ..), State.bankPerform_memWf,
    State.still_memWf (State.nocGate_still ..), memWf_mk, memOk_fold, hw]
    | split)

theorem State.bankServe_lead (s : State) (op a len : Nat) (data : List Byte) (super : Bool) : (s.bankServe op a len data super).1.lead = s.lead := by
  unfold State.bankServe
  have h := foldl_lead_fst (fun (x : State × BankJob) (_ : Nat) => if x.2.ended then x else x.1.jobStep x.2 super) (fun x _ => by
    split
    · rfl
    · exact State.jobStep_lead ..) (List.range (wordsOf a len))
    (s, { bank := (a - bankBase) / 0x10000, req := { op := op, addr := a, len := len, data := data } })
  exact h

theorem State.bankServe_memWf (s : State) (op a len : Nat) (data : List Byte) (super : Bool) (hw : s.memWf = true) : (s.bankServe op a len data super).1.memWf = true := by
  unfold State.bankServe
  have h := foldl_memWf_fst (fun (x : State × BankJob) (_ : Nat) => if x.2.ended then x else x.1.jobStep x.2 super) (fun x _ hw => by
    split
    · exact hw
    · exact State.jobStep_memWf _ _ _ hw) (List.range (wordsOf a len))
    (s, { bank := (a - bankBase) / 0x10000, req := { op := op, addr := a, len := len, data := data } }) hw
  exact h

theorem State.hbmStore_lead (s : State) (a : Nat) (data : List Byte) : (s.hbmStore a data).lead = s.lead := by
  unfold State.hbmStore
  repeat' (first
    | with_reducible rfl
    | intro _
    | simp only [State.still_lead (State.countWrite_still ..), State.setBytes_lead, lead_mk, lead_fold, apply_ite State.lead]
    | split)

theorem State.hbmStore_memWf (s : State) (a : Nat) (data : List Byte) (hw : s.memWf = true) : (s.hbmStore a data).memWf = true := by
  unfold State.hbmStore
  repeat' (first
    | with_reducible exact hw
    | simp only [State.still_memWf (State.countWrite_still ..), State.setBytes_memWf, memWf_mk, memOk_fold, hw]
    | split)

theorem State.lineLost_lead (s : State) (l : Nat) : (s.lineLost l).lead = s.lead := by
  unfold State.lineLost
  simp only [State.still_lead (State.freeBytes_still ..), State.setBytes_lead]

theorem State.lineLost_memWf (s : State) (l : Nat) (hw : s.memWf = true) : (s.lineLost l).memWf = true := by
  unfold State.lineLost
  simp only [State.still_memWf (State.freeBytes_still ..), State.setBytes_memWf, hw]

theorem State.hbmServe_lead (s : State) (cls : Nat) (q : Req) (e : HbmErr) : (s.hbmServe cls q e).1.lead = s.lead := by
  unfold State.hbmServe
  repeat' (first
    | with_reducible rfl
    | intro _
    | simp only [State.still_lead (State.absentCount_still ..), State.still_lead (State.bump_still ..),
    State.still_lead (State.freeBytes_still ..), State.still_lead (State.hbmErrCount_still ..), State.hbmStore_lead,
    State.still_lead (State.integrityHalt_still ..), State.lineLost_lead, State.still_lead (State.pcGrant_still ..),
    State.still_lead (State.scrDenied_still ..), State.still_lead (State.treeGrants_still ..), apply_ite State.lead, ite_self]
    | split)

theorem State.hbmServe_memWf (s : State) (cls : Nat) (q : Req) (e : HbmErr) (hw : s.memWf = true) : (s.hbmServe cls q e).1.memWf = true := by
  unfold State.hbmServe
  repeat' (first
    | with_reducible exact hw
    | simp only [State.still_memWf (State.absentCount_still ..), State.still_memWf (State.bump_still ..),
    State.still_memWf (State.freeBytes_still ..), State.still_memWf (State.hbmErrCount_still ..), State.hbmStore_memWf,
    State.still_memWf (State.integrityHalt_still ..), State.lineLost_memWf, State.still_memWf (State.pcGrant_still ..),
    State.still_memWf (State.scrDenied_still ..), State.still_memWf (State.treeGrants_still ..), hw]
    | split)

theorem bankReply_fst (r : State × Nat × List Byte) : (bankReply r).1 = r.1 := rfl

theorem State.serveMemory_lead (s : State) (cls : Nat) (t : Target4) (q : Req) (e : HbmErr) : (s.serveMemory cls t q e).1.lead = s.lead := by
  unfold State.serveMemory
  split
  · exact State.hbmServe_lead ..
  · rw [bankReply_fst]
    exact State.bankServe_lead ..

theorem State.serveMemory_memWf (s : State) (cls : Nat) (t : Target4) (q : Req) (e : HbmErr) (hw : s.memWf = true) : (s.serveMemory cls t q e).1.memWf = true := by
  unfold State.serveMemory
  split
  · exact State.hbmServe_memWf _ _ _ _ hw
  · rw [bankReply_fst]
    exact State.bankServe_memWf _ _ _ _ _ _ hw

theorem directReply_lead (q : Req) (r : State × SrvOut) : (directReply q r).1.lead = r.1.lead := by
  unfold directReply
  split
  · rfl
  · rfl
  · rfl

theorem directReply_memWf (q : Req) (r : State × SrvOut) (hw : r.1.memWf = true) : (directReply q r).1.memWf = true := by
  unfold directReply
  split
  · exact hw
  · exact hw
  · exact hw

theorem State.directServe_lead (s : State) (ini : Nat) (q : Req) : (s.directServe ini q).1.lead = s.lead := by
  unfold State.directServe
  split
  · rfl
  · split
    · rfl
    · split
      · exact State.still_lead (State.bump_still ..)
      · split
        · rfl
        · split
          · split
            · rename_i h
              exact (congrArg (fun r => r.1.lead) h).symm.trans (State.still_lead (State.targetGate_still ..))
            · rename_i h
              exact ((directReply_lead ..).trans (State.serveMemory_lead ..)).trans ((congrArg (fun r => r.1.lead) h).symm.trans (State.still_lead (State.targetGate_still ..)))
          · split
            · rename_i h
              exact (congrArg (fun r => r.1.lead) h).symm.trans (State.still_lead (State.targetGate_still ..))
            · rename_i h
              exact ((directReply_lead ..).trans (State.serveMemory_lead ..)).trans ((congrArg (fun r => r.1.lead) h).symm.trans (State.still_lead (State.targetGate_still ..)))
          · rfl

theorem State.directServe_memWf (s : State) (ini : Nat) (q : Req) (hw : s.memWf = true) : (s.directServe ini q).1.memWf = true := by
  unfold State.directServe
  split
  · exact hw
  · split
    · exact hw
    · split
      · exact (State.still_memWf (State.bump_still ..)).trans hw
      · split
        · exact hw
        · split
          · split
            · rename_i h
              exact ((congrArg (fun r => r.1.memWf) h).symm.trans (State.still_memWf (State.targetGate_still ..))).trans hw
            · rename_i h
              exact directReply_memWf _ _ (State.serveMemory_memWf _ _ _ _ _ (((congrArg (fun r => r.1.memWf) h).symm.trans (State.still_memWf (State.targetGate_still ..))).trans hw))
          · split
            · rename_i h
              exact ((congrArg (fun r => r.1.memWf) h).symm.trans (State.still_memWf (State.targetGate_still ..))).trans hw
            · rename_i h
              exact directReply_memWf _ _ (State.serveMemory_memWf _ _ _ _ _ (((congrArg (fun r => r.1.memWf) h).symm.trans (State.still_memWf (State.targetGate_still ..))).trans hw))
          · exact hw

theorem State.direct_lead (s : State) (ini : Nat) (q : Req) : (s.direct ini q).1.lead = s.lead := by
  unfold State.direct
  simp only [apply_ite State.lead, State.still_lead (State.nocCount_still ..), State.still_lead (State.bump_still ..),
    State.directServe_lead, ite_self]

theorem State.direct_memWf (s : State) (ini : Nat) (q : Req) (hw : s.memWf = true) : (s.direct ini q).1.memWf = true := by
  unfold State.direct
  simp only [apply_ite State.memWf, State.still_memWf (State.nocCount_still ..), State.still_memWf (State.bump_still ..),
    State.directServe_memWf _ _ _ hw, ite_self]

theorem State.postWrite_lead (s : State) (ini a : Nat) (data : List Byte) : (s.postWrite ini a data).1.lead = s.lead := by
  unfold State.postWrite
  simp only [State.direct_lead]

theorem State.postWrite_memWf (s : State) (ini a : Nat) (data : List Byte) (hw : s.memWf = true) : (s.postWrite ini a data).1.memWf = true := by
  unfold State.postWrite
  simp only [State.direct_memWf, hw]

theorem State.ringDrain_lead (s : State) : s.ringDrain.lead = s.lead := by
  unfold State.ringDrain
  repeat' (first
    | with_reducible rfl
    | intro _
    | simp only [State.postWrite_lead, State.still_lead (State.put_still ..), State.still_lead (State.putB_still ..),
    State.still_lead (State.recordsSettle_still ..), lead_mk, lead_fold]
    | split
    | refine (foldl_lead _ ?_ _ _).trans ?_
    | refine (foldl_lead_fst _ ?_ _ _).trans ?_)

theorem State.ringDrain_memWf (s : State) (hw : s.memWf = true) : s.ringDrain.memWf = true := by
  unfold State.ringDrain
  repeat' (first
    | with_reducible exact hw
    | simp only [State.postWrite_memWf, State.still_memWf (State.put_still ..), State.still_memWf (State.putB_still ..),
    State.still_memWf (State.recordsSettle_still ..), memWf_mk, memOk_fold, hw]
    | split
    | refine foldl_memWf _ (fun s1 x1 hw => ?_) _ _ ?_
    | refine foldl_memWf_fst _ (fun s1 x1 hw => ?_) _ _ ?_)

theorem State.lgrCtlWrite_lead (s : State) (v : Word) : (s.lgrCtlWrite v).lead = s.lead := by
  unfold State.lgrCtlWrite
  simp only [State.ringDrain_lead, State.still_lead (State.wr_still ..), lead_mk, lead_fold]

theorem State.lgrCtlWrite_memWf (s : State) (v : Word) (hw : s.memWf = true) : (s.lgrCtlWrite v).memWf = true := by
  unfold State.lgrCtlWrite
  simp only [State.ringDrain_memWf, State.still_memWf (State.wr_still ..), memWf_mk, memOk_fold, hw]

theorem State.rstCtl_lead (s : State) (v : Word) : (s.rstCtl v).lead = s.lead := by
  unfold State.rstCtl
  repeat' (first
    | with_reducible rfl
    | intro _
    | simp only [State.still_lead (State.fabReset_still ..), State.resetAccept_lead]
    | split)

theorem State.rstCtl_memWf (s : State) (v : Word) (hw : s.memWf = true) : (s.rstCtl v).memWf = true := by
  unfold State.rstCtl
  repeat' (first
    | with_reducible exact hw
    | simp only [State.still_memWf (State.fabReset_still ..), State.resetAccept_memWf, hw]
    | split)

theorem opsANG_lead : ∀ o ∈ opsANG, ∀ (who : Who) (n : Nat) (v : Word) (sub : Nat) (s : State),
          (o.act who n v sub s).lead = s.lead := by
  unfold opsANG
  simp only [List.forall_mem_cons]
  repeat' apply And.intro
  all_goals first
    | exact fun _ h => absurd h List.not_mem_nil
    | (intro who n v sub s
       repeat' (first
         | with_reducible rfl
         | simp only [State.still_lead (State.angApply_still ..), State.still_lead (State.angSnap_still ..),
          State.still_lead (State.axisCtl_still ..), State.still_lead (State.axisStage_still ..),
          State.still_lead (State.trimWrite_still ..)]))

theorem opsEVT_lead : ∀ o ∈ opsEVT, ∀ (who : Who) (n : Nat) (v : Word) (sub : Nat) (s : State),
          (o.act who n v sub s).lead = s.lead := by
  unfold opsEVT
  simp only [List.forall_mem_cons]
  repeat' apply And.intro
  all_goals first
    | exact fun _ h => absurd h List.not_mem_nil
    | (intro who n v sub s
       repeat' (first
         | with_reducible rfl
         | simp only [State.still_lead (State.evtWrite_still ..), State.still_lead (State.targetCommit_still ..)]))

theorem opsSYS_lead : ∀ o ∈ opsSYS, ∀ (who : Who) (n : Nat) (v : Word) (sub : Nat) (s : State),
          (o.act who n v sub s).lead = s.lead := by
  unfold opsSYS
  simp only [List.forall_mem_cons]
  repeat' apply And.intro
  all_goals first
    | exact fun _ h => absurd h List.not_mem_nil
    | (intro who n v sub s
       repeat' (first
         | with_reducible rfl
         | simp only [State.still_lead (State.ctxSwitch_still ..), State.still_lead (State.fwdCfgWrite_still ..),
          State.still_lead (State.fwdStatusWrite_still ..), State.still_lead (State.regionCtlWrite_still ..),
          State.still_lead (State.sgCfgWrite_still ..)]))

theorem opsLGR_lead : ∀ o ∈ opsLGR, ∀ (who : Who) (n : Nat) (v : Word) (sub : Nat) (s : State),
          (o.act who n v sub s).lead = s.lead := by
  unfold opsLGR
  simp only [List.forall_mem_cons]
  repeat' apply And.intro
  all_goals first
    | exact fun _ h => absurd h List.not_mem_nil
    | (intro who n v sub s
       repeat' (first
         | with_reducible rfl
         | simp only [State.still_lead (State.bankedWrite_still ..), State.still_lead (State.fenceWrite_still ..),
          State.still_lead (State.lgrApply_still ..), State.lgrCtlWrite_lead, State.ringDrain_lead,
          State.still_lead (State.stationWrite_still ..), State.still_lead (State.streamCfgWrite_still ..),
          State.still_lead (State.streamRegWrite_still ..), State.still_lead (State.wr_still ..)]))

theorem opsTIER_lead : ∀ o ∈ opsTIER, ∀ (who : Who) (n : Nat) (v : Word) (sub : Nat) (s : State),
          (o.act who n v sub s).lead = s.lead := by
  unfold opsTIER
  simp only [List.forall_mem_cons]
  repeat' apply And.intro
  all_goals first
    | exact fun _ h => absurd h List.not_mem_nil
    | (intro who n v sub s
       repeat' (first
         | with_reducible rfl
         | simp only [State.still_lead (State.cfgReclaim_still ..), State.still_lead (State.colCfgWrite_still ..),
          State.still_lead (State.hostAnswers_still ..), State.still_lead (State.marchStart_still ..),
          State.still_lead (State.nocReclaim_still ..), State.still_lead (State.ownerWrite_still ..),
          State.still_lead (State.putB_still ..), State.still_lead (State.quotaWrite_still ..),
          State.still_lead (State.reclaimAsk_still ..), State.still_lead (State.revive_still ..),
          State.still_lead (State.routeWrite_still ..), State.still_lead (State.statsClear_still ..),
          State.still_lead (State.tmoWrite_still ..), State.still_lead (State.vsmAnswers_still ..), lead_mk, lead_fold]
         | intro _
         | split))

theorem opsLANE_lead : ∀ o ∈ opsLANE, ∀ (who : Who) (n : Nat) (v : Word) (sub : Nat) (s : State),
          (o.act who n v sub s).lead = s.lead := by
  unfold opsLANE
  simp only [List.forall_mem_cons]
  repeat' apply And.intro
  all_goals first
    | exact fun _ h => absurd h List.not_mem_nil
    | (intro who n v sub s
       repeat' (first
         | with_reducible rfl
         | simp only [State.still_lead (State.eqWrite_still ..), State.still_lead (State.laneCtl_still ..),
          State.still_lead (State.laneRegWrite_still ..), State.still_lead (State.quadCfgWrite_still ..),
          State.still_lead (State.scanWrite_still ..)]))

theorem opsVSM_lead : ∀ o ∈ opsVSM, ∀ (who : Who) (n : Nat) (v : Word) (sub : Nat) (s : State),
          (o.act who n v sub s).lead = s.lead := by
  unfold opsVSM
  simp only [List.forall_mem_cons]
  repeat' apply And.intro
  all_goals first
    | exact fun _ h => absurd h List.not_mem_nil
    | (intro who n v sub s
       repeat' (first
         | with_reducible rfl
         | simp only [State.still_lead (State.nodeWrite_still ..), State.still_lead (State.rtWrite_still ..),
          State.still_lead (State.timeCfgWrite_still ..), State.still_lead (State.tunWrite_still ..),
          State.still_lead (State.twinCfgWrite_still ..), State.still_lead (State.twinCtl_still ..),
          State.still_lead (State.twinFixedWrite_still ..), State.still_lead (State.vportDisable_still ..),
          State.still_lead (State.vportEnable_still ..)]
         | intro _
         | split))

theorem opsXBAR_lead : ∀ o ∈ opsXBAR, ∀ (who : Who) (n : Nat) (v : Word) (sub : Nat) (s : State),
          (o.act who n v sub s).lead = s.lead := by
  unfold opsXBAR
  simp only [List.forall_mem_cons]
  repeat' apply And.intro
  all_goals first
    | exact fun _ h => absurd h List.not_mem_nil
    | (intro who n v sub s
       repeat' (first
         | with_reducible rfl
         | simp only [State.still_lead (State.commitWrite_still ..), State.still_lead (State.groupOwnerWrite_still ..),
          State.still_lead (State.perCfgWrite_still ..), State.still_lead (State.perSend_still ..),
          State.still_lead (State.perStatusWrite_still ..), State.still_lead (State.pinCfgWrite_still ..),
          State.still_lead (State.reclaimWrite_still ..), State.still_lead (State.stageWrite_still ..)]))

theorem opsSUP_lead : ∀ o ∈ opsSUP, ∀ (who : Who) (n : Nat) (v : Word) (sub : Nat) (s : State),
          (o.act who n v sub s).lead = s.lead := by
  unfold opsSUP
  simp only [List.forall_mem_cons]
  repeat' apply And.intro
  all_goals first
    | exact fun _ h => absurd h List.not_mem_nil
    | (intro who n v sub s
       repeat' (first
         | with_reducible rfl
         | simp only [State.still_lead (State.avsCfgWrite_still ..), State.still_lead (State.axisReset_still ..),
          State.still_lead (State.block0_still ..), State.still_lead (State.block1_still ..),
          State.still_lead (State.block2_still ..), State.still_lead (State.clkStage_still ..),
          State.still_lead (State.cmpCfgWrite_still ..), State.still_lead (State.fpllWrite_still ..),
          State.still_lead (State.pdRequest_still ..), State.rstCtl_lead, State.still_lead (State.tripWrite_still ..)]
         | intro _
         | split
         | refine (State.each_lead _ _ _ ?_).trans ?_))

theorem opsUSB_lead : ∀ o ∈ opsUSB, ∀ (who : Who) (n : Nat) (v : Word) (sub : Nat) (s : State),
          (o.act who n v sub s).lead = s.lead := by
  unfold opsUSB
  simp only [List.forall_mem_cons]
  repeat' apply And.intro
  all_goals first
    | exact fun _ h => absurd h List.not_mem_nil
    | (intro who n v sub s
       repeat' (first
         | with_reducible rfl
         | simp only [State.debugReset_lead, State.still_lead (State.dmaCtlWrite_still ..),
          State.still_lead (State.dmaTail_still ..), State.still_lead (State.doorbell_still ..),
          State.still_lead (State.mbxDone_still ..), State.still_lead (State.rearm_still ..),
          State.still_lead (State.slotWrite_still ..)]))

theorem csrOps_lead : ∀ o ∈ csrOps, ∀ (who : Who) (n : Nat) (v : Word) (sub : Nat) (s : State),
          (o.act who n v sub s).lead = s.lead := by
  intro o ho
  unfold csrOps at ho
  simp only [List.mem_append] at ho
  rcases ho with ((((((((h | h) | h) | h) | h) | h) | h) | h) | h) | h
  · exact opsANG_lead o h
  · exact opsEVT_lead o h
  · exact opsSYS_lead o h
  · exact opsLGR_lead o h
  · exact opsTIER_lead o h
  · exact opsLANE_lead o h
  · exact opsVSM_lead o h
  · exact opsXBAR_lead o h
  · exact opsSUP_lead o h
  · exact opsUSB_lead o h

theorem opsANG_memWf : ∀ o ∈ opsANG, ∀ (who : Who) (n : Nat) (v : Word) (sub : Nat) (s : State), s.memWf = true →
          (o.act who n v sub s).memWf = true := by
  unfold opsANG
  simp only [List.forall_mem_cons]
  repeat' apply And.intro
  all_goals first
    | exact fun _ h => absurd h List.not_mem_nil
    | (intro who n v sub s hw
       repeat' (first
         | with_reducible exact hw
         | simp only [State.still_memWf (State.angApply_still ..), State.still_memWf (State.angSnap_still ..),
          State.still_memWf (State.axisCtl_still ..), State.still_memWf (State.axisStage_still ..),
          State.still_memWf (State.trimWrite_still ..), hw]))

theorem opsEVT_memWf : ∀ o ∈ opsEVT, ∀ (who : Who) (n : Nat) (v : Word) (sub : Nat) (s : State), s.memWf = true →
          (o.act who n v sub s).memWf = true := by
  unfold opsEVT
  simp only [List.forall_mem_cons]
  repeat' apply And.intro
  all_goals first
    | exact fun _ h => absurd h List.not_mem_nil
    | (intro who n v sub s hw
       repeat' (first
         | with_reducible exact hw
         | simp only [State.still_memWf (State.evtWrite_still ..), State.still_memWf (State.targetCommit_still ..), hw]))

theorem opsSYS_memWf : ∀ o ∈ opsSYS, ∀ (who : Who) (n : Nat) (v : Word) (sub : Nat) (s : State), s.memWf = true →
          (o.act who n v sub s).memWf = true := by
  unfold opsSYS
  simp only [List.forall_mem_cons]
  repeat' apply And.intro
  all_goals first
    | exact fun _ h => absurd h List.not_mem_nil
    | (intro who n v sub s hw
       repeat' (first
         | with_reducible exact hw
         | simp only [State.still_memWf (State.ctxSwitch_still ..), State.still_memWf (State.fwdCfgWrite_still ..),
          State.still_memWf (State.fwdStatusWrite_still ..), State.still_memWf (State.regionCtlWrite_still ..),
          State.still_memWf (State.sgCfgWrite_still ..), hw]))

theorem opsLGR_memWf : ∀ o ∈ opsLGR, ∀ (who : Who) (n : Nat) (v : Word) (sub : Nat) (s : State), s.memWf = true →
          (o.act who n v sub s).memWf = true := by
  unfold opsLGR
  simp only [List.forall_mem_cons]
  repeat' apply And.intro
  all_goals first
    | exact fun _ h => absurd h List.not_mem_nil
    | (intro who n v sub s hw
       repeat' (first
         | with_reducible exact hw
         | simp only [State.still_memWf (State.bankedWrite_still ..), State.still_memWf (State.fenceWrite_still ..),
          State.still_memWf (State.lgrApply_still ..), State.lgrCtlWrite_memWf, State.ringDrain_memWf,
          State.still_memWf (State.stationWrite_still ..), State.still_memWf (State.streamCfgWrite_still ..),
          State.still_memWf (State.streamRegWrite_still ..), State.still_memWf (State.wr_still ..), hw]))

theorem opsTIER_memWf : ∀ o ∈ opsTIER, ∀ (who : Who) (n : Nat) (v : Word) (sub : Nat) (s : State), s.memWf = true →
          (o.act who n v sub s).memWf = true := by
  unfold opsTIER
  simp only [List.forall_mem_cons]
  repeat' apply And.intro
  all_goals first
    | exact fun _ h => absurd h List.not_mem_nil
    | (intro who n v sub s hw
       repeat' (first
         | with_reducible exact hw
         | simp only [State.still_memWf (State.cfgReclaim_still ..), State.still_memWf (State.colCfgWrite_still ..),
          State.still_memWf (State.hostAnswers_still ..), State.still_memWf (State.marchStart_still ..),
          State.still_memWf (State.nocReclaim_still ..), State.still_memWf (State.ownerWrite_still ..),
          State.still_memWf (State.putB_still ..), State.still_memWf (State.quotaWrite_still ..),
          State.still_memWf (State.reclaimAsk_still ..), State.still_memWf (State.revive_still ..),
          State.still_memWf (State.routeWrite_still ..), State.still_memWf (State.statsClear_still ..),
          State.still_memWf (State.tmoWrite_still ..), State.still_memWf (State.vsmAnswers_still ..), memWf_mk, memOk_fold, hw]
         | intro _
         | split))

theorem opsLANE_memWf : ∀ o ∈ opsLANE, ∀ (who : Who) (n : Nat) (v : Word) (sub : Nat) (s : State), s.memWf = true →
          (o.act who n v sub s).memWf = true := by
  unfold opsLANE
  simp only [List.forall_mem_cons]
  repeat' apply And.intro
  all_goals first
    | exact fun _ h => absurd h List.not_mem_nil
    | (intro who n v sub s hw
       repeat' (first
         | with_reducible exact hw
         | simp only [State.still_memWf (State.eqWrite_still ..), State.still_memWf (State.laneCtl_still ..),
          State.still_memWf (State.laneRegWrite_still ..), State.still_memWf (State.quadCfgWrite_still ..),
          State.still_memWf (State.scanWrite_still ..), hw]))

theorem opsVSM_memWf : ∀ o ∈ opsVSM, ∀ (who : Who) (n : Nat) (v : Word) (sub : Nat) (s : State), s.memWf = true →
          (o.act who n v sub s).memWf = true := by
  unfold opsVSM
  simp only [List.forall_mem_cons]
  repeat' apply And.intro
  all_goals first
    | exact fun _ h => absurd h List.not_mem_nil
    | (intro who n v sub s hw
       repeat' (first
         | with_reducible exact hw
         | simp only [State.still_memWf (State.nodeWrite_still ..), State.still_memWf (State.rtWrite_still ..),
          State.still_memWf (State.timeCfgWrite_still ..), State.still_memWf (State.tunWrite_still ..),
          State.still_memWf (State.twinCfgWrite_still ..), State.still_memWf (State.twinCtl_still ..),
          State.still_memWf (State.twinFixedWrite_still ..), State.still_memWf (State.vportDisable_still ..),
          State.still_memWf (State.vportEnable_still ..), hw]
         | intro _
         | split))

theorem opsXBAR_memWf : ∀ o ∈ opsXBAR, ∀ (who : Who) (n : Nat) (v : Word) (sub : Nat) (s : State), s.memWf = true →
          (o.act who n v sub s).memWf = true := by
  unfold opsXBAR
  simp only [List.forall_mem_cons]
  repeat' apply And.intro
  all_goals first
    | exact fun _ h => absurd h List.not_mem_nil
    | (intro who n v sub s hw
       repeat' (first
         | with_reducible exact hw
         | simp only [State.still_memWf (State.commitWrite_still ..), State.still_memWf (State.groupOwnerWrite_still ..),
          State.still_memWf (State.perCfgWrite_still ..), State.still_memWf (State.perSend_still ..),
          State.still_memWf (State.perStatusWrite_still ..), State.still_memWf (State.pinCfgWrite_still ..),
          State.still_memWf (State.reclaimWrite_still ..), State.still_memWf (State.stageWrite_still ..), hw]))

theorem opsSUP_memWf : ∀ o ∈ opsSUP, ∀ (who : Who) (n : Nat) (v : Word) (sub : Nat) (s : State), s.memWf = true →
          (o.act who n v sub s).memWf = true := by
  unfold opsSUP
  simp only [List.forall_mem_cons]
  repeat' apply And.intro
  all_goals first
    | exact fun _ h => absurd h List.not_mem_nil
    | (intro who n v sub s hw
       repeat' (first
         | with_reducible exact hw
         | simp only [State.still_memWf (State.avsCfgWrite_still ..), State.still_memWf (State.axisReset_still ..),
          State.still_memWf (State.block0_still ..), State.still_memWf (State.block1_still ..),
          State.still_memWf (State.block2_still ..), State.still_memWf (State.clkStage_still ..),
          State.still_memWf (State.cmpCfgWrite_still ..), State.still_memWf (State.fpllWrite_still ..),
          State.still_memWf (State.pdRequest_still ..), State.rstCtl_memWf, State.still_memWf (State.tripWrite_still ..), hw]
         | intro _
         | split
         | refine State.each_memWf _ _ _ (fun s1 x1 hw => ?_) ?_))

theorem opsUSB_memWf : ∀ o ∈ opsUSB, ∀ (who : Who) (n : Nat) (v : Word) (sub : Nat) (s : State), s.memWf = true →
          (o.act who n v sub s).memWf = true := by
  unfold opsUSB
  simp only [List.forall_mem_cons]
  repeat' apply And.intro
  all_goals first
    | exact fun _ h => absurd h List.not_mem_nil
    | (intro who n v sub s hw
       repeat' (first
         | with_reducible exact hw
         | simp only [State.debugReset_memWf, State.still_memWf (State.dmaCtlWrite_still ..),
          State.still_memWf (State.dmaTail_still ..), State.still_memWf (State.doorbell_still ..),
          State.still_memWf (State.mbxDone_still ..), State.still_memWf (State.rearm_still ..),
          State.still_memWf (State.slotWrite_still ..), hw]))

theorem csrOps_memWf : ∀ o ∈ csrOps, ∀ (who : Who) (n : Nat) (v : Word) (sub : Nat) (s : State), s.memWf = true →
          (o.act who n v sub s).memWf = true := by
  intro o ho
  unfold csrOps at ho
  simp only [List.mem_append] at ho
  rcases ho with ((((((((h | h) | h) | h) | h) | h) | h) | h) | h) | h
  · exact opsANG_memWf o h
  · exact opsEVT_memWf o h
  · exact opsSYS_memWf o h
  · exact opsLGR_memWf o h
  · exact opsTIER_memWf o h
  · exact opsLANE_memWf o h
  · exact opsVSM_memWf o h
  · exact opsXBAR_memWf o h
  · exact opsSUP_memWf o h
  · exact opsUSB_memWf o h

theorem csrOpOf_mem {a : Nat} {o : CsrOp} {n : Nat} (h : csrOpOf a = some (o, n)) : o ∈ csrOps := by
  unfold csrOpOf at h
  obtain ⟨p, hp, hq⟩ := List.exists_of_findSome?_eq_some h
  cases hi : p.index a with
  | none => rw [hi] at hq; cases hq
  | some k =>
    rw [hi] at hq
    simp only [Option.map_some, Option.some.injEq, Prod.mk.injEq] at hq
    exact hq.1 ▸ hp

theorem State.csrSet_lead (s : State) (who : Who) (a : Nat) (v : Word) (sub : Nat) : (s.csrSet who a v sub).lead = s.lead := by
  unfold State.csrSet
  split
  · exact State.still_lead (State.answerWith_still ..)
  · exact State.still_lead (State.answerWith_still ..)
  · split
    · exact State.still_lead (State.answerWith_still ..)
    · dsimp only
      split
      · rename_i h
        exact (csrOps_lead _ (csrOpOf_mem h) _ _ _ _ _).trans (State.still_lead (State.answerWith_still ..))
      · exact (State.still_lead (State.plainWrite_still ..)).trans (State.still_lead (State.answerWith_still ..))

theorem State.csrSet_memWf (s : State) (who : Who) (a : Nat) (v : Word) (sub : Nat) (hw : s.memWf = true) : (s.csrSet who a v sub).memWf = true := by
  unfold State.csrSet
  split
  · exact (State.still_memWf (State.answerWith_still ..)).trans hw
  · exact (State.still_memWf (State.answerWith_still ..)).trans hw
  · split
    · exact (State.still_memWf (State.answerWith_still ..)).trans hw
    · have hw' : (s.answerWith stOK []).memWf = true := (State.still_memWf (State.answerWith_still ..)).trans hw
      dsimp only
      split
      · rename_i h
        exact csrOps_memWf _ (csrOpOf_mem h) _ _ _ _ _ hw'
      · exact (State.still_memWf (State.plainWrite_still ..)).trans hw'

theorem State.csrAccess_lead (s : State) (who : Who) (a size : Nat) (f : State → State) (h_f : ∀ x0,
    (f x0).lead = x0.lead) : (s.csrAccess who a size f).lead = s.lead := by
  unfold State.csrAccess
  repeat' (first
    | with_reducible rfl
    | with_reducible assumption
    | intro _
    | simp only [h_f, State.still_lead (State.answerWith_still ..), apply_ite State.lead, ite_self]
    | split)

theorem State.csrAccess_memWf (s : State) (who : Who) (a size : Nat) (f : State → State) (h_f : ∀ x0,
    x0.memWf = true → (f x0).memWf = true) (hw : s.memWf = true) : (s.csrAccess who a size f).memWf = true := by
  unfold State.csrAccess
  repeat' (first
    | with_reducible exact hw
    | simp only [h_f, State.still_memWf (State.answerWith_still ..), hw]
    | split)

theorem State.readSpan_lead (s : State) (ini : Nat) (y0 : Nat) (y1 : Nat) (y2 : Nat) : (s.readSpan ini y0 y1 y2).1.lead = s.lead := by
  induction y0 generalizing s y1 y2 with
  | zero => rfl
  | succ k ih =>
    unfold State.readSpan
    dsimp only
    split
    · rfl
    · split
      · exact State.direct_lead ..
      · exact (ih _ _ _).trans (State.direct_lead ..)

theorem State.readSpan_memWf (s : State) (ini : Nat) (y0 : Nat) (y1 : Nat) (y2 : Nat) (hw : s.memWf = true) : (s.readSpan ini y0 y1 y2).1.memWf = true := by
  induction y0 generalizing s y1 y2 with
  | zero => exact hw
  | succ k ih =>
    unfold State.readSpan
    dsimp only
    split
    · exact hw
    · split
      · exact State.direct_memWf _ _ _ hw
      · exact ih _ _ _ (State.direct_memWf _ _ _ hw)

theorem State.readAt_lead (s : State) (ini a n : Nat) : (s.readAt ini a n).1.lead = s.lead := by
  unfold State.readAt
  simp only [State.readSpan_lead]

theorem State.readAt_memWf (s : State) (ini a n : Nat) (hw : s.memWf = true) : (s.readAt ini a n).1.memWf = true := by
  unfold State.readAt
  simp only [State.readSpan_memWf, hw]

theorem State.writeSpan_lead (s : State) (ini : Nat) (y0 : Nat) (y1 : Nat) (y2 : List Byte) : (s.writeSpan ini y0 y1 y2).1.lead = s.lead := by
  induction y0 generalizing s y1 y2 with
  | zero => rfl
  | succ k ih =>
    unfold State.writeSpan
    dsimp only
    split
    · rfl
    · split
      · exact State.direct_lead ..
      · exact (ih _ _ _).trans (State.direct_lead ..)

theorem State.writeSpan_memWf (s : State) (ini : Nat) (y0 : Nat) (y1 : Nat) (y2 : List Byte) (hw : s.memWf = true) : (s.writeSpan ini y0 y1 y2).1.memWf = true := by
  induction y0 generalizing s y1 y2 with
  | zero => exact hw
  | succ k ih =>
    unfold State.writeSpan
    dsimp only
    split
    · exact hw
    · split
      · exact State.direct_memWf _ _ _ hw
      · exact ih _ _ _ (State.direct_memWf _ _ _ hw)

theorem State.writeAt_lead (s : State) (ini a : Nat) (l : List Byte) : (s.writeAt ini a l).1.lead = s.lead := by
  unfold State.writeAt
  simp only [State.writeSpan_lead]

theorem State.writeAt_memWf (s : State) (ini a : Nat) (l : List Byte) (hw : s.memWf = true) : (s.writeAt ini a l).1.memWf = true := by
  unfold State.writeAt
  simp only [State.writeSpan_memWf, hw]

theorem State.takeSecret_lead (s : State) (a n : Nat) : (s.takeSecret a n).1.lead = s.lead := by
  unfold State.takeSecret
  repeat' (first
    | with_reducible rfl
    | intro _
    | simp only [State.readAt_lead, State.writeAt_lead]
    | split)

theorem State.takeSecret_memWf (s : State) (a n : Nat) (hw : s.memWf = true) : (s.takeSecret a n).1.memWf = true := by
  unfold State.takeSecret
  repeat' (first
    | with_reducible exact hw
    | simp only [State.readAt_memWf, State.writeAt_memWf, hw]
    | split)

theorem State.kbSet_lead (s : State) (m : Nat) : (s.kbSet m).lead = s.lead := by
  unfold State.kbSet
  repeat' (first
    | with_reducible rfl
    | intro _
    | simp only [State.still_lead (State.answerMbx_still ..), State.still_lead (State.aonLog_still ..),
    State.still_lead (State.putB_still ..), State.still_lead (State.setSec_still ..), State.takeSecret_lead,
    apply_ite State.lead]
    | split)

theorem State.kbSet_memWf (s : State) (m : Nat) (hw : s.memWf = true) : (s.kbSet m).memWf = true := by
  unfold State.kbSet
  repeat' (first
    | with_reducible exact hw
    | simp only [State.still_memWf (State.answerMbx_still ..), State.still_memWf (State.aonLog_still ..),
    State.still_memWf (State.putB_still ..), State.still_memWf (State.setSec_still ..), State.takeSecret_memWf, hw]
    | split)

theorem State.kfProg_lead (s : State) (m : Nat) : (s.kfProg m).lead = s.lead := by
  unfold State.kfProg
  repeat' (first
    | with_reducible rfl
    | intro _
    | simp only [State.still_lead (State.answerMbx_still ..), State.still_lead (State.fuseStart_still ..),
    State.takeSecret_lead, apply_ite State.lead]
    | split)

theorem State.kfProg_memWf (s : State) (m : Nat) (hw : s.memWf = true) : (s.kfProg m).memWf = true := by
  unfold State.kfProg
  repeat' (first
    | with_reducible exact hw
    | simp only [State.still_memWf (State.answerMbx_still ..), State.still_memWf (State.fuseStart_still ..),
    State.takeSecret_memWf, hw]
    | split)

theorem State.signerProg_lead (s : State) (m : Nat) : (s.signerProg m).lead = s.lead := by
  unfold State.signerProg
  repeat' (first
    | with_reducible rfl
    | intro _
    | simp only [State.still_lead (State.answerMbx_still ..), State.still_lead (State.fuseStart_still ..), State.readAt_lead,
    apply_ite State.lead]
    | split)

theorem State.signerProg_memWf (s : State) (m : Nat) (hw : s.memWf = true) : (s.signerProg m).memWf = true := by
  unfold State.signerProg
  repeat' (first
    | with_reducible exact hw
    | simp only [State.still_memWf (State.answerMbx_still ..), State.still_memWf (State.fuseStart_still ..),
    State.readAt_memWf, hw]
    | split)

theorem State.rptWrite_lead (s : State) (c : Nat) (rec_ : List Byte) : (s.rptWrite c rec_).1.lead = s.lead := by
  unfold State.rptWrite
  repeat' (first
    | with_reducible rfl
    | intro _
    | simp only [State.postWrite_lead, State.still_lead (State.put_still ..)]
    | split)

theorem State.rptWrite_memWf (s : State) (c : Nat) (rec_ : List Byte) (hw : s.memWf = true) : (s.rptWrite c rec_).1.memWf = true := by
  unfold State.rptWrite
  repeat' (first
    | with_reducible exact hw
    | simp only [State.postWrite_memWf, State.still_memWf (State.put_still ..), hw]
    | split)

theorem State.onReport_lead (s : State) (c src : Nat) (data : List Byte) : (s.onReport c src data).lead = s.lead := by
  unfold State.onReport
  repeat' (first
    | with_reducible rfl
    | intro _
    | simp only [State.still_lead (State.originate_still ..), State.rptWrite_lead, State.still_lead (State.setVsm_still ..),
    apply_ite State.lead]
    | split
    | refine (foldl_lead _ ?_ _ _).trans ?_
    | refine (foldl_lead_fst _ ?_ _ _).trans ?_)

theorem State.onReport_memWf (s : State) (c src : Nat) (data : List Byte) (hw : s.memWf = true) : (s.onReport c src data).memWf = true := by
  unfold State.onReport
  repeat' (first
    | with_reducible exact hw
    | simp only [State.still_memWf (State.originate_still ..), State.rptWrite_memWf,
    State.still_memWf (State.setVsm_still ..), hw]
    | split
    | refine foldl_memWf _ (fun s1 x1 hw => ?_) _ _ ?_
    | refine foldl_memWf_fst _ (fun s1 x1 hw => ?_) _ _ ?_)

theorem State.barLocal_lead (s : State) (off len : Nat) (f : State → State) (h_f : ∀ x0,
    (f x0).lead = x0.lead) : (s.barLocal off len f).lead = s.lead := by
  unfold State.barLocal
  simp only [h_f, State.still_lead (State.answerWith_still ..), apply_ite State.lead, ite_self]

theorem State.barLocal_memWf (s : State) (off len : Nat) (f : State → State) (h_f : ∀ x0,
    x0.memWf = true → (f x0).memWf = true) (hw : s.memWf = true) : (s.barLocal off len f).memWf = true := by
  unfold State.barLocal
  repeat' (first
    | with_reducible exact hw
    | simp only [h_f, State.still_memWf (State.answerWith_still ..), hw]
    | split)

theorem State.hostMemWrite_lead (s : State) (bar off : Nat) (data : List Byte) : (s.hostMemWrite bar off data).lead = s.lead := by
  unfold State.hostMemWrite
  repeat' (first
    | with_reducible rfl
    | intro _
    | simp only [State.csrSet_lead, State.still_lead (State.hostWrite_still ..),
    State.still_lead (State.writeFailed_still ..), lead_mk, lead_fold, apply_ite State.lead, ite_self]
    | split
    | refine (State.barLocal_lead _ _ _ _ ?_).trans ?_)

theorem State.hostMemWrite_memWf (s : State) (bar off : Nat) (data : List Byte) (hw : s.memWf = true) : (s.hostMemWrite bar off data).memWf = true := by
  unfold State.hostMemWrite
  repeat' (first
    | with_reducible exact hw
    | simp only [State.csrSet_memWf, State.still_memWf (State.hostWrite_still ..),
    State.still_memWf (State.writeFailed_still ..), memWf_mk, memOk_fold, hw]
    | split
    | refine State.barLocal_memWf _ _ _ _ (fun s1 hw => ?_) ?_)

theorem State.essentialByte_lead (s : State) (g c tile i : Nat) : (s.essentialByte g c tile i).1.lead = s.lead := by
  unfold State.essentialByte
  repeat' (first
    | with_reducible rfl
    | intro _
    | simp only [State.direct_lead, State.still_lead (State.raise_still ..)]
    | split)

theorem State.essentialByte_memWf (s : State) (g c tile i : Nat) (hw : s.memWf = true) : (s.essentialByte g c tile i).1.memWf = true := by
  unfold State.essentialByte
  repeat' (first
    | with_reducible exact hw
    | simp only [State.direct_memWf, State.still_memWf (State.raise_still ..), hw]
    | split)

theorem State.essential_lead (s : State) (g c tile kind : Nat) (l : List Nat) : (s.essential g c tile kind l).1.lead = s.lead := by
  unfold State.essential
  repeat' (first
    | with_reducible rfl
    | intro _
    | simp only [State.essentialByte_lead]
    | split
    | refine (foldl_lead _ ?_ _ _).trans ?_
    | refine (foldl_lead_fst _ ?_ _ _).trans ?_)

theorem State.essential_memWf (s : State) (g c tile kind : Nat) (l : List Nat) (hw : s.memWf = true) : (s.essential g c tile kind l).1.memWf = true := by
  unfold State.essential
  repeat' (first
    | with_reducible exact hw
    | simp only [State.essentialByte_memWf, hw]
    | split
    | refine foldl_memWf _ (fun s1 x1 hw => ?_) _ _ ?_
    | refine foldl_memWf_fst _ (fun s1 x1 hw => ?_) _ _ ?_)

theorem State.checkActive_lead (s : State) (g c tile kind : Nat) : (s.checkActive g c tile kind).1.lead = s.lead := by
  unfold State.checkActive
  repeat' (first
    | with_reducible rfl
    | intro _
    | simp only [State.essential_lead, State.still_lead (State.finding_still ..), State.still_lead (State.holdAsk_still ..),
    State.still_lead (State.quarantine_still ..), State.still_lead (State.setRegion_still ..), lead_mk, lead_fold,
    apply_ite State.lead, ite_self]
    | split)

theorem State.checkActive_memWf (s : State) (g c tile kind : Nat) (hw : s.memWf = true) : (s.checkActive g c tile kind).1.memWf = true := by
  unfold State.checkActive
  repeat' (first
    | with_reducible exact hw
    | simp only [State.essential_memWf, State.still_memWf (State.finding_still ..),
    State.still_memWf (State.holdAsk_still ..), State.still_memWf (State.quarantine_still ..),
    State.still_memWf (State.setRegion_still ..), memWf_mk, memOk_fold, hw]
    | split)

theorem State.scrubTile_lead (s : State) (g : Nat) : (s.scrubTile g).lead = s.lead := by
  unfold State.scrubTile
  repeat' (first
    | with_reducible rfl
    | intro _
    | simp only [State.checkActive_lead, State.still_lead (State.putB_still ..), State.still_lead (State.setScrub_still ..),
    apply_ite State.lead]
    | split
    | refine (foldl_lead _ ?_ _ _).trans ?_
    | refine (foldl_lead_fst _ ?_ _ _).trans ?_)

theorem State.scrubTile_memWf (s : State) (g : Nat) (hw : s.memWf = true) : (s.scrubTile g).memWf = true := by
  unfold State.scrubTile
  repeat' (first
    | with_reducible exact hw
    | simp only [State.checkActive_memWf, State.still_memWf (State.putB_still ..),
    State.still_memWf (State.setScrub_still ..), hw]
    | split
    | refine foldl_memWf _ (fun s1 x1 hw => ?_) _ _ ?_
    | refine foldl_memWf_fst _ (fun s1 x1 hw => ?_) _ _ ?_)

theorem State.scrubTick_lead (s : State) : s.scrubTick.lead = s.lead := by
  unfold State.scrubTick
  repeat' (first
    | with_reducible rfl
    | intro _
    | simp only [State.scrubTile_lead]
    | refine (State.each_lead _ _ _ ?_).trans ?_)

theorem State.scrubTick_memWf (s : State) (hw : s.memWf = true) : s.scrubTick.memWf = true := by
  unfold State.scrubTick
  repeat' (first
    | with_reducible exact hw
    | simp only [State.scrubTile_memWf, hw]
    | refine State.each_memWf _ _ _ (fun s1 k1 hw => ?_) ?_)

theorem State.storedCheck_lead (s : State) (a : Nat) : (s.storedCheck a).lead = s.lead := by
  unfold State.storedCheck
  simp only [State.checkActive_lead, State.still_lead (State.finding_still ..), State.still_lead (State.put_still ..),
    State.still_lead (State.setSlot_still ..), apply_ite State.lead, ite_self]

theorem State.storedCheck_memWf (s : State) (a : Nat) (hw : s.memWf = true) : (s.storedCheck a).memWf = true := by
  unfold State.storedCheck
  repeat' (first
    | with_reducible exact hw
    | simp only [State.checkActive_memWf, State.still_memWf (State.finding_still ..), State.still_memWf (State.put_still ..),
    State.still_memWf (State.setSlot_still ..), hw]
    | split)

theorem State.tripSample_lead (s : State) (n : Nat) (t : Int) : (s.tripSample n t).lead = s.lead := by
  unfold State.tripSample
  simp only [State.resetAccept_lead, lead_mk, lead_fold, apply_ite State.lead, ite_self]

theorem State.tripSample_memWf (s : State) (n : Nat) (t : Int) (hw : s.memWf = true) : (s.tripSample n t).memWf = true := by
  unfold State.tripSample
  repeat' (first
    | with_reducible exact hw
    | simp only [State.resetAccept_memWf, memWf_mk, memOk_fold, hw]
    | split)

theorem State.thmSample_lead (s : State) (n : Nat) (temp : Option Int) : (s.thmSample n temp).lead = s.lead := by
  unfold State.thmSample
  simp only [State.still_lead (State.channelAct_still ..), State.still_lead (State.hottest_still ..),
    State.still_lead (State.put_still ..), State.still_lead (State.putB_still ..), State.still_lead (State.raise_still ..),
    State.tripSample_lead, apply_ite State.lead, ite_self]

theorem State.thmSample_memWf (s : State) (n : Nat) (temp : Option Int) (hw : s.memWf = true) : (s.thmSample n temp).memWf = true := by
  unfold State.thmSample
  repeat' (first
    | with_reducible exact hw
    | simp only [State.still_memWf (State.channelAct_still ..), State.still_memWf (State.hottest_still ..),
    State.still_memWf (State.put_still ..), State.still_memWf (State.putB_still ..),
    State.still_memWf (State.raise_still ..), State.tripSample_memWf, hw]
    | split)

theorem State.serveCsr_lead (s : State) (q : Req) : (s.serveCsr q).lead = s.lead := by
  unfold State.serveCsr
  simp only [State.still_lead (State.csrGet_still ..), State.csrSet_lead, State.still_lead (State.respond_still ..),
    lead_mk, lead_fold, apply_ite State.lead, ite_self]

theorem State.serveCsr_memWf (s : State) (q : Req) (hw : s.memWf = true) : (s.serveCsr q).memWf = true := by
  unfold State.serveCsr
  repeat' (first
    | with_reducible exact hw
    | simp only [State.still_memWf (State.csrGet_still ..), State.csrSet_memWf, State.still_memWf (State.respond_still ..),
    memWf_mk, memOk_fold, hw]
    | split)

theorem State.imgRead_lead (s : State) (src a n : Nat) : (s.imgRead src a n).1.lead = s.lead := by
  unfold State.imgRead
  repeat' (first
    | with_reducible rfl
    | intro _
    | simp only [State.still_lead (State.flashSend_still ..), State.readAt_lead]
    | split)

theorem State.imgRead_memWf (s : State) (src a n : Nat) (hw : s.memWf = true) : (s.imgRead src a n).1.memWf = true := by
  unfold State.imgRead
  repeat' (first
    | with_reducible exact hw
    | simp only [State.still_memWf (State.flashSend_still ..), State.readAt_memWf, hw]
    | split)

theorem State.serveTwinPath_lead (s : State) (q : Req) : (s.serveTwinPath q).lead = s.lead := by
  unfold State.serveTwinPath
  repeat' (first
    | with_reducible rfl
    | with_reducible assumption
    | intro _
    | simp only [State.still_lead (State.respond_still ..), apply_ite State.lead]
    | split)

theorem State.serveTwinPath_memWf (s : State) (q : Req) (hw : s.memWf = true) : (s.serveTwinPath q).memWf = true := by
  unfold State.serveTwinPath
  repeat' (first
    | with_reducible exact hw
    | simp only [State.still_memWf (State.respond_still ..), hw]
    | split)

theorem State.serveHbmPort_lead (s : State) (q : Req) (e : HbmErr) : (s.serveHbmPort q e).lead = s.lead := by
  unfold State.serveHbmPort
  repeat' (first
    | with_reducible rfl
    | intro _
    | simp only [State.hbmServe_lead, State.still_lead (State.raise_still ..), State.still_lead (State.respond_still ..),
    lead_mk, lead_fold, apply_ite State.lead, ite_self]
    | split)

theorem State.serveHbmPort_memWf (s : State) (q : Req) (e : HbmErr) (hw : s.memWf = true) : (s.serveHbmPort q e).memWf = true := by
  unfold State.serveHbmPort
  repeat' (first
    | with_reducible exact hw
    | simp only [State.hbmServe_memWf, State.still_memWf (State.raise_still ..), State.still_memWf (State.respond_still ..),
    memWf_mk, memOk_fold, hw]
    | split)

theorem State.serveAt_lead (s : State) (t : Target4) (q : Req) (e : HbmErr) : (s.serveAt t q e).lead = s.lead := by
  unfold State.serveAt
  repeat' (first
    | with_reducible rfl
    | intro _
    | simp only [State.still_lead (State.bankAccept_still ..), State.still_lead (State.serveConfig_still ..),
    State.serveCsr_lead, State.serveHbmPort_lead, State.serveTwinPath_lead, State.still_lead (State.toRegion_still ..),
    State.still_lead (State.tunnel_still ..)]
    | split)

theorem State.serveAt_memWf (s : State) (t : Target4) (q : Req) (e : HbmErr) (hw : s.memWf = true) : (s.serveAt t q e).memWf = true := by
  unfold State.serveAt
  repeat' (first
    | with_reducible exact hw
    | simp only [State.still_memWf (State.bankAccept_still ..), State.still_memWf (State.serveConfig_still ..),
    State.serveCsr_memWf, State.serveHbmPort_memWf, State.serveTwinPath_memWf, State.still_memWf (State.toRegion_still ..),
    State.still_memWf (State.tunnel_still ..), hw]
    | split)

theorem State.serveRequest_lead (s : State) (q : Req) (e : HbmErr) : (s.serveRequest q e).lead = s.lead := by
  unfold State.serveRequest
  repeat' (first
    | with_reducible rfl
    | intro _
    | simp only [State.still_lead (State.respond_still ..), State.serveAt_lead, State.still_lead (State.targetGate_still ..)]
    | split)

theorem State.serveRequest_memWf (s : State) (q : Req) (e : HbmErr) (hw : s.memWf = true) : (s.serveRequest q e).memWf = true := by
  unfold State.serveRequest
  repeat' (first
    | with_reducible exact hw
    | simp only [State.still_memWf (State.respond_still ..), State.serveAt_memWf,
    State.still_memWf (State.targetGate_still ..), hw]
    | split)

theorem State.forward_lead (s : State) (router out : Nat) (hit : Bool) (e : HbmErr) : (s.forward router out hit e).lead = s.lead := by
  unfold State.forward
  repeat' (first
    | with_reducible rfl
    | intro _
    | simp only [State.still_lead (State.headerFail_still ..), State.still_lead (State.leave_still ..),
    State.still_lead (State.nextRouter_still ..), State.serveRequest_lead, lead_mk, lead_fold, apply_ite State.lead, ite_self]
    | split)

theorem State.forward_memWf (s : State) (router out : Nat) (hit : Bool) (e : HbmErr) (hw : s.memWf = true) : (s.forward router out hit e).memWf = true := by
  unfold State.forward
  repeat' (first
    | with_reducible exact hw
    | simp only [State.still_memWf (State.headerFail_still ..), State.still_memWf (State.leave_still ..),
    State.still_memWf (State.nextRouter_still ..), State.serveRequest_memWf, memWf_mk, memOk_fold, hw]
    | split)

theorem State.dapSide_lead (s : State) (a : Nat) (v : Option Word) : (s.dapSide a v).lead = s.lead := by
  unfold State.dapSide
  repeat' (first
    | with_reducible rfl
    | intro _
    | simp only [State.still_lead (State.csrGet_still ..), State.csrSet_lead, State.still_lead (State.dapArrive_still ..),
    lead_mk, lead_fold]
    | split)

theorem State.dapSide_memWf (s : State) (a : Nat) (v : Option Word) (hw : s.memWf = true) : (s.dapSide a v).memWf = true := by
  unfold State.dapSide
  repeat' (first
    | with_reducible exact hw
    | simp only [State.still_memWf (State.csrGet_still ..), State.csrSet_memWf, State.still_memWf (State.dapArrive_still ..),
    memWf_mk, memOk_fold, hw]
    | split)

theorem State.dapAccess_lead (s : State) (a : Nat) (plain inc : Bool) (v : Option Word) : (s.dapAccess a plain inc v).lead = s.lead := by
  unfold State.dapAccess
  repeat' (first
    | with_reducible rfl
    | intro _
    | simp only [State.still_lead (State.bump_still ..), State.still_lead (State.dapArrive_still ..),
    State.still_lead (State.dapClear_still ..), State.dapSide_lead, State.still_lead (State.hostAnswers_still ..),
    State.still_lead (State.request_still ..), State.still_lead (State.setJtag_still ..),
    State.still_lead (State.vsmAnswers_still ..), lead_mk, lead_fold, apply_ite State.lead, ite_self]
    | split)

theorem State.dapAccess_memWf (s : State) (a : Nat) (plain inc : Bool) (v : Option Word) (hw : s.memWf = true) : (s.dapAccess a plain inc v).memWf = true := by
  unfold State.dapAccess
  repeat' (first
    | with_reducible exact hw
    | simp only [State.still_memWf (State.bump_still ..), State.still_memWf (State.dapArrive_still ..),
    State.still_memWf (State.dapClear_still ..), State.dapSide_memWf, State.still_memWf (State.hostAnswers_still ..),
    State.still_memWf (State.request_still ..), State.still_memWf (State.setJtag_still ..),
    State.still_memWf (State.vsmAnswers_still ..), memWf_mk, memOk_fold, hw]
    | split)

theorem State.acceptParts_lead (s : State) (x : LoadCh) : (s.acceptParts x).1.lead = s.lead := by
  unfold State.acceptParts
  repeat' (first
    | with_reducible rfl
    | intro _
    | simp only [State.imgRead_lead]
    | split)

theorem State.acceptParts_memWf (s : State) (x : LoadCh) (hw : s.memWf = true) : (s.acceptParts x).1.memWf = true := by
  have h1 := State.imgRead_memWf s x.src x.base 256 hw
  unfold State.acceptParts
  dsimp only
  split
  · exact h1
  · repeat' split
    all_goals first
      | exact h1
      | exact State.imgRead_memWf _ _ _ _ (State.imgRead_memWf _ _ _ _ h1)

theorem State.segEnter_lead (s : State) (n k : Nat) : (s.segEnter n k).lead = s.lead := by
  unfold State.segEnter
  repeat' (first
    | with_reducible rfl
    | intro _
    | simp only [State.imgRead_lead, State.still_lead (State.loadAbort_still ..), State.still_lead (State.put_still ..),
    State.still_lead (State.setLoadCh_still ..), apply_ite State.lead, ite_self]
    | split)

theorem State.segEnter_memWf (s : State) (n k : Nat) (hw : s.memWf = true) : (s.segEnter n k).memWf = true := by
  unfold State.segEnter
  repeat' (first
    | with_reducible exact hw
    | simp only [State.imgRead_memWf, State.still_memWf (State.loadAbort_still ..), State.still_memWf (State.put_still ..),
    State.still_memWf (State.setLoadCh_still ..), hw]
    | split)

theorem State.loadOpen_lead (s : State) (n : Nat) (x : LoadCh) (dig : List Byte) : (s.loadOpen n x dig).lead = s.lead := by
  unfold State.loadOpen
  refine (State.segEnter_lead ..).trans ((foldl_lead _ (fun s1 e1 => ?_) _ _).trans ((State.still_lead (State.setLoadCh_still ..)).trans ?_))
  · exact State.still_lead ((State.setCfg_still ..).trans (State.slotLoading_still ..))
  · split
    · exact State.still_lead ((State.each_still _ _ _ (fun _ _ => State.put_still ..)).trans (State.setCfg_still ..))
    · rfl

theorem State.loadOpen_memWf (s : State) (n : Nat) (x : LoadCh) (dig : List Byte) (hw : s.memWf = true) : (s.loadOpen n x dig).memWf = true := by
  unfold State.loadOpen
  refine State.segEnter_memWf _ _ _ (foldl_memWf _ (fun s1 e1 h1 => ?_) _ _ ((State.still_memWf (State.setLoadCh_still ..)).trans ?_))
  · exact (State.still_memWf ((State.setCfg_still ..).trans (State.slotLoading_still ..))).trans h1
  · split
    · exact (State.still_memWf ((State.each_still _ _ _ (fun _ _ => State.put_still ..)).trans (State.setCfg_still ..))).trans hw
    · exact hw

theorem State.loadAccept_lead (s : State) (n : Nat) : (s.loadAccept n).lead = s.lead := by
  unfold State.loadAccept
  simp only [State.acceptParts_lead, State.still_lead (State.loadEnd_still ..), State.loadOpen_lead,
    State.still_lead (State.put_still ..), State.still_lead (State.setLoadCh_still ..), apply_ite State.lead, ite_self]

theorem State.loadAccept_memWf (s : State) (n : Nat) (hw : s.memWf = true) : (s.loadAccept n).memWf = true := by
  unfold State.loadAccept
  repeat' (first
    | with_reducible exact hw
    | simp only [State.acceptParts_memWf, State.still_memWf (State.loadEnd_still ..), State.loadOpen_memWf,
    State.still_memWf (State.put_still ..), State.still_memWf (State.setLoadCh_still ..), hw]
    | split)

theorem State.loadTake_lead (s : State) (n : Nat) (x : LoadCh) : (s.loadTake n x).lead = s.lead := by
  unfold State.loadTake
  simp only [State.loadAccept_lead, State.still_lead (State.put_still ..), State.still_lead (State.putB_still ..),
    State.still_lead (State.setBit_still ..), State.still_lead (State.setLoadCh_still ..)]

theorem State.loadTake_memWf (s : State) (n : Nat) (x : LoadCh) (hw : s.memWf = true) : (s.loadTake n x).memWf = true := by
  unfold State.loadTake
  simp only [State.loadAccept_memWf, State.still_memWf (State.put_still ..), State.still_memWf (State.putB_still ..),
    State.still_memWf (State.setBit_still ..), State.still_memWf (State.setLoadCh_still ..), hw]

theorem State.fetchRow_lead (s : State) (twin : Option (List Byte)) : (s.fetchRow twin).lead = s.lead := by
  unfold State.fetchRow
  simp only [State.loadTake_lead, State.still_lead (State.setCfg_still ..), State.still_lead (State.setStart_still ..),
    State.still_lead (State.startSettle_still ..), apply_ite State.lead, ite_self]

theorem State.fetchRow_memWf (s : State) (twin : Option (List Byte)) (hw : s.memWf = true) : (s.fetchRow twin).memWf = true := by
  unfold State.fetchRow
  repeat' (first
    | with_reducible exact hw
    | simp only [State.loadTake_memWf, State.still_memWf (State.setCfg_still ..),
    State.still_memWf (State.setStart_still ..), State.still_memWf (State.startSettle_still ..), hw]
    | split)

theorem State.scrInitStack_lead (s : State) (k : Nat) : (s.scrInitStack k).lead = s.lead := by
  unfold State.scrInitStack
  repeat' (first
    | with_reducible rfl
    | intro _
    | simp only [State.still_lead (State.clrBit_still ..), State.forget_lead, State.still_lead (State.wr_still ..), lead_mk,
    lead_fold]
    | refine (State.each_lead _ _ _ ?_).trans ?_)

theorem State.scrInitStack_memWf (s : State) (k : Nat) (hw : s.memWf = true) : (s.scrInitStack k).memWf = true := by
  unfold State.scrInitStack
  repeat' (first
    | with_reducible exact hw
    | simp only [State.still_memWf (State.clrBit_still ..), State.forget_memWf, State.still_memWf (State.wr_still ..),
    memWf_mk, memOk_fold, hw]
    | refine State.each_memWf _ _ _ (fun s1 k1 hw => ?_) ?_)

theorem State.trainEnd_lead (s : State) (bad : Nat) : (s.trainEnd bad).lead = s.lead := by
  unfold State.trainEnd
  repeat' (first
    | with_reducible rfl
    | intro _
    | simp only [State.still_lead (State.drawKeys_still ..), State.scrInitStack_lead,
    State.still_lead (State.setStart_still ..), State.still_lead (State.stepNext_still ..)]
    | refine (State.each_lead _ _ _ ?_).trans ?_)

theorem State.trainEnd_memWf (s : State) (bad : Nat) (hw : s.memWf = true) : (s.trainEnd bad).memWf = true := by
  unfold State.trainEnd
  repeat' (first
    | with_reducible exact hw
    | simp only [State.still_memWf (State.drawKeys_still ..), State.scrInitStack_memWf,
    State.still_memWf (State.setStart_still ..), State.still_memWf (State.stepNext_still ..), hw]
    | refine State.each_memWf _ _ _ (fun s1 k1 hw => ?_) ?_)

theorem State.stackLost_lead (s : State) (k : Nat) : (s.stackLost k).lead = s.lead := by
  unfold State.stackLost
  repeat' (first
    | with_reducible rfl
    | intro _
    | simp only [State.still_lead (State.put_still ..), State.scrInitStack_lead]
    | refine (State.each_lead _ _ _ ?_).trans ?_)

theorem State.stackLost_memWf (s : State) (k : Nat) (hw : s.memWf = true) : (s.stackLost k).memWf = true := by
  unfold State.stackLost
  repeat' (first
    | with_reducible exact hw
    | simp only [State.still_memWf (State.put_still ..), State.scrInitStack_memWf, hw]
    | refine State.each_memWf _ _ _ (fun s1 k1 hw => ?_) ?_)

theorem State.trainRow_lead (s : State) (failed : Nat) (rng : Bool) : (s.trainRow failed rng).lead = s.lead := by
  unfold State.trainRow
  repeat' (first
    | with_reducible rfl
    | intro _
    | simp only [State.still_lead (State.put_still ..), State.still_lead (State.putB_still ..),
    State.still_lead (State.setStack_still ..), State.still_lead (State.setStart_still ..), State.stackLost_lead,
    State.still_lead (State.startFail_still ..), State.trainEnd_lead, apply_ite State.lead, ite_self]
    | split
    | refine (State.each_lead _ _ _ ?_).trans ?_)

theorem State.trainRow_memWf (s : State) (failed : Nat) (rng : Bool) (hw : s.memWf = true) : (s.trainRow failed rng).memWf = true := by
  unfold State.trainRow
  split
  · exact hw
  · split
    · split
      · exact State.trainEnd_memWf _ _ ((State.still_memWf (State.putB_still ..)).trans hw)
      · exact hw
    · dsimp only
      have h1 : ∀ (t : State) (bad : Nat), t.memWf = true → (t.each (List.range 4) (fun s k =>
          if bad.testBit k then (s.stackLost k).setStack k 3 else s.setStack k 2)).memWf = true := by
        intro t bad ht
        refine State.each_memWf _ _ _ (fun s1 k1 hw => ?_) ht
        split
        · exact (State.still_memWf (State.setStack_still ..)).trans (State.stackLost_memWf _ _ hw)
        · exact (State.still_memWf (State.setStack_still ..)).trans hw
      have h2 := h1 (s.put R.HBM_STATUS.RATE (min ((s.applied stepHBMTRAIN actALTERNATE).getD 0 % 4) 2)) (failed % 16)
        ((State.still_memWf (State.put_still ..)).trans hw)
      split
      · exact (State.still_memWf (State.startFail_still ..)).trans ((State.still_memWf (State.setStart_still ..)).trans h2)
      · split
        · exact State.trainEnd_memWf _ _ ((State.still_memWf (State.putB_still ..)).trans
            ((State.still_memWf (State.setStart_still ..)).trans h2))
        · exact (State.still_memWf (State.setStart_still ..)).trans ((State.still_memWf (State.putB_still ..)).trans
            ((State.still_memWf (State.setStart_still ..)).trans h2))

theorem State.marchJudge_lead (s : State) (destructive : Bool) (failed : List (Nat × Nat)) (n : Nat) : (s.marchJudge destructive failed n).lead = s.lead := by
  unfold State.marchJudge
  repeat' (first
    | with_reducible rfl
    | intro _
    | simp only [State.still_lead (State.free_still ..), State.still_lead (State.put_still ..),
    State.still_lead (State.putB_still ..), State.refill_lead, State.setBankWord_lead, apply_ite State.lead, ite_self]
    | split
    | refine (foldl_lead _ ?_ _ _).trans ?_)

theorem State.marchJudge_memWf (s : State) (destructive : Bool) (failed : List (Nat × Nat)) (n : Nat) (hw : s.memWf = true) : (s.marchJudge destructive failed n).memWf = true := by
  unfold State.marchJudge
  repeat' (first
    | with_reducible exact hw
    | simp only [State.still_memWf (State.free_still ..), State.still_memWf (State.put_still ..),
    State.still_memWf (State.putB_still ..), State.refill_memWf, State.setBankWord_memWf, hw]
    | split
    | refine foldl_memWf _ (fun s1 x1 hw => ?_) _ _ ?_)

theorem State.marchEnd_lead (s : State) (fails : List (Nat × Nat)) : (s.marchEnd fails).lead = s.lead := by
  unfold State.marchEnd
  repeat' (first
    | with_reducible rfl
    | intro _
    | simp only [State.still_lead (State.marchGive_still ..), State.marchJudge_lead, State.still_lead (State.put_still ..),
    State.still_lead (State.putB_still ..), State.still_lead (State.raise_still ..), lead_mk, lead_fold,
    apply_ite State.lead, ite_self]
    | split
    | refine (State.each_lead _ _ _ ?_).trans ?_)

theorem State.marchEnd_memWf (s : State) (fails : List (Nat × Nat)) (hw : s.memWf = true) : (s.marchEnd fails).memWf = true := by
  unfold State.marchEnd
  repeat' (first
    | with_reducible exact hw
    | simp only [State.still_memWf (State.marchGive_still ..), State.marchJudge_memWf,
    State.still_memWf (State.put_still ..), State.still_memWf (State.putB_still ..),
    State.still_memWf (State.raise_still ..), memWf_mk, memOk_fold, hw]
    | split
    | refine State.each_memWf _ _ _ (fun s1 k1 hw => ?_) ?_)

theorem State.marchRow_lead (s : State) (fails : List (Nat × Nat)) : (s.marchRow fails).lead = s.lead := by
  unfold State.marchRow
  simp only [State.marchEnd_lead, State.still_lead (State.marchStart_still ..), State.still_lead (State.putB_still ..),
    State.still_lead (State.startFail_still ..), State.still_lead (State.startFlag_still ..),
    State.still_lead (State.stepNext_still ..), apply_ite State.lead, ite_self]

theorem State.marchRow_memWf (s : State) (fails : List (Nat × Nat)) (hw : s.memWf = true) : (s.marchRow fails).memWf = true := by
  unfold State.marchRow
  repeat' (first
    | with_reducible exact hw
    | simp only [State.marchEnd_memWf, State.still_memWf (State.marchStart_still ..),
    State.still_memWf (State.putB_still ..), State.still_memWf (State.startFail_still ..),
    State.still_memWf (State.startFlag_still ..), State.still_memWf (State.stepNext_still ..), hw]
    | split)

theorem State.heldWrite_lead (s : State) (a : Nat) (v : Word) : (s.heldWrite a v).1.lead = s.lead := by
  unfold State.heldWrite
  repeat' (first
    | with_reducible rfl
    | intro _
    | simp only [State.csrSet_lead, State.still_lead (State.setStart_still ..), lead_mk, lead_fold]
    | split
    | refine (State.csrAccess_lead _ _ _ _ _ ?_).trans ?_)

theorem State.heldWrite_memWf (s : State) (a : Nat) (v : Word) (hw : s.memWf = true) : (s.heldWrite a v).1.memWf = true := by
  unfold State.heldWrite
  repeat' (first
    | with_reducible exact hw
    | simp only [State.csrSet_memWf, State.still_memWf (State.setStart_still ..), memWf_mk, memOk_fold, hw]
    | split
    | refine State.csrAccess_memWf _ _ _ _ _ (fun s1 hw => ?_) ?_)

theorem State.csrRow_lead (s : State) : s.csrRow.lead = s.lead := by
  unfold State.csrRow
  repeat' (first
    | with_reducible rfl
    | intro _
    | simp only [State.heldWrite_lead, State.still_lead (State.startFail_still ..),
    State.still_lead (State.stepNext_still ..), apply_ite State.lead, ite_self]
    | split
    | refine (foldl_lead _ ?_ _ _).trans ?_
    | refine (foldl_lead_fst _ ?_ _ _).trans ?_)

theorem State.csrRow_memWf (s : State) (hw : s.memWf = true) : s.csrRow.memWf = true := by
  unfold State.csrRow
  repeat' (first
    | with_reducible exact hw
    | simp only [State.heldWrite_memWf, State.still_memWf (State.startFail_still ..),
    State.still_memWf (State.stepNext_still ..), hw]
    | split
    | refine foldl_memWf _ (fun s1 x1 hw => ?_) _ _ ?_
    | refine foldl_memWf_fst _ (fun s1 x1 hw => ?_) _ _ ?_)

theorem State.emitRecord_lead (s : State) (head body : List Byte) (entry : Option Nat) : (s.emitRecord head body entry).lead = s.lead := by
  unfold State.emitRecord
  simp only [State.still_lead (State.bump_still ..), State.still_lead (State.bumpWrap_still ..),
    State.still_lead (State.ctrNote_still ..), State.still_lead (State.put_still ..), State.still_lead (State.putB_still ..),
    State.still_lead (State.raise_still ..), State.still_lead (State.recordDone_still ..), State.ringDrain_lead, lead_mk,
    lead_fold, apply_ite State.lead, ite_self]

theorem State.emitRecord_memWf (s : State) (head body : List Byte) (entry : Option Nat) (hw : s.memWf = true) : (s.emitRecord head body entry).memWf = true := by
  unfold State.emitRecord
  repeat' (first
    | with_reducible exact hw
    | simp only [State.still_memWf (State.bump_still ..), State.still_memWf (State.bumpWrap_still ..),
    State.still_memWf (State.ctrNote_still ..), State.still_memWf (State.put_still ..),
    State.still_memWf (State.putB_still ..), State.still_memWf (State.raise_still ..),
    State.still_memWf (State.recordDone_still ..), State.ringDrain_memWf, memWf_mk, memOk_fold, hw]
    | split)

theorem State.ledgerPower_lead (s : State) (time : Nat) : (s.ledgerPower time).lead = s.lead := by
  unfold State.ledgerPower
  repeat' (first
    | with_reducible rfl
    | intro _
    | simp only [State.emitRecord_lead, State.still_lead (State.put_still ..), lead_mk, lead_fold, apply_ite State.lead,
    ite_self]
    | split
    | refine (State.each_lead _ _ _ ?_).trans ?_)

theorem State.ledgerPower_memWf (s : State) (time : Nat) (hw : s.memWf = true) : (s.ledgerPower time).memWf = true := by
  unfold State.ledgerPower
  repeat' (first
    | with_reducible exact hw
    | simp only [State.emitRecord_memWf, State.still_memWf (State.put_still ..), memWf_mk, memOk_fold, hw]
    | split
    | refine State.each_memWf _ _ _ (fun s1 k1 hw => ?_) ?_)

theorem State.ledgerRow_lead (s : State) (bad : Bool) : (s.ledgerRow bad).lead = s.lead := by
  unfold State.ledgerRow
  simp only [State.ledgerPower_lead, State.still_lead (State.ledgerReclose_still ..),
    State.still_lead (State.mainOffTime_still ..), State.still_lead (State.put_still ..),
    State.still_lead (State.putB_still ..), State.still_lead (State.startFail_still ..),
    State.still_lead (State.startFlag_still ..), State.still_lead (State.stepNext_still ..), apply_ite State.lead, ite_self]

theorem State.ledgerRow_memWf (s : State) (bad : Bool) (hw : s.memWf = true) : (s.ledgerRow bad).memWf = true := by
  unfold State.ledgerRow
  repeat' (first
    | with_reducible exact hw
    | simp only [State.ledgerPower_memWf, State.still_memWf (State.ledgerReclose_still ..),
    State.still_memWf (State.mainOffTime_still ..), State.still_memWf (State.put_still ..),
    State.still_memWf (State.putB_still ..), State.still_memWf (State.startFail_still ..),
    State.still_memWf (State.startFlag_still ..), State.still_memWf (State.stepNext_still ..), hw]
    | split)

theorem State.retryRow_lead (s : State) : s.retryRow.lead = s.lead := by
  unfold State.retryRow
  simp only [State.resetAccept_lead, apply_ite State.lead, ite_self]

theorem State.retryRow_memWf (s : State) (hw : s.memWf = true) : s.retryRow.memWf = true := by
  unfold State.retryRow
  repeat' (first
    | with_reducible exact hw
    | simp only [State.resetAccept_memWf, hw]
    | split)

theorem State.domainLost_lead (s : State) (n : Nat) (keep : Bool) : (s.domainLost n keep).lead = s.lead := by
  unfold State.domainLost
  repeat' (first
    | with_reducible rfl
    | intro _
    | simp only [State.still_lead (State.clrBit_still ..), State.forget_lead, State.still_lead (State.laneOff_still ..),
    State.still_lead (State.linkDrop_still ..), State.still_lead (State.putB_still ..),
    State.still_lead (State.regionDark_still ..), State.still_lead (State.setOwner_still ..),
    State.still_lead (State.setStack_still ..), State.still_lead (State.slotsGone_still ..), State.stackLost_lead, lead_mk,
    lead_fold, apply_ite State.lead]
    | split
    | refine (State.each_lead _ _ _ ?_).trans ?_)

theorem State.domainLost_memWf (s : State) (n : Nat) (keep : Bool) (hw : s.memWf = true) : (s.domainLost n keep).memWf = true := by
  unfold State.domainLost
  repeat' (first
    | with_reducible exact hw
    | simp only [State.still_memWf (State.clrBit_still ..), State.forget_memWf, State.still_memWf (State.laneOff_still ..),
    State.still_memWf (State.linkDrop_still ..), State.still_memWf (State.putB_still ..),
    State.still_memWf (State.regionDark_still ..), State.still_memWf (State.setOwner_still ..),
    State.still_memWf (State.setStack_still ..), State.still_memWf (State.slotsGone_still ..), State.stackLost_memWf,
    memWf_mk, memOk_fold, hw]
    | split
    | refine State.each_memWf _ _ _ (fun s1 k1 hw => ?_) ?_)

theorem State.domainOff_lead (s : State) (n : Nat) : (s.domainOff n).lead = s.lead := by
  unfold State.domainOff
  simp only [State.domainLost_lead, State.still_lead (State.pdNext_still ..), State.still_lead (State.setPd_still ..),
    apply_ite State.lead, ite_self]

theorem State.domainOff_memWf (s : State) (n : Nat) (hw : s.memWf = true) : (s.domainOff n).memWf = true := by
  unfold State.domainOff
  repeat' (first
    | with_reducible exact hw
    | simp only [State.domainLost_memWf, State.still_memWf (State.pdNext_still ..), State.still_memWf (State.setPd_still ..),
    hw]
    | split)

theorem State.trained_lead (s : State) (k : Nat) (ok : Bool) : (s.trained k ok).lead = s.lead := by
  unfold State.trained
  simp only [State.still_lead (State.drawKeys_still ..), State.scrInitStack_lead,
    State.still_lead (State.setStack_still ..), apply_ite State.lead, ite_self]

theorem State.trained_memWf (s : State) (k : Nat) (ok : Bool) (hw : s.memWf = true) : (s.trained k ok).memWf = true := by
  unfold State.trained
  repeat' (first
    | with_reducible exact hw
    | simp only [State.still_memWf (State.drawKeys_still ..), State.scrInitStack_memWf,
    State.still_memWf (State.setStack_still ..), hw]
    | split)

theorem State.columnGrant_lead (s : State) (c : Nat) : (s.columnGrant c).lead = s.lead := by
  unfold State.columnGrant
  repeat' (first
    | with_reducible rfl
    | intro _
    | simp only [State.jobStep_lead, lead_mk, lead_fold]
    | split)

theorem State.columnGrant_memWf (s : State) (c : Nat) (hw : s.memWf = true) : (s.columnGrant c).memWf = true := by
  unfold State.columnGrant
  repeat' (first
    | with_reducible exact hw
    | simp only [State.jobStep_memWf, memWf_mk, memOk_fold, hw]
    | split)

theorem State.columnEdge_lead (s : State) (c : Nat) : (s.columnEdge c).lead = s.lead := by
  unfold State.columnEdge
  repeat' (first
    | with_reducible rfl
    | intro _
    | simp only [State.columnGrant_lead, State.still_lead (State.jobEnd_still ..),
    State.still_lead (State.reclaimEdge_still ..)]
    | refine (foldl_lead _ ?_ _ _).trans ?_)

theorem State.columnEdge_memWf (s : State) (c : Nat) (hw : s.memWf = true) : (s.columnEdge c).memWf = true := by
  unfold State.columnEdge
  repeat' (first
    | with_reducible exact hw
    | simp only [memWf_mk, memOk_fold]
    | simp only []
    | with_reducible refine State.columnGrant_memWf _ _ ?_
    | with_reducible refine (State.still_memWf (State.jobEnd_still ..)).trans ?_
    | with_reducible refine (State.still_memWf (State.reclaimEdge_still ..)).trans ?_
    | refine foldl_memWf _ (fun s1 x1 hw => ?_) _ _ ?_)

theorem State.controlsEdge_lead (s p : State) (l run third : List Nat) (sub : Nat) : (s.controlsEdge p l run third sub).lead = s.lead := by
  unfold State.controlsEdge
  repeat' (first
    | with_reducible rfl
    | intro _
    | simp only [State.still_lead (State.bankEdge_still ..), State.columnEdge_lead,
    State.still_lead (State.controlEdge_still ..), State.still_lead (State.fxoEdge_still ..),
    State.still_lead (State.ledgerAcks_still ..), State.still_lead (State.ledgerEdge_still ..),
    State.still_lead (State.passStart_still ..), State.still_lead (State.scrubStop_still ..),
    State.still_lead (State.serviceEdge_still ..), State.still_lead (State.sgTakeAll_still ..),
    State.still_lead (State.switchNow_still ..), State.still_lead (State.takeDeferred_still ..)]
    | refine (State.each_lead _ _ _ ?_).trans ?_)

theorem State.controlsEdge_memWf (s p : State) (l run third : List Nat) (sub : Nat) (hw : s.memWf = true) : (s.controlsEdge p l run third sub).memWf = true := by
  unfold State.controlsEdge
  repeat' (first
    | with_reducible exact hw
    | simp only [State.still_memWf (State.bankEdge_still ..), State.columnEdge_memWf,
    State.still_memWf (State.controlEdge_still ..), State.still_memWf (State.fxoEdge_still ..),
    State.still_memWf (State.ledgerAcks_still ..), State.still_memWf (State.ledgerEdge_still ..),
    State.still_memWf (State.passStart_still ..), State.still_memWf (State.scrubStop_still ..),
    State.still_memWf (State.serviceEdge_still ..), State.still_memWf (State.sgTakeAll_still ..),
    State.still_memWf (State.switchNow_still ..), State.still_memWf (State.takeDeferred_still ..), hw]
    | refine State.each_memWf _ _ _ (fun s1 k1 hw => ?_) ?_)

theorem State.fabricEdges_lead (s : State) (gs : List Nat) (rising : Bool) (sub : Nat) : (s.fabricEdges gs rising sub).lead = s.lead := by
  unfold State.fabricEdges
  repeat' (first
    | with_reducible rfl
    | intro _
    | simp only [State.still_lead (State.ackHolds_still ..), State.controlsEdge_lead,
    State.still_lead (State.dampersEdge_still ..), State.still_lead (State.dmpShow_still ..),
    State.still_lead (State.gateShow_still ..), State.still_lead (State.gatesEdge_still ..),
    State.still_lead (State.halfStep_still ..), State.still_lead (State.holdTry_still ..),
    State.still_lead (State.unitsEdge_still ..), State.still_lead (State.userEdge_still ..), lead_mk, lead_fold,
    apply_ite State.lead]
    | split
    | refine (State.each_lead _ _ _ ?_).trans ?_)

theorem State.fabricEdges_memWf (s : State) (gs : List Nat) (rising : Bool) (sub : Nat) (hw : s.memWf = true) : (s.fabricEdges gs rising sub).memWf = true := by
  unfold State.fabricEdges
  repeat' (first
    | with_reducible exact hw
    | simp only [memWf_mk, memOk_fold]
    | simp only []
    | with_reducible refine (State.still_memWf (State.ackHolds_still ..)).trans ?_
    | with_reducible refine State.controlsEdge_memWf _ _ _ _ _ _ ?_
    | with_reducible refine (State.still_memWf (State.dampersEdge_still ..)).trans ?_
    | with_reducible refine (State.still_memWf (State.dmpShow_still ..)).trans ?_
    | with_reducible refine (State.still_memWf (State.gateShow_still ..)).trans ?_
    | with_reducible refine (State.still_memWf (State.gatesEdge_still ..)).trans ?_
    | with_reducible refine (State.still_memWf (State.halfStep_still ..)).trans ?_
    | with_reducible refine (State.still_memWf (State.holdTry_still ..)).trans ?_
    | with_reducible refine (State.still_memWf (State.unitsEdge_still ..)).trans ?_
    | with_reducible refine (State.still_memWf (State.userEdge_still ..)).trans ?_
    | split
    | with_reducible refine State.each_memWf _ _ _ (fun s1 k1 hw => ?_) ?_)

theorem State.switchEdge_lead (s : State) (n sub : Nat) : (s.switchEdge n sub).lead = s.lead := by
  unfold State.switchEdge
  simp only [State.fabricEdges_lead, apply_ite State.lead, ite_self]

theorem State.switchEdge_memWf (s : State) (n sub : Nat) (hw : s.memWf = true) : (s.switchEdge n sub).memWf = true := by
  unfold State.switchEdge
  repeat' (first
    | with_reducible exact hw
    | simp only [State.fabricEdges_memWf, hw]
    | split)

theorem State.capPost_lead (s : State) (n : Nat) (data : List Byte) : (s.capPost n data).lead = s.lead := by
  unfold State.capPost
  simp only [State.postWrite_lead, State.still_lead (State.raise_still ..), State.still_lead (State.request_still ..),
    apply_ite State.lead, ite_self]

theorem State.capPost_memWf (s : State) (n : Nat) (data : List Byte) (hw : s.memWf = true) : (s.capPost n data).memWf = true := by
  unfold State.capPost
  repeat' (first
    | with_reducible exact hw
    | simp only [State.postWrite_memWf, State.still_memWf (State.raise_still ..), State.still_memWf (State.request_still ..),
    hw]
    | split)

theorem State.capStore_lead (s : State) (n : Nat) (value : DWord) (time : Nat) (miss rising : Bool) : (s.capStore n value time miss rising).lead = s.lead := by
  unfold State.capStore
  simp only [State.capPost_lead, State.still_lead (State.capShow_still ..), State.still_lead (State.raise_still ..),
    State.still_lead (State.setCap_still ..), apply_ite State.lead, ite_self]

theorem State.capStore_memWf (s : State) (n : Nat) (value : DWord) (time : Nat) (miss rising : Bool) (hw : s.memWf = true) : (s.capStore n value time miss rising).memWf = true := by
  unfold State.capStore
  repeat' (first
    | with_reducible exact hw
    | simp only [State.capPost_memWf, State.still_memWf (State.capShow_still ..), State.still_memWf (State.raise_still ..),
    State.still_memWf (State.setCap_still ..), hw]
    | split)

theorem State.capClose_lead (s : State) (n : Nat) : (s.capClose n).lead = s.lead := by
  unfold State.capClose
  simp only [State.still_lead (State.capShow_still ..), State.capStore_lead, State.still_lead (State.raise_still ..),
    State.still_lead (State.setCap_still ..), apply_ite State.lead, ite_self]

theorem State.capClose_memWf (s : State) (n : Nat) (hw : s.memWf = true) : (s.capClose n).memWf = true := by
  unfold State.capClose
  repeat' (first
    | with_reducible exact hw
    | simp only [State.still_memWf (State.capShow_still ..), State.capStore_memWf, State.still_memWf (State.raise_still ..),
    State.still_memWf (State.setCap_still ..), hw]
    | split)

theorem State.capTick_lead (s : State) (closing : Bool) (n : Nat) : (s.capTick closing n).lead = s.lead := by
  unfold State.capTick
  simp only [State.capClose_lead, State.still_lead (State.capShow_still ..), State.still_lead (State.put_still ..),
    State.still_lead (State.setCap_still ..), State.still_lead (State.setForce_still ..), apply_ite State.lead, ite_self]

theorem State.capTick_memWf (s : State) (closing : Bool) (n : Nat) (hw : s.memWf = true) : (s.capTick closing n).memWf = true := by
  unfold State.capTick
  repeat' (first
    | with_reducible exact hw
    | simp only [State.capClose_memWf, State.still_memWf (State.capShow_still ..), State.still_memWf (State.put_still ..),
    State.still_memWf (State.setCap_still ..), State.still_memWf (State.setForce_still ..), hw]
    | split)

theorem State.capsTick_lead (s : State) : s.capsTick.lead = s.lead := by
  unfold State.capsTick
  repeat' (first
    | with_reducible rfl
    | intro _
    | simp only [State.capTick_lead]
    | refine (State.each_lead _ _ _ ?_).trans ?_)

theorem State.capsTick_memWf (s : State) (hw : s.memWf = true) : s.capsTick.memWf = true := by
  unfold State.capsTick
  repeat' (first
    | with_reducible exact hw
    | simp only [State.capTick_memWf, hw]
    | refine State.each_memWf _ _ _ (fun s1 k1 hw => ?_) ?_)

theorem State.capEdge_lead (s : State) (n : Nat) (rising : Bool) (sub : Nat) : (s.capEdge n rising sub).lead = s.lead := by
  unfold State.capEdge
  simp only [State.capStore_lead, State.still_lead (State.setCap_still ..), apply_ite State.lead, ite_self]

theorem State.capEdge_memWf (s : State) (n : Nat) (rising : Bool) (sub : Nat) (hw : s.memWf = true) : (s.capEdge n rising sub).memWf = true := by
  unfold State.capEdge
  repeat' (first
    | with_reducible exact hw
    | simp only [State.capStore_memWf, State.still_memWf (State.setCap_still ..), hw]
    | split)

theorem State.unitsTick_lead (s : State) : s.unitsTick.lead = s.lead := by
  unfold State.unitsTick
  simp only [State.capsTick_lead, State.still_lead (State.edgesTick_still ..),
    State.still_lead (State.gateResults_still ..), lead_mk, lead_fold, apply_ite State.lead, ite_self]

theorem State.unitsTick_memWf (s : State) (hw : s.memWf = true) : s.unitsTick.memWf = true := by
  unfold State.unitsTick
  repeat' (first
    | with_reducible exact hw
    | simp only [State.capsTick_memWf, State.still_memWf (State.edgesTick_still ..),
    State.still_memWf (State.gateResults_still ..), memWf_mk, memOk_fold, hw]
    | split)

theorem State.columnsTick_lead (s : State) : s.columnsTick.lead = s.lead := by
  unfold State.columnsTick
  repeat' (first
    | with_reducible rfl
    | intro _
    | simp only [State.columnEdge_lead, State.still_lead (State.reclaimEdge_still ..), apply_ite State.lead, ite_self]
    | split
    | refine (foldl_lead _ ?_ _ _).trans ?_)

theorem State.columnsTick_memWf (s : State) (hw : s.memWf = true) : s.columnsTick.memWf = true := by
  unfold State.columnsTick
  repeat' (first
    | with_reducible exact hw
    | simp only [State.columnEdge_memWf, State.still_memWf (State.reclaimEdge_still ..), hw]
    | split
    | refine foldl_memWf _ (fun s1 x1 hw => ?_) _ _ ?_)

theorem State.tickRun_lead (s : State) : s.tickRun.lead = s.lead := by
  unfold State.tickRun
  repeat' (first
    | with_reducible rfl
    | intro _
    | simp only [State.still_lead (State.axesTick_still ..), State.still_lead (State.cmpsTick_still ..),
    State.columnsTick_lead, State.still_lead (State.evtDue_still ..), State.still_lead (State.fwdTick_still ..),
    State.still_lead (State.histTick_still ..), State.still_lead (State.hostAnswers_still ..),
    State.still_lead (State.lanesTick_still ..), State.still_lead (State.ledgerTick_still ..),
    State.still_lead (State.mirrorFlush_still ..), State.still_lead (State.pinsLog_still ..),
    State.still_lead (State.rcDue_still ..), State.still_lead (State.rcmpsTick_still ..), State.scrubTick_lead,
    State.still_lead (State.tickActions_still ..), State.still_lead (State.twinFollow_still ..), State.unitsTick_lead,
    State.still_lead (State.vsmAnswers_still ..), lead_mk, lead_fold, apply_ite State.lead, ite_self]
    | split)

theorem State.tickRun_memWf (s : State) (hw : s.memWf = true) : s.tickRun.memWf = true := by
  unfold State.tickRun
  repeat' (first
    | with_reducible exact hw
    | simp only [memWf_mk, memOk_fold]
    | simp only []
    | with_reducible refine (State.still_memWf (State.axesTick_still ..)).trans ?_
    | with_reducible refine (State.still_memWf (State.cmpsTick_still ..)).trans ?_
    | with_reducible refine State.columnsTick_memWf _ ?_
    | with_reducible refine (State.still_memWf (State.evtDue_still ..)).trans ?_
    | with_reducible refine (State.still_memWf (State.fwdTick_still ..)).trans ?_
    | with_reducible refine (State.still_memWf (State.histTick_still ..)).trans ?_
    | with_reducible refine (State.still_memWf (State.hostAnswers_still ..)).trans ?_
    | with_reducible refine (State.still_memWf (State.lanesTick_still ..)).trans ?_
    | with_reducible refine (State.still_memWf (State.ledgerTick_still ..)).trans ?_
    | with_reducible refine (State.still_memWf (State.mirrorFlush_still ..)).trans ?_
    | with_reducible refine (State.still_memWf (State.pinsLog_still ..)).trans ?_
    | with_reducible refine (State.still_memWf (State.rcDue_still ..)).trans ?_
    | with_reducible refine (State.still_memWf (State.rcmpsTick_still ..)).trans ?_
    | with_reducible refine State.scrubTick_memWf _ ?_
    | with_reducible refine (State.still_memWf (State.tickActions_still ..)).trans ?_
    | with_reducible refine (State.still_memWf (State.twinFollow_still ..)).trans ?_
    | with_reducible refine State.unitsTick_memWf _ ?_
    | with_reducible refine (State.still_memWf (State.vsmAnswers_still ..)).trans ?_
    | split)

theorem State.tickGuarded_lead (s : State) : s.tickGuarded.lead = s.lead := by
  unfold State.tickGuarded
  simp only [State.tickRun_lead, apply_ite State.lead, ite_self]

theorem State.tickGuarded_memWf (s : State) (hw : s.memWf = true) : s.tickGuarded.memWf = true := by
  unfold State.tickGuarded
  repeat' (first
    | with_reducible exact hw
    | simp only [State.tickRun_memWf, hw]
    | split)

theorem State.bankPort_lead (s : State) (op : Nat) (q : BankReq) : (s.bankPort op q).lead = s.lead := by
  unfold State.bankPort
  simp only [State.still_lead (State.bankCount_still ..), State.bankPerform_lead,
    State.still_lead (State.bankResult_still ..), State.still_lead (State.portGate_still ..),
    State.still_lead (State.readClears_still ..), apply_ite State.lead, ite_self]

theorem State.bankPort_memWf (s : State) (op : Nat) (q : BankReq) (hw : s.memWf = true) : (s.bankPort op q).memWf = true := by
  unfold State.bankPort
  repeat' (first
    | with_reducible exact hw
    | simp only [State.still_memWf (State.bankCount_still ..), State.bankPerform_memWf,
    State.still_memWf (State.bankResult_still ..), State.still_memWf (State.portGate_still ..),
    State.still_memWf (State.readClears_still ..), hw]
    | split)

theorem State.bankBoth_lead (s : State) (opA : Nat) (qa : BankReq) (opB : Nat) (qb : BankReq) : (s.bankBoth opA qa opB qb).lead = s.lead := by
  unfold State.bankBoth
  simp only [State.bankPort_lead, State.still_lead (State.metResult_still ..),
    State.still_lead (State.readClears_still ..), State.setBankWord_lead, apply_ite State.lead, ite_self]

theorem State.bankBoth_memWf (s : State) (opA : Nat) (qa : BankReq) (opB : Nat) (qb : BankReq) (hw : s.memWf = true) : (s.bankBoth opA qa opB qb).memWf = true := by
  unfold State.bankBoth
  repeat' (first
    | with_reducible exact hw
    | simp only [State.bankPort_memWf, State.still_memWf (State.metResult_still ..),
    State.still_memWf (State.readClears_still ..), State.setBankWord_memWf, hw]
    | split)

theorem State.bankMeet_lead (s : State) (op : Nat) (q : BankReq) (m : BankMet) : (s.bankMeet op q m).lead = s.lead := by
  unfold State.bankMeet
  simp only [State.still_lead (State.bankCount_still ..), State.still_lead (State.metResult_still ..),
    State.still_lead (State.readClears_still ..), State.setBankWord_lead, lead_mk, lead_fold, apply_ite State.lead, ite_self]

theorem State.bankMeet_memWf (s : State) (op : Nat) (q : BankReq) (m : BankMet) (hw : s.memWf = true) : (s.bankMeet op q m).memWf = true := by
  unfold State.bankMeet
  repeat' (first
    | with_reducible exact hw
    | simp only [State.still_memWf (State.bankCount_still ..), State.still_memWf (State.metResult_still ..),
    State.still_memWf (State.readClears_still ..), State.setBankWord_memWf, memWf_mk, memOk_fold, hw]
    | split)

theorem State.bankOne_lead (s : State) (op : Nat) (q : BankReq) : (s.bankOne op q).lead = s.lead := by
  unfold State.bankOne
  repeat' (first
    | with_reducible rfl
    | intro _
    | simp only [State.bankMeet_lead, State.bankPort_lead, apply_ite State.lead, ite_self]
    | split)

theorem State.bankOne_memWf (s : State) (op : Nat) (q : BankReq) (hw : s.memWf = true) : (s.bankOne op q).memWf = true := by
  unfold State.bankOne
  repeat' (first
    | with_reducible exact hw
    | simp only [State.bankMeet_memWf, State.bankPort_memWf, hw]
    | split)

theorem State.bankCmd_lead (s : State) (op : Nat) (q : BankReq) (peer : Option (Nat × BankReq)) : (s.bankCmd op q peer).lead = s.lead := by
  unfold State.bankCmd
  repeat' (first
    | with_reducible rfl
    | intro _
    | simp only [State.bankBoth_lead, State.bankOne_lead, apply_ite State.lead, ite_self]
    | split)

theorem State.bankCmd_memWf (s : State) (op : Nat) (q : BankReq) (peer : Option (Nat × BankReq)) (hw : s.memWf = true) : (s.bankCmd op q peer).memWf = true := by
  unfold State.bankCmd
  repeat' (first
    | with_reducible exact hw
    | simp only [State.bankBoth_memWf, State.bankOne_memWf, hw]
    | split)

theorem State.releaseHeld_lead (s : State) (k : Nat) : (s.releaseHeld k).lead = s.lead := by
  unfold State.releaseHeld
  repeat' (first
    | with_reducible rfl
    | intro _
    | simp only [State.hbmStore_lead, State.still_lead (State.settle_still ..), lead_mk, lead_fold, apply_ite State.lead,
    ite_self]
    | split
    | refine (foldl_lead _ ?_ _ _).trans ?_)

theorem State.releaseHeld_memWf (s : State) (k : Nat) (hw : s.memWf = true) : (s.releaseHeld k).memWf = true := by
  unfold State.releaseHeld
  repeat' (first
    | with_reducible exact hw
    | simp only [State.hbmStore_memWf, State.still_memWf (State.settle_still ..), memWf_mk, memOk_fold, hw]
    | split
    | refine foldl_memWf _ (fun s1 x1 hw => ?_) _ _ ?_)

theorem State.releaseWaiting_lead (s : State) (k : Nat) : (s.releaseWaiting k).lead = s.lead := by
  unfold State.releaseWaiting
  repeat' (first
    | with_reducible rfl
    | intro _
    | simp only [State.hbmServe_lead, State.still_lead (State.settle_still ..), lead_mk, lead_fold]
    | split
    | refine (foldl_lead _ ?_ _ _).trans ?_
    | refine (foldl_lead_fst _ ?_ _ _).trans ?_)

theorem State.releaseWaiting_memWf (s : State) (k : Nat) (hw : s.memWf = true) : (s.releaseWaiting k).memWf = true := by
  unfold State.releaseWaiting
  repeat' (first
    | with_reducible exact hw
    | simp only [State.hbmServe_memWf, State.still_memWf (State.settle_still ..), memWf_mk, memOk_fold, hw]
    | split
    | refine foldl_memWf _ (fun s1 x1 hw => ?_) _ _ ?_
    | refine foldl_memWf_fst _ (fun s1 x1 hw => ?_) _ _ ?_)

theorem State.sweepGroup_lead (s : State) (k : Nat) (e : HbmErr) : (s.sweepGroup k e).lead = s.lead := by
  unfold State.sweepGroup
  repeat' (first
    | with_reducible rfl
    | intro _
    | simp only [State.still_lead (State.integrityHalt_still ..), State.releaseHeld_lead, State.releaseWaiting_lead,
    State.still_lead (State.sweepLines_still ..)]
    | split)

theorem State.sweepGroup_memWf (s : State) (k : Nat) (e : HbmErr) (hw : s.memWf = true) : (s.sweepGroup k e).memWf = true := by
  unfold State.sweepGroup
  repeat' (first
    | with_reducible exact hw
    | simp only [State.still_memWf (State.integrityHalt_still ..), State.releaseHeld_memWf, State.releaseWaiting_memWf,
    State.still_memWf (State.sweepLines_still ..), hw]
    | split)

theorem State.deliver_lead (s : State) (p : Nat) (f : VFrame) : (s.deliver p f).lead = s.lead := by
  unfold State.deliver
  simp only [State.still_lead (State.onAngle_still ..), State.still_lead (State.onControl_still ..),
    State.still_lead (State.onHeartbeat_still ..), State.still_lead (State.onMirror_still ..), State.onReport_lead,
    State.still_lead (State.onSwitch_still ..), State.still_lead (State.onTunnelled_still ..),
    State.still_lead (State.tunAnswer_still ..), apply_ite State.lead, ite_self]

theorem State.deliver_memWf (s : State) (p : Nat) (f : VFrame) (hw : s.memWf = true) : (s.deliver p f).memWf = true := by
  unfold State.deliver
  repeat' (first
    | with_reducible exact hw
    | simp only [State.still_memWf (State.onAngle_still ..), State.still_memWf (State.onControl_still ..),
    State.still_memWf (State.onHeartbeat_still ..), State.still_memWf (State.onMirror_still ..), State.onReport_memWf,
    State.still_memWf (State.onSwitch_still ..), State.still_memWf (State.onTunnelled_still ..),
    State.still_memWf (State.tunAnswer_still ..), hw]
    | split)

theorem State.broadcast_lead (s : State) (p : Nat) (f : VFrame) : (s.broadcast p f).lead = s.lead := by
  unfold State.broadcast
  repeat' (first
    | with_reducible rfl
    | intro _
    | simp only [State.deliver_lead, State.still_lead (State.failCount_still ..), State.still_lead (State.vFail_still ..),
    State.still_lead (State.vSend_still ..), apply_ite State.lead]
    | split
    | refine (State.each_lead _ _ _ ?_).trans ?_)

theorem State.broadcast_memWf (s : State) (p : Nat) (f : VFrame) (hw : s.memWf = true) : (s.broadcast p f).memWf = true := by
  unfold State.broadcast
  repeat' (first
    | with_reducible exact hw
    | simp only [State.deliver_memWf, State.still_memWf (State.failCount_still ..), State.still_memWf (State.vFail_still ..),
    State.still_memWf (State.vSend_still ..), hw]
    | split
    | refine State.each_memWf _ _ _ (fun s1 k1 hw => ?_) ?_)

theorem State.frameGo_lead (s : State) (p : Nat) (f : VFrame) : (s.frameGo p f).lead = s.lead := by
  unfold State.frameGo
  simp only [State.broadcast_lead, State.deliver_lead, State.still_lead (State.deliverLink_still ..),
    State.still_lead (State.deliverTime_still ..), State.still_lead (State.forwardFrame_still ..), apply_ite State.lead,
    ite_self]

theorem State.frameGo_memWf (s : State) (p : Nat) (f : VFrame) (hw : s.memWf = true) : (s.frameGo p f).memWf = true := by
  unfold State.frameGo
  repeat' (first
    | with_reducible exact hw
    | simp only [State.broadcast_memWf, State.deliver_memWf, State.still_memWf (State.deliverLink_still ..),
    State.still_memWf (State.deliverTime_still ..), State.still_memWf (State.forwardFrame_still ..), hw]
    | split)

theorem State.frameReceive_lead (s : State) (p : Nat) (raw : List Byte) : (s.frameReceive p raw).lead = s.lead := by
  unfold State.frameReceive
  simp only [State.still_lead (State.ackOwe_still ..), State.still_lead (State.bump_still ..),
    State.still_lead (State.failCount_still ..), State.frameGo_lead, State.still_lead (State.portHeard_still ..),
    State.still_lead (State.report_still ..), State.still_lead (State.sendNak_still ..),
    State.still_lead (State.seqTake_still ..), apply_ite State.lead, ite_self]

theorem State.frameReceive_memWf (s : State) (p : Nat) (raw : List Byte) (hw : s.memWf = true) : (s.frameReceive p raw).memWf = true := by
  unfold State.frameReceive
  repeat' (first
    | with_reducible exact hw
    | simp only [State.still_memWf (State.ackOwe_still ..), State.still_memWf (State.bump_still ..),
    State.still_memWf (State.failCount_still ..), State.frameGo_memWf, State.still_memWf (State.portHeard_still ..),
    State.still_memWf (State.report_still ..), State.still_memWf (State.sendNak_still ..),
    State.still_memWf (State.seqTake_still ..), hw]
    | split)

theorem State.loadGoOn_lead (s : State) (n : Nat) (rest : List Byte) : (s.loadGoOn n rest).lead = s.lead := by
  unfold State.loadGoOn
  simp only [State.still_lead (State.loadAbort_still ..), State.segEnter_lead,
    State.still_lead (State.setLoadCh_still ..), apply_ite State.lead, ite_self]

theorem State.loadGoOn_memWf (s : State) (n : Nat) (rest : List Byte) (hw : s.memWf = true) : (s.loadGoOn n rest).memWf = true := by
  unfold State.loadGoOn
  repeat' (first
    | with_reducible exact hw
    | simp only [State.still_memWf (State.loadAbort_still ..), State.segEnter_memWf,
    State.still_memWf (State.setLoadCh_still ..), hw]
    | split)

theorem State.loadRequest_lead (s : State) (m : Nat) : (s.loadRequest m).lead = s.lead := by
  unfold State.loadRequest
  repeat' (first
    | with_reducible rfl
    | intro _
    | simp only [State.still_lead (State.answerMbx_still ..), State.loadTake_lead, apply_ite State.lead, ite_self]
    | split)

theorem State.loadRequest_memWf (s : State) (m : Nat) (hw : s.memWf = true) : (s.loadRequest m).memWf = true := by
  unfold State.loadRequest
  repeat' (first
    | with_reducible exact hw
    | simp only [State.still_memWf (State.answerMbx_still ..), State.loadTake_memWf, hw]
    | split)

theorem State.loadsResume_lead (s : State) : s.loadsResume.lead = s.lead := by
  unfold State.loadsResume
  repeat' (first
    | with_reducible rfl
    | intro _
    | simp only [State.loadAccept_lead, apply_ite State.lead, ite_self]
    | split
    | refine (State.each_lead _ _ _ ?_).trans ?_)

theorem State.loadsResume_memWf (s : State) (hw : s.memWf = true) : s.loadsResume.memWf = true := by
  unfold State.loadsResume
  repeat' (first
    | with_reducible exact hw
    | simp only [State.loadAccept_memWf, hw]
    | split
    | refine State.each_memWf _ _ _ (fun s1 k1 hw => ?_) ?_)

theorem State.writeFrames_lead (s : State) (n : Nat) (c : ImgCmd) (set : Option (List Nat)) (rest : List Byte) : (s.writeFrames n c set rest).lead = s.lead := by
  unfold State.writeFrames
  repeat' (first
    | with_reducible rfl
    | intro _
    | simp only [State.still_lead (State.loadAbort_still ..), State.loadGoOn_lead, State.still_lead (State.put_still ..),
    lead_mk, lead_fold]
    | split)

theorem State.writeFrames_memWf (s : State) (n : Nat) (c : ImgCmd) (set : Option (List Nat)) (rest : List Byte) (hw : s.memWf = true) : (s.writeFrames n c set rest).memWf = true := by
  unfold State.writeFrames
  repeat' (first
    | with_reducible exact hw
    | simp only [State.still_memWf (State.loadAbort_still ..), State.loadGoOn_memWf, State.still_memWf (State.put_still ..),
    memWf_mk, memOk_fold, hw]
    | split)

theorem State.supfw_lead (s : State) (n : Nat) (c : ImgCmd) (rest : List Byte) : (s.supfw n c rest).lead = s.lead := by
  unfold State.supfw
  simp only [State.still_lead (State.loadAbort_still ..), State.loadGoOn_lead, State.still_lead (State.setCfg_still ..),
    State.still_lead (State.setLoadCh_still ..), apply_ite State.lead, ite_self]

theorem State.supfw_memWf (s : State) (n : Nat) (c : ImgCmd) (rest : List Byte) (hw : s.memWf = true) : (s.supfw n c rest).memWf = true := by
  unfold State.supfw
  repeat' (first
    | with_reducible exact hw
    | simp only [State.still_memWf (State.loadAbort_still ..), State.loadGoOn_memWf,
    State.still_memWf (State.setCfg_still ..), State.still_memWf (State.setLoadCh_still ..), hw]
    | split)

theorem State.csrw_lead (s : State) (n : Nat) (c : ImgCmd) (rest : List Byte) : (s.csrw n c rest).lead = s.lead := by
  unfold State.csrw
  simp only [State.still_lead (State.loadAbort_still ..), State.loadGoOn_lead,
    State.still_lead (State.setLoadCh_still ..), apply_ite State.lead, ite_self]

theorem State.csrw_memWf (s : State) (n : Nat) (c : ImgCmd) (rest : List Byte) (hw : s.memWf = true) : (s.csrw n c rest).memWf = true := by
  unfold State.csrw
  repeat' (first
    | with_reducible exact hw
    | simp only [State.still_memWf (State.loadAbort_still ..), State.loadGoOn_memWf,
    State.still_memWf (State.setLoadCh_still ..), hw]
    | split)

theorem State.activate_lead (s : State) (n : Nat) (c : ImgCmd) (rest : List Byte) : (s.activate n c rest).lead = s.lead := by
  unfold State.activate
  simp only [State.still_lead (State.loadAbort_still ..), State.loadGoOn_lead,
    State.still_lead (State.setLoadCh_still ..), apply_ite State.lead, ite_self]

theorem State.activate_memWf (s : State) (n : Nat) (c : ImgCmd) (rest : List Byte) (hw : s.memWf = true) : (s.activate n c rest).memWf = true := by
  unfold State.activate
  repeat' (first
    | with_reducible exact hw
    | simp only [State.still_memWf (State.loadAbort_still ..), State.loadGoOn_memWf,
    State.still_memWf (State.setLoadCh_still ..), hw]
    | split)

theorem State.loadRow_lead (s : State) (n op : Nat) (act : State → ImgCmd → List Byte → State) (h_act : ∀ x0 x1 x2,
    (act x0 x1 x2).lead = x0.lead) : (s.loadRow n op act).lead = s.lead := by
  unfold State.loadRow
  repeat' (first
    | with_reducible rfl
    | with_reducible assumption
    | intro _
    | simp only [h_act, State.still_lead (State.loadAbort_still ..), apply_ite State.lead, ite_self]
    | split)

theorem State.loadRow_memWf (s : State) (n op : Nat) (act : State → ImgCmd → List Byte → State) (h_act : ∀ x0 x1 x2,
    x0.memWf = true → (act x0 x1 x2).memWf = true) (hw : s.memWf = true) : (s.loadRow n op act).memWf = true := by
  unfold State.loadRow
  repeat' (first
    | with_reducible exact hw
    | simp only [h_act, State.still_memWf (State.loadAbort_still ..), hw]
    | split)

theorem State.padRow_lead (s : State) (n : Nat) : (s.padRow n).lead = s.lead := by
  unfold State.padRow
  repeat' (first
    | with_reducible rfl
    | intro _
    | simp only [State.loadGoOn_lead]
    | refine (State.loadRow_lead _ _ _ _ ?_).trans ?_)

theorem State.padRow_memWf (s : State) (n : Nat) (hw : s.memWf = true) : (s.padRow n).memWf = true := by
  unfold State.padRow
  repeat' (first
    | with_reducible exact hw
    | simp only [State.loadGoOn_memWf, hw]
    | refine State.loadRow_memWf _ _ _ _ (fun s1 c1 l1 hw => ?_) ?_)

theorem State.frameRow_lead (s : State) (n : Nat) : (s.frameRow n).lead = s.lead := by
  unfold State.frameRow
  repeat' (first
    | with_reducible rfl
    | intro _
    | simp only [State.writeFrames_lead]
    | refine (State.loadRow_lead _ _ _ _ ?_).trans ?_)

theorem State.frameRow_memWf (s : State) (n : Nat) (hw : s.memWf = true) : (s.frameRow n).memWf = true := by
  unfold State.frameRow
  repeat' (first
    | with_reducible exact hw
    | simp only [State.writeFrames_memWf, hw]
    | refine State.loadRow_memWf _ _ _ _ (fun s1 c1 l1 hw => ?_) ?_)

theorem State.bcastRow_lead (s : State) (n : Nat) : (s.bcastRow n).lead = s.lead := by
  unfold State.bcastRow
  repeat' (first
    | with_reducible rfl
    | intro _
    | simp only [State.writeFrames_lead]
    | refine (State.loadRow_lead _ _ _ _ ?_).trans ?_)

theorem State.bcastRow_memWf (s : State) (n : Nat) (hw : s.memWf = true) : (s.bcastRow n).memWf = true := by
  unfold State.bcastRow
  repeat' (first
    | with_reducible exact hw
    | simp only [State.writeFrames_memWf, hw]
    | refine State.loadRow_memWf _ _ _ _ (fun s1 c1 l1 hw => ?_) ?_)

theorem State.supfwRow_lead (s : State) (n : Nat) : (s.supfwRow n).lead = s.lead := by
  unfold State.supfwRow
  repeat' (first
    | with_reducible rfl
    | intro _
    | simp only [State.supfw_lead]
    | refine (State.loadRow_lead _ _ _ _ ?_).trans ?_)

theorem State.supfwRow_memWf (s : State) (n : Nat) (hw : s.memWf = true) : (s.supfwRow n).memWf = true := by
  unfold State.supfwRow
  repeat' (first
    | with_reducible exact hw
    | simp only [State.supfw_memWf, hw]
    | refine State.loadRow_memWf _ _ _ _ (fun s1 c1 l1 hw => ?_) ?_)

theorem State.csrwRow_lead (s : State) (n : Nat) : (s.csrwRow n).lead = s.lead := by
  unfold State.csrwRow
  repeat' (first
    | with_reducible rfl
    | intro _
    | simp only [State.csrw_lead]
    | refine (State.loadRow_lead _ _ _ _ ?_).trans ?_)

theorem State.csrwRow_memWf (s : State) (n : Nat) (hw : s.memWf = true) : (s.csrwRow n).memWf = true := by
  unfold State.csrwRow
  repeat' (first
    | with_reducible exact hw
    | simp only [State.csrw_memWf, hw]
    | refine State.loadRow_memWf _ _ _ _ (fun s1 c1 l1 hw => ?_) ?_)

theorem State.activateRow_lead (s : State) (n : Nat) : (s.activateRow n).lead = s.lead := by
  unfold State.activateRow
  repeat' (first
    | with_reducible rfl
    | intro _
    | simp only [State.activate_lead]
    | refine (State.loadRow_lead _ _ _ _ ?_).trans ?_)

theorem State.activateRow_memWf (s : State) (n : Nat) (hw : s.memWf = true) : (s.activateRow n).memWf = true := by
  unfold State.activateRow
  repeat' (first
    | with_reducible exact hw
    | simp only [State.activate_memWf, hw]
    | refine State.loadRow_memWf _ _ _ _ (fun s1 c1 l1 hw => ?_) ?_)

theorem State.mapRequest_lead (s : State) (m : Nat) : (s.mapRequest m).lead = s.lead := by
  unfold State.mapRequest
  repeat' (first
    | with_reducible rfl
    | intro _
    | simp only [State.still_lead (State.answerMbx_still ..), State.imgRead_lead, State.still_lead (State.putBit_still ..),
    State.writeAt_lead, apply_ite State.lead]
    | split
    | refine (State.each_lead _ _ _ ?_).trans ?_)

theorem State.mapRequest_memWf (s : State) (m : Nat) (hw : s.memWf = true) : (s.mapRequest m).memWf = true := by
  have ans : ∀ (t : State) (a b c : Nat), t.memWf = true → (t.answerMbx m a b c).memWf = true := fun t a b c ht =>
    (State.still_memWf (State.answerMbx_still ..)).trans ht
  have valid : ∀ (t : State) (l : List Nat) (c : Nat) (on : Bool), t.memWf = true → (t.each l (fun s g =>
      s.putBit (R.UPS_MAPVALID.VALID ((g * 8 + c) / 32)) ((g * 8 + c) % 32) on)).memWf = true := fun t l c on ht =>
    State.each_memWf _ _ _ (fun s1 k1 h => (State.still_memWf (State.putBit_still ..)).trans h) ht
  unfold State.mapRequest
  dsimp only
  repeat' (first
    | with_reducible exact hw
    | refine ans _ _ _ _ ?_
    | refine valid _ _ _ _ ?_
    | refine State.writeAt_memWf _ _ _ _ ?_
    | refine State.imgRead_memWf _ _ _ _ ?_
    | split)

theorem State.flashRequest_lead (s : State) (m code unit : Nat) (start : State → Nat → State) (h_start : ∀ x0 x1,
    (start x0 x1).lead = x0.lead) : (s.flashRequest m code unit start).lead = s.lead := by
  unfold State.flashRequest
  simp only [h_start, State.still_lead (State.answerMbx_still ..), State.still_lead (State.raise_still ..),
    apply_ite State.lead, ite_self]

theorem State.flashRequest_memWf (s : State) (m code unit : Nat) (start : State → Nat → State) (h_start : ∀ x0 x1,
    x0.memWf = true → (start x0 x1).memWf = true) (hw : s.memWf = true) : (s.flashRequest m code unit start).memWf = true := by
  unfold State.flashRequest
  repeat' (first
    | with_reducible exact hw
    | simp only [h_start, State.still_memWf (State.answerMbx_still ..), State.still_memWf (State.raise_still ..), hw]
    | split)

theorem State.flashProg_lead (s : State) (m : Nat) : (s.flashProg m).lead = s.lead := by
  unfold State.flashProg
  repeat' (first
    | with_reducible rfl
    | intro _
    | simp only [State.still_lead (State.answerMbx_still ..), State.still_lead (State.flashSend_still ..), State.readAt_lead,
    State.still_lead (State.setCfg_still ..)]
    | split
    | refine (State.flashRequest_lead _ _ _ _ _ ?_).trans ?_)

theorem State.flashProg_memWf (s : State) (m : Nat) (hw : s.memWf = true) : (s.flashProg m).memWf = true := by
  unfold State.flashProg
  repeat' (first
    | with_reducible exact hw
    | simp only [State.still_memWf (State.answerMbx_still ..), State.still_memWf (State.flashSend_still ..),
    State.readAt_memWf, State.still_memWf (State.setCfg_still ..), hw]
    | split
    | refine State.flashRequest_memWf _ _ _ _ _ (fun s1 p1 hw => ?_) ?_)

theorem State.scramble_lead (s : State) (a : Nat) (y0 : Nat) : (s.scramble a y0).lead = s.lead := by
  induction y0 generalizing s a with
  | zero => rfl
  | succ n ih => exact (ih _ _).trans (State.setByte_lead ..)

theorem State.scramble_memWf (s : State) (a : Nat) (y0 : Nat) (hw : s.memWf = true) : (s.scramble a y0).memWf = true := by
  induction y0 generalizing s a with
  | zero => exact hw
  | succ n ih => exact ih _ _ (State.setByte_memWf _ _ _ ((State.still_memWf (State.free_still s)).trans hw))

theorem State.flashEnd_lead (s : State) (p : Nat) (ok : Bool) : (s.flashEnd p ok).lead = s.lead := by
  unfold State.flashEnd
  repeat' (first
    | with_reducible rfl
    | intro _
    | simp only [State.still_lead (State.answerMbx_still ..), State.forget_lead, State.still_lead (State.raise_still ..),
    State.refill_lead, State.scramble_lead, State.setBytes_lead, State.still_lead (State.setCfg_still ..),
    apply_ite State.lead, ite_self]
    | split)

theorem State.flashEnd_memWf (s : State) (p : Nat) (ok : Bool) (hw : s.memWf = true) : (s.flashEnd p ok).memWf = true := by
  unfold State.flashEnd
  repeat' (first
    | with_reducible exact hw
    | simp only [State.still_memWf (State.answerMbx_still ..), State.forget_memWf, State.still_memWf (State.raise_still ..),
    State.refill_memWf, State.scramble_memWf, State.setBytes_memWf, State.still_memWf (State.setCfg_still ..), hw]
    | split)

theorem State.quoteRequest_lead (s : State) (m : Nat) (rng : Bool) : (s.quoteRequest m rng).lead = s.lead := by
  unfold State.quoteRequest
  repeat' (first
    | with_reducible rfl
    | intro _
    | simp only [State.still_lead (State.answerMbx_still ..), State.still_lead (State.freeScalar_still ..),
    State.still_lead (State.putB_still ..), State.readAt_lead, State.writeAt_lead, apply_ite State.lead]
    | split)

theorem State.quoteRequest_memWf (s : State) (m : Nat) (rng : Bool) (hw : s.memWf = true) : (s.quoteRequest m rng).memWf = true := by
  unfold State.quoteRequest
  repeat' (first
    | with_reducible exact hw
    | simp only [State.still_memWf (State.answerMbx_still ..), State.still_memWf (State.freeScalar_still ..),
    State.still_memWf (State.putB_still ..), State.readAt_memWf, State.writeAt_memWf, hw]
    | split)

theorem State.recordRelease_lead (s : State) (n : Nat) : (s.recordRelease n).lead = s.lead := by
  unfold State.recordRelease
  repeat' (first
    | with_reducible rfl
    | intro _
    | simp only [State.still_lead (State.emberOpen_still ..), State.still_lead (State.emberValid_still ..),
    State.emitRecord_lead, State.still_lead (State.entryCheck_still ..), State.still_lead (State.putB_still ..),
    State.still_lead (State.setEntry_still ..), State.still_lead (State.setStream_still ..), lead_mk, lead_fold,
    apply_ite State.lead, ite_self]
    | split)

theorem State.recordRelease_memWf (s : State) (n : Nat) (hw : s.memWf = true) : (s.recordRelease n).memWf = true := by
  unfold State.recordRelease
  repeat' (first
    | with_reducible exact hw
    | simp only [State.still_memWf (State.emberOpen_still ..), State.still_memWf (State.emberValid_still ..),
    State.emitRecord_memWf, State.still_memWf (State.entryCheck_still ..), State.still_memWf (State.putB_still ..),
    State.still_memWf (State.setEntry_still ..), State.still_memWf (State.setStream_still ..), memWf_mk, memOk_fold, hw]
    | split)

theorem State.captureEdge_lead (s : State) (n : Nat) (rising : Bool) (sub : Nat) : (s.captureEdge n rising sub).lead = s.lead := by
  unfold State.captureEdge
  simp only [State.capEdge_lead, State.still_lead (State.stampStreams_still ..), apply_ite State.lead, ite_self]

theorem State.captureEdge_memWf (s : State) (n : Nat) (rising : Bool) (sub : Nat) (hw : s.memWf = true) : (s.captureEdge n rising sub).memWf = true := by
  unfold State.captureEdge
  repeat' (first
    | with_reducible exact hw
    | simp only [State.capEdge_memWf, State.still_memWf (State.stampStreams_still ..), hw]
    | split)

/-! ### The two ticks -/

/-- A crossbar tick counts one crossbar tick, and leaves the queue, the angle tick and memory alone. -/
theorem State.xbarTick_still (s : State) : s.xbarTick.still = (s.pending, s.tick, s.xtick + 1, s.mem, s.fill, s.epoch) := by
  unfold State.xbarTick
  rw [State.xbarRun_still]
  rfl

/-- A crossbar tick with the units that wait for a line of the host. -/
theorem State.xbarStep_still (s : State) : s.xbarStep.still = (s.pending, s.tick, s.xtick + 1, s.mem, s.fill, s.epoch) := by
  unfold State.xbarStep
  refine (State.each_still _ _ _ ?_).trans (State.xbarTick_still s)
  exact fun t n => State.perNext_still ..

/-- An angle tick counts one angle tick, and leaves the queue and the crossbar tick alone. -/
theorem State.angleTick_lead (s : State) : s.angleTick.lead = (s.pending, s.tick + 1, s.xtick) := by
  have h : (State.rtcTick { s with tick := s.tick + 1 }).lead = (s.pending, s.tick + 1, s.xtick) := State.still_lead (State.rtcTick_still ..)
  exact (State.tickGuarded_lead ..).trans h

theorem State.angleTick_memWf (s : State) (hw : s.memWf = true) : s.angleTick.memWf = true := by
  have h : (State.rtcTick { s with tick := s.tick + 1 }).memWf = true := (State.still_memWf (State.rtcTick_still ..)).trans hw
  exact State.tickGuarded_memWf _ h

end Sys2Proof.Machine
end

