-- ==== Sys2Proof/Laws/Exec.lean ====
section
/-! SUPPORT. What every command does to the command queue, the numbers of the ticks and memory's form, one lemma for each meaning: most
leave all of them alone, those that write memory keep its canonical form, and the two ticks count. -/

namespace Sys2Proof.Machine

/-- The queue and the numbers of the ticks are left alone, and memory stays in its canonical form. -/
def Kept (s t : State) : Prop := t.lead = s.lead ∧ (s.memWf = true → t.memWf = true)

/-- The one way a command ends changes neither. -/
theorem done_kept {s t u : State} (h : done u = .next t) (hq : u.lead = s.lead) (hm : s.memWf = true → u.memWf = true) :
    Kept s t := by
  cases h
  exact ⟨hq, hm⟩

theorem done_still {s t u : State} (h : done u = .next t) (hs : u.still = s.still) : t.still = s.still := by
  cases h
  exact hs

/-- A command that leaves queue, ticks and memory alone keeps all of them. -/
theorem kept_of_still {s t : State} (h : t.still = s.still) : Kept s t :=
  ⟨State.still_lead h, fun hw => (State.still_memWf h).trans hw⟩

theorem execPor_kept (s : State) {t : State} (he : execPor s = .next t) : Kept s t := by
  unfold execPor at he
  exact done_kept he (by simp only [State.still_lead (State.markerCheck_still ..),
    State.resetAccept_lead]) (fun hw => by simp only [State.still_memWf (State.markerCheck_still ..),
    State.resetAccept_memWf, hw])

theorem execBor_kept (s : State) {t : State} (he : execBor s = .next t) : Kept s t := by
  unfold execBor at he
  exact done_kept he (by simp only [State.still_lead (State.markerCheck_still ..), State.still_lead (State.putB_still ..),
    State.resetAccept_lead]) (fun hw => by simp only [State.still_memWf (State.markerCheck_still ..),
    State.still_memWf (State.putB_still ..), State.resetAccept_memWf, hw])

theorem execResetN_kept (s : State) {t : State} (he : execResetN s = .next t) : Kept s t := by
  unfold execResetN at he
  exact done_kept he (by simp only [State.resetAccept_lead]) (fun hw => by simp only [State.resetAccept_memWf, hw])

theorem execSwdt_kept (s : State) {t : State} (he : execSwdt s = .next t) : Kept s t := by
  unfold execSwdt at he
  exact done_kept he (by simp only [State.resetAccept_lead]) (fun hw => by simp only [State.resetAccept_memWf, hw])

theorem execLockup_kept (s : State) {t : State} (he : execLockup s = .next t) : Kept s t := by
  unfold execLockup at he
  exact done_kept he (by simp only [State.resetAccept_lead]) (fun hw => by simp only [State.resetAccept_memWf, hw])

theorem execClkfail_kept (s : State) {t : State} (he : execClkfail s = .next t) : Kept s t := by
  unfold execClkfail at he
  exact done_kept he (by simp only [State.still_lead (State.putB_still ..),
    State.resetAccept_lead]) (fun hw => by simp only [State.still_memWf (State.putB_still ..), State.resetAccept_memWf, hw])

theorem execClockValidAgain_still (s : State) {t : State} (he : execClockValidAgain s = .next t) : t.still = s.still := by
  unfold execClockValidAgain at he
  exact done_still he (by simp only [State.resetDrop_still])

theorem execRstCtlFabric_still (s : State) {t : State} (he : execRstCtlFabric s = .next t) : t.still = s.still := by
  unfold execRstCtlFabric at he
  exact done_still he (by simp only [State.fabReset_still])

theorem execRstCtlSystem_kept (s : State) {t : State} (he : execRstCtlSystem s = .next t) : Kept s t := by
  unfold execRstCtlSystem at he
  exact done_kept he (by simp only [State.still_lead (State.answerWith_still ..),
    State.resetAccept_lead]) (fun hw => by simp only [State.still_memWf (State.answerWith_still ..), State.resetAccept_memWf,
    hw])

theorem execFabricResetComplete_still (g : Nat) (s : State) {t : State} (he : execFabricResetComplete g s = .next t) : t.still = s.still := by
  unfold execFabricResetComplete at he
  exact done_still he (by simp only [State.fabComplete_still])

theorem execResetRelease_still (src : Nat) (s : State) {t : State} (he : execResetRelease src s = .next t) : t.still = s.still := by
  unfold execResetRelease at he
  refine done_still he ?_
  simp only [State.resetDrop_still, apply_ite State.still, ite_self]

theorem execFwdExpiry_still (g : Nat) (s : State) {t : State} (he : execFwdExpiry g s = .next t) : t.still = s.still := by
  unfold execFwdExpiry at he
  exact done_still he (by simp only [State.fwdExpiry_still])

theorem execResetreq_kept (s : State) {t : State} (he : execResetreq s = .next t) : Kept s t := by
  unfold execResetreq at he
  exact done_kept he (by simp only [State.onResetReq_lead]) (fun hw => by simp only [State.onResetReq_memWf, hw])

theorem execFrameReceive_kept (p : Nat) (raw : List Byte) (s : State) {t : State} (he : execFrameReceive p raw s = .next t) : Kept s t := by
  unfold execFrameReceive at he
  refine done_kept he ?_ (fun hw => ?_)
  · repeat' (first
      | with_reducible rfl
      | intro _
      | simp only [State.frameReceive_lead, State.onResetReq_lead, State.still_lead (State.transmit_still ..),
    apply_ite State.lead, ite_self])
  · repeat' (first
      | with_reducible exact hw
      | simp only [State.frameReceive_memWf, State.onResetReq_memWf, State.still_memWf (State.transmit_still ..), hw]
      | split)

theorem execDbgRstreq_kept (who : Who) (v : Word) (s : State) {t : State} (he : execDbgRstreq who v s = .next t) : Kept s t := by
  unfold execDbgRstreq at he
  refine done_kept he ?_ (fun hw => ?_)
  · repeat' (first
      | with_reducible rfl
      | intro _
      | simp only [State.still_lead (State.answerWith_still ..), State.debugReset_lead, apply_ite State.lead, ite_self])
  · repeat' (first
      | with_reducible exact hw
      | simp only [State.still_memWf (State.answerWith_still ..), State.debugReset_memWf, hw]
      | split)

theorem execBlockResetEnc_still (n : Nat) (s : State) {t : State} (he : execBlockResetEnc n s = .next t) : t.still = s.still := by
  unfold execBlockResetEnc at he
  exact done_still he (by simp only [State.encReset_still])

theorem execBlockResetI2c_still (n : Nat) (s : State) {t : State} (he : execBlockResetI2c n s = .next t) : t.still = s.still := by
  unfold execBlockResetI2c at he
  exact done_still he (by simp only [State.perReset_still])

theorem execBlockResetSpi_still (n : Nat) (s : State) {t : State} (he : execBlockResetSpi n s = .next t) : t.still = s.still := by
  unfold execBlockResetSpi at he
  exact done_still he (by simp only [State.perReset_still])

theorem execBlockResetUart_still (n : Nat) (s : State) {t : State} (he : execBlockResetUart n s = .next t) : t.still = s.still := by
  unfold execBlockResetUart at he
  exact done_still he (by simp only [State.perReset_still])

theorem execBlockResetQuad_still (q : Nat) (s : State) {t : State} (he : execBlockResetQuad q s = .next t) : t.still = s.still := by
  unfold execBlockResetQuad at he
  exact done_still he (by simp only [State.quadReset_still])

theorem execBlockResetVsm_still (s : State) {t : State} (he : execBlockResetVsm s = .next t) : t.still = s.still := by
  unfold execBlockResetVsm at he
  exact done_still he (by simp only [State.vsmReset_still])

theorem execBlockResetUsb_still (s : State) {t : State} (he : execBlockResetUsb s = .next t) : t.still = s.still := by
  unfold execBlockResetUsb at he
  exact done_still he (by simp only [State.usbReset_still])

theorem execBlockResetHbm_still (k : Nat) (s : State) {t : State} (he : execBlockResetHbm k s = .next t) : t.still = s.still := by
  unfold execBlockResetHbm at he
  exact done_still he (by simp only [State.hbmReset_still])

theorem execBlockResetPmb_still (who : Who) (s : State) {t : State} (he : execBlockResetPmb who s = .next t) : t.still = s.still := by
  unfold execBlockResetPmb at he
  exact done_still he (by simp only [State.pmbReset_still])

theorem execBlockResetCmp_still (h : Nat) (s : State) {t : State} (he : execBlockResetCmp h s = .next t) : t.still = s.still := by
  unfold execBlockResetCmp at he
  exact done_still he (by simp only [State.cmpReset_still])

theorem execBlockResetEdg_still (k : Nat) (s : State) {t : State} (he : execBlockResetEdg k s = .next t) : t.still = s.still := by
  unfold execBlockResetEdg at he
  exact done_still he (by simp only [State.edgReset_still])

theorem execBlockResetCap_still (k : Nat) (s : State) {t : State} (he : execBlockResetCap k s = .next t) : t.still = s.still := by
  unfold execBlockResetCap at he
  exact done_still he (by simp only [State.capReset_still])

theorem execBlockResetAxis_still (n : Nat) (s : State) {t : State} (he : execBlockResetAxis n s = .next t) : t.still = s.still := by
  unfold execBlockResetAxis at he
  exact done_still he (by simp only [State.axisReset_still])

theorem execRcFieldRead_still (who : Who) (addr size : Nat) (s : State) {t : State} (he : execRcFieldRead who addr size s = .next t) : t.still = s.still := by
  unfold execRcFieldRead at he
  refine done_still he ?_
  repeat' (first
    | with_reducible rfl
    | intro _
    | simp only [State.csrGet_still]
    | refine (State.csrAccess_still _ _ _ _ _ ?_).trans ?_)

theorem execTwinEnable_still (cfg : Word) (s : State) {t : State} (he : execTwinEnable cfg s = .next t) : t.still = s.still := by
  unfold execTwinEnable at he
  exact done_still he (by simp only [State.transmit_still, State.twinCfgWrite_still])

theorem execTwinDisable_still (cfg : Word) (s : State) {t : State} (he : execTwinDisable cfg s = .next t) : t.still = s.still := by
  unfold execTwinDisable at he
  exact done_still he (by simp only [State.transmit_still, State.twinCfgWrite_still])

theorem execSolowaitExpiry_still (s : State) {t : State} (he : execSolowaitExpiry s = .next t) : t.still = s.still := by
  unfold execSolowaitExpiry at he
  refine done_still he ?_
  simp only [State.setTwin_still, State.transmit_still, apply_ite State.still, ite_self]

theorem execHeartbeatSend_still (s : State) {t : State} (he : execHeartbeatSend s = .next t) : t.still = s.still := by
  unfold execHeartbeatSend at he
  exact done_still he (by simp only [State.heartbeatSend_still, State.transmit_still])

theorem execHeartbeat_still (data : List Byte) (s : State) {t : State} (he : execHeartbeat data s = .next t) : t.still = s.still := by
  unfold execHeartbeat at he
  exact done_still he (by simp only [State.onHeartbeat_still, State.transmit_still])

theorem execPrimaryLost_still (s : State) {t : State} (he : execPrimaryLost s = .next t) : t.still = s.still := by
  unfold execPrimaryLost at he
  exact done_still he (by simp only [State.primaryLost_still, State.transmit_still])

theorem execLeaseWaitTimeout_still (s : State) {t : State} (he : execLeaseWaitTimeout s = .next t) : t.still = s.still := by
  unfold execLeaseWaitTimeout at he
  exact done_still he (by simp only [State.leaseTimeout_still, State.transmit_still])

theorem execLeaseInChange_still (high : Bool) (s : State) {t : State} (he : execLeaseInChange high s = .next t) : t.still = s.still := by
  unfold execLeaseInChange at he
  exact done_still he (by simp only [State.leaseIn_still, State.transmit_still])

theorem execMirror_still (data : List Byte) (s : State) {t : State} (he : execMirror data s = .next t) : t.still = s.still := by
  unfold execMirror at he
  exact done_still he (by simp only [State.onMirror_still, State.transmit_still])

theorem execResyncreq_still (s : State) {t : State} (he : execResyncreq s = .next t) : t.still = s.still := by
  unfold execResyncreq at he
  exact done_still he (by simp only [State.onResyncReq_still, State.transmit_still])

theorem execSnapend_still (s : State) {t : State} (he : execSnapend s = .next t) : t.still = s.still := by
  unfold execSnapend at he
  exact done_still he (by simp only [State.onSnapEnd_still])

theorem execVmaster_still (axis : Nat) (tick : DWord) (value : DWord) (vel : Word) (s : State) {t : State} (he : execVmaster axis tick value vel s = .next t) : t.still = s.still := by
  unfold execVmaster at he
  exact done_still he (by simp only [State.onVmaster_still])

theorem execHandover_still (t : DWord) (s : State) {t' : State} (he : execHandover t s = .next t') : t'.still = s.still := by
  unfold execHandover at he
  exact done_still he (by simp only [State.onHandover_still, State.transmit_still])

theorem execHoack_still (s : State) {t : State} (he : execHoack s = .next t) : t.still = s.still := by
  unfold execHoack at he
  exact done_still he (by simp only [State.onHoack_still])

theorem execHandoverRequest_still (s : State) {t : State} (he : execHandoverRequest s = .next t) : t.still = s.still := by
  unfold execHandoverRequest at he
  exact done_still he (by simp only [State.handoverRequest_still, State.transmit_still])

theorem execHandoverAtT_still (s : State) {t : State} (he : execHandoverAtT s = .next t) : t.still = s.still := by
  unfold execHandoverAtT at he
  exact done_still he (by simp only [State.handoverAtT_still, State.transmit_still])

theorem execYield_still (s : State) {t : State} (he : execYield s = .next t) : t.still = s.still := by
  unfold execYield at he
  exact done_still he (by simp only [State.transmit_still, State.yieldRole_still])

theorem execResync_still (s : State) {t : State} (he : execResync s = .next t) : t.still = s.still := by
  unfold execResync at he
  refine done_still he ?_
  simp only [State.transmit_still, State.twinSync_still, apply_ite State.still, ite_self]

theorem execRstpeer_still (s : State) {t : State} (he : execRstpeer s = .next t) : t.still = s.still := by
  unfold execRstpeer at he
  exact done_still he (by simp only [State.askReset_still, State.transmit_still])

theorem execConvergeComplete_still (s : State) {t : State} (he : execConvergeComplete s = .next t) : t.still = s.still := by
  unfold execConvergeComplete at he
  exact done_still he (by simp only [State.converged_still, State.transmit_still])

theorem execMainoff_still (s : State) {t : State} (he : execMainoff s = .next t) : t.still = s.still := by
  unfold execMainoff at he
  exact done_still he (by simp only [State.mainOff_still])

theorem execMainon_still (s : State) {t : State} (he : execMainon s = .next t) : t.still = s.still := by
  unfold execMainon at he
  exact done_still he (by simp only [State.mainOn_still])

theorem execVbatLow_still (mv : Nat) (s : State) {t : State} (he : execVbatLow mv s = .next t) : t.still = s.still := by
  unfold execVbatLow at he
  exact done_still he (by simp only [State.vbatAt_still])

theorem execVbatRestored_still (above : Nat) (s : State) {t : State} (he : execVbatRestored above s = .next t) : t.still = s.still := by
  unfold execVbatRestored at he
  exact done_still he (by simp only [State.vbatAt_still])

theorem execXtalStop_still (s : State) {t : State} (he : execXtalStop s = .next t) : t.still = s.still := by
  unfold execXtalStop at he
  exact done_still he (by simp only [State.putB_still])

theorem execCrystalRunsAgain_still (s : State) {t : State} (he : execCrystalRunsAgain s = .next t) : t.still = s.still := by
  unfold execCrystalRunsAgain at he
  exact done_still he (by simp only [State.putB_still])

theorem execRtcMeasure_still (ppb : Int) (s : State) {t : State} (he : execRtcMeasure ppb s = .next t) : t.still = s.still := by
  unfold execRtcMeasure at he
  exact done_still he (by simp only [State.rtcMeasure_still])

theorem execCrystalCompensation_still (s : State) {t : State} (he : execCrystalCompensation s = .next t) : t.still = s.still := by
  unfold execCrystalCompensation at he
  exact done_still he (by simp only [State.crystalCompensate_still])

theorem execAonRtcLoRead_still (s : State) {t : State} (he : execAonRtcLoRead s = .next t) : t.still = s.still := by
  unfold execAonRtcLoRead at he
  exact done_still he (by simp only [State.answerWith_still, State.setSec_still])

theorem execAonCmpSample_still (mv0 mv1 mv2 mv3 : Nat) (s : State) {t : State} (he : execAonCmpSample mv0 mv1 mv2 mv3 s = .next t) : t.still = s.still := by
  unfold execAonCmpSample at he
  exact done_still he (by simp only [State.crystalPeriod_still])

theorem execAonCmpLock_still (n : Nat) (v : Word) (s : State) {t : State} (he : execAonCmpLock n v s = .next t) : t.still = s.still := by
  unfold execAonCmpLock at he
  exact done_still he (by simp only [State.cmpCfgWrite_still])

theorem execAonLogEnt0Read_still (s : State) {t : State} (he : execAonLogEnt0Read s = .next t) : t.still = s.still := by
  unfold execAonLogEnt0Read at he
  exact done_still he (by simp only [State.logEnt0Read_still])

theorem execAonLogEnt3Read_still (s : State) {t : State} (he : execAonLogEnt3Read s = .next t) : t.still = s.still := by
  unfold execAonLogEnt3Read at he
  exact done_still he (by simp only [State.logEnt3Read_still])

theorem execKbset_kept (m : Nat) (s : State) {t : State} (he : execKbset m s = .next t) : Kept s t := by
  unfold execKbset at he
  exact done_kept he (by simp only [State.kbSet_lead]) (fun hw => by simp only [State.kbSet_memWf, hw])

theorem execKberase_still (m : Nat) (s : State) {t : State} (he : execKberase m s = .next t) : t.still = s.still := by
  unfold execKberase at he
  refine done_still he ?_
  simp only [State.answerMbx_still, State.kbErase_still, apply_ite State.still, ite_self]

theorem execKfprog_kept (m : Nat) (s : State) {t : State} (he : execKfprog m s = .next t) : Kept s t := by
  unfold execKfprog at he
  exact done_kept he (by simp only [State.kfProg_lead]) (fun hw => by simp only [State.kfProg_memWf, hw])

theorem execSignerprog_kept (m : Nat) (s : State) {t : State} (he : execSignerprog m s = .next t) : Kept s t := by
  unfold execSignerprog at he
  exact done_kept he (by simp only [State.signerProg_lead]) (fun hw => by simp only [State.signerProg_memWf, hw])

theorem execPolicyset_still (m : Nat) (s : State) {t : State} (he : execPolicyset m s = .next t) : t.still = s.still := by
  unfold execPolicyset at he
  exact done_still he (by simp only [State.policySet_still])

theorem execLaneSymbolReceive_still (n code b : Nat) (s : State) {t : State} (he : execLaneSymbolReceive n code b s = .next t) : t.still = s.still := by
  unfold execLaneSymbolReceive at he
  exact done_still he (by simp only [State.laneFollow_still, State.symbol_still])

theorem execBundleDegrade_still (q b : Nat) (lost : List (Nat × Nat)) (s : State) {t : State} (he : execBundleDegrade q b lost s = .next t) : t.still = s.still := by
  unfold execBundleDegrade at he
  exact done_still he (by simp only [State.degrade_still, State.transmit_still])

theorem execBundleRejoin_still (q b : Nat) (s : State) {t : State} (he : execBundleRejoin q b s = .next t) : t.still = s.still := by
  unfold execBundleRejoin at he
  exact done_still he (by simp only [State.rejoin_still])

theorem execVsmPortEnable_still (p : Nat) (cfg : Word) (s : State) {t : State} (he : execVsmPortEnable p cfg s = .next t) : t.still = s.still := by
  unfold execVsmPortEnable at he
  exact done_still he (by simp only [State.vportEnable_still])

theorem execVsmPortDisable_still (p : Nat) (cfg : Word) (s : State) {t : State} (he : execVsmPortDisable p cfg s = .next t) : t.still = s.still := by
  unfold execVsmPortDisable at he
  exact done_still he (by simp only [State.transmit_still, State.vportDisable_still])

theorem execAlignSetReceive_still (n : Nat) (lane chk : Byte) (s : State) {t : State} (he : execAlignSetReceive n lane chk s = .next t) : t.still = s.still := by
  unfold execAlignSetReceive at he
  exact done_still he (by simp only [State.alignSet_still, State.transmit_still])

theorem execAckSend_still (p chan : Nat) (s : State) {t : State} (he : execAckSend p chan s = .next t) : t.still = s.still := by
  unfold execAckSend at he
  refine done_still he ?_
  simp only [State.sendAck_still, State.transmit_still, apply_ite State.still, ite_self]

theorem execNak_still (p chan seq : Nat) (s : State) {t : State} (he : execNak p chan seq s = .next t) : t.still = s.still := by
  unfold execNak at he
  exact done_still he (by simp only [State.onNak_still, State.transmit_still])

theorem execRetransmitTimeout_still (p chan seq : Nat) (s : State) {t : State} (he : execRetransmitTimeout p chan seq s = .next t) : t.still = s.still := by
  unfold execRetransmitTimeout at he
  exact done_still he (by simp only [State.resend_still, State.transmit_still])

theorem execWiden_still (p count width : Nat) (s : State) {t : State} (he : execWiden p count width s = .next t) : t.still = s.still := by
  unfold execWiden at he
  refine done_still he ?_
  simp only [State.transmit_still, State.vControl_still, apply_ite State.still, ite_self]

theorem execWidenack_still (p count : Nat) (s : State) {t : State} (he : execWidenack p count s = .next t) : t.still = s.still := by
  unfold execWidenack at he
  exact done_still he (by simp only [State.onWidenAck_still, State.transmit_still])

theorem execFail_still (chan etag reason : Nat) (s : State) {t : State} (he : execFail chan etag reason s = .next t) : t.still = s.still := by
  unfold execFail at he
  exact done_still he (by simp only [State.originFail_still, State.transmit_still])

theorem execRack_still (chan : Nat) (recseq : Word) (s : State) {t : State} (he : execRack chan recseq s = .next t) : t.still = s.still := by
  unfold execRack at he
  exact done_still he (by simp only [State.onRack_still, State.transmit_still])

theorem execSyncSend_still (s : State) {t : State} (he : execSyncSend s = .next t) : t.still = s.still := by
  unfold execSyncSend at he
  exact done_still he (by simp only [State.syncSend_still, State.transmit_still])

theorem execSync_still (p hops node : Nat) (origin corr : DWord) (s : State) {t : State} (he : execSync p hops node origin corr s = .next t) : t.still = s.still := by
  unfold execSync at he
  exact done_still he (by simp only [State.onSync_still, State.transmit_still])

theorem execDreqSend_still (s : State) {t : State} (he : execDreqSend s = .next t) : t.still = s.still := by
  unfold execDreqSend at he
  exact done_still he (by simp only [State.dreqSend_still, State.transmit_still])

theorem execDreq_still (p : Nat) (s : State) {t : State} (he : execDreq p s = .next t) : t.still = s.still := by
  unfold execDreq at he
  exact done_still he (by simp only [State.onDreq_still, State.transmit_still])

theorem execDrsp_still (p : Nat) (t2 t3 : DWord) (s : State) {t : State} (he : execDrsp p t2 t3 s = .next t) : t.still = s.still := by
  unfold execDrsp at he
  exact done_still he (by simp only [State.onDrsp_still])

theorem execHoldover_still (s : State) {t : State} (he : execHoldover s = .next t) : t.still = s.still := by
  unfold execHoldover at he
  exact done_still he (by simp only [State.holdover_still])

theorem execAngleExport_still (k : Nat) (s : State) {t : State} (he : execAngleExport k s = .next t) : t.still = s.still := by
  unfold execAngleExport at he
  exact done_still he (by simp only [State.angleExport_still, State.transmit_still])

theorem execAngleFrame_still (k src : Nat) (value : DWord) (vel : Word) (time : DWord) (st : Nat) (s : State) {t : State} (he : execAngleFrame k src value vel time st s = .next t) : t.still = s.still := by
  unfold execAngleFrame at he
  exact done_still he (by simp only [State.onAngle_still])

theorem execGaplimExpiry_still (k : Nat) (s : State) {t : State} (he : execGaplimExpiry k s = .next t) : t.still = s.still := by
  unfold execGaplimExpiry at he
  exact done_still he (by simp only [State.gapExpiry_still])

theorem execSwitchCommand_still (mask time : Nat) (s : State) {t : State} (he : execSwitchCommand mask time s = .next t) : t.still = s.still := by
  unfold execSwitchCommand at he
  exact done_still he (by simp only [State.onSwitch_still])

theorem execSwitchAtTick_still (s : State) {t : State} (he : execSwitchAtTick s = .next t) : t.still = s.still := by
  unfold execSwitchAtTick at he
  exact done_still he (by simp only [State.switchAtTick_still])

theorem execTunnelledRequestArrive_still (src etag op addr len : Nat) (data : List Byte) (s : State) {t : State} (he : execTunnelledRequestArrive src etag op addr len data s = .next t) : t.still = s.still := by
  unfold execTunnelledRequestArrive at he
  exact done_still he (by simp only [State.onTunnelled_still, State.transmit_still])

theorem execTunnelResponse_still (etag status detail : Nat) (data : List Byte) (s : State) {t : State} (he : execTunnelResponse etag status detail data s = .next t) : t.still = s.still := by
  unfold execTunnelResponse at he
  exact done_still he (by simp only [State.transmit_still, State.tunAnswer_still])

theorem execTunnelTimeout_still (etag : Nat) (s : State) {t : State} (he : execTunnelTimeout etag s = .next t) : t.still = s.still := by
  unfold execTunnelTimeout at he
  refine done_still he ?_
  simp only [State.transmit_still, State.tunAnswer_still, apply_ite State.still, ite_self]

theorem execReportFrameReceive_kept (c src : Nat) (data : List Byte) (s : State) {t : State} (he : execReportFrameReceive c src data s = .next t) : Kept s t := by
  unfold execReportFrameReceive at he
  exact done_kept he (by simp only [State.onReport_lead,
    State.still_lead (State.transmit_still ..)]) (fun hw => by simp only [State.onReport_memWf,
    State.still_memWf (State.transmit_still ..), hw])

theorem execReportResend_still (s : State) {t : State} (he : execReportResend s = .next t) : t.still = s.still := by
  unfold execReportResend at he
  exact done_still he (by simp only [State.sendReports_still, State.transmit_still])

theorem execHostMemoryWrite_kept (bar off : Nat) (data : List Byte) (s : State) {t : State} (he : execHostMemoryWrite bar off data s = .next t) : Kept s t := by
  unfold execHostMemoryWrite at he
  exact done_kept he (by simp only [State.hostMemWrite_lead]) (fun hw => by simp only [State.hostMemWrite_memWf, hw])

theorem execHostMemoryRead_still (bar off len : Nat) (s : State) {t : State} (he : execHostMemoryRead bar off len s = .next t) : t.still = s.still := by
  unfold execHostMemoryRead at he
  exact done_still he (by simp only [State.hostMemRead_still])

theorem execBar4Read_still (off len : Nat) (s : State) {t : State} (he : execBar4Read off len s = .next t) : t.still = s.still := by
  unfold execBar4Read at he
  exact done_still he (by simp only [State.bar4Read_still])

theorem execBar4Write_still (s : State) {t : State} (he : execBar4Write s = .next t) : t.still = s.still := by
  unfold execBar4Write at he
  exact done_still he (by simp only [State.bar4Write_still])

theorem execDmaDescriptorComplete_still (n : Nat) (desc data : Option (List Byte)) (s : State) {t : State} (he : execDmaDescriptorComplete n desc data s = .next t) : t.still = s.still := by
  unfold execDmaDescriptorComplete at he
  exact done_still he (by simp only [State.dmaRow_still])

theorem execCtxSwitch_still (mask : Word) (sub : Nat) (s : State) {t : State} (he : execCtxSwitch mask sub s = .next t) : t.still = s.still := by
  unfold execCtxSwitch at he
  exact done_still he (by simp only [State.ctxSwitch_still])

theorem execSwtrig_still (g : Nat) (s : State) {t : State} (he : execSwtrig g s = .next t) : t.still = s.still := by
  unfold execSwtrig at he
  exact done_still he (by simp only [State.swtrig_still])

theorem execSgArm_still (n : Nat) (v : Word) (s : State) {t : State} (he : execSgArm n v s = .next t) : t.still = s.still := by
  unfold execSgArm at he
  exact done_still he (by simp only [State.sgCfgWrite_still])

theorem execRegionCtlWrite_still (g : Nat) (v : Word) (s : State) {t : State} (he : execRegionCtlWrite g v s = .next t) : t.still = s.still := by
  unfold execRegionCtlWrite at he
  exact done_still he (by simp only [State.regionCtlWrite_still])

theorem execScrubPassStart_still (g : Nat) (s : State) {t : State} (he : execScrubPassStart g s = .next t) : t.still = s.still := by
  unfold execScrubPassStart at he
  exact done_still he (by simp only [State.passStart_still])

theorem execStoredFrameCheck_kept (a : Nat) (s : State) {t : State} (he : execStoredFrameCheck a s = .next t) : Kept s t := by
  unfold execStoredFrameCheck at he
  exact done_kept he (by simp only [State.storedCheck_lead]) (fun hw => by simp only [State.storedCheck_memWf, hw])

theorem execUpset_still (x : Strike) (s : State) {t : State} (he : execUpset x s = .next t) : t.still = s.still := by
  unfold execUpset at he
  exact done_still he (by simp only [State.strike_still])

theorem execCmpPortWrite_still (g csel wsel : Nat) (data : Half) (sub : Nat) (s : State) {t : State} (he : execCmpPortWrite g csel wsel data sub s = .next t) : t.still = s.still := by
  unfold execCmpPortWrite at he
  exact done_still he (by simp only [State.cmpPortWrite_still])

theorem execWuPass_still (t : Nat) (a b : Word) (s : State) {t' : State} (he : execWuPass t a b s = .next t') : t'.still = s.still := by
  unfold execWuPass at he
  exact done_still he (by simp only [State.wuOp_still])

theorem execWuAdd_still (t : Nat) (a b : Word) (s : State) {t' : State} (he : execWuAdd t a b s = .next t') : t'.still = s.still := by
  unfold execWuAdd at he
  exact done_still he (by simp only [State.wuOp_still])

theorem execWuSub_still (t : Nat) (a b : Word) (s : State) {t' : State} (he : execWuSub t a b s = .next t') : t'.still = s.still := by
  unfold execWuSub at he
  exact done_still he (by simp only [State.wuOp_still])

theorem execWuAddc_still (t : Nat) (a b : Word) (cin : Bool) (s : State) {t' : State} (he : execWuAddc t a b cin s = .next t') : t'.still = s.still := by
  unfold execWuAddc at he
  exact done_still he (by simp only [State.wuOp_still])

theorem execWuAnd_still (t : Nat) (a b : Word) (s : State) {t' : State} (he : execWuAnd t a b s = .next t') : t'.still = s.still := by
  unfold execWuAnd at he
  exact done_still he (by simp only [State.wuOp_still])

theorem execWuOr_still (t : Nat) (a b : Word) (s : State) {t' : State} (he : execWuOr t a b s = .next t') : t'.still = s.still := by
  unfold execWuOr at he
  exact done_still he (by simp only [State.wuOp_still])

theorem execWuXor_still (t : Nat) (a b : Word) (s : State) {t' : State} (he : execWuXor t a b s = .next t') : t'.still = s.still := by
  unfold execWuXor at he
  exact done_still he (by simp only [State.wuOp_still])

theorem execWuMin_still (t : Nat) (a b : Word) (s : State) {t' : State} (he : execWuMin t a b s = .next t') : t'.still = s.still := by
  unfold execWuMin at he
  exact done_still he (by simp only [State.wuOp_still])

theorem execWuMax_still (t : Nat) (a b : Word) (s : State) {t' : State} (he : execWuMax t a b s = .next t') : t'.still = s.still := by
  unfold execWuMax at he
  exact done_still he (by simp only [State.wuOp_still])

theorem execWuShl_still (t : Nat) (a b : Word) (s : State) {t' : State} (he : execWuShl t a b s = .next t') : t'.still = s.still := by
  unfold execWuShl at he
  exact done_still he (by simp only [State.wuOp_still])

theorem execWuShr_still (t : Nat) (a b : Word) (s : State) {t' : State} (he : execWuShr t a b s = .next t') : t'.still = s.still := by
  unfold execWuShr at he
  exact done_still he (by simp only [State.wuOp_still])

theorem execWuCmp_still (t : Nat) (a b : Word) (s : State) {t' : State} (he : execWuCmp t a b s = .next t') : t'.still = s.still := by
  unfold execWuCmp at he
  exact done_still he (by simp only [State.wuOp_still])

theorem execWuMul_still (t : Nat) (a b : Word) (s : State) {t' : State} (he : execWuMul t a b s = .next t') : t'.still = s.still := by
  unfold execWuMul at he
  exact done_still he (by simp only [State.wuOp_still])

theorem execWuMac_still (t : Nat) (a b : Word) (s : State) {t' : State} (he : execWuMac t a b s = .next t') : t'.still = s.still := by
  unfold execWuMac at he
  exact done_still he (by simp only [State.wuOp_still])

theorem execWuMsu_still (t : Nat) (a b : Word) (s : State) {t' : State} (he : execWuMsu t a b s = .next t') : t'.still = s.still := by
  unfold execWuMsu at he
  exact done_still he (by simp only [State.wuOp_still])

theorem execWuLdacc_still (t : Nat) (a b : Word) (s : State) {t' : State} (he : execWuLdacc t a b s = .next t') : t'.still = s.still := by
  unfold execWuLdacc at he
  exact done_still he (by simp only [State.wuOp_still])

theorem execClracc_still (t op : Nat) (a b : Word) (cin : Bool) (s : State) {t' : State} (he : execClracc t op a b cin s = .next t') : t'.still = s.still := by
  unfold execClracc at he
  exact done_still he (by simp only [State.wuOp_still])

theorem execKick_still (g : Nat) (s : State) {t : State} (he : execKick g s = .next t) : t.still = s.still := by
  unfold execKick at he
  exact done_still he (by simp only [State.fwdReload_still])

theorem execSysFwdCfgWrite_still (g : Nat) (v : Word) (s : State) {t : State} (he : execSysFwdCfgWrite g v s = .next t) : t.still = s.still := by
  unfold execSysFwdCfgWrite at he
  exact done_still he (by simp only [State.fwdCfgWrite_still])

theorem execUnfreeze_still (g : Nat) (s : State) {t : State} (he : execUnfreeze g s = .next t) : t.still = s.still := by
  unfold execUnfreeze at he
  exact done_still he (by simp only [State.unfreeze_still])

theorem execThmSample_kept (n : Nat) (temp : Option Int) (s : State) {t : State} (he : execThmSample n temp s = .next t) : Kept s t := by
  unfold execThmSample at he
  exact done_kept he (by simp only [State.thmSample_lead]) (fun hw => by simp only [State.thmSample_memWf, hw])

theorem execThmTripWrite_still (v : Word) (s : State) {t : State} (he : execThmTripWrite v s = .next t) : t.still = s.still := by
  unfold execThmTripWrite at he
  exact done_still he (by simp only [State.tripWrite_still])

theorem execAgeMeasurement_still (l : List (Nat × Nat × Nat)) (s : State) {t : State} (he : execAgeMeasurement l s = .next t) : t.still = s.still := by
  unfold execAgeMeasurement at he
  exact done_still he (by simp only [State.ageMeasure_still])

theorem execAgeapply_still (m : Nat) (s : State) {t : State} (he : execAgeapply m s = .next t) : t.still = s.still := by
  unfold execAgeapply at he
  exact done_still he (by simp only [State.ageApply_still])

theorem execOperatingHour_still (s : State) {t : State} (he : execOperatingHour s = .next t) : t.still = s.still := by
  unfold execOperatingHour at he
  exact done_still he (by simp only [State.bump_still])

theorem execNocRead_still (q : Req) (s : State) {t : State} (he : execNocRead q s = .next t) : t.still = s.still := by
  unfold execNocRead at he
  exact done_still he (by simp only [State.nocRequest_still])

theorem execNocWrite_still (q : Req) (s : State) {t : State} (he : execNocWrite q s = .next t) : t.still = s.still := by
  unfold execNocWrite at he
  exact done_still he (by simp only [State.nocRequest_still])

theorem execNocWritep_still (q : Req) (s : State) {t : State} (he : execNocWritep q s = .next t) : t.still = s.still := by
  unfold execNocWritep at he
  exact done_still he (by simp only [State.nocRequest_still])

theorem execNocAdd16_still (q : Req) (s : State) {t : State} (he : execNocAdd16 q s = .next t) : t.still = s.still := by
  unfold execNocAdd16 at he
  exact done_still he (by simp only [State.nocRequest_still])

theorem execNocSwap16_still (q : Req) (s : State) {t : State} (he : execNocSwap16 q s = .next t) : t.still = s.still := by
  unfold execNocSwap16 at he
  exact done_still he (by simp only [State.nocRequest_still])

theorem execNocAdd32_still (q : Req) (s : State) {t : State} (he : execNocAdd32 q s = .next t) : t.still = s.still := by
  unfold execNocAdd32 at he
  exact done_still he (by simp only [State.nocRequest_still])

theorem execNocSwap32_still (q : Req) (s : State) {t : State} (he : execNocSwap32 q s = .next t) : t.still = s.still := by
  unfold execNocSwap32 at he
  exact done_still he (by simp only [State.nocRequest_still])

theorem execNocBadop_still (q : Req) (s : State) {t : State} (he : execNocBadop q s = .next t) : t.still = s.still := by
  unfold execNocBadop at he
  exact done_still he (by simp only [State.nocRequest_still])

theorem execAdapterRequest_still (g : Nat) (q : Req) (s : State) {t : State} (he : execAdapterRequest g q s = .next t) : t.still = s.still := by
  unfold execAdapterRequest at he
  exact done_still he (by simp only [State.adapterRequest_still, State.hostAnswers_still, State.vsmAnswers_still])

theorem execPacketForward_kept (router out : Nat) (hit : Bool) (e : HbmErr) (s : State) {t : State} (he : execPacketForward router out hit e s = .next t) : Kept s t := by
  unfold execPacketForward at he
  exact done_kept he (by simp only [State.forward_lead, State.still_lead (State.hostAnswers_still ..),
    State.still_lead (State.vsmAnswers_still ..)]) (fun hw => by simp only [State.forward_memWf,
    State.still_memWf (State.hostAnswers_still ..), State.still_memWf (State.vsmAnswers_still ..), hw])

theorem execScraccess_still (m : Nat) (s : State) {t : State} (he : execScraccess m s = .next t) : t.still = s.still := by
  unfold execScraccess at he
  exact done_still he (by simp only [State.scrAccess_still])

theorem execTapReset_still (s : State) {t : State} (he : execTapReset s = .next t) : t.still = s.still := by
  unfold execTapReset at he
  exact done_still he (by simp only [State.tapSelect_still])

theorem execExtest_still (l : List (Nat × Option Bool)) (s : State) {t : State} (he : execExtest l s = .next t) : t.still = s.still := by
  unfold execExtest at he
  refine done_still he ?_
  simp only [State.boundaryLoad_still, State.tapDrive_still, apply_ite State.still, ite_self]

theorem execIdcode_still (s : State) {t : State} (he : execIdcode s = .next t) : t.still = s.still := by
  unfold execIdcode at he
  exact done_still he (by simp only [State.idcode_still])

theorem execSamplePreload_still (l : List (Nat × Option Bool)) (s : State) {t : State} (he : execSamplePreload l s = .next t) : t.still = s.still := by
  unfold execSamplePreload at he
  exact done_still he (by simp only [State.boundaryCapture_still, State.boundaryLoad_still, State.tapSelect_still])

theorem execClamp_still (s : State) {t : State} (he : execClamp s = .next t) : t.still = s.still := by
  unfold execClamp at he
  exact done_still he (by simp only [State.tapDrive_still])

theorem execHighz_still (s : State) {t : State} (he : execHighz s = .next t) : t.still = s.still := by
  unfold execHighz at he
  exact done_still he (by simp only [State.tapSelect_still])

theorem execDapacc_still (s : State) {t : State} (he : execDapacc s = .next t) : t.still = s.still := by
  unfold execDapacc at he
  exact done_still he (by simp only [State.tapSelect_still])

theorem execBypass_still (op : Nat) (s : State) {t : State} (he : execBypass op s = .next t) : t.still = s.still := by
  unfold execBypass at he
  refine done_still he ?_
  simp only [State.tapSelect_still, apply_ite State.still, ite_self]

theorem execDapRead_kept (addr : Nat) (plain inc : Bool) (s : State) {t : State} (he : execDapRead addr plain inc s = .next t) : Kept s t := by
  unfold execDapRead at he
  exact done_kept he (by simp only [State.dapAccess_lead]) (fun hw => by simp only [State.dapAccess_memWf, hw])

theorem execDapWrite_kept (addr : Nat) (plain inc : Bool) (v : Word) (s : State) {t : State} (he : execDapWrite addr plain inc v s = .next t) : Kept s t := by
  unfold execDapWrite at he
  exact done_kept he (by simp only [State.dapAccess_lead]) (fun hw => by simp only [State.dapAccess_memWf, hw])

theorem execDapAccessComplete_still (s : State) {t : State} (he : execDapAccessComplete s = .next t) : t.still = s.still := by
  unfold execDapAccessComplete at he
  exact done_still he (by simp only [State.dapComplete_still])

theorem execTrim_still (s : State) {t : State} (he : execTrim s = .next t) : t.still = s.still := by
  unfold execTrim at he
  exact done_still he (by simp only [State.trimRow_still])

theorem execPorts_still (a b : Sfdp) (s : State) {t : State} (he : execPorts a b s = .next t) : t.still = s.still := by
  unfold execPorts at he
  exact done_still he (by simp only [State.portsRow_still])

theorem execFetch_kept (twin : Option (List Byte)) (s : State) {t : State} (he : execFetch twin s = .next t) : Kept s t := by
  unfold execFetch at he
  exact done_kept he (by simp only [State.fetchRow_lead]) (fun hw => by simp only [State.fetchRow_memWf, hw])

theorem execHbmtrain_kept (failed : Nat) (rng : Bool) (s : State) {t : State} (he : execHbmtrain failed rng s = .next t) : Kept s t := by
  unfold execHbmtrain at he
  exact done_kept he (by simp only [State.trainRow_lead]) (fun hw => by simp only [State.trainRow_memWf, hw])

theorem execMarch_kept (fails : List (Nat × Nat)) (s : State) {t : State} (he : execMarch fails s = .next t) : Kept s t := by
  unfold execMarch at he
  exact done_kept he (by simp only [State.marchRow_lead]) (fun hw => by simp only [State.marchRow_memWf, hw])

theorem execCsr_kept (s : State) {t : State} (he : execCsr s = .next t) : Kept s t := by
  unfold execCsr at he
  exact done_kept he (by simp only [State.csrRow_lead]) (fun hw => by simp only [State.csrRow_memWf, hw])

theorem execLedger_kept (bad : Bool) (s : State) {t : State} (he : execLedger bad s = .next t) : Kept s t := by
  unfold execLedger at he
  exact done_kept he (by simp only [State.ledgerRow_lead]) (fun hw => by simp only [State.ledgerRow_memWf, hw])

theorem execLanes_still (late : Bool) (s : State) {t : State} (he : execLanes late s = .next t) : t.still = s.still := by
  unfold execLanes at he
  exact done_still he (by simp only [State.lanesRow_still])

theorem execPlanttime_still (late : Bool) (s : State) {t : State} (he : execPlanttime late s = .next t) : t.still = s.still := by
  unfold execPlanttime at he
  exact done_still he (by simp only [State.plantRow_still])

theorem execRegions_still (s : State) {t : State} (he : execRegions s = .next t) : t.still = s.still := by
  unfold execRegions at he
  exact done_still he (by simp only [State.regionsRow_still])

theorem execRelease_still (twinsel : Bool) (s : State) {t : State} (he : execRelease twinsel s = .next t) : t.still = s.still := by
  unfold execRelease at he
  exact done_still he (by simp only [State.releaseRow_still])

theorem execStartRetry_kept (s : State) {t : State} (he : execStartRetry s = .next t) : Kept s t := by
  unfold execStartRetry at he
  exact done_kept he (by simp only [State.retryRow_lead]) (fun hw => by simp only [State.retryRow_memWf, hw])

theorem execRngDrawTimeout_still (s : State) {t : State} (he : execRngDrawTimeout s = .next t) : t.still = s.still := by
  unfold execRngDrawTimeout at he
  exact done_still he (by simp only [State.drawRow_still])

theorem execCancel_still (m : Nat) (s : State) {t : State} (he : execCancel m s = .next t) : t.still = s.still := by
  unfold execCancel at he
  exact done_still he (by simp only [State.cancelRequest_still, State.startSettle_still])

theorem execInvalidate_still (m : Nat) (s : State) {t : State} (he : execInvalidate m s = .next t) : t.still = s.still := by
  unfold execInvalidate at he
  exact done_still he (by simp only [State.invalidateRequest_still, State.startSettle_still])

theorem execCfgReclaim_still (w : Who) (mask : Nat) (s : State) {t : State} (he : execCfgReclaim w mask s = .next t) : t.still = s.still := by
  unfold execCfgReclaim at he
  refine done_still he ?_
  simp only [State.answerWith_still, State.cfgReclaim_still, State.startSettle_still, apply_ite State.still, ite_self]

theorem execCsrWrite_kept (who : Who) (addr size : Nat) (value : Word) (sub : Nat) (s : State) {t : State} (he : execCsrWrite who addr size value sub s = .next t) : Kept s t := by
  unfold execCsrWrite at he
  refine done_kept he ?_ (fun hw => ?_)
  · repeat' (first
      | with_reducible rfl
      | intro _
      | simp only [State.csrSet_lead, State.still_lead (State.startSettle_still ..), State.still_lead (State.transmit_still ..)]
      | refine (State.csrAccess_lead _ _ _ _ _ ?_).trans ?_)
  · repeat' (first
      | with_reducible exact hw
      | simp only [State.csrSet_memWf, State.still_memWf (State.startSettle_still ..),
    State.still_memWf (State.transmit_still ..), hw]
      | refine State.csrAccess_memWf _ _ _ _ _ (fun s1 hw => ?_) ?_)

theorem execPad_kept (ch : Nat) (s : State) {t : State} (he : execPad ch s = .next t) : Kept s t := by
  unfold execPad at he
  exact done_kept he (by simp only [State.padRow_lead,
    State.still_lead (State.startSettle_still ..)]) (fun hw => by simp only [State.padRow_memWf,
    State.still_memWf (State.startSettle_still ..), hw])

theorem execFrame_kept (ch : Nat) (s : State) {t : State} (he : execFrame ch s = .next t) : Kept s t := by
  unfold execFrame at he
  exact done_kept he (by simp only [State.frameRow_lead,
    State.still_lead (State.startSettle_still ..)]) (fun hw => by simp only [State.frameRow_memWf,
    State.still_memWf (State.startSettle_still ..), hw])

theorem execBcast_kept (ch : Nat) (s : State) {t : State} (he : execBcast ch s = .next t) : Kept s t := by
  unfold execBcast at he
  exact done_kept he (by simp only [State.bcastRow_lead,
    State.still_lead (State.startSettle_still ..)]) (fun hw => by simp only [State.bcastRow_memWf,
    State.still_memWf (State.startSettle_still ..), hw])

theorem execSupfw_kept (ch : Nat) (s : State) {t : State} (he : execSupfw ch s = .next t) : Kept s t := by
  unfold execSupfw at he
  exact done_kept he (by simp only [State.still_lead (State.startSettle_still ..),
    State.supfwRow_lead]) (fun hw => by simp only [State.still_memWf (State.startSettle_still ..), State.supfwRow_memWf, hw])

theorem execCsrw_kept (ch : Nat) (s : State) {t : State} (he : execCsrw ch s = .next t) : Kept s t := by
  unfold execCsrw at he
  exact done_kept he (by simp only [State.csrwRow_lead,
    State.still_lead (State.startSettle_still ..)]) (fun hw => by simp only [State.csrwRow_memWf,
    State.still_memWf (State.startSettle_still ..), hw])

theorem execActivate_kept (ch : Nat) (s : State) {t : State} (he : execActivate ch s = .next t) : Kept s t := by
  unfold execActivate at he
  exact done_kept he (by simp only [State.activateRow_lead,
    State.still_lead (State.startSettle_still ..)]) (fun hw => by simp only [State.activateRow_memWf,
    State.still_memWf (State.startSettle_still ..), hw])

theorem execEnd_still (ch : Nat) (s : State) {t : State} (he : execEnd ch s = .next t) : t.still = s.still := by
  unfold execEnd at he
  exact done_still he (by simp only [State.endRow_still, State.startSettle_still])

theorem execPdRequestOff_still (n : Nat) (s : State) {t : State} (he : execPdRequestOff n s = .next t) : t.still = s.still := by
  unfold execPdRequestOff at he
  exact done_still he (by simp only [State.pdRequest_still])

theorem execPdRequestOn_still (n : Nat) (s : State) {t : State} (he : execPdRequestOn n s = .next t) : t.still = s.still := by
  unfold execPdRequestOn at he
  exact done_still he (by simp only [State.pdRequest_still])

theorem execPdRequestRetain_still (n : Nat) (s : State) {t : State} (he : execPdRequestRetain n s = .next t) : t.still = s.still := by
  unfold execPdRequestRetain at he
  exact done_still he (by simp only [State.pdRequest_still])

theorem execDomainOffReached_kept (n : Nat) (s : State) {t : State} (he : execDomainOffReached n s = .next t) : Kept s t := by
  unfold execDomainOffReached at he
  exact done_kept he (by simp only [State.domainOff_lead]) (fun hw => by simp only [State.domainOff_memWf, hw])

theorem execDomainOnReached_still (n : Nat) (s : State) {t : State} (he : execDomainOnReached n s = .next t) : t.still = s.still := by
  unfold execDomainOnReached at he
  exact done_still he (by simp only [State.domainOn_still])

theorem execHbmTrainingDone_kept (k : Nat) (ok : Bool) (s : State) {t : State} (he : execHbmTrainingDone k ok s = .next t) : Kept s t := by
  unfold execHbmTrainingDone at he
  exact done_kept he (by simp only [State.trained_lead]) (fun hw => by simp only [State.trained_memWf, hw])

theorem execLowwarn_still (s : State) {t : State} (he : execLowwarn s = .next t) : t.still = s.still := by
  unfold execLowwarn at he
  exact done_still he (by simp only [State.raise_still])

theorem execAvsPoll_still (mv : Nat) (fault pec : Bool) (s : State) {t : State} (he : execAvsPoll mv fault pec s = .next t) : t.still = s.still := by
  unfold execAvsPoll at he
  exact done_still he (by simp only [State.avsPoll_still])

theorem execAvsStep_still (s : State) {t : State} (he : execAvsStep s = .next t) : t.still = s.still := by
  unfold execAvsStep at he
  exact done_still he (by simp only [State.avsStep_still])

theorem execFpllCfgWrite_still (k : Nat) (v : Word) (s : State) {t : State} (he : execFpllCfgWrite k v s = .next t) : t.still = s.still := by
  unfold execFpllCfgWrite at he
  exact done_still he (by simp only [State.fpllWrite_still])

theorem execFpllLock_still (k : Nat) (s : State) {t : State} (he : execFpllLock k s = .next t) : t.still = s.still := by
  unfold execFpllLock at he
  exact done_still he (by simp only [State.fpllLock_still])

theorem execFpllLockLoss_still (k : Nat) (s : State) {t : State} (he : execFpllLockLoss k s = .next t) : t.still = s.still := by
  unfold execFpllLockLoss at he
  exact done_still he (by simp only [State.fpllLost_still])

theorem execClkRegionStage_still (g k : Nat) (s : State) {t : State} (he : execClkRegionStage g k s = .next t) : t.still = s.still := by
  unfold execClkRegionStage at he
  exact done_still he (by simp only [State.clkStage_still])

theorem execFabricClockEdge_kept (gs : List Nat) (rising : Bool) (sub : Nat) (s : State) {t : State} (he : execFabricClockEdge gs rising sub s = .next t) : Kept s t := by
  unfold execFabricClockEdge at he
  exact done_kept he (by simp only [State.fabricEdges_lead]) (fun hw => by simp only [State.fabricEdges_memWf, hw])

theorem execSwitchComplete_kept (n sub : Nat) (s : State) {t : State} (he : execSwitchComplete n sub s = .next t) : Kept s t := by
  unfold execSwitchComplete at he
  exact done_kept he (by simp only [State.switchEdge_lead]) (fun hw => by simp only [State.switchEdge_memWf, hw])

theorem execEvtTargetCommit_still (k : TargetReg) (n : Nat) (hi : Word) (sub : Nat) (s : State) {t : State} (he : execEvtTargetCommit k n hi sub s = .next t) : t.still = s.still := by
  unfold execEvtTargetCommit at he
  refine done_still he ?_
  repeat' (first
    | with_reducible rfl
    | intro _
    | simp only [State.targetCommit_still]
    | split)

theorem execEvtCmpCfgWrite_still (n : Nat) (v : Word) (sub : Nat) (s : State) {t : State} (he : execEvtCmpCfgWrite n v sub s = .next t) : t.still = s.still := by
  unfold execEvtCmpCfgWrite at he
  exact done_still he (by simp only [State.evtWrite_still])

theorem execEvtEdgCfgWrite_still (n : Nat) (v : Word) (sub : Nat) (s : State) {t : State} (he : execEvtEdgCfgWrite n v sub s = .next t) : t.still = s.still := by
  unfold execEvtEdgCfgWrite at he
  exact done_still he (by simp only [State.evtWrite_still])

theorem execEvtCapCfgWrite_still (n : Nat) (v : Word) (sub : Nat) (s : State) {t : State} (he : execEvtCapCfgWrite n v sub s = .next t) : t.still = s.still := by
  unfold execEvtCapCfgWrite at he
  exact done_still he (by simp only [State.evtWrite_still])

theorem execEdgeFabricTrigger_still (n sub : Nat) (s : State) {t : State} (he : execEdgeFabricTrigger n sub s = .next t) : t.still = s.still := by
  unfold execEdgeFabricTrigger at he
  exact done_still he (by simp only [State.edgTrigger_still])

theorem execCapRec3Read_still (n : Nat) (s : State) {t : State} (he : execCapRec3Read n s = .next t) : t.still = s.still := by
  unfold execCapRec3Read at he
  exact done_still he (by simp only [State.capRead_still])

theorem execXbarCommit_still (who : Who) (mask sub : Nat) (s : State) {t : State} (he : execXbarCommit who mask sub s = .next t) : t.still = s.still := by
  unfold execXbarCommit at he
  exact done_still he (by simp only [State.commitWrite_still])

theorem execXbarStageWrite_still (who : Who) (input : Bool) (n : Nat) (v : Word) (s : State) {t : State} (he : execXbarStageWrite who input n v s = .next t) : t.still = s.still := by
  unfold execXbarStageWrite at he
  exact done_still he (by simp only [State.stageWrite_still])

theorem execXbarReclaim_still (g sub : Nat) (s : State) {t : State} (he : execXbarReclaim g sub s = .next t) : t.still = s.still := by
  unfold execXbarReclaim at he
  exact done_still he (by simp only [State.reclaimWrite_still])

theorem execXbarCgOwnerWrite_still (who : Who) (g : Nat) (v : Word) (s : State) {t : State} (he : execXbarCgOwnerWrite who g v s = .next t) : t.still = s.still := by
  unfold execXbarCgOwnerWrite at he
  exact done_still he (by simp only [State.groupOwnerWrite_still])

theorem execXbarPinCfgWrite_still (n : Nat) (v : Word) (sub : Nat) (s : State) {t : State} (he : execXbarPinCfgWrite n v sub s = .next t) : t.still = s.still := by
  unfold execXbarPinCfgWrite at he
  exact done_still he (by simp only [State.pinCfgWrite_still])

theorem execTableSweep_still (s : State) {t : State} (he : execTableSweep s = .next t) : t.still = s.still := by
  unfold execTableSweep at he
  exact done_still he (by simp only [State.tableSweep_still])

theorem execPinInputChange_still (n ext : Nat) (s : State) {t : State} (he : execPinInputChange n ext s = .next t) : t.still = s.still := by
  unfold execPinInputChange at he
  exact done_still he (by simp only [State.pinChange_still])

theorem execVccioChange_still (k code : Nat) (s : State) {t : State} (he : execVccioChange k code s = .next t) : t.still = s.still := by
  unfold execVccioChange at he
  exact done_still he (by simp only [State.vccio_still])

theorem execAngleTick_lead (s : State) {t : State} (he : execAngleTick s = .next t) :
    t.lead = (s.pending, s.tick + 1, s.xtick) ∧ (s.memWf = true → t.memWf = true) := by
  unfold execAngleTick at he
  cases he
  exact ⟨State.angleTick_lead s, State.angleTick_memWf s⟩

theorem execBankNop_still (_q : BankReq) (s : State) {t : State} (he : execBankNop _q s = .next t) : t.still = s.still := by
  unfold execBankNop at he
  exact done_still he rfl

theorem execBankRead_kept (q : BankReq) (peer : Option (Nat × BankReq)) (s : State) {t : State} (he : execBankRead q peer s = .next t) : Kept s t := by
  unfold execBankRead at he
  exact done_kept he (by simp only [State.bankCmd_lead]) (fun hw => by simp only [State.bankCmd_memWf, hw])

theorem execBankWrite_kept (q : BankReq) (peer : Option (Nat × BankReq)) (s : State) {t : State} (he : execBankWrite q peer s = .next t) : Kept s t := by
  unfold execBankWrite at he
  exact done_kept he (by simp only [State.bankCmd_lead]) (fun hw => by simp only [State.bankCmd_memWf, hw])

theorem execBankAdd16_kept (q : BankReq) (peer : Option (Nat × BankReq)) (s : State) {t : State} (he : execBankAdd16 q peer s = .next t) : Kept s t := by
  unfold execBankAdd16 at he
  exact done_kept he (by simp only [State.bankCmd_lead]) (fun hw => by simp only [State.bankCmd_memWf, hw])

theorem execBankSwap16_kept (q : BankReq) (peer : Option (Nat × BankReq)) (s : State) {t : State} (he : execBankSwap16 q peer s = .next t) : Kept s t := by
  unfold execBankSwap16 at he
  exact done_kept he (by simp only [State.bankCmd_lead]) (fun hw => by simp only [State.bankCmd_memWf, hw])

theorem execBankAdd32_kept (q : BankReq) (peer : Option (Nat × BankReq)) (s : State) {t : State} (he : execBankAdd32 q peer s = .next t) : Kept s t := by
  unfold execBankAdd32 at he
  exact done_kept he (by simp only [State.bankCmd_lead]) (fun hw => by simp only [State.bankCmd_memWf, hw])

theorem execBankSwap32_kept (q : BankReq) (peer : Option (Nat × BankReq)) (s : State) {t : State} (he : execBankSwap32 q peer s = .next t) : Kept s t := by
  unfold execBankSwap32 at he
  exact done_kept he (by simp only [State.bankCmd_lead]) (fun hw => by simp only [State.bankCmd_memWf, hw])

theorem execBankBadop_kept (q : BankReq) (s : State) {t : State} (he : execBankBadop q s = .next t) : Kept s t := by
  unfold execBankBadop at he
  exact done_kept he (by simp only [State.bankPort_lead]) (fun hw => by simp only [State.bankPort_memWf, hw])

theorem execMemBankOwnerWrite_still (w : Who) (n : Nat) (v : Word) (s : State) {t : State} (he : execMemBankOwnerWrite w n v s = .next t) : t.still = s.still := by
  unfold execMemBankOwnerWrite at he
  exact done_still he (by simp only [State.ownerWrite_still])

theorem execHandoverEffect_still (n : Nat) (s : State) {t : State} (he : execHandoverEffect n s = .next t) : t.still = s.still := by
  unfold execHandoverEffect at he
  exact done_still he (by simp only [State.handover_still])

theorem execMemReclaim_still (w : Who) (n : Nat) (s : State) {t : State} (he : execMemReclaim w n s = .next t) : t.still = s.still := by
  unfold execMemReclaim at he
  refine done_still he ?_
  simp only [State.answerWith_still, State.reclaimAsk_still, apply_ite State.still, ite_self]

theorem execMarchStart_still (s : State) {t : State} (he : execMarchStart s = .next t) : t.still = s.still := by
  unfold execMarchStart at he
  exact done_still he (by simp only [State.marchStart_still])

theorem execMarchEnd_kept (fails : List (Nat × Nat)) (s : State) {t : State} (he : execMarchEnd fails s = .next t) : Kept s t := by
  unfold execMarchEnd at he
  refine done_kept he ?_ (fun hw => ?_)
  · repeat' (first
      | with_reducible rfl
      | intro _
      | simp only [State.marchEnd_lead, apply_ite State.lead, ite_self])
  · repeat' (first
      | with_reducible exact hw
      | simp only [State.marchEnd_memWf, hw]
      | split)

theorem execTargetTimeout_still (ep : Nat) (s : State) {t : State} (he : execTargetTimeout ep s = .next t) : t.still = s.still := by
  unfold execTargetTimeout at he
  exact done_still he (by simp only [State.targetTimeout_still])

theorem execWait_still (ep : Nat) (s : State) {t : State} (he : execWait ep s = .next t) : t.still = s.still := by
  unfold execWait at he
  exact done_still he (by simp only [State.sendWait_still])

theorem execFlip_still (s : State) {t : State} (he : execFlip s = .next t) : t.still = s.still := by
  unfold execFlip at he
  exact done_still he (by simp only [State.still_mk, State.still_fold, State.putB_still])

theorem execFlipCheckEnd_still (s : State) {t : State} (he : execFlipCheckEnd s = .next t) : t.still = s.still := by
  unfold execFlipCheckEnd at he
  exact done_still he (by simp only [State.flipEnd_still])

theorem execEpochDrained_still (s : State) {t : State} (he : execEpochDrained s = .next t) : t.still = s.still := by
  unfold execEpochDrained at he
  exact done_still he (by simp only [State.drained_still])

theorem execRevive_still (ep : Nat) (s : State) {t : State} (he : execRevive ep s = .next t) : t.still = s.still := by
  unfold execRevive at he
  exact done_still he (by simp only [State.revive_still])

theorem execPortCloseComplete_still (ep : Nat) (s : State) {t : State} (he : execPortCloseComplete ep s = .next t) : t.still = s.still := by
  unfold execPortCloseComplete at he
  exact done_still he (by simp only [State.portClosed_still])

theorem execStatsClear_still (s : State) {t : State} (he : execStatsClear s = .next t) : t.still = s.still := by
  unfold execStatsClear at he
  exact done_still he (by simp only [State.statsClear_still])

theorem execPcFail_still (k p : Nat) (s : State) {t : State} (he : execPcFail k p s = .next t) : t.still = s.still := by
  unfold execPcFail at he
  exact done_still he (by simp only [State.raise_still, State.setBit_still])

theorem execSweepGrant_still (k : Nat) (s : State) {t : State} (he : execSweepGrant k s = .next t) : t.still = s.still := by
  unfold execSweepGrant at he
  exact done_still he (by simp only [State.sweepGrant_still])

theorem execSweepGroup_kept (k : Nat) (e : HbmErr) (s : State) {t : State} (he : execSweepGroup k e s = .next t) : Kept s t := by
  unfold execSweepGroup at he
  exact done_kept he (by simp only [State.sweepGroup_lead]) (fun hw => by simp only [State.sweepGroup_memWf, hw])

theorem execHbmRefresh_still (k : Nat) (temp : BitVec 8) (s : State) {t : State} (he : execHbmRefresh k temp s = .next t) : t.still = s.still := by
  unfold execHbmRefresh at he
  exact done_still he (by simp only [State.hbmRefresh_still])

theorem execHbmCalibration_still (_k _p : Nat) (s : State) {t : State} (he : execHbmCalibration _k _p s = .next t) : t.still = s.still := by
  unfold execHbmCalibration at he
  exact done_still he rfl

theorem execCrossbarTick_still (s : State) {t : State} (he : execCrossbarTick s = .next t) :
    t.still = (s.pending, s.tick, s.xtick + 1, s.mem, s.fill, s.epoch) := by
  unfold execCrossbarTick at he
  cases he
  exact State.xbarStep_still s

theorem execEncoderEdge_still (n : Nat) (a b : Bool) (sub : Nat) (s : State) {t : State} (he : execEncoderEdge n a b sub s = .next t) : t.still = s.still := by
  unfold execEncoderEdge at he
  exact done_still he (by simp only [State.encEdge_still])

theorem execSsiFrame_still (n : Nat) (data : DWord) (sub : Nat) (s : State) {t : State} (he : execSsiFrame n data sub s = .next t) : t.still = s.still := by
  unfold execSsiFrame at he
  exact done_still he (by simp only [State.ssiFrame_still])

theorem execSsiTimeout_still (n : Nat) (s : State) {t : State} (he : execSsiTimeout n s = .next t) : t.still = s.still := by
  unfold execSsiTimeout at he
  exact done_still he (by simp only [State.ssiTimeout_still])

theorem execPeripheralEnable_still (u : Per) (cfg : Word) (s : State) {t : State} (he : execPeripheralEnable u cfg s = .next t) : t.still = s.still := by
  unfold execPeripheralEnable at he
  exact done_still he (by simp only [State.perEnable_still])

theorem execPeripheralDisable_still (u : Per) (cfg : Word) (s : State) {t : State} (he : execPeripheralDisable u cfg s = .next t) : t.still = s.still := by
  unfold execPeripheralDisable at he
  exact done_still he (by simp only [State.perDisable_still])

theorem execI2cStart_still (n : Nat) (x : BusAnswer) (s : State) {t : State} (he : execI2cStart n x s = .next t) : t.still = s.still := by
  unfold execI2cStart at he
  refine done_still he ?_
  simp only [State.i2cPart_still, apply_ite State.still, ite_self]

theorem execI2cWrite_still (n : Nat) (x : BusAnswer) (s : State) {t : State} (he : execI2cWrite n x s = .next t) : t.still = s.still := by
  unfold execI2cWrite at he
  refine done_still he ?_
  simp only [State.i2cPart_still, State.perWire_still, apply_ite State.still, ite_self]

theorem execI2cRead_still (n : Nat) (data : Byte) (x : BusAnswer) (s : State) {t : State} (he : execI2cRead n data x s = .next t) : t.still = s.still := by
  unfold execI2cRead at he
  refine done_still he ?_
  simp only [State.i2cPart_still, State.perReceive_still, State.perWire_still, apply_ite State.still, ite_self]

theorem execI2cStop_still (n : Nat) (s : State) {t : State} (he : execI2cStop n s = .next t) : t.still = s.still := by
  unfold execI2cStop at he
  refine done_still he ?_
  simp only [State.i2cDid_still, apply_ite State.still, ite_self]

theorem execI2cTimeout_still (n : Nat) (s : State) {t : State} (he : execI2cTimeout n s = .next t) : t.still = s.still := by
  unfold execI2cTimeout at he
  refine done_still he ?_
  simp only [State.perEnd_still, State.raise_still, apply_ite State.still, ite_self]

theorem execSpiTxdata_still (n : Nat) (v : Word) (s : State) {t : State} (he : execSpiTxdata n v s = .next t) : t.still = s.still := by
  unfold execSpiTxdata at he
  exact done_still he (by simp only [State.perSend_still])

theorem execUartTxdata_still (n : Nat) (v : Word) (s : State) {t : State} (he : execUartTxdata n v s = .next t) : t.still = s.still := by
  unfold execUartTxdata at he
  exact done_still he (by simp only [State.perSend_still])

theorem execSpiFrameDone_still (n : Nat) (miso : Word) (s : State) {t : State} (he : execSpiFrameDone n miso s = .next t) : t.still = s.still := by
  unfold execSpiFrameDone at he
  refine done_still he ?_
  simp only [State.perEnd_still, State.perReceive_still, State.perWire_still, apply_ite State.still, ite_self]

theorem execUartByteSent_still (n : Nat) (s : State) {t : State} (he : execUartByteSent n s = .next t) : t.still = s.still := by
  unfold execUartByteSent at he
  refine done_still he ?_
  simp only [State.perEnd_still, State.perWire_still, apply_ite State.still, ite_self]

theorem execUartRxByte_still (n : Nat) (data : Byte) (isBreak framing parity : Bool) (s : State) {t : State} (he : execUartRxByte n data isBreak framing parity s = .next t) : t.still = s.still := by
  unfold execUartRxByte at he
  refine done_still he ?_
  simp only [State.perReceive_still, State.perShow_still, State.raise_still, apply_ite State.still, ite_self]

theorem execRxdataRead_still (u : Per) (s : State) {t : State} (he : execRxdataRead u s = .next t) : t.still = s.still := by
  unfold execRxdataRead at he
  refine done_still he ?_
  repeat' (first
    | with_reducible rfl
    | intro _
    | simp only [State.answerWith_still, State.rxTake_still]
    | split)

theorem execAdapterResponseSend_still (g rtag status detail : Nat) (data : List Byte) (s : State) {t : State} (he : execAdapterResponseSend g rtag status detail data s = .next t) : t.still = s.still := by
  unfold execAdapterResponseSend at he
  exact done_still he (by simp only [State.fabricAnswer_still])

theorem execRxtake_still (g : Nat) (s : State) {t : State} (he : execRxtake g s = .next t) : t.still = s.still := by
  unfold execRxtake at he
  exact done_still he (by simp only [State.rxTakeBeat_still])

theorem execAck_still (p chan seq : Nat) (s : State) {t : State} (he : execAck p chan seq s = .next t) : t.still = s.still := by
  unfold execAck at he
  exact done_still he (by simp only [State.linkAck_still, State.portHeard_still, State.transmit_still])

theorem execPortDown_still (p : Nat) (s : State) {t : State} (he : execPortDown p s = .next t) : t.still = s.still := by
  unfold execPortDown at he
  refine done_still he ?_
  simp only [State.portDown_still, State.transmit_still, State.twinFollow_still, apply_ite State.still, ite_self]

theorem execTunnelRequest_still (q : Req) (s : State) {t : State} (he : execTunnelRequest q s = .next t) : t.still = s.still := by
  unfold execTunnelRequest at he
  exact done_still he (by simp only [State.transmit_still, State.tunnel_still])

theorem execPostResolve_still (s : State) {t : State} (he : execPostResolve s = .next t) : t.still = s.still := by
  unfold execPostResolve at he
  exact done_still he (by simp only [State.mirrorFlush_still, State.postResolve_still, State.transmit_still])

theorem execRecordRelease_kept (n : Nat) (s : State) {t : State} (he : execRecordRelease n s = .next t) : Kept s t := by
  unfold execRecordRelease at he
  exact done_kept he (by simp only [State.still_lead (State.mirrorFlush_still ..), State.recordRelease_lead,
    State.still_lead (State.sendReports_still ..),
    State.still_lead (State.transmit_still ..)]) (fun hw => by simp only [State.still_memWf (State.mirrorFlush_still ..),
    State.recordRelease_memWf, State.still_memWf (State.sendReports_still ..), State.still_memWf (State.transmit_still ..), hw])

theorem execNocResponse_still (ini tag : Nat) (s : State) {t : State} (he : execNocResponse ini tag s = .next t) : t.still = s.still := by
  unfold execNocResponse at he
  exact done_still he (by simp only [State.hostAnswers_still, State.takeResponse_still, State.vsmAnswers_still])

theorem execInitiatorTimeout_still (ini tag : Nat) (s : State) {t : State} (he : execInitiatorTimeout ini tag s = .next t) : t.still = s.still := by
  unfold execInitiatorTimeout at he
  exact done_still he (by simp only [State.hostAnswers_still, State.initiatorTimeout_still, State.vsmAnswers_still])

theorem execNocReclaim_still (w : Who) (ep : Nat) (s : State) {t : State} (he : execNocReclaim w ep s = .next t) : t.still = s.still := by
  unfold execNocReclaim at he
  refine done_still he ?_
  simp only [State.answerWith_still, State.hostAnswers_still, State.nocReclaim_still, State.vsmAnswers_still,
    apply_ite State.still, ite_self]

theorem execCoastlimExpiry_still (n : Nat) (s : State) {t : State} (he : execCoastlimExpiry n s = .next t) : t.still = s.still := by
  unfold execCoastlimExpiry at he
  refine done_still he ?_
  simp only [State.axGotoCause_still, State.setAxis_still, apply_ite State.still, ite_self]

theorem execAngApply_still (mask sub : Nat) (s : State) {t : State} (he : execAngApply mask sub s = .next t) : t.still = s.still := by
  unfold execAngApply at he
  exact done_still he (by simp only [State.angApply_still])

theorem execAngSnap_still (mask : Nat) (s : State) {t : State} (he : execAngSnap mask s = .next t) : t.still = s.still := by
  unfold execAngSnap at he
  exact done_still he (by simp only [State.angSnap_still])

theorem execAngAxisTrimWrite_still (n : Nat) (v : Word) (sameCycle : Bool) (s : State) {t : State} (he : execAngAxisTrimWrite n v sameCycle s = .next t) : t.still = s.still := by
  unfold execAngAxisTrimWrite at he
  exact done_still he (by simp only [State.trimWrite_still])

theorem execAxisEnable_still (n : Nat) (s : State) {t : State} (he : execAxisEnable n s = .next t) : t.still = s.still := by
  unfold execAxisEnable at he
  exact done_still he (by simp only [State.axEnable_still])

theorem execAxisDisable_still (n : Nat) (s : State) {t : State} (he : execAxisDisable n s = .next t) : t.still = s.still := by
  unfold execAxisDisable at he
  exact done_still he (by simp only [State.axDisable_still])

theorem execRearm_still (n : Nat) (s : State) {t : State} (he : execRearm n s = .next t) : t.still = s.still := by
  unfold execRearm at he
  exact done_still he (by simp only [State.putB_still])

theorem execZPulse_still (enc : Nat) (s : State) {t : State} (he : execZPulse enc s = .next t) : t.still = s.still := by
  unfold execZPulse at he
  exact done_still he (by simp only [State.zPulse_still])

theorem execHostLinkUp_still (gen : Nat) (s : State) {t : State} (he : execHostLinkUp gen s = .next t) : t.still = s.still := by
  unfold execHostLinkUp at he
  exact done_still he (by simp only [State.linkUp_still])

theorem execHostLinkDrop_still (s : State) {t : State} (he : execHostLinkDrop s = .next t) : t.still = s.still := by
  unfold execHostLinkDrop at he
  exact done_still he (by simp only [State.linkDrop_still])

theorem execUsbIrqRearm_still (mask : Nat) (s : State) {t : State} (he : execUsbIrqRearm mask s = .next t) : t.still = s.still := by
  unfold execUsbIrqRearm at he
  exact done_still he (by simp only [State.rearm_still])

theorem execMbxSlotWrite_still (who : Who) (m word : Nat) (v : Word) (s : State) {t : State} (he : execMbxSlotWrite who m word v s = .next t) : t.still = s.still := by
  unfold execMbxSlotWrite at he
  exact done_still he (by simp only [State.slotWrite_still])

theorem execMbxDoorbell_still (mask : Nat) (s : State) {t : State} (he : execMbxDoorbell mask s = .next t) : t.still = s.still := by
  unfold execMbxDoorbell at he
  exact done_still he (by simp only [State.doorbell_still])

theorem execMbxTake_still (s : State) {t : State} (he : execMbxTake s = .next t) : t.still = s.still := by
  unfold execMbxTake at he
  exact done_still he (by simp only [State.mbxTake_still])

theorem execMbxDoneClear_still (mask : Nat) (s : State) {t : State} (he : execMbxDoneClear mask s = .next t) : t.still = s.still := by
  unfold execMbxDoneClear at he
  exact done_still he (by simp only [State.mbxDone_still])

theorem execDmaTailWrite_still (n : Nat) (v : Word) (s : State) {t : State} (he : execDmaTailWrite n v s = .next t) : t.still = s.still := by
  unfold execDmaTailWrite at he
  exact done_still he (by simp only [State.dmaTail_still])

theorem execDmaEnable_still (n : Nat) (s : State) {t : State} (he : execDmaEnable n s = .next t) : t.still = s.still := by
  unfold execDmaEnable at he
  exact done_still he (by simp only [State.dmaStart_still])

theorem execDmaDisable_still (n : Nat) (s : State) {t : State} (he : execDmaDisable n s = .next t) : t.still = s.still := by
  unfold execDmaDisable at he
  exact done_still he (by simp only [State.dmaStop_still])

theorem execLaneEnable_still (n : Nat) (s : State) {t : State} (he : execLaneEnable n s = .next t) : t.still = s.still := by
  unfold execLaneEnable at he
  exact done_still he (by simp only [State.laneEnable_still])

theorem execLaneDisable_still (n : Nat) (s : State) {t : State} (he : execLaneDisable n s = .next t) : t.still = s.still := by
  unfold execLaneDisable at he
  exact done_still he (by simp only [State.laneDisable_still])

theorem execPllLock_still (q : Nat) (s : State) {t : State} (he : execPllLock q s = .next t) : t.still = s.still := by
  unfold execPllLock at he
  exact done_still he (by simp only [State.pllLock_still])

theorem execPllLockTimeout_still (q : Nat) (s : State) {t : State} (he : execPllLockTimeout q s = .next t) : t.still = s.still := by
  unfold execPllLockTimeout at he
  refine done_still he ?_
  simp only [State.pllFail_still, apply_ite State.still, ite_self]

theorem execCdrLock_still (n : Nat) (s : State) {t : State} (he : execCdrLock n s = .next t) : t.still = s.still := by
  unfold execCdrLock at he
  exact done_still he (by simp only [State.cdrLock_still])

theorem execLossOfLock_still (n : Nat) (s : State) {t : State} (he : execLossOfLock n s = .next t) : t.still = s.still := by
  unfold execLossOfLock at he
  exact done_still he (by simp only [State.loseLock_still])

theorem execLaneRetrain_still (n : Nat) (s : State) {t : State} (he : execLaneRetrain n s = .next t) : t.still = s.still := by
  unfold execLaneRetrain at he
  exact done_still he (by simp only [State.loseLock_still])

theorem execAdaptSetSend_still (n : Nat) (s : State) {t : State} (he : execAdaptSetSend n s = .next t) : t.still = s.still := by
  unfold execAdaptSetSend at he
  refine done_still he ?_
  simp only [State.updLane_still, apply_ite State.still, ite_self]

theorem execEscanStart_still (n : Nat) (v : Word) (s : State) {t : State} (he : execEscanStart n v s = .next t) : t.still = s.still := by
  unfold execEscanStart at he
  exact done_still he (by simp only [State.scanWrite_still])

theorem execEscanEnd_still (n count : Nat) (s : State) {t : State} (he : execEscanEnd n count s = .next t) : t.still = s.still := by
  unfold execEscanEnd at he
  exact done_still he (by simp only [State.scanEnd_still])

theorem execRxBlockPost_still (n : Nat) (s : State) {t : State} (he : execRxBlockPost n s = .next t) : t.still = s.still := by
  unfold execRxBlockPost at he
  exact done_still he (by simp only [State.rxPost_still])

theorem execTxBlockRead_still (n : Nat) (s : State) {t : State} (he : execTxBlockRead n s = .next t) : t.still = s.still := by
  unfold execTxBlockRead at he
  exact done_still he (by simp only [State.txRead_still])

theorem execTxUnderrun_still (n : Nat) (s : State) {t : State} (he : execTxUnderrun n s = .next t) : t.still = s.still := by
  unfold execTxUnderrun at he
  exact done_still he (by simp only [State.txUnderrun_still])

theorem execLoad_kept (m : Nat) (s : State) {t : State} (he : execLoad m s = .next t) : Kept s t := by
  unfold execLoad at he
  exact done_kept he (by simp only [State.loadRequest_lead]) (fun hw => by simp only [State.loadRequest_memWf, hw])

theorem execSwitch_still (m sub : Nat) (s : State) {t : State} (he : execSwitch m sub s = .next t) : t.still = s.still := by
  unfold execSwitch at he
  exact done_still he (by simp only [State.switchRequest_still])

theorem execMap_kept (m : Nat) (s : State) {t : State} (he : execMap m s = .next t) : Kept s t := by
  unfold execMap at he
  exact done_kept he (by simp only [State.mapRequest_lead]) (fun hw => by simp only [State.mapRequest_memWf, hw])

theorem execFlashprog_kept (m : Nat) (s : State) {t : State} (he : execFlashprog m s = .next t) : Kept s t := by
  unfold execFlashprog at he
  exact done_kept he (by simp only [State.flashProg_lead]) (fun hw => by simp only [State.flashProg_memWf, hw])

theorem execFlasherase_still (m : Nat) (s : State) {t : State} (he : execFlasherase m s = .next t) : t.still = s.still := by
  unfold execFlasherase at he
  exact done_still he (by simp only [State.flashErase_still])

theorem execFlashOpComplete_kept (p : Nat) (ok : Bool) (s : State) {t : State} (he : execFlashOpComplete p ok s = .next t) : Kept s t := by
  unfold execFlashOpComplete at he
  exact done_kept he (by simp only [State.flashEnd_lead]) (fun hw => by simp only [State.flashEnd_memWf, hw])

theorem execFlashWipTimeout_kept (p : Nat) (s : State) {t : State} (he : execFlashWipTimeout p s = .next t) : Kept s t := by
  unfold execFlashWipTimeout at he
  exact done_kept he (by simp only [State.flashEnd_lead]) (fun hw => by simp only [State.flashEnd_memWf, hw])

theorem execFuseBlow_kept (r : Blow) (s : State) {t : State} (he : execFuseBlow r s = .next t) : Kept s t := by
  unfold execFuseBlow at he
  exact done_kept he (by simp only [State.still_lead (State.fuseBlow_still ..),
    State.loadsResume_lead]) (fun hw => by simp only [State.still_memWf (State.fuseBlow_still ..), State.loadsResume_memWf, hw])

theorem execSignerrevoke_still (m : Nat) (s : State) {t : State} (he : execSignerrevoke m s = .next t) : t.still = s.still := by
  unfold execSignerrevoke at he
  exact done_still he (by simp only [State.signerRevoke_still])

theorem execArbadvance_still (m : Nat) (s : State) {t : State} (he : execArbadvance m s = .next t) : t.still = s.still := by
  unfold execArbadvance at he
  exact done_still he (by simp only [State.arbAdvance_still])

theorem execQuote_kept (m : Nat) (rng : Bool) (s : State) {t : State} (he : execQuote m rng s = .next t) : Kept s t := by
  unfold execQuote at he
  exact done_kept he (by simp only [State.quoteRequest_lead]) (fun hw => by simp only [State.quoteRequest_memWf, hw])

theorem execCaptureEdge_kept (n : Nat) (rising : Bool) (sub : Nat) (s : State) {t : State} (he : execCaptureEdge n rising sub s = .next t) : Kept s t := by
  unfold execCaptureEdge at he
  exact done_kept he (by simp only [State.captureEdge_lead]) (fun hw => by simp only [State.captureEdge_memWf, hw])

theorem execLgrApply_still (mask : Nat) (s : State) {t : State} (he : execLgrApply mask s = .next t) : t.still = s.still := by
  unfold execLgrApply at he
  exact done_still he (by simp only [State.lgrApply_still])

theorem execLedgerPost_still (port stn verd : Nat) (code : Half) (idv : Bool) (id : Word) (s : State) {t : State} (he : execLedgerPost port stn verd code idv id s = .next t) : t.still = s.still := by
  unfold execLedgerPost at he
  exact done_still he (by simp only [State.ledgerPost_still])

theorem execLgrFence_still (k : Nat) (v : Word) (s : State) {t : State} (he : execLgrFence k v s = .next t) : t.still = s.still := by
  unfold execLgrFence at he
  exact done_still he (by simp only [State.fenceWrite_still])

theorem execStreamEnable_still (n : Nat) (s : State) {t : State} (he : execStreamEnable n s = .next t) : t.still = s.still := by
  unfold execStreamEnable at he
  exact done_still he (by simp only [State.streamEnable_still])

theorem execStreamDisable_still (n sub : Nat) (s : State) {t : State} (he : execStreamDisable n sub s = .next t) : t.still = s.still := by
  unfold execStreamDisable at he
  exact done_still he (by simp only [State.streamDisable_still])

end Sys2Proof.Machine
end

