-- ==== Sys2Proof/Laws/Regs.lean ====
section
/-! SUPPORT. What a register write does: the register reads back, every other register reads as before; a field written reads
back, and every other bit of its register is unchanged. -/

namespace Sys2Proof.Machine

/-! ### Words and fields -/

theorem Field.of_lt (f : Field) (v : Word) : f.of v < 2 ^ f.w := Nat.mod_lt _ (Nat.two_pow_pos _)

/-- A word is its bits below a field, the field, and its bits above. -/
theorem Field.split (f : Field) (v : Word) :
    v.toNat = v.toNat % 2 ^ f.lo + f.of v * 2 ^ f.lo + v.toNat / 2 ^ (f.lo + f.w) * 2 ^ (f.lo + f.w) := by
  unfold Field.of
  have h1 := Nat.div_add_mod v.toNat (2 ^ f.lo)
  have h2 := Nat.div_add_mod (v.toNat / 2 ^ f.lo) (2 ^ f.w)
  rw [Nat.div_div_eq_div_mul, ← pow_add] at h2
  have h3 : 2 ^ f.lo * (v.toNat / 2 ^ f.lo) =
      v.toNat / 2 ^ f.lo % 2 ^ f.w * 2 ^ f.lo + v.toNat / 2 ^ (f.lo + f.w) * 2 ^ (f.lo + f.w) := by
    conv_lhs => rw [← h2]
    rw [pow_add]
    ring
  omega

/-- The number that a word with a field replaced spells. -/
theorem Field.into_toNat (f : Field) (v : Word) (x : Nat) (h : f.lo + f.w ≤ 32) :
    (f.into v x).toNat = v.toNat % 2 ^ f.lo + x % 2 ^ f.w * 2 ^ f.lo + v.toNat / 2 ^ (f.lo + f.w) * 2 ^ (f.lo + f.w) := by
  have hs := f.split v
  have hv := v.isLt
  have hx : x % 2 ^ f.w < 2 ^ f.w := Nat.mod_lt _ (Nat.two_pow_pos _)
  have hlo : v.toNat % 2 ^ f.lo < 2 ^ f.lo := Nat.mod_lt _ (Nat.two_pow_pos _)
  have hx2 : x % 2 ^ f.w * 2 ^ f.lo + 2 ^ f.lo ≤ 2 ^ (f.lo + f.w) := by
    rw [Nat.add_comm f.lo, pow_add, ← Nat.succ_mul]
    exact Nat.mul_le_mul_right _ hx
  have hp : 2 ^ 32 = 2 ^ (32 - (f.lo + f.w)) * 2 ^ (f.lo + f.w) := by rw [← pow_add]; congr 1; omega
  have hq : v.toNat / 2 ^ (f.lo + f.w) < 2 ^ (32 - (f.lo + f.w)) := by
    rw [Nat.div_lt_iff_lt_mul (Nat.two_pow_pos _), ← hp]
    exact hv
  have hb : (v.toNat / 2 ^ (f.lo + f.w) + 1) * 2 ^ (f.lo + f.w) ≤ 2 ^ 32 := by
    rw [hp]
    exact Nat.mul_le_mul_right _ hq
  rw [Nat.add_mul] at hb
  unfold Field.into
  rw [BitVec.toNat_ofNat, Nat.mod_eq_of_lt (by omega)]
  omega

/-- A field written reads back, cut to its width. -/
theorem Field.of_into (f : Field) (v : Word) (x : Nat) (h : f.lo + f.w ≤ 32) : f.of (f.into v x) = x % 2 ^ f.w := by
  have hlo : v.toNat % 2 ^ f.lo < 2 ^ f.lo := Nat.mod_lt _ (Nat.two_pow_pos _)
  conv_lhs => unfold Field.of
  rw [Field.into_toNat f v x h, pow_add]
  have : v.toNat % 2 ^ f.lo + x % 2 ^ f.w * 2 ^ f.lo + v.toNat / (2 ^ f.lo * 2 ^ f.w) * (2 ^ f.lo * 2 ^ f.w) =
      v.toNat % 2 ^ f.lo + 2 ^ f.lo * (x % 2 ^ f.w + 2 ^ f.w * (v.toNat / (2 ^ f.lo * 2 ^ f.w))) := by ring
  rw [this, Nat.add_mul_div_left _ _ (Nat.two_pow_pos _), Nat.div_eq_of_lt hlo, Nat.zero_add, Nat.add_mul_mod_self_left,
    Nat.mod_mod]

/-- Bits below and above a written field are unchanged. -/
theorem Field.of_into_other (f g : Field) (v : Word) (x : Nat) (hf : f.lo + f.w ≤ 32)
    (h : g.lo + g.w ≤ f.lo ∨ f.lo + f.w ≤ g.lo) : g.of (f.into v x) = g.of v := by
  have hlo : v.toNat % 2 ^ f.lo < 2 ^ f.lo := Nat.mod_lt _ (Nat.two_pow_pos _)
  have hx : x % 2 ^ f.w < 2 ^ f.w := Nat.mod_lt _ (Nat.two_pow_pos _)
  rcases h with h | h
  · -- a lower field sees the word modulo 2 ^ f.lo only
    have key : ∀ n : Nat, n / 2 ^ g.lo % 2 ^ g.w = n % 2 ^ f.lo / 2 ^ g.lo % 2 ^ g.w := by
      intro n
      have e : 2 ^ f.lo = 2 ^ g.lo * (2 ^ g.w * 2 ^ (f.lo - (g.lo + g.w))) := by
        rw [← pow_add, ← pow_add]
        congr 1
        omega
      rw [e, Nat.mod_mul_right_div_self, Nat.mod_mul_right_mod]
    unfold Field.of
    rw [key, key v.toNat, Field.into_toNat f v x hf, pow_add]
    congr 2
    have : v.toNat % 2 ^ f.lo + x % 2 ^ f.w * 2 ^ f.lo + v.toNat / (2 ^ f.lo * 2 ^ f.w) * (2 ^ f.lo * 2 ^ f.w) =
        v.toNat % 2 ^ f.lo + 2 ^ f.lo * (x % 2 ^ f.w + 2 ^ f.w * (v.toNat / (2 ^ f.lo * 2 ^ f.w))) := by ring
    rw [this, Nat.add_mul_mod_self_left, Nat.mod_mod]
  · -- an upper field sees the word divided by 2 ^ (f.lo + f.w) only
    have key : ∀ n : Nat, n / 2 ^ g.lo = n / 2 ^ (f.lo + f.w) / 2 ^ (g.lo - (f.lo + f.w)) := by
      intro n
      rw [Nat.div_div_eq_div_mul, ← pow_add]
      congr 2
      omega
    have hsmall : v.toNat % 2 ^ f.lo + x % 2 ^ f.w * 2 ^ f.lo < 2 ^ (f.lo + f.w) := by
      have : x % 2 ^ f.w * 2 ^ f.lo + 2 ^ f.lo ≤ 2 ^ (f.lo + f.w) := by
        rw [Nat.add_comm f.lo, pow_add, ← Nat.succ_mul]
        exact Nat.mul_le_mul_right _ hx
      omega
    unfold Field.of
    rw [key, key v.toNat, Field.into_toNat f v x hf, Nat.add_mul_div_right _ _ (Nat.two_pow_pos _),
      Nat.div_eq_of_lt hsmall, Nat.zero_add]

/-! ### Registers -/

/-- A register written reads back; every other register reads as before. -/
theorem State.rw_wr (s : State) (a b : Nat) (v : Word) : (s.wr a v).rw b = if b = a then v else s.rw b := by
  unfold State.rw State.wr
  simp only
  rw [SMap.get_set]
  split
  · rename_i h
    subst h
    rw [BitVec.xor_assoc, BitVec.xor_self, BitVec.xor_zero]
  · rfl

@[simp] theorem State.rw_wr_same (s : State) (a : Nat) (v : Word) : (s.wr a v).rw a = v := by rw [State.rw_wr, if_pos rfl]

theorem State.rw_wr_other (s : State) {a b : Nat} (v : Word) (h : b ≠ a) : (s.wr a v).rw b = s.rw b := by
  rw [State.rw_wr, if_neg h]

/-- A field write touches its own register only. -/
theorem State.rw_put_other (s : State) (f : Field) (x : Nat) {b : Nat} (h : b ≠ f.addr) : (s.put f x).rw b = s.rw b :=
  State.rw_wr_other s _ h

/-- A field written reads back, cut to its width. -/
theorem State.g_put_same (s : State) (f : Field) (x : Nat) (h : f.lo + f.w ≤ 32) : (s.put f x).g f = x % 2 ^ f.w := by
  unfold State.g State.put
  rw [State.rw_wr_same, Field.of_into f _ x h]

/-- A field of another register is unchanged. -/
theorem State.g_put_register (s : State) (f g : Field) (x : Nat) (h : g.addr ≠ f.addr) : (s.put f x).g g = s.g g := by
  unfold State.g
  rw [State.rw_put_other s f x h]

/-- A field of the same register that does not meet the one written is unchanged. -/
theorem State.g_put_apart (s : State) (f g : Field) (x : Nat) (hf : f.lo + f.w ≤ 32)
    (h : g.addr ≠ f.addr ∨ g.lo + g.w ≤ f.lo ∨ f.lo + f.w ≤ g.lo) : (s.put f x).g g = s.g g := by
  by_cases ha : g.addr = f.addr
  · unfold State.g State.put
    rw [ha, State.rw_wr_same]
    exact Field.of_into_other f g _ x hf (h.resolve_left (fun n => n ha))
  · exact State.g_put_register s f g x ha

/-- A flag made `b` reads `b`. -/
theorem State.g_putB_same (s : State) (f : Field) (b : Bool) (hw : f.w = 1) (h : f.lo + f.w ≤ 32) :
    (s.putB f b).g f = b.toNat := by
  unfold State.putB
  rw [State.g_put_same s f _ h, hw]
  cases b <;> rfl

/-- A saturating counter stays at its largest value. -/
theorem State.g_bump_same (s : State) (f : Field) (k : Nat) (h : f.lo + f.w ≤ 32) :
    (s.bump f k).g f = min (2 ^ f.w - 1) (s.g f + k) := by
  unfold State.bump
  rw [State.g_put_same s f _ h, Nat.mod_eq_of_lt]
  have := Nat.two_pow_pos f.w
  omega

/-- A wrapping counter counts modulo its width. -/
theorem State.g_bumpWrap_same (s : State) (f : Field) (k : Nat) (h : f.lo + f.w ≤ 32) :
    (s.bumpWrap f k).g f = (s.g f + k) % 2 ^ f.w := State.g_put_same s f _ h

end Sys2Proof.Machine
end

