-- ==== Sys2Proof/Laws/State.lean ====
section
/-! SUPPORT. What the plain updates of the state leave alone: one lemma for each field of the state and each update, so that no
proof unfolds a record update. -/

namespace Sys2Proof.Machine

/-! ### Register writes -/

@[simp] theorem State.wr_freeCtr (s : State) (a : Nat) (v : Word) : (State.wr s a v).freeCtr = s.freeCtr := (rfl)
@[simp] theorem State.wr_tick (s : State) (a : Nat) (v : Word) : (State.wr s a v).tick = s.tick := (rfl)
@[simp] theorem State.wr_xtick (s : State) (a : Nat) (v : Word) : (State.wr s a v).xtick = s.xtick := (rfl)
@[simp] theorem State.wr_rtc (s : State) (a : Nat) (v : Word) : (State.wr s a v).rtc = s.rtc := (rfl)
@[simp] theorem State.wr_resp (s : State) (a : Nat) (v : Word) : (State.wr s a v).resp = s.resp := (rfl)
@[simp] theorem State.wr_msixSeen (s : State) (a : Nat) (v : Word) : (State.wr s a v).msixSeen = s.msixSeen := (rfl)
@[simp] theorem State.wr_msixSent (s : State) (a : Nat) (v : Word) : (State.wr s a v).msixSent = s.msixSent := (rfl)
@[simp] theorem State.wr_faultLog (s : State) (a : Nat) (v : Word) : (State.wr s a v).faultLog = s.faultLog := (rfl)
@[simp] theorem State.wr_mem (s : State) (a : Nat) (v : Word) : (State.wr s a v).mem = s.mem := (rfl)
@[simp] theorem State.wr_fill (s : State) (a : Nat) (v : Word) : (State.wr s a v).fill = s.fill := (rfl)
@[simp] theorem State.wr_epoch (s : State) (a : Nat) (v : Word) : (State.wr s a v).epoch = s.epoch := (rfl)
@[simp] theorem State.wr_haltN (s : State) (a : Nat) (v : Word) : (State.wr s a v).haltN = s.haltN := (rfl)
@[simp] theorem State.wr_ang (s : State) (a : Nat) (v : Word) : (State.wr s a v).ang = s.ang := (rfl)
@[simp] theorem State.wr_evt (s : State) (a : Nat) (v : Word) : (State.wr s a v).evt = s.evt := (rfl)
@[simp] theorem State.wr_fab (s : State) (a : Nat) (v : Word) : (State.wr s a v).fab = s.fab := (rfl)
@[simp] theorem State.wr_lgr (s : State) (a : Nat) (v : Word) : (State.wr s a v).lgr = s.lgr := (rfl)
@[simp] theorem State.wr_mt (s : State) (a : Nat) (v : Word) : (State.wr s a v).mt = s.mt := (rfl)
@[simp] theorem State.wr_hbm (s : State) (a : Nat) (v : Word) : (State.wr s a v).hbm = s.hbm := (rfl)
@[simp] theorem State.wr_noc (s : State) (a : Nat) (v : Word) : (State.wr s a v).noc = s.noc := (rfl)
@[simp] theorem State.wr_lanes (s : State) (a : Nat) (v : Word) : (State.wr s a v).lanes = s.lanes := (rfl)
@[simp] theorem State.wr_vsm (s : State) (a : Nat) (v : Word) : (State.wr s a v).vsm = s.vsm := (rfl)
@[simp] theorem State.wr_sec (s : State) (a : Nat) (v : Word) : (State.wr s a v).sec = s.sec := (rfl)
@[simp] theorem State.wr_cfg (s : State) (a : Nat) (v : Word) : (State.wr s a v).cfg = s.cfg := (rfl)
@[simp] theorem State.wr_twin (s : State) (a : Nat) (v : Word) : (State.wr s a v).twin = s.twin := (rfl)
@[simp] theorem State.wr_xbar (s : State) (a : Nat) (v : Word) : (State.wr s a v).xbar = s.xbar := (rfl)
@[simp] theorem State.wr_per (s : State) (a : Nat) (v : Word) : (State.wr s a v).per = s.per := (rfl)
@[simp] theorem State.wr_jtag (s : State) (a : Nat) (v : Word) : (State.wr s a v).jtag = s.jtag := (rfl)
@[simp] theorem State.wr_rst (s : State) (a : Nat) (v : Word) : (State.wr s a v).rst = s.rst := (rfl)
@[simp] theorem State.wr_pwr (s : State) (a : Nat) (v : Word) : (State.wr s a v).pwr = s.pwr := (rfl)
@[simp] theorem State.wr_start (s : State) (a : Nat) (v : Word) : (State.wr s a v).start = s.start := (rfl)
@[simp] theorem State.wr_age (s : State) (a : Nat) (v : Word) : (State.wr s a v).age = s.age := (rfl)
@[simp] theorem State.wr_usb (s : State) (a : Nat) (v : Word) : (State.wr s a v).usb = s.usb := (rfl)
@[simp] theorem State.wr_pending (s : State) (a : Nat) (v : Word) : (State.wr s a v).pending = s.pending := (rfl)
@[simp] theorem State.wr_byte (s : State) (a : Nat) (v : Word) (addr : Nat) : (State.wr s a v).byte addr = s.byte addr := (rfl)

@[simp] theorem State.put_freeCtr (s : State) (f : Field) (x : Nat) : (State.put s f x).freeCtr = s.freeCtr := (rfl)
@[simp] theorem State.put_tick (s : State) (f : Field) (x : Nat) : (State.put s f x).tick = s.tick := (rfl)
@[simp] theorem State.put_xtick (s : State) (f : Field) (x : Nat) : (State.put s f x).xtick = s.xtick := (rfl)
@[simp] theorem State.put_rtc (s : State) (f : Field) (x : Nat) : (State.put s f x).rtc = s.rtc := (rfl)
@[simp] theorem State.put_resp (s : State) (f : Field) (x : Nat) : (State.put s f x).resp = s.resp := (rfl)
@[simp] theorem State.put_msixSeen (s : State) (f : Field) (x : Nat) : (State.put s f x).msixSeen = s.msixSeen := (rfl)
@[simp] theorem State.put_msixSent (s : State) (f : Field) (x : Nat) : (State.put s f x).msixSent = s.msixSent := (rfl)
@[simp] theorem State.put_faultLog (s : State) (f : Field) (x : Nat) : (State.put s f x).faultLog = s.faultLog := (rfl)
@[simp] theorem State.put_mem (s : State) (f : Field) (x : Nat) : (State.put s f x).mem = s.mem := (rfl)
@[simp] theorem State.put_fill (s : State) (f : Field) (x : Nat) : (State.put s f x).fill = s.fill := (rfl)
@[simp] theorem State.put_epoch (s : State) (f : Field) (x : Nat) : (State.put s f x).epoch = s.epoch := (rfl)
@[simp] theorem State.put_haltN (s : State) (f : Field) (x : Nat) : (State.put s f x).haltN = s.haltN := (rfl)
@[simp] theorem State.put_ang (s : State) (f : Field) (x : Nat) : (State.put s f x).ang = s.ang := (rfl)
@[simp] theorem State.put_evt (s : State) (f : Field) (x : Nat) : (State.put s f x).evt = s.evt := (rfl)
@[simp] theorem State.put_fab (s : State) (f : Field) (x : Nat) : (State.put s f x).fab = s.fab := (rfl)
@[simp] theorem State.put_lgr (s : State) (f : Field) (x : Nat) : (State.put s f x).lgr = s.lgr := (rfl)
@[simp] theorem State.put_mt (s : State) (f : Field) (x : Nat) : (State.put s f x).mt = s.mt := (rfl)
@[simp] theorem State.put_hbm (s : State) (f : Field) (x : Nat) : (State.put s f x).hbm = s.hbm := (rfl)
@[simp] theorem State.put_noc (s : State) (f : Field) (x : Nat) : (State.put s f x).noc = s.noc := (rfl)
@[simp] theorem State.put_lanes (s : State) (f : Field) (x : Nat) : (State.put s f x).lanes = s.lanes := (rfl)
@[simp] theorem State.put_vsm (s : State) (f : Field) (x : Nat) : (State.put s f x).vsm = s.vsm := (rfl)
@[simp] theorem State.put_sec (s : State) (f : Field) (x : Nat) : (State.put s f x).sec = s.sec := (rfl)
@[simp] theorem State.put_cfg (s : State) (f : Field) (x : Nat) : (State.put s f x).cfg = s.cfg := (rfl)
@[simp] theorem State.put_twin (s : State) (f : Field) (x : Nat) : (State.put s f x).twin = s.twin := (rfl)
@[simp] theorem State.put_xbar (s : State) (f : Field) (x : Nat) : (State.put s f x).xbar = s.xbar := (rfl)
@[simp] theorem State.put_per (s : State) (f : Field) (x : Nat) : (State.put s f x).per = s.per := (rfl)
@[simp] theorem State.put_jtag (s : State) (f : Field) (x : Nat) : (State.put s f x).jtag = s.jtag := (rfl)
@[simp] theorem State.put_rst (s : State) (f : Field) (x : Nat) : (State.put s f x).rst = s.rst := (rfl)
@[simp] theorem State.put_pwr (s : State) (f : Field) (x : Nat) : (State.put s f x).pwr = s.pwr := (rfl)
@[simp] theorem State.put_start (s : State) (f : Field) (x : Nat) : (State.put s f x).start = s.start := (rfl)
@[simp] theorem State.put_age (s : State) (f : Field) (x : Nat) : (State.put s f x).age = s.age := (rfl)
@[simp] theorem State.put_usb (s : State) (f : Field) (x : Nat) : (State.put s f x).usb = s.usb := (rfl)
@[simp] theorem State.put_pending (s : State) (f : Field) (x : Nat) : (State.put s f x).pending = s.pending := (rfl)
@[simp] theorem State.put_byte (s : State) (f : Field) (x : Nat) (addr : Nat) : (State.put s f x).byte addr = s.byte addr := (rfl)

/-! ### Field writes that are made of those -/

@[simp] theorem State.putB_freeCtr (s : State) (f : Field) (b : Bool) : (State.putB s f b).freeCtr = s.freeCtr := (rfl)
@[simp] theorem State.putB_tick (s : State) (f : Field) (b : Bool) : (State.putB s f b).tick = s.tick := (rfl)
@[simp] theorem State.putB_xtick (s : State) (f : Field) (b : Bool) : (State.putB s f b).xtick = s.xtick := (rfl)
@[simp] theorem State.putB_rtc (s : State) (f : Field) (b : Bool) : (State.putB s f b).rtc = s.rtc := (rfl)
@[simp] theorem State.putB_resp (s : State) (f : Field) (b : Bool) : (State.putB s f b).resp = s.resp := (rfl)
@[simp] theorem State.putB_msixSeen (s : State) (f : Field) (b : Bool) : (State.putB s f b).msixSeen = s.msixSeen := (rfl)
@[simp] theorem State.putB_msixSent (s : State) (f : Field) (b : Bool) : (State.putB s f b).msixSent = s.msixSent := (rfl)
@[simp] theorem State.putB_faultLog (s : State) (f : Field) (b : Bool) : (State.putB s f b).faultLog = s.faultLog := (rfl)
@[simp] theorem State.putB_mem (s : State) (f : Field) (b : Bool) : (State.putB s f b).mem = s.mem := (rfl)
@[simp] theorem State.putB_fill (s : State) (f : Field) (b : Bool) : (State.putB s f b).fill = s.fill := (rfl)
@[simp] theorem State.putB_epoch (s : State) (f : Field) (b : Bool) : (State.putB s f b).epoch = s.epoch := (rfl)
@[simp] theorem State.putB_haltN (s : State) (f : Field) (b : Bool) : (State.putB s f b).haltN = s.haltN := (rfl)
@[simp] theorem State.putB_ang (s : State) (f : Field) (b : Bool) : (State.putB s f b).ang = s.ang := (rfl)
@[simp] theorem State.putB_evt (s : State) (f : Field) (b : Bool) : (State.putB s f b).evt = s.evt := (rfl)
@[simp] theorem State.putB_fab (s : State) (f : Field) (b : Bool) : (State.putB s f b).fab = s.fab := (rfl)
@[simp] theorem State.putB_lgr (s : State) (f : Field) (b : Bool) : (State.putB s f b).lgr = s.lgr := (rfl)
@[simp] theorem State.putB_mt (s : State) (f : Field) (b : Bool) : (State.putB s f b).mt = s.mt := (rfl)
@[simp] theorem State.putB_hbm (s : State) (f : Field) (b : Bool) : (State.putB s f b).hbm = s.hbm := (rfl)
@[simp] theorem State.putB_noc (s : State) (f : Field) (b : Bool) : (State.putB s f b).noc = s.noc := (rfl)
@[simp] theorem State.putB_lanes (s : State) (f : Field) (b : Bool) : (State.putB s f b).lanes = s.lanes := (rfl)
@[simp] theorem State.putB_vsm (s : State) (f : Field) (b : Bool) : (State.putB s f b).vsm = s.vsm := (rfl)
@[simp] theorem State.putB_sec (s : State) (f : Field) (b : Bool) : (State.putB s f b).sec = s.sec := (rfl)
@[simp] theorem State.putB_cfg (s : State) (f : Field) (b : Bool) : (State.putB s f b).cfg = s.cfg := (rfl)
@[simp] theorem State.putB_twin (s : State) (f : Field) (b : Bool) : (State.putB s f b).twin = s.twin := (rfl)
@[simp] theorem State.putB_xbar (s : State) (f : Field) (b : Bool) : (State.putB s f b).xbar = s.xbar := (rfl)
@[simp] theorem State.putB_per (s : State) (f : Field) (b : Bool) : (State.putB s f b).per = s.per := (rfl)
@[simp] theorem State.putB_jtag (s : State) (f : Field) (b : Bool) : (State.putB s f b).jtag = s.jtag := (rfl)
@[simp] theorem State.putB_rst (s : State) (f : Field) (b : Bool) : (State.putB s f b).rst = s.rst := (rfl)
@[simp] theorem State.putB_pwr (s : State) (f : Field) (b : Bool) : (State.putB s f b).pwr = s.pwr := (rfl)
@[simp] theorem State.putB_start (s : State) (f : Field) (b : Bool) : (State.putB s f b).start = s.start := (rfl)
@[simp] theorem State.putB_age (s : State) (f : Field) (b : Bool) : (State.putB s f b).age = s.age := (rfl)
@[simp] theorem State.putB_usb (s : State) (f : Field) (b : Bool) : (State.putB s f b).usb = s.usb := (rfl)
@[simp] theorem State.putB_pending (s : State) (f : Field) (b : Bool) : (State.putB s f b).pending = s.pending := (rfl)
@[simp] theorem State.putB_byte (s : State) (f : Field) (b : Bool) (addr : Nat) : (State.putB s f b).byte addr = s.byte addr := (rfl)

@[simp] theorem State.raise_freeCtr (s : State) (f : Field) : (State.raise s f).freeCtr = s.freeCtr := (rfl)
@[simp] theorem State.raise_tick (s : State) (f : Field) : (State.raise s f).tick = s.tick := (rfl)
@[simp] theorem State.raise_xtick (s : State) (f : Field) : (State.raise s f).xtick = s.xtick := (rfl)
@[simp] theorem State.raise_rtc (s : State) (f : Field) : (State.raise s f).rtc = s.rtc := (rfl)
@[simp] theorem State.raise_resp (s : State) (f : Field) : (State.raise s f).resp = s.resp := (rfl)
@[simp] theorem State.raise_msixSeen (s : State) (f : Field) : (State.raise s f).msixSeen = s.msixSeen := (rfl)
@[simp] theorem State.raise_msixSent (s : State) (f : Field) : (State.raise s f).msixSent = s.msixSent := (rfl)
@[simp] theorem State.raise_faultLog (s : State) (f : Field) : (State.raise s f).faultLog = s.faultLog := (rfl)
@[simp] theorem State.raise_mem (s : State) (f : Field) : (State.raise s f).mem = s.mem := (rfl)
@[simp] theorem State.raise_fill (s : State) (f : Field) : (State.raise s f).fill = s.fill := (rfl)
@[simp] theorem State.raise_epoch (s : State) (f : Field) : (State.raise s f).epoch = s.epoch := (rfl)
@[simp] theorem State.raise_haltN (s : State) (f : Field) : (State.raise s f).haltN = s.haltN := (rfl)
@[simp] theorem State.raise_ang (s : State) (f : Field) : (State.raise s f).ang = s.ang := (rfl)
@[simp] theorem State.raise_evt (s : State) (f : Field) : (State.raise s f).evt = s.evt := (rfl)
@[simp] theorem State.raise_fab (s : State) (f : Field) : (State.raise s f).fab = s.fab := (rfl)
@[simp] theorem State.raise_lgr (s : State) (f : Field) : (State.raise s f).lgr = s.lgr := (rfl)
@[simp] theorem State.raise_mt (s : State) (f : Field) : (State.raise s f).mt = s.mt := (rfl)
@[simp] theorem State.raise_hbm (s : State) (f : Field) : (State.raise s f).hbm = s.hbm := (rfl)
@[simp] theorem State.raise_noc (s : State) (f : Field) : (State.raise s f).noc = s.noc := (rfl)
@[simp] theorem State.raise_lanes (s : State) (f : Field) : (State.raise s f).lanes = s.lanes := (rfl)
@[simp] theorem State.raise_vsm (s : State) (f : Field) : (State.raise s f).vsm = s.vsm := (rfl)
@[simp] theorem State.raise_sec (s : State) (f : Field) : (State.raise s f).sec = s.sec := (rfl)
@[simp] theorem State.raise_cfg (s : State) (f : Field) : (State.raise s f).cfg = s.cfg := (rfl)
@[simp] theorem State.raise_twin (s : State) (f : Field) : (State.raise s f).twin = s.twin := (rfl)
@[simp] theorem State.raise_xbar (s : State) (f : Field) : (State.raise s f).xbar = s.xbar := (rfl)
@[simp] theorem State.raise_per (s : State) (f : Field) : (State.raise s f).per = s.per := (rfl)
@[simp] theorem State.raise_jtag (s : State) (f : Field) : (State.raise s f).jtag = s.jtag := (rfl)
@[simp] theorem State.raise_rst (s : State) (f : Field) : (State.raise s f).rst = s.rst := (rfl)
@[simp] theorem State.raise_pwr (s : State) (f : Field) : (State.raise s f).pwr = s.pwr := (rfl)
@[simp] theorem State.raise_start (s : State) (f : Field) : (State.raise s f).start = s.start := (rfl)
@[simp] theorem State.raise_age (s : State) (f : Field) : (State.raise s f).age = s.age := (rfl)
@[simp] theorem State.raise_usb (s : State) (f : Field) : (State.raise s f).usb = s.usb := (rfl)
@[simp] theorem State.raise_pending (s : State) (f : Field) : (State.raise s f).pending = s.pending := (rfl)
@[simp] theorem State.raise_byte (s : State) (f : Field) (addr : Nat) : (State.raise s f).byte addr = s.byte addr := (rfl)

@[simp] theorem State.bump_freeCtr (s : State) (f : Field) (k : Nat) : (State.bump s f k).freeCtr = s.freeCtr := (rfl)
@[simp] theorem State.bump_tick (s : State) (f : Field) (k : Nat) : (State.bump s f k).tick = s.tick := (rfl)
@[simp] theorem State.bump_xtick (s : State) (f : Field) (k : Nat) : (State.bump s f k).xtick = s.xtick := (rfl)
@[simp] theorem State.bump_rtc (s : State) (f : Field) (k : Nat) : (State.bump s f k).rtc = s.rtc := (rfl)
@[simp] theorem State.bump_resp (s : State) (f : Field) (k : Nat) : (State.bump s f k).resp = s.resp := (rfl)
@[simp] theorem State.bump_msixSeen (s : State) (f : Field) (k : Nat) : (State.bump s f k).msixSeen = s.msixSeen := (rfl)
@[simp] theorem State.bump_msixSent (s : State) (f : Field) (k : Nat) : (State.bump s f k).msixSent = s.msixSent := (rfl)
@[simp] theorem State.bump_faultLog (s : State) (f : Field) (k : Nat) : (State.bump s f k).faultLog = s.faultLog := (rfl)
@[simp] theorem State.bump_mem (s : State) (f : Field) (k : Nat) : (State.bump s f k).mem = s.mem := (rfl)
@[simp] theorem State.bump_fill (s : State) (f : Field) (k : Nat) : (State.bump s f k).fill = s.fill := (rfl)
@[simp] theorem State.bump_epoch (s : State) (f : Field) (k : Nat) : (State.bump s f k).epoch = s.epoch := (rfl)
@[simp] theorem State.bump_haltN (s : State) (f : Field) (k : Nat) : (State.bump s f k).haltN = s.haltN := (rfl)
@[simp] theorem State.bump_ang (s : State) (f : Field) (k : Nat) : (State.bump s f k).ang = s.ang := (rfl)
@[simp] theorem State.bump_evt (s : State) (f : Field) (k : Nat) : (State.bump s f k).evt = s.evt := (rfl)
@[simp] theorem State.bump_fab (s : State) (f : Field) (k : Nat) : (State.bump s f k).fab = s.fab := (rfl)
@[simp] theorem State.bump_lgr (s : State) (f : Field) (k : Nat) : (State.bump s f k).lgr = s.lgr := (rfl)
@[simp] theorem State.bump_mt (s : State) (f : Field) (k : Nat) : (State.bump s f k).mt = s.mt := (rfl)
@[simp] theorem State.bump_hbm (s : State) (f : Field) (k : Nat) : (State.bump s f k).hbm = s.hbm := (rfl)
@[simp] theorem State.bump_noc (s : State) (f : Field) (k : Nat) : (State.bump s f k).noc = s.noc := (rfl)
@[simp] theorem State.bump_lanes (s : State) (f : Field) (k : Nat) : (State.bump s f k).lanes = s.lanes := (rfl)
@[simp] theorem State.bump_vsm (s : State) (f : Field) (k : Nat) : (State.bump s f k).vsm = s.vsm := (rfl)
@[simp] theorem State.bump_sec (s : State) (f : Field) (k : Nat) : (State.bump s f k).sec = s.sec := (rfl)
@[simp] theorem State.bump_cfg (s : State) (f : Field) (k : Nat) : (State.bump s f k).cfg = s.cfg := (rfl)
@[simp] theorem State.bump_twin (s : State) (f : Field) (k : Nat) : (State.bump s f k).twin = s.twin := (rfl)
@[simp] theorem State.bump_xbar (s : State) (f : Field) (k : Nat) : (State.bump s f k).xbar = s.xbar := (rfl)
@[simp] theorem State.bump_per (s : State) (f : Field) (k : Nat) : (State.bump s f k).per = s.per := (rfl)
@[simp] theorem State.bump_jtag (s : State) (f : Field) (k : Nat) : (State.bump s f k).jtag = s.jtag := (rfl)
@[simp] theorem State.bump_rst (s : State) (f : Field) (k : Nat) : (State.bump s f k).rst = s.rst := (rfl)
@[simp] theorem State.bump_pwr (s : State) (f : Field) (k : Nat) : (State.bump s f k).pwr = s.pwr := (rfl)
@[simp] theorem State.bump_start (s : State) (f : Field) (k : Nat) : (State.bump s f k).start = s.start := (rfl)
@[simp] theorem State.bump_age (s : State) (f : Field) (k : Nat) : (State.bump s f k).age = s.age := (rfl)
@[simp] theorem State.bump_usb (s : State) (f : Field) (k : Nat) : (State.bump s f k).usb = s.usb := (rfl)
@[simp] theorem State.bump_pending (s : State) (f : Field) (k : Nat) : (State.bump s f k).pending = s.pending := (rfl)
@[simp] theorem State.bump_byte (s : State) (f : Field) (k : Nat) (addr : Nat) : (State.bump s f k).byte addr = s.byte addr := (rfl)

@[simp] theorem State.bumpWrap_freeCtr (s : State) (f : Field) (k : Nat) : (State.bumpWrap s f k).freeCtr = s.freeCtr := (rfl)
@[simp] theorem State.bumpWrap_tick (s : State) (f : Field) (k : Nat) : (State.bumpWrap s f k).tick = s.tick := (rfl)
@[simp] theorem State.bumpWrap_xtick (s : State) (f : Field) (k : Nat) : (State.bumpWrap s f k).xtick = s.xtick := (rfl)
@[simp] theorem State.bumpWrap_rtc (s : State) (f : Field) (k : Nat) : (State.bumpWrap s f k).rtc = s.rtc := (rfl)
@[simp] theorem State.bumpWrap_resp (s : State) (f : Field) (k : Nat) : (State.bumpWrap s f k).resp = s.resp := (rfl)
@[simp] theorem State.bumpWrap_msixSeen (s : State) (f : Field) (k : Nat) : (State.bumpWrap s f k).msixSeen = s.msixSeen := (rfl)
@[simp] theorem State.bumpWrap_msixSent (s : State) (f : Field) (k : Nat) : (State.bumpWrap s f k).msixSent = s.msixSent := (rfl)
@[simp] theorem State.bumpWrap_faultLog (s : State) (f : Field) (k : Nat) : (State.bumpWrap s f k).faultLog = s.faultLog := (rfl)
@[simp] theorem State.bumpWrap_mem (s : State) (f : Field) (k : Nat) : (State.bumpWrap s f k).mem = s.mem := (rfl)
@[simp] theorem State.bumpWrap_fill (s : State) (f : Field) (k : Nat) : (State.bumpWrap s f k).fill = s.fill := (rfl)
@[simp] theorem State.bumpWrap_epoch (s : State) (f : Field) (k : Nat) : (State.bumpWrap s f k).epoch = s.epoch := (rfl)
@[simp] theorem State.bumpWrap_haltN (s : State) (f : Field) (k : Nat) : (State.bumpWrap s f k).haltN = s.haltN := (rfl)
@[simp] theorem State.bumpWrap_ang (s : State) (f : Field) (k : Nat) : (State.bumpWrap s f k).ang = s.ang := (rfl)
@[simp] theorem State.bumpWrap_evt (s : State) (f : Field) (k : Nat) : (State.bumpWrap s f k).evt = s.evt := (rfl)
@[simp] theorem State.bumpWrap_fab (s : State) (f : Field) (k : Nat) : (State.bumpWrap s f k).fab = s.fab := (rfl)
@[simp] theorem State.bumpWrap_lgr (s : State) (f : Field) (k : Nat) : (State.bumpWrap s f k).lgr = s.lgr := (rfl)
@[simp] theorem State.bumpWrap_mt (s : State) (f : Field) (k : Nat) : (State.bumpWrap s f k).mt = s.mt := (rfl)
@[simp] theorem State.bumpWrap_hbm (s : State) (f : Field) (k : Nat) : (State.bumpWrap s f k).hbm = s.hbm := (rfl)
@[simp] theorem State.bumpWrap_noc (s : State) (f : Field) (k : Nat) : (State.bumpWrap s f k).noc = s.noc := (rfl)
@[simp] theorem State.bumpWrap_lanes (s : State) (f : Field) (k : Nat) : (State.bumpWrap s f k).lanes = s.lanes := (rfl)
@[simp] theorem State.bumpWrap_vsm (s : State) (f : Field) (k : Nat) : (State.bumpWrap s f k).vsm = s.vsm := (rfl)
@[simp] theorem State.bumpWrap_sec (s : State) (f : Field) (k : Nat) : (State.bumpWrap s f k).sec = s.sec := (rfl)
@[simp] theorem State.bumpWrap_cfg (s : State) (f : Field) (k : Nat) : (State.bumpWrap s f k).cfg = s.cfg := (rfl)
@[simp] theorem State.bumpWrap_twin (s : State) (f : Field) (k : Nat) : (State.bumpWrap s f k).twin = s.twin := (rfl)
@[simp] theorem State.bumpWrap_xbar (s : State) (f : Field) (k : Nat) : (State.bumpWrap s f k).xbar = s.xbar := (rfl)
@[simp] theorem State.bumpWrap_per (s : State) (f : Field) (k : Nat) : (State.bumpWrap s f k).per = s.per := (rfl)
@[simp] theorem State.bumpWrap_jtag (s : State) (f : Field) (k : Nat) : (State.bumpWrap s f k).jtag = s.jtag := (rfl)
@[simp] theorem State.bumpWrap_rst (s : State) (f : Field) (k : Nat) : (State.bumpWrap s f k).rst = s.rst := (rfl)
@[simp] theorem State.bumpWrap_pwr (s : State) (f : Field) (k : Nat) : (State.bumpWrap s f k).pwr = s.pwr := (rfl)
@[simp] theorem State.bumpWrap_start (s : State) (f : Field) (k : Nat) : (State.bumpWrap s f k).start = s.start := (rfl)
@[simp] theorem State.bumpWrap_age (s : State) (f : Field) (k : Nat) : (State.bumpWrap s f k).age = s.age := (rfl)
@[simp] theorem State.bumpWrap_usb (s : State) (f : Field) (k : Nat) : (State.bumpWrap s f k).usb = s.usb := (rfl)
@[simp] theorem State.bumpWrap_pending (s : State) (f : Field) (k : Nat) : (State.bumpWrap s f k).pending = s.pending := (rfl)
@[simp] theorem State.bumpWrap_byte (s : State) (f : Field) (k : Nat) (addr : Nat) : (State.bumpWrap s f k).byte addr = s.byte addr := (rfl)

@[simp] theorem State.setBit_freeCtr (s : State) (f : Field) (b : Nat) : (State.setBit s f b).freeCtr = s.freeCtr := (rfl)
@[simp] theorem State.setBit_tick (s : State) (f : Field) (b : Nat) : (State.setBit s f b).tick = s.tick := (rfl)
@[simp] theorem State.setBit_xtick (s : State) (f : Field) (b : Nat) : (State.setBit s f b).xtick = s.xtick := (rfl)
@[simp] theorem State.setBit_rtc (s : State) (f : Field) (b : Nat) : (State.setBit s f b).rtc = s.rtc := (rfl)
@[simp] theorem State.setBit_resp (s : State) (f : Field) (b : Nat) : (State.setBit s f b).resp = s.resp := (rfl)
@[simp] theorem State.setBit_msixSeen (s : State) (f : Field) (b : Nat) : (State.setBit s f b).msixSeen = s.msixSeen := (rfl)
@[simp] theorem State.setBit_msixSent (s : State) (f : Field) (b : Nat) : (State.setBit s f b).msixSent = s.msixSent := (rfl)
@[simp] theorem State.setBit_faultLog (s : State) (f : Field) (b : Nat) : (State.setBit s f b).faultLog = s.faultLog := (rfl)
@[simp] theorem State.setBit_mem (s : State) (f : Field) (b : Nat) : (State.setBit s f b).mem = s.mem := (rfl)
@[simp] theorem State.setBit_fill (s : State) (f : Field) (b : Nat) : (State.setBit s f b).fill = s.fill := (rfl)
@[simp] theorem State.setBit_epoch (s : State) (f : Field) (b : Nat) : (State.setBit s f b).epoch = s.epoch := (rfl)
@[simp] theorem State.setBit_haltN (s : State) (f : Field) (b : Nat) : (State.setBit s f b).haltN = s.haltN := (rfl)
@[simp] theorem State.setBit_ang (s : State) (f : Field) (b : Nat) : (State.setBit s f b).ang = s.ang := (rfl)
@[simp] theorem State.setBit_evt (s : State) (f : Field) (b : Nat) : (State.setBit s f b).evt = s.evt := (rfl)
@[simp] theorem State.setBit_fab (s : State) (f : Field) (b : Nat) : (State.setBit s f b).fab = s.fab := (rfl)
@[simp] theorem State.setBit_lgr (s : State) (f : Field) (b : Nat) : (State.setBit s f b).lgr = s.lgr := (rfl)
@[simp] theorem State.setBit_mt (s : State) (f : Field) (b : Nat) : (State.setBit s f b).mt = s.mt := (rfl)
@[simp] theorem State.setBit_hbm (s : State) (f : Field) (b : Nat) : (State.setBit s f b).hbm = s.hbm := (rfl)
@[simp] theorem State.setBit_noc (s : State) (f : Field) (b : Nat) : (State.setBit s f b).noc = s.noc := (rfl)
@[simp] theorem State.setBit_lanes (s : State) (f : Field) (b : Nat) : (State.setBit s f b).lanes = s.lanes := (rfl)
@[simp] theorem State.setBit_vsm (s : State) (f : Field) (b : Nat) : (State.setBit s f b).vsm = s.vsm := (rfl)
@[simp] theorem State.setBit_sec (s : State) (f : Field) (b : Nat) : (State.setBit s f b).sec = s.sec := (rfl)
@[simp] theorem State.setBit_cfg (s : State) (f : Field) (b : Nat) : (State.setBit s f b).cfg = s.cfg := (rfl)
@[simp] theorem State.setBit_twin (s : State) (f : Field) (b : Nat) : (State.setBit s f b).twin = s.twin := (rfl)
@[simp] theorem State.setBit_xbar (s : State) (f : Field) (b : Nat) : (State.setBit s f b).xbar = s.xbar := (rfl)
@[simp] theorem State.setBit_per (s : State) (f : Field) (b : Nat) : (State.setBit s f b).per = s.per := (rfl)
@[simp] theorem State.setBit_jtag (s : State) (f : Field) (b : Nat) : (State.setBit s f b).jtag = s.jtag := (rfl)
@[simp] theorem State.setBit_rst (s : State) (f : Field) (b : Nat) : (State.setBit s f b).rst = s.rst := (rfl)
@[simp] theorem State.setBit_pwr (s : State) (f : Field) (b : Nat) : (State.setBit s f b).pwr = s.pwr := (rfl)
@[simp] theorem State.setBit_start (s : State) (f : Field) (b : Nat) : (State.setBit s f b).start = s.start := (rfl)
@[simp] theorem State.setBit_age (s : State) (f : Field) (b : Nat) : (State.setBit s f b).age = s.age := (rfl)
@[simp] theorem State.setBit_usb (s : State) (f : Field) (b : Nat) : (State.setBit s f b).usb = s.usb := (rfl)
@[simp] theorem State.setBit_pending (s : State) (f : Field) (b : Nat) : (State.setBit s f b).pending = s.pending := (rfl)
@[simp] theorem State.setBit_byte (s : State) (f : Field) (b : Nat) (addr : Nat) : (State.setBit s f b).byte addr = s.byte addr := (rfl)

@[simp] theorem State.clrBit_freeCtr (s : State) (f : Field) (b : Nat) : (State.clrBit s f b).freeCtr = s.freeCtr := by
  unfold State.clrBit; split <;> rfl
@[simp] theorem State.clrBit_tick (s : State) (f : Field) (b : Nat) : (State.clrBit s f b).tick = s.tick := by
  unfold State.clrBit; split <;> rfl
@[simp] theorem State.clrBit_xtick (s : State) (f : Field) (b : Nat) : (State.clrBit s f b).xtick = s.xtick := by
  unfold State.clrBit; split <;> rfl
@[simp] theorem State.clrBit_rtc (s : State) (f : Field) (b : Nat) : (State.clrBit s f b).rtc = s.rtc := by
  unfold State.clrBit; split <;> rfl
@[simp] theorem State.clrBit_resp (s : State) (f : Field) (b : Nat) : (State.clrBit s f b).resp = s.resp := by
  unfold State.clrBit; split <;> rfl
@[simp] theorem State.clrBit_msixSeen (s : State) (f : Field) (b : Nat) : (State.clrBit s f b).msixSeen = s.msixSeen := by
  unfold State.clrBit; split <;> rfl
@[simp] theorem State.clrBit_msixSent (s : State) (f : Field) (b : Nat) : (State.clrBit s f b).msixSent = s.msixSent := by
  unfold State.clrBit; split <;> rfl
@[simp] theorem State.clrBit_faultLog (s : State) (f : Field) (b : Nat) : (State.clrBit s f b).faultLog = s.faultLog := by
  unfold State.clrBit; split <;> rfl
@[simp] theorem State.clrBit_mem (s : State) (f : Field) (b : Nat) : (State.clrBit s f b).mem = s.mem := by
  unfold State.clrBit; split <;> rfl
@[simp] theorem State.clrBit_fill (s : State) (f : Field) (b : Nat) : (State.clrBit s f b).fill = s.fill := by
  unfold State.clrBit; split <;> rfl
@[simp] theorem State.clrBit_epoch (s : State) (f : Field) (b : Nat) : (State.clrBit s f b).epoch = s.epoch := by
  unfold State.clrBit; split <;> rfl
@[simp] theorem State.clrBit_haltN (s : State) (f : Field) (b : Nat) : (State.clrBit s f b).haltN = s.haltN := by
  unfold State.clrBit; split <;> rfl
@[simp] theorem State.clrBit_ang (s : State) (f : Field) (b : Nat) : (State.clrBit s f b).ang = s.ang := by
  unfold State.clrBit; split <;> rfl
@[simp] theorem State.clrBit_evt (s : State) (f : Field) (b : Nat) : (State.clrBit s f b).evt = s.evt := by
  unfold State.clrBit; split <;> rfl
@[simp] theorem State.clrBit_fab (s : State) (f : Field) (b : Nat) : (State.clrBit s f b).fab = s.fab := by
  unfold State.clrBit; split <;> rfl
@[simp] theorem State.clrBit_lgr (s : State) (f : Field) (b : Nat) : (State.clrBit s f b).lgr = s.lgr := by
  unfold State.clrBit; split <;> rfl
@[simp] theorem State.clrBit_mt (s : State) (f : Field) (b : Nat) : (State.clrBit s f b).mt = s.mt := by
  unfold State.clrBit; split <;> rfl
@[simp] theorem State.clrBit_hbm (s : State) (f : Field) (b : Nat) : (State.clrBit s f b).hbm = s.hbm := by
  unfold State.clrBit; split <;> rfl
@[simp] theorem State.clrBit_noc (s : State) (f : Field) (b : Nat) : (State.clrBit s f b).noc = s.noc := by
  unfold State.clrBit; split <;> rfl
@[simp] theorem State.clrBit_lanes (s : State) (f : Field) (b : Nat) : (State.clrBit s f b).lanes = s.lanes := by
  unfold State.clrBit; split <;> rfl
@[simp] theorem State.clrBit_vsm (s : State) (f : Field) (b : Nat) : (State.clrBit s f b).vsm = s.vsm := by
  unfold State.clrBit; split <;> rfl
@[simp] theorem State.clrBit_sec (s : State) (f : Field) (b : Nat) : (State.clrBit s f b).sec = s.sec := by
  unfold State.clrBit; split <;> rfl
@[simp] theorem State.clrBit_cfg (s : State) (f : Field) (b : Nat) : (State.clrBit s f b).cfg = s.cfg := by
  unfold State.clrBit; split <;> rfl
@[simp] theorem State.clrBit_twin (s : State) (f : Field) (b : Nat) : (State.clrBit s f b).twin = s.twin := by
  unfold State.clrBit; split <;> rfl
@[simp] theorem State.clrBit_xbar (s : State) (f : Field) (b : Nat) : (State.clrBit s f b).xbar = s.xbar := by
  unfold State.clrBit; split <;> rfl
@[simp] theorem State.clrBit_per (s : State) (f : Field) (b : Nat) : (State.clrBit s f b).per = s.per := by
  unfold State.clrBit; split <;> rfl
@[simp] theorem State.clrBit_jtag (s : State) (f : Field) (b : Nat) : (State.clrBit s f b).jtag = s.jtag := by
  unfold State.clrBit; split <;> rfl
@[simp] theorem State.clrBit_rst (s : State) (f : Field) (b : Nat) : (State.clrBit s f b).rst = s.rst := by
  unfold State.clrBit; split <;> rfl
@[simp] theorem State.clrBit_pwr (s : State) (f : Field) (b : Nat) : (State.clrBit s f b).pwr = s.pwr := by
  unfold State.clrBit; split <;> rfl
@[simp] theorem State.clrBit_start (s : State) (f : Field) (b : Nat) : (State.clrBit s f b).start = s.start := by
  unfold State.clrBit; split <;> rfl
@[simp] theorem State.clrBit_age (s : State) (f : Field) (b : Nat) : (State.clrBit s f b).age = s.age := by
  unfold State.clrBit; split <;> rfl
@[simp] theorem State.clrBit_usb (s : State) (f : Field) (b : Nat) : (State.clrBit s f b).usb = s.usb := by
  unfold State.clrBit; split <;> rfl
@[simp] theorem State.clrBit_pending (s : State) (f : Field) (b : Nat) : (State.clrBit s f b).pending = s.pending := by
  unfold State.clrBit; split <;> rfl
@[simp] theorem State.clrBit_byte (s : State) (f : Field) (b : Nat) (addr : Nat) : (State.clrBit s f b).byte addr = s.byte addr := by
  unfold State.clrBit; split <;> rfl

/-! ### The other updates -/

@[simp] theorem State.setRst_csr (s : State) (f : Rst → Rst) : (State.setRst s f).csr = s.csr := (rfl)
@[simp] theorem State.setRst_freeCtr (s : State) (f : Rst → Rst) : (State.setRst s f).freeCtr = s.freeCtr := (rfl)
@[simp] theorem State.setRst_tick (s : State) (f : Rst → Rst) : (State.setRst s f).tick = s.tick := (rfl)
@[simp] theorem State.setRst_xtick (s : State) (f : Rst → Rst) : (State.setRst s f).xtick = s.xtick := (rfl)
@[simp] theorem State.setRst_rtc (s : State) (f : Rst → Rst) : (State.setRst s f).rtc = s.rtc := (rfl)
@[simp] theorem State.setRst_resp (s : State) (f : Rst → Rst) : (State.setRst s f).resp = s.resp := (rfl)
@[simp] theorem State.setRst_msixSeen (s : State) (f : Rst → Rst) : (State.setRst s f).msixSeen = s.msixSeen := (rfl)
@[simp] theorem State.setRst_msixSent (s : State) (f : Rst → Rst) : (State.setRst s f).msixSent = s.msixSent := (rfl)
@[simp] theorem State.setRst_faultLog (s : State) (f : Rst → Rst) : (State.setRst s f).faultLog = s.faultLog := (rfl)
@[simp] theorem State.setRst_mem (s : State) (f : Rst → Rst) : (State.setRst s f).mem = s.mem := (rfl)
@[simp] theorem State.setRst_fill (s : State) (f : Rst → Rst) : (State.setRst s f).fill = s.fill := (rfl)
@[simp] theorem State.setRst_epoch (s : State) (f : Rst → Rst) : (State.setRst s f).epoch = s.epoch := (rfl)
@[simp] theorem State.setRst_haltN (s : State) (f : Rst → Rst) : (State.setRst s f).haltN = s.haltN := (rfl)
@[simp] theorem State.setRst_ang (s : State) (f : Rst → Rst) : (State.setRst s f).ang = s.ang := (rfl)
@[simp] theorem State.setRst_evt (s : State) (f : Rst → Rst) : (State.setRst s f).evt = s.evt := (rfl)
@[simp] theorem State.setRst_fab (s : State) (f : Rst → Rst) : (State.setRst s f).fab = s.fab := (rfl)
@[simp] theorem State.setRst_lgr (s : State) (f : Rst → Rst) : (State.setRst s f).lgr = s.lgr := (rfl)
@[simp] theorem State.setRst_mt (s : State) (f : Rst → Rst) : (State.setRst s f).mt = s.mt := (rfl)
@[simp] theorem State.setRst_hbm (s : State) (f : Rst → Rst) : (State.setRst s f).hbm = s.hbm := (rfl)
@[simp] theorem State.setRst_noc (s : State) (f : Rst → Rst) : (State.setRst s f).noc = s.noc := (rfl)
@[simp] theorem State.setRst_lanes (s : State) (f : Rst → Rst) : (State.setRst s f).lanes = s.lanes := (rfl)
@[simp] theorem State.setRst_vsm (s : State) (f : Rst → Rst) : (State.setRst s f).vsm = s.vsm := (rfl)
@[simp] theorem State.setRst_sec (s : State) (f : Rst → Rst) : (State.setRst s f).sec = s.sec := (rfl)
@[simp] theorem State.setRst_cfg (s : State) (f : Rst → Rst) : (State.setRst s f).cfg = s.cfg := (rfl)
@[simp] theorem State.setRst_twin (s : State) (f : Rst → Rst) : (State.setRst s f).twin = s.twin := (rfl)
@[simp] theorem State.setRst_xbar (s : State) (f : Rst → Rst) : (State.setRst s f).xbar = s.xbar := (rfl)
@[simp] theorem State.setRst_per (s : State) (f : Rst → Rst) : (State.setRst s f).per = s.per := (rfl)
@[simp] theorem State.setRst_jtag (s : State) (f : Rst → Rst) : (State.setRst s f).jtag = s.jtag := (rfl)
@[simp] theorem State.setRst_pwr (s : State) (f : Rst → Rst) : (State.setRst s f).pwr = s.pwr := (rfl)
@[simp] theorem State.setRst_start (s : State) (f : Rst → Rst) : (State.setRst s f).start = s.start := (rfl)
@[simp] theorem State.setRst_age (s : State) (f : Rst → Rst) : (State.setRst s f).age = s.age := (rfl)
@[simp] theorem State.setRst_usb (s : State) (f : Rst → Rst) : (State.setRst s f).usb = s.usb := (rfl)
@[simp] theorem State.setRst_pending (s : State) (f : Rst → Rst) : (State.setRst s f).pending = s.pending := (rfl)
@[simp] theorem State.setRst_rw (s : State) (f : Rst → Rst) (reg : Nat) : (State.setRst s f).rw reg = s.rw reg := (rfl)
@[simp] theorem State.setRst_g (s : State) (f : Rst → Rst) (field : Field) : (State.setRst s f).g field = s.g field := (rfl)
@[simp] theorem State.setRst_on (s : State) (f : Rst → Rst) (field : Field) : (State.setRst s f).on field = s.on field := (rfl)
@[simp] theorem State.setRst_bit (s : State) (f : Rst → Rst) (field : Field) (j : Nat) : (State.setRst s f).bit field j = s.bit field j := (rfl)
@[simp] theorem State.setRst_byte (s : State) (f : Rst → Rst) (addr : Nat) : (State.setRst s f).byte addr = s.byte addr := (rfl)

@[simp] theorem State.setStart_csr (s : State) (f : Start → Start) : (State.setStart s f).csr = s.csr := (rfl)
@[simp] theorem State.setStart_freeCtr (s : State) (f : Start → Start) : (State.setStart s f).freeCtr = s.freeCtr := (rfl)
@[simp] theorem State.setStart_tick (s : State) (f : Start → Start) : (State.setStart s f).tick = s.tick := (rfl)
@[simp] theorem State.setStart_xtick (s : State) (f : Start → Start) : (State.setStart s f).xtick = s.xtick := (rfl)
@[simp] theorem State.setStart_rtc (s : State) (f : Start → Start) : (State.setStart s f).rtc = s.rtc := (rfl)
@[simp] theorem State.setStart_resp (s : State) (f : Start → Start) : (State.setStart s f).resp = s.resp := (rfl)
@[simp] theorem State.setStart_msixSeen (s : State) (f : Start → Start) : (State.setStart s f).msixSeen = s.msixSeen := (rfl)
@[simp] theorem State.setStart_msixSent (s : State) (f : Start → Start) : (State.setStart s f).msixSent = s.msixSent := (rfl)
@[simp] theorem State.setStart_faultLog (s : State) (f : Start → Start) : (State.setStart s f).faultLog = s.faultLog := (rfl)
@[simp] theorem State.setStart_mem (s : State) (f : Start → Start) : (State.setStart s f).mem = s.mem := (rfl)
@[simp] theorem State.setStart_fill (s : State) (f : Start → Start) : (State.setStart s f).fill = s.fill := (rfl)
@[simp] theorem State.setStart_epoch (s : State) (f : Start → Start) : (State.setStart s f).epoch = s.epoch := (rfl)
@[simp] theorem State.setStart_haltN (s : State) (f : Start → Start) : (State.setStart s f).haltN = s.haltN := (rfl)
@[simp] theorem State.setStart_ang (s : State) (f : Start → Start) : (State.setStart s f).ang = s.ang := (rfl)
@[simp] theorem State.setStart_evt (s : State) (f : Start → Start) : (State.setStart s f).evt = s.evt := (rfl)
@[simp] theorem State.setStart_fab (s : State) (f : Start → Start) : (State.setStart s f).fab = s.fab := (rfl)
@[simp] theorem State.setStart_lgr (s : State) (f : Start → Start) : (State.setStart s f).lgr = s.lgr := (rfl)
@[simp] theorem State.setStart_mt (s : State) (f : Start → Start) : (State.setStart s f).mt = s.mt := (rfl)
@[simp] theorem State.setStart_hbm (s : State) (f : Start → Start) : (State.setStart s f).hbm = s.hbm := (rfl)
@[simp] theorem State.setStart_noc (s : State) (f : Start → Start) : (State.setStart s f).noc = s.noc := (rfl)
@[simp] theorem State.setStart_lanes (s : State) (f : Start → Start) : (State.setStart s f).lanes = s.lanes := (rfl)
@[simp] theorem State.setStart_vsm (s : State) (f : Start → Start) : (State.setStart s f).vsm = s.vsm := (rfl)
@[simp] theorem State.setStart_sec (s : State) (f : Start → Start) : (State.setStart s f).sec = s.sec := (rfl)
@[simp] theorem State.setStart_cfg (s : State) (f : Start → Start) : (State.setStart s f).cfg = s.cfg := (rfl)
@[simp] theorem State.setStart_twin (s : State) (f : Start → Start) : (State.setStart s f).twin = s.twin := (rfl)
@[simp] theorem State.setStart_xbar (s : State) (f : Start → Start) : (State.setStart s f).xbar = s.xbar := (rfl)
@[simp] theorem State.setStart_per (s : State) (f : Start → Start) : (State.setStart s f).per = s.per := (rfl)
@[simp] theorem State.setStart_jtag (s : State) (f : Start → Start) : (State.setStart s f).jtag = s.jtag := (rfl)
@[simp] theorem State.setStart_rst (s : State) (f : Start → Start) : (State.setStart s f).rst = s.rst := (rfl)
@[simp] theorem State.setStart_pwr (s : State) (f : Start → Start) : (State.setStart s f).pwr = s.pwr := (rfl)
@[simp] theorem State.setStart_age (s : State) (f : Start → Start) : (State.setStart s f).age = s.age := (rfl)
@[simp] theorem State.setStart_usb (s : State) (f : Start → Start) : (State.setStart s f).usb = s.usb := (rfl)
@[simp] theorem State.setStart_pending (s : State) (f : Start → Start) : (State.setStart s f).pending = s.pending := (rfl)
@[simp] theorem State.setStart_rw (s : State) (f : Start → Start) (reg : Nat) : (State.setStart s f).rw reg = s.rw reg := (rfl)
@[simp] theorem State.setStart_g (s : State) (f : Start → Start) (field : Field) : (State.setStart s f).g field = s.g field := (rfl)
@[simp] theorem State.setStart_on (s : State) (f : Start → Start) (field : Field) : (State.setStart s f).on field = s.on field := (rfl)
@[simp] theorem State.setStart_bit (s : State) (f : Start → Start) (field : Field) (j : Nat) : (State.setStart s f).bit field j = s.bit field j := (rfl)
@[simp] theorem State.setStart_byte (s : State) (f : Start → Start) (addr : Nat) : (State.setStart s f).byte addr = s.byte addr := (rfl)

@[simp] theorem State.setTwinBlk_csr (s : State) (f : Twin → Twin) : (State.setTwinBlk s f).csr = s.csr := (rfl)
@[simp] theorem State.setTwinBlk_freeCtr (s : State) (f : Twin → Twin) : (State.setTwinBlk s f).freeCtr = s.freeCtr := (rfl)
@[simp] theorem State.setTwinBlk_tick (s : State) (f : Twin → Twin) : (State.setTwinBlk s f).tick = s.tick := (rfl)
@[simp] theorem State.setTwinBlk_xtick (s : State) (f : Twin → Twin) : (State.setTwinBlk s f).xtick = s.xtick := (rfl)
@[simp] theorem State.setTwinBlk_rtc (s : State) (f : Twin → Twin) : (State.setTwinBlk s f).rtc = s.rtc := (rfl)
@[simp] theorem State.setTwinBlk_resp (s : State) (f : Twin → Twin) : (State.setTwinBlk s f).resp = s.resp := (rfl)
@[simp] theorem State.setTwinBlk_msixSeen (s : State) (f : Twin → Twin) : (State.setTwinBlk s f).msixSeen = s.msixSeen := (rfl)
@[simp] theorem State.setTwinBlk_msixSent (s : State) (f : Twin → Twin) : (State.setTwinBlk s f).msixSent = s.msixSent := (rfl)
@[simp] theorem State.setTwinBlk_faultLog (s : State) (f : Twin → Twin) : (State.setTwinBlk s f).faultLog = s.faultLog := (rfl)
@[simp] theorem State.setTwinBlk_mem (s : State) (f : Twin → Twin) : (State.setTwinBlk s f).mem = s.mem := (rfl)
@[simp] theorem State.setTwinBlk_fill (s : State) (f : Twin → Twin) : (State.setTwinBlk s f).fill = s.fill := (rfl)
@[simp] theorem State.setTwinBlk_epoch (s : State) (f : Twin → Twin) : (State.setTwinBlk s f).epoch = s.epoch := (rfl)
@[simp] theorem State.setTwinBlk_haltN (s : State) (f : Twin → Twin) : (State.setTwinBlk s f).haltN = s.haltN := (rfl)
@[simp] theorem State.setTwinBlk_ang (s : State) (f : Twin → Twin) : (State.setTwinBlk s f).ang = s.ang := (rfl)
@[simp] theorem State.setTwinBlk_evt (s : State) (f : Twin → Twin) : (State.setTwinBlk s f).evt = s.evt := (rfl)
@[simp] theorem State.setTwinBlk_fab (s : State) (f : Twin → Twin) : (State.setTwinBlk s f).fab = s.fab := (rfl)
@[simp] theorem State.setTwinBlk_lgr (s : State) (f : Twin → Twin) : (State.setTwinBlk s f).lgr = s.lgr := (rfl)
@[simp] theorem State.setTwinBlk_mt (s : State) (f : Twin → Twin) : (State.setTwinBlk s f).mt = s.mt := (rfl)
@[simp] theorem State.setTwinBlk_hbm (s : State) (f : Twin → Twin) : (State.setTwinBlk s f).hbm = s.hbm := (rfl)
@[simp] theorem State.setTwinBlk_noc (s : State) (f : Twin → Twin) : (State.setTwinBlk s f).noc = s.noc := (rfl)
@[simp] theorem State.setTwinBlk_lanes (s : State) (f : Twin → Twin) : (State.setTwinBlk s f).lanes = s.lanes := (rfl)
@[simp] theorem State.setTwinBlk_vsm (s : State) (f : Twin → Twin) : (State.setTwinBlk s f).vsm = s.vsm := (rfl)
@[simp] theorem State.setTwinBlk_sec (s : State) (f : Twin → Twin) : (State.setTwinBlk s f).sec = s.sec := (rfl)
@[simp] theorem State.setTwinBlk_cfg (s : State) (f : Twin → Twin) : (State.setTwinBlk s f).cfg = s.cfg := (rfl)
@[simp] theorem State.setTwinBlk_xbar (s : State) (f : Twin → Twin) : (State.setTwinBlk s f).xbar = s.xbar := (rfl)
@[simp] theorem State.setTwinBlk_per (s : State) (f : Twin → Twin) : (State.setTwinBlk s f).per = s.per := (rfl)
@[simp] theorem State.setTwinBlk_jtag (s : State) (f : Twin → Twin) : (State.setTwinBlk s f).jtag = s.jtag := (rfl)
@[simp] theorem State.setTwinBlk_rst (s : State) (f : Twin → Twin) : (State.setTwinBlk s f).rst = s.rst := (rfl)
@[simp] theorem State.setTwinBlk_pwr (s : State) (f : Twin → Twin) : (State.setTwinBlk s f).pwr = s.pwr := (rfl)
@[simp] theorem State.setTwinBlk_start (s : State) (f : Twin → Twin) : (State.setTwinBlk s f).start = s.start := (rfl)
@[simp] theorem State.setTwinBlk_age (s : State) (f : Twin → Twin) : (State.setTwinBlk s f).age = s.age := (rfl)
@[simp] theorem State.setTwinBlk_usb (s : State) (f : Twin → Twin) : (State.setTwinBlk s f).usb = s.usb := (rfl)
@[simp] theorem State.setTwinBlk_pending (s : State) (f : Twin → Twin) : (State.setTwinBlk s f).pending = s.pending := (rfl)
@[simp] theorem State.setTwinBlk_rw (s : State) (f : Twin → Twin) (reg : Nat) : (State.setTwinBlk s f).rw reg = s.rw reg := (rfl)
@[simp] theorem State.setTwinBlk_g (s : State) (f : Twin → Twin) (field : Field) : (State.setTwinBlk s f).g field = s.g field := (rfl)
@[simp] theorem State.setTwinBlk_on (s : State) (f : Twin → Twin) (field : Field) : (State.setTwinBlk s f).on field = s.on field := (rfl)
@[simp] theorem State.setTwinBlk_bit (s : State) (f : Twin → Twin) (field : Field) (j : Nat) : (State.setTwinBlk s f).bit field j = s.bit field j := (rfl)
@[simp] theorem State.setTwinBlk_byte (s : State) (f : Twin → Twin) (addr : Nat) : (State.setTwinBlk s f).byte addr = s.byte addr := (rfl)

@[simp] theorem State.setSec_csr (s : State) (f : Sec → Sec) : (State.setSec s f).csr = s.csr := (rfl)
@[simp] theorem State.setSec_freeCtr (s : State) (f : Sec → Sec) : (State.setSec s f).freeCtr = s.freeCtr := (rfl)
@[simp] theorem State.setSec_tick (s : State) (f : Sec → Sec) : (State.setSec s f).tick = s.tick := (rfl)
@[simp] theorem State.setSec_xtick (s : State) (f : Sec → Sec) : (State.setSec s f).xtick = s.xtick := (rfl)
@[simp] theorem State.setSec_rtc (s : State) (f : Sec → Sec) : (State.setSec s f).rtc = s.rtc := (rfl)
@[simp] theorem State.setSec_resp (s : State) (f : Sec → Sec) : (State.setSec s f).resp = s.resp := (rfl)
@[simp] theorem State.setSec_msixSeen (s : State) (f : Sec → Sec) : (State.setSec s f).msixSeen = s.msixSeen := (rfl)
@[simp] theorem State.setSec_msixSent (s : State) (f : Sec → Sec) : (State.setSec s f).msixSent = s.msixSent := (rfl)
@[simp] theorem State.setSec_faultLog (s : State) (f : Sec → Sec) : (State.setSec s f).faultLog = s.faultLog := (rfl)
@[simp] theorem State.setSec_mem (s : State) (f : Sec → Sec) : (State.setSec s f).mem = s.mem := (rfl)
@[simp] theorem State.setSec_fill (s : State) (f : Sec → Sec) : (State.setSec s f).fill = s.fill := (rfl)
@[simp] theorem State.setSec_epoch (s : State) (f : Sec → Sec) : (State.setSec s f).epoch = s.epoch := (rfl)
@[simp] theorem State.setSec_haltN (s : State) (f : Sec → Sec) : (State.setSec s f).haltN = s.haltN := (rfl)
@[simp] theorem State.setSec_ang (s : State) (f : Sec → Sec) : (State.setSec s f).ang = s.ang := (rfl)
@[simp] theorem State.setSec_evt (s : State) (f : Sec → Sec) : (State.setSec s f).evt = s.evt := (rfl)
@[simp] theorem State.setSec_fab (s : State) (f : Sec → Sec) : (State.setSec s f).fab = s.fab := (rfl)
@[simp] theorem State.setSec_lgr (s : State) (f : Sec → Sec) : (State.setSec s f).lgr = s.lgr := (rfl)
@[simp] theorem State.setSec_mt (s : State) (f : Sec → Sec) : (State.setSec s f).mt = s.mt := (rfl)
@[simp] theorem State.setSec_hbm (s : State) (f : Sec → Sec) : (State.setSec s f).hbm = s.hbm := (rfl)
@[simp] theorem State.setSec_noc (s : State) (f : Sec → Sec) : (State.setSec s f).noc = s.noc := (rfl)
@[simp] theorem State.setSec_lanes (s : State) (f : Sec → Sec) : (State.setSec s f).lanes = s.lanes := (rfl)
@[simp] theorem State.setSec_vsm (s : State) (f : Sec → Sec) : (State.setSec s f).vsm = s.vsm := (rfl)
@[simp] theorem State.setSec_cfg (s : State) (f : Sec → Sec) : (State.setSec s f).cfg = s.cfg := (rfl)
@[simp] theorem State.setSec_twin (s : State) (f : Sec → Sec) : (State.setSec s f).twin = s.twin := (rfl)
@[simp] theorem State.setSec_xbar (s : State) (f : Sec → Sec) : (State.setSec s f).xbar = s.xbar := (rfl)
@[simp] theorem State.setSec_per (s : State) (f : Sec → Sec) : (State.setSec s f).per = s.per := (rfl)
@[simp] theorem State.setSec_jtag (s : State) (f : Sec → Sec) : (State.setSec s f).jtag = s.jtag := (rfl)
@[simp] theorem State.setSec_rst (s : State) (f : Sec → Sec) : (State.setSec s f).rst = s.rst := (rfl)
@[simp] theorem State.setSec_pwr (s : State) (f : Sec → Sec) : (State.setSec s f).pwr = s.pwr := (rfl)
@[simp] theorem State.setSec_start (s : State) (f : Sec → Sec) : (State.setSec s f).start = s.start := (rfl)
@[simp] theorem State.setSec_age (s : State) (f : Sec → Sec) : (State.setSec s f).age = s.age := (rfl)
@[simp] theorem State.setSec_usb (s : State) (f : Sec → Sec) : (State.setSec s f).usb = s.usb := (rfl)
@[simp] theorem State.setSec_pending (s : State) (f : Sec → Sec) : (State.setSec s f).pending = s.pending := (rfl)
@[simp] theorem State.setSec_rw (s : State) (f : Sec → Sec) (reg : Nat) : (State.setSec s f).rw reg = s.rw reg := (rfl)
@[simp] theorem State.setSec_g (s : State) (f : Sec → Sec) (field : Field) : (State.setSec s f).g field = s.g field := (rfl)
@[simp] theorem State.setSec_on (s : State) (f : Sec → Sec) (field : Field) : (State.setSec s f).on field = s.on field := (rfl)
@[simp] theorem State.setSec_bit (s : State) (f : Sec → Sec) (field : Field) (j : Nat) : (State.setSec s f).bit field j = s.bit field j := (rfl)
@[simp] theorem State.setSec_byte (s : State) (f : Sec → Sec) (addr : Nat) : (State.setSec s f).byte addr = s.byte addr := (rfl)

@[simp] theorem State.setVport_csr (s : State) (p : Nat) (x : VPort) : (State.setVport s p x).csr = s.csr := (rfl)
@[simp] theorem State.setVport_freeCtr (s : State) (p : Nat) (x : VPort) : (State.setVport s p x).freeCtr = s.freeCtr := (rfl)
@[simp] theorem State.setVport_tick (s : State) (p : Nat) (x : VPort) : (State.setVport s p x).tick = s.tick := (rfl)
@[simp] theorem State.setVport_xtick (s : State) (p : Nat) (x : VPort) : (State.setVport s p x).xtick = s.xtick := (rfl)
@[simp] theorem State.setVport_rtc (s : State) (p : Nat) (x : VPort) : (State.setVport s p x).rtc = s.rtc := (rfl)
@[simp] theorem State.setVport_resp (s : State) (p : Nat) (x : VPort) : (State.setVport s p x).resp = s.resp := (rfl)
@[simp] theorem State.setVport_msixSeen (s : State) (p : Nat) (x : VPort) : (State.setVport s p x).msixSeen = s.msixSeen := (rfl)
@[simp] theorem State.setVport_msixSent (s : State) (p : Nat) (x : VPort) : (State.setVport s p x).msixSent = s.msixSent := (rfl)
@[simp] theorem State.setVport_faultLog (s : State) (p : Nat) (x : VPort) : (State.setVport s p x).faultLog = s.faultLog := (rfl)
@[simp] theorem State.setVport_mem (s : State) (p : Nat) (x : VPort) : (State.setVport s p x).mem = s.mem := (rfl)
@[simp] theorem State.setVport_fill (s : State) (p : Nat) (x : VPort) : (State.setVport s p x).fill = s.fill := (rfl)
@[simp] theorem State.setVport_epoch (s : State) (p : Nat) (x : VPort) : (State.setVport s p x).epoch = s.epoch := (rfl)
@[simp] theorem State.setVport_haltN (s : State) (p : Nat) (x : VPort) : (State.setVport s p x).haltN = s.haltN := (rfl)
@[simp] theorem State.setVport_ang (s : State) (p : Nat) (x : VPort) : (State.setVport s p x).ang = s.ang := (rfl)
@[simp] theorem State.setVport_evt (s : State) (p : Nat) (x : VPort) : (State.setVport s p x).evt = s.evt := (rfl)
@[simp] theorem State.setVport_fab (s : State) (p : Nat) (x : VPort) : (State.setVport s p x).fab = s.fab := (rfl)
@[simp] theorem State.setVport_lgr (s : State) (p : Nat) (x : VPort) : (State.setVport s p x).lgr = s.lgr := (rfl)
@[simp] theorem State.setVport_mt (s : State) (p : Nat) (x : VPort) : (State.setVport s p x).mt = s.mt := (rfl)
@[simp] theorem State.setVport_hbm (s : State) (p : Nat) (x : VPort) : (State.setVport s p x).hbm = s.hbm := (rfl)
@[simp] theorem State.setVport_noc (s : State) (p : Nat) (x : VPort) : (State.setVport s p x).noc = s.noc := (rfl)
@[simp] theorem State.setVport_lanes (s : State) (p : Nat) (x : VPort) : (State.setVport s p x).lanes = s.lanes := (rfl)
@[simp] theorem State.setVport_sec (s : State) (p : Nat) (x : VPort) : (State.setVport s p x).sec = s.sec := (rfl)
@[simp] theorem State.setVport_cfg (s : State) (p : Nat) (x : VPort) : (State.setVport s p x).cfg = s.cfg := (rfl)
@[simp] theorem State.setVport_twin (s : State) (p : Nat) (x : VPort) : (State.setVport s p x).twin = s.twin := (rfl)
@[simp] theorem State.setVport_xbar (s : State) (p : Nat) (x : VPort) : (State.setVport s p x).xbar = s.xbar := (rfl)
@[simp] theorem State.setVport_per (s : State) (p : Nat) (x : VPort) : (State.setVport s p x).per = s.per := (rfl)
@[simp] theorem State.setVport_jtag (s : State) (p : Nat) (x : VPort) : (State.setVport s p x).jtag = s.jtag := (rfl)
@[simp] theorem State.setVport_rst (s : State) (p : Nat) (x : VPort) : (State.setVport s p x).rst = s.rst := (rfl)
@[simp] theorem State.setVport_pwr (s : State) (p : Nat) (x : VPort) : (State.setVport s p x).pwr = s.pwr := (rfl)
@[simp] theorem State.setVport_start (s : State) (p : Nat) (x : VPort) : (State.setVport s p x).start = s.start := (rfl)
@[simp] theorem State.setVport_age (s : State) (p : Nat) (x : VPort) : (State.setVport s p x).age = s.age := (rfl)
@[simp] theorem State.setVport_usb (s : State) (p : Nat) (x : VPort) : (State.setVport s p x).usb = s.usb := (rfl)
@[simp] theorem State.setVport_pending (s : State) (p : Nat) (x : VPort) : (State.setVport s p x).pending = s.pending := (rfl)
@[simp] theorem State.setVport_rw (s : State) (p : Nat) (x : VPort) (reg : Nat) : (State.setVport s p x).rw reg = s.rw reg := (rfl)
@[simp] theorem State.setVport_g (s : State) (p : Nat) (x : VPort) (field : Field) : (State.setVport s p x).g field = s.g field := (rfl)
@[simp] theorem State.setVport_on (s : State) (p : Nat) (x : VPort) (field : Field) : (State.setVport s p x).on field = s.on field := (rfl)
@[simp] theorem State.setVport_bit (s : State) (p : Nat) (x : VPort) (field : Field) (j : Nat) : (State.setVport s p x).bit field j = s.bit field j := (rfl)
@[simp] theorem State.setVport_byte (s : State) (p : Nat) (x : VPort) (addr : Nat) : (State.setVport s p x).byte addr = s.byte addr := (rfl)

@[simp] theorem State.setVsm_csr (s : State) (f : Vsm → Vsm) : (State.setVsm s f).csr = s.csr := (rfl)
@[simp] theorem State.setVsm_freeCtr (s : State) (f : Vsm → Vsm) : (State.setVsm s f).freeCtr = s.freeCtr := (rfl)
@[simp] theorem State.setVsm_tick (s : State) (f : Vsm → Vsm) : (State.setVsm s f).tick = s.tick := (rfl)
@[simp] theorem State.setVsm_xtick (s : State) (f : Vsm → Vsm) : (State.setVsm s f).xtick = s.xtick := (rfl)
@[simp] theorem State.setVsm_rtc (s : State) (f : Vsm → Vsm) : (State.setVsm s f).rtc = s.rtc := (rfl)
@[simp] theorem State.setVsm_resp (s : State) (f : Vsm → Vsm) : (State.setVsm s f).resp = s.resp := (rfl)
@[simp] theorem State.setVsm_msixSeen (s : State) (f : Vsm → Vsm) : (State.setVsm s f).msixSeen = s.msixSeen := (rfl)
@[simp] theorem State.setVsm_msixSent (s : State) (f : Vsm → Vsm) : (State.setVsm s f).msixSent = s.msixSent := (rfl)
@[simp] theorem State.setVsm_faultLog (s : State) (f : Vsm → Vsm) : (State.setVsm s f).faultLog = s.faultLog := (rfl)
@[simp] theorem State.setVsm_mem (s : State) (f : Vsm → Vsm) : (State.setVsm s f).mem = s.mem := (rfl)
@[simp] theorem State.setVsm_fill (s : State) (f : Vsm → Vsm) : (State.setVsm s f).fill = s.fill := (rfl)
@[simp] theorem State.setVsm_epoch (s : State) (f : Vsm → Vsm) : (State.setVsm s f).epoch = s.epoch := (rfl)
@[simp] theorem State.setVsm_haltN (s : State) (f : Vsm → Vsm) : (State.setVsm s f).haltN = s.haltN := (rfl)
@[simp] theorem State.setVsm_ang (s : State) (f : Vsm → Vsm) : (State.setVsm s f).ang = s.ang := (rfl)
@[simp] theorem State.setVsm_evt (s : State) (f : Vsm → Vsm) : (State.setVsm s f).evt = s.evt := (rfl)
@[simp] theorem State.setVsm_fab (s : State) (f : Vsm → Vsm) : (State.setVsm s f).fab = s.fab := (rfl)
@[simp] theorem State.setVsm_lgr (s : State) (f : Vsm → Vsm) : (State.setVsm s f).lgr = s.lgr := (rfl)
@[simp] theorem State.setVsm_mt (s : State) (f : Vsm → Vsm) : (State.setVsm s f).mt = s.mt := (rfl)
@[simp] theorem State.setVsm_hbm (s : State) (f : Vsm → Vsm) : (State.setVsm s f).hbm = s.hbm := (rfl)
@[simp] theorem State.setVsm_noc (s : State) (f : Vsm → Vsm) : (State.setVsm s f).noc = s.noc := (rfl)
@[simp] theorem State.setVsm_lanes (s : State) (f : Vsm → Vsm) : (State.setVsm s f).lanes = s.lanes := (rfl)
@[simp] theorem State.setVsm_sec (s : State) (f : Vsm → Vsm) : (State.setVsm s f).sec = s.sec := (rfl)
@[simp] theorem State.setVsm_cfg (s : State) (f : Vsm → Vsm) : (State.setVsm s f).cfg = s.cfg := (rfl)
@[simp] theorem State.setVsm_twin (s : State) (f : Vsm → Vsm) : (State.setVsm s f).twin = s.twin := (rfl)
@[simp] theorem State.setVsm_xbar (s : State) (f : Vsm → Vsm) : (State.setVsm s f).xbar = s.xbar := (rfl)
@[simp] theorem State.setVsm_per (s : State) (f : Vsm → Vsm) : (State.setVsm s f).per = s.per := (rfl)
@[simp] theorem State.setVsm_jtag (s : State) (f : Vsm → Vsm) : (State.setVsm s f).jtag = s.jtag := (rfl)
@[simp] theorem State.setVsm_rst (s : State) (f : Vsm → Vsm) : (State.setVsm s f).rst = s.rst := (rfl)
@[simp] theorem State.setVsm_pwr (s : State) (f : Vsm → Vsm) : (State.setVsm s f).pwr = s.pwr := (rfl)
@[simp] theorem State.setVsm_start (s : State) (f : Vsm → Vsm) : (State.setVsm s f).start = s.start := (rfl)
@[simp] theorem State.setVsm_age (s : State) (f : Vsm → Vsm) : (State.setVsm s f).age = s.age := (rfl)
@[simp] theorem State.setVsm_usb (s : State) (f : Vsm → Vsm) : (State.setVsm s f).usb = s.usb := (rfl)
@[simp] theorem State.setVsm_pending (s : State) (f : Vsm → Vsm) : (State.setVsm s f).pending = s.pending := (rfl)
@[simp] theorem State.setVsm_rw (s : State) (f : Vsm → Vsm) (reg : Nat) : (State.setVsm s f).rw reg = s.rw reg := (rfl)
@[simp] theorem State.setVsm_g (s : State) (f : Vsm → Vsm) (field : Field) : (State.setVsm s f).g field = s.g field := (rfl)
@[simp] theorem State.setVsm_on (s : State) (f : Vsm → Vsm) (field : Field) : (State.setVsm s f).on field = s.on field := (rfl)
@[simp] theorem State.setVsm_bit (s : State) (f : Vsm → Vsm) (field : Field) (j : Nat) : (State.setVsm s f).bit field j = s.bit field j := (rfl)
@[simp] theorem State.setVsm_byte (s : State) (f : Vsm → Vsm) (addr : Nat) : (State.setVsm s f).byte addr = s.byte addr := (rfl)

@[simp] theorem State.setByte_csr (s : State) (a : Nat) (b : Byte) : (State.setByte s a b).csr = s.csr := (rfl)
@[simp] theorem State.setByte_freeCtr (s : State) (a : Nat) (b : Byte) : (State.setByte s a b).freeCtr = s.freeCtr := (rfl)
@[simp] theorem State.setByte_tick (s : State) (a : Nat) (b : Byte) : (State.setByte s a b).tick = s.tick := (rfl)
@[simp] theorem State.setByte_xtick (s : State) (a : Nat) (b : Byte) : (State.setByte s a b).xtick = s.xtick := (rfl)
@[simp] theorem State.setByte_rtc (s : State) (a : Nat) (b : Byte) : (State.setByte s a b).rtc = s.rtc := (rfl)
@[simp] theorem State.setByte_resp (s : State) (a : Nat) (b : Byte) : (State.setByte s a b).resp = s.resp := (rfl)
@[simp] theorem State.setByte_msixSeen (s : State) (a : Nat) (b : Byte) : (State.setByte s a b).msixSeen = s.msixSeen := (rfl)
@[simp] theorem State.setByte_msixSent (s : State) (a : Nat) (b : Byte) : (State.setByte s a b).msixSent = s.msixSent := (rfl)
@[simp] theorem State.setByte_faultLog (s : State) (a : Nat) (b : Byte) : (State.setByte s a b).faultLog = s.faultLog := (rfl)
@[simp] theorem State.setByte_fill (s : State) (a : Nat) (b : Byte) : (State.setByte s a b).fill = s.fill := (rfl)
@[simp] theorem State.setByte_epoch (s : State) (a : Nat) (b : Byte) : (State.setByte s a b).epoch = s.epoch := (rfl)
@[simp] theorem State.setByte_haltN (s : State) (a : Nat) (b : Byte) : (State.setByte s a b).haltN = s.haltN := (rfl)
@[simp] theorem State.setByte_ang (s : State) (a : Nat) (b : Byte) : (State.setByte s a b).ang = s.ang := (rfl)
@[simp] theorem State.setByte_evt (s : State) (a : Nat) (b : Byte) : (State.setByte s a b).evt = s.evt := (rfl)
@[simp] theorem State.setByte_fab (s : State) (a : Nat) (b : Byte) : (State.setByte s a b).fab = s.fab := (rfl)
@[simp] theorem State.setByte_lgr (s : State) (a : Nat) (b : Byte) : (State.setByte s a b).lgr = s.lgr := (rfl)
@[simp] theorem State.setByte_mt (s : State) (a : Nat) (b : Byte) : (State.setByte s a b).mt = s.mt := (rfl)
@[simp] theorem State.setByte_hbm (s : State) (a : Nat) (b : Byte) : (State.setByte s a b).hbm = s.hbm := (rfl)
@[simp] theorem State.setByte_noc (s : State) (a : Nat) (b : Byte) : (State.setByte s a b).noc = s.noc := (rfl)
@[simp] theorem State.setByte_lanes (s : State) (a : Nat) (b : Byte) : (State.setByte s a b).lanes = s.lanes := (rfl)
@[simp] theorem State.setByte_vsm (s : State) (a : Nat) (b : Byte) : (State.setByte s a b).vsm = s.vsm := (rfl)
@[simp] theorem State.setByte_sec (s : State) (a : Nat) (b : Byte) : (State.setByte s a b).sec = s.sec := (rfl)
@[simp] theorem State.setByte_cfg (s : State) (a : Nat) (b : Byte) : (State.setByte s a b).cfg = s.cfg := (rfl)
@[simp] theorem State.setByte_twin (s : State) (a : Nat) (b : Byte) : (State.setByte s a b).twin = s.twin := (rfl)
@[simp] theorem State.setByte_xbar (s : State) (a : Nat) (b : Byte) : (State.setByte s a b).xbar = s.xbar := (rfl)
@[simp] theorem State.setByte_per (s : State) (a : Nat) (b : Byte) : (State.setByte s a b).per = s.per := (rfl)
@[simp] theorem State.setByte_jtag (s : State) (a : Nat) (b : Byte) : (State.setByte s a b).jtag = s.jtag := (rfl)
@[simp] theorem State.setByte_rst (s : State) (a : Nat) (b : Byte) : (State.setByte s a b).rst = s.rst := (rfl)
@[simp] theorem State.setByte_pwr (s : State) (a : Nat) (b : Byte) : (State.setByte s a b).pwr = s.pwr := (rfl)
@[simp] theorem State.setByte_start (s : State) (a : Nat) (b : Byte) : (State.setByte s a b).start = s.start := (rfl)
@[simp] theorem State.setByte_age (s : State) (a : Nat) (b : Byte) : (State.setByte s a b).age = s.age := (rfl)
@[simp] theorem State.setByte_usb (s : State) (a : Nat) (b : Byte) : (State.setByte s a b).usb = s.usb := (rfl)
@[simp] theorem State.setByte_pending (s : State) (a : Nat) (b : Byte) : (State.setByte s a b).pending = s.pending := (rfl)
@[simp] theorem State.setByte_rw (s : State) (a : Nat) (b : Byte) (reg : Nat) : (State.setByte s a b).rw reg = s.rw reg := (rfl)
@[simp] theorem State.setByte_g (s : State) (a : Nat) (b : Byte) (field : Field) : (State.setByte s a b).g field = s.g field := (rfl)
@[simp] theorem State.setByte_on (s : State) (a : Nat) (b : Byte) (field : Field) : (State.setByte s a b).on field = s.on field := (rfl)
@[simp] theorem State.setByte_bit (s : State) (a : Nat) (b : Byte) (field : Field) (j : Nat) : (State.setByte s a b).bit field j = s.bit field j := (rfl)

@[simp] theorem State.setRegion_csr (s : State) (g : Nat) (r : Region) : (State.setRegion s g r).csr = s.csr := (rfl)
@[simp] theorem State.setRegion_freeCtr (s : State) (g : Nat) (r : Region) : (State.setRegion s g r).freeCtr = s.freeCtr := (rfl)
@[simp] theorem State.setRegion_tick (s : State) (g : Nat) (r : Region) : (State.setRegion s g r).tick = s.tick := (rfl)
@[simp] theorem State.setRegion_xtick (s : State) (g : Nat) (r : Region) : (State.setRegion s g r).xtick = s.xtick := (rfl)
@[simp] theorem State.setRegion_rtc (s : State) (g : Nat) (r : Region) : (State.setRegion s g r).rtc = s.rtc := (rfl)
@[simp] theorem State.setRegion_resp (s : State) (g : Nat) (r : Region) : (State.setRegion s g r).resp = s.resp := (rfl)
@[simp] theorem State.setRegion_msixSeen (s : State) (g : Nat) (r : Region) : (State.setRegion s g r).msixSeen = s.msixSeen := (rfl)
@[simp] theorem State.setRegion_msixSent (s : State) (g : Nat) (r : Region) : (State.setRegion s g r).msixSent = s.msixSent := (rfl)
@[simp] theorem State.setRegion_faultLog (s : State) (g : Nat) (r : Region) : (State.setRegion s g r).faultLog = s.faultLog := (rfl)
@[simp] theorem State.setRegion_mem (s : State) (g : Nat) (r : Region) : (State.setRegion s g r).mem = s.mem := (rfl)
@[simp] theorem State.setRegion_fill (s : State) (g : Nat) (r : Region) : (State.setRegion s g r).fill = s.fill := (rfl)
@[simp] theorem State.setRegion_epoch (s : State) (g : Nat) (r : Region) : (State.setRegion s g r).epoch = s.epoch := (rfl)
@[simp] theorem State.setRegion_haltN (s : State) (g : Nat) (r : Region) : (State.setRegion s g r).haltN = s.haltN := (rfl)
@[simp] theorem State.setRegion_ang (s : State) (g : Nat) (r : Region) : (State.setRegion s g r).ang = s.ang := (rfl)
@[simp] theorem State.setRegion_evt (s : State) (g : Nat) (r : Region) : (State.setRegion s g r).evt = s.evt := (rfl)
@[simp] theorem State.setRegion_lgr (s : State) (g : Nat) (r : Region) : (State.setRegion s g r).lgr = s.lgr := (rfl)
@[simp] theorem State.setRegion_mt (s : State) (g : Nat) (r : Region) : (State.setRegion s g r).mt = s.mt := (rfl)
@[simp] theorem State.setRegion_hbm (s : State) (g : Nat) (r : Region) : (State.setRegion s g r).hbm = s.hbm := (rfl)
@[simp] theorem State.setRegion_noc (s : State) (g : Nat) (r : Region) : (State.setRegion s g r).noc = s.noc := (rfl)
@[simp] theorem State.setRegion_lanes (s : State) (g : Nat) (r : Region) : (State.setRegion s g r).lanes = s.lanes := (rfl)
@[simp] theorem State.setRegion_vsm (s : State) (g : Nat) (r : Region) : (State.setRegion s g r).vsm = s.vsm := (rfl)
@[simp] theorem State.setRegion_sec (s : State) (g : Nat) (r : Region) : (State.setRegion s g r).sec = s.sec := (rfl)
@[simp] theorem State.setRegion_cfg (s : State) (g : Nat) (r : Region) : (State.setRegion s g r).cfg = s.cfg := (rfl)
@[simp] theorem State.setRegion_twin (s : State) (g : Nat) (r : Region) : (State.setRegion s g r).twin = s.twin := (rfl)
@[simp] theorem State.setRegion_xbar (s : State) (g : Nat) (r : Region) : (State.setRegion s g r).xbar = s.xbar := (rfl)
@[simp] theorem State.setRegion_per (s : State) (g : Nat) (r : Region) : (State.setRegion s g r).per = s.per := (rfl)
@[simp] theorem State.setRegion_jtag (s : State) (g : Nat) (r : Region) : (State.setRegion s g r).jtag = s.jtag := (rfl)
@[simp] theorem State.setRegion_rst (s : State) (g : Nat) (r : Region) : (State.setRegion s g r).rst = s.rst := (rfl)
@[simp] theorem State.setRegion_pwr (s : State) (g : Nat) (r : Region) : (State.setRegion s g r).pwr = s.pwr := (rfl)
@[simp] theorem State.setRegion_start (s : State) (g : Nat) (r : Region) : (State.setRegion s g r).start = s.start := (rfl)
@[simp] theorem State.setRegion_age (s : State) (g : Nat) (r : Region) : (State.setRegion s g r).age = s.age := (rfl)
@[simp] theorem State.setRegion_usb (s : State) (g : Nat) (r : Region) : (State.setRegion s g r).usb = s.usb := (rfl)
@[simp] theorem State.setRegion_pending (s : State) (g : Nat) (r : Region) : (State.setRegion s g r).pending = s.pending := (rfl)
@[simp] theorem State.setRegion_rw (s : State) (g : Nat) (r : Region) (reg : Nat) : (State.setRegion s g r).rw reg = s.rw reg := (rfl)
@[simp] theorem State.setRegion_g (s : State) (g : Nat) (r : Region) (field : Field) : (State.setRegion s g r).g field = s.g field := (rfl)
@[simp] theorem State.setRegion_on (s : State) (g : Nat) (r : Region) (field : Field) : (State.setRegion s g r).on field = s.on field := (rfl)
@[simp] theorem State.setRegion_bit (s : State) (g : Nat) (r : Region) (field : Field) (j : Nat) : (State.setRegion s g r).bit field j = s.bit field j := (rfl)
@[simp] theorem State.setRegion_byte (s : State) (g : Nat) (r : Region) (addr : Nat) : (State.setRegion s g r).byte addr = s.byte addr := (rfl)

@[simp] theorem State.setRcmp_csr (s : State) (key : Nat) (r : RCmp) : (State.setRcmp s key r).csr = s.csr := (rfl)
@[simp] theorem State.setRcmp_freeCtr (s : State) (key : Nat) (r : RCmp) : (State.setRcmp s key r).freeCtr = s.freeCtr := (rfl)
@[simp] theorem State.setRcmp_tick (s : State) (key : Nat) (r : RCmp) : (State.setRcmp s key r).tick = s.tick := (rfl)
@[simp] theorem State.setRcmp_xtick (s : State) (key : Nat) (r : RCmp) : (State.setRcmp s key r).xtick = s.xtick := (rfl)
@[simp] theorem State.setRcmp_rtc (s : State) (key : Nat) (r : RCmp) : (State.setRcmp s key r).rtc = s.rtc := (rfl)
@[simp] theorem State.setRcmp_resp (s : State) (key : Nat) (r : RCmp) : (State.setRcmp s key r).resp = s.resp := (rfl)
@[simp] theorem State.setRcmp_msixSeen (s : State) (key : Nat) (r : RCmp) : (State.setRcmp s key r).msixSeen = s.msixSeen := (rfl)
@[simp] theorem State.setRcmp_msixSent (s : State) (key : Nat) (r : RCmp) : (State.setRcmp s key r).msixSent = s.msixSent := (rfl)
@[simp] theorem State.setRcmp_faultLog (s : State) (key : Nat) (r : RCmp) : (State.setRcmp s key r).faultLog = s.faultLog := (rfl)
@[simp] theorem State.setRcmp_mem (s : State) (key : Nat) (r : RCmp) : (State.setRcmp s key r).mem = s.mem := (rfl)
@[simp] theorem State.setRcmp_fill (s : State) (key : Nat) (r : RCmp) : (State.setRcmp s key r).fill = s.fill := (rfl)
@[simp] theorem State.setRcmp_epoch (s : State) (key : Nat) (r : RCmp) : (State.setRcmp s key r).epoch = s.epoch := (rfl)
@[simp] theorem State.setRcmp_haltN (s : State) (key : Nat) (r : RCmp) : (State.setRcmp s key r).haltN = s.haltN := (rfl)
@[simp] theorem State.setRcmp_ang (s : State) (key : Nat) (r : RCmp) : (State.setRcmp s key r).ang = s.ang := (rfl)
@[simp] theorem State.setRcmp_evt (s : State) (key : Nat) (r : RCmp) : (State.setRcmp s key r).evt = s.evt := (rfl)
@[simp] theorem State.setRcmp_lgr (s : State) (key : Nat) (r : RCmp) : (State.setRcmp s key r).lgr = s.lgr := (rfl)
@[simp] theorem State.setRcmp_mt (s : State) (key : Nat) (r : RCmp) : (State.setRcmp s key r).mt = s.mt := (rfl)
@[simp] theorem State.setRcmp_hbm (s : State) (key : Nat) (r : RCmp) : (State.setRcmp s key r).hbm = s.hbm := (rfl)
@[simp] theorem State.setRcmp_noc (s : State) (key : Nat) (r : RCmp) : (State.setRcmp s key r).noc = s.noc := (rfl)
@[simp] theorem State.setRcmp_lanes (s : State) (key : Nat) (r : RCmp) : (State.setRcmp s key r).lanes = s.lanes := (rfl)
@[simp] theorem State.setRcmp_vsm (s : State) (key : Nat) (r : RCmp) : (State.setRcmp s key r).vsm = s.vsm := (rfl)
@[simp] theorem State.setRcmp_sec (s : State) (key : Nat) (r : RCmp) : (State.setRcmp s key r).sec = s.sec := (rfl)
@[simp] theorem State.setRcmp_cfg (s : State) (key : Nat) (r : RCmp) : (State.setRcmp s key r).cfg = s.cfg := (rfl)
@[simp] theorem State.setRcmp_twin (s : State) (key : Nat) (r : RCmp) : (State.setRcmp s key r).twin = s.twin := (rfl)
@[simp] theorem State.setRcmp_xbar (s : State) (key : Nat) (r : RCmp) : (State.setRcmp s key r).xbar = s.xbar := (rfl)
@[simp] theorem State.setRcmp_per (s : State) (key : Nat) (r : RCmp) : (State.setRcmp s key r).per = s.per := (rfl)
@[simp] theorem State.setRcmp_jtag (s : State) (key : Nat) (r : RCmp) : (State.setRcmp s key r).jtag = s.jtag := (rfl)
@[simp] theorem State.setRcmp_rst (s : State) (key : Nat) (r : RCmp) : (State.setRcmp s key r).rst = s.rst := (rfl)
@[simp] theorem State.setRcmp_pwr (s : State) (key : Nat) (r : RCmp) : (State.setRcmp s key r).pwr = s.pwr := (rfl)
@[simp] theorem State.setRcmp_start (s : State) (key : Nat) (r : RCmp) : (State.setRcmp s key r).start = s.start := (rfl)
@[simp] theorem State.setRcmp_age (s : State) (key : Nat) (r : RCmp) : (State.setRcmp s key r).age = s.age := (rfl)
@[simp] theorem State.setRcmp_usb (s : State) (key : Nat) (r : RCmp) : (State.setRcmp s key r).usb = s.usb := (rfl)
@[simp] theorem State.setRcmp_pending (s : State) (key : Nat) (r : RCmp) : (State.setRcmp s key r).pending = s.pending := (rfl)
@[simp] theorem State.setRcmp_rw (s : State) (key : Nat) (r : RCmp) (reg : Nat) : (State.setRcmp s key r).rw reg = s.rw reg := (rfl)
@[simp] theorem State.setRcmp_g (s : State) (key : Nat) (r : RCmp) (field : Field) : (State.setRcmp s key r).g field = s.g field := (rfl)
@[simp] theorem State.setRcmp_on (s : State) (key : Nat) (r : RCmp) (field : Field) : (State.setRcmp s key r).on field = s.on field := (rfl)
@[simp] theorem State.setRcmp_bit (s : State) (key : Nat) (r : RCmp) (field : Field) (j : Nat) : (State.setRcmp s key r).bit field j = s.bit field j := (rfl)
@[simp] theorem State.setRcmp_byte (s : State) (key : Nat) (r : RCmp) (addr : Nat) : (State.setRcmp s key r).byte addr = s.byte addr := (rfl)

@[simp] theorem State.setJtag_csr (s : State) (f : Jtag → Jtag) : (State.setJtag s f).csr = s.csr := (rfl)
@[simp] theorem State.setJtag_freeCtr (s : State) (f : Jtag → Jtag) : (State.setJtag s f).freeCtr = s.freeCtr := (rfl)
@[simp] theorem State.setJtag_tick (s : State) (f : Jtag → Jtag) : (State.setJtag s f).tick = s.tick := (rfl)
@[simp] theorem State.setJtag_xtick (s : State) (f : Jtag → Jtag) : (State.setJtag s f).xtick = s.xtick := (rfl)
@[simp] theorem State.setJtag_rtc (s : State) (f : Jtag → Jtag) : (State.setJtag s f).rtc = s.rtc := (rfl)
@[simp] theorem State.setJtag_resp (s : State) (f : Jtag → Jtag) : (State.setJtag s f).resp = s.resp := (rfl)
@[simp] theorem State.setJtag_msixSeen (s : State) (f : Jtag → Jtag) : (State.setJtag s f).msixSeen = s.msixSeen := (rfl)
@[simp] theorem State.setJtag_msixSent (s : State) (f : Jtag → Jtag) : (State.setJtag s f).msixSent = s.msixSent := (rfl)
@[simp] theorem State.setJtag_faultLog (s : State) (f : Jtag → Jtag) : (State.setJtag s f).faultLog = s.faultLog := (rfl)
@[simp] theorem State.setJtag_mem (s : State) (f : Jtag → Jtag) : (State.setJtag s f).mem = s.mem := (rfl)
@[simp] theorem State.setJtag_fill (s : State) (f : Jtag → Jtag) : (State.setJtag s f).fill = s.fill := (rfl)
@[simp] theorem State.setJtag_epoch (s : State) (f : Jtag → Jtag) : (State.setJtag s f).epoch = s.epoch := (rfl)
@[simp] theorem State.setJtag_haltN (s : State) (f : Jtag → Jtag) : (State.setJtag s f).haltN = s.haltN := (rfl)
@[simp] theorem State.setJtag_ang (s : State) (f : Jtag → Jtag) : (State.setJtag s f).ang = s.ang := (rfl)
@[simp] theorem State.setJtag_evt (s : State) (f : Jtag → Jtag) : (State.setJtag s f).evt = s.evt := (rfl)
@[simp] theorem State.setJtag_fab (s : State) (f : Jtag → Jtag) : (State.setJtag s f).fab = s.fab := (rfl)
@[simp] theorem State.setJtag_lgr (s : State) (f : Jtag → Jtag) : (State.setJtag s f).lgr = s.lgr := (rfl)
@[simp] theorem State.setJtag_mt (s : State) (f : Jtag → Jtag) : (State.setJtag s f).mt = s.mt := (rfl)
@[simp] theorem State.setJtag_hbm (s : State) (f : Jtag → Jtag) : (State.setJtag s f).hbm = s.hbm := (rfl)
@[simp] theorem State.setJtag_noc (s : State) (f : Jtag → Jtag) : (State.setJtag s f).noc = s.noc := (rfl)
@[simp] theorem State.setJtag_lanes (s : State) (f : Jtag → Jtag) : (State.setJtag s f).lanes = s.lanes := (rfl)
@[simp] theorem State.setJtag_vsm (s : State) (f : Jtag → Jtag) : (State.setJtag s f).vsm = s.vsm := (rfl)
@[simp] theorem State.setJtag_sec (s : State) (f : Jtag → Jtag) : (State.setJtag s f).sec = s.sec := (rfl)
@[simp] theorem State.setJtag_cfg (s : State) (f : Jtag → Jtag) : (State.setJtag s f).cfg = s.cfg := (rfl)
@[simp] theorem State.setJtag_twin (s : State) (f : Jtag → Jtag) : (State.setJtag s f).twin = s.twin := (rfl)
@[simp] theorem State.setJtag_xbar (s : State) (f : Jtag → Jtag) : (State.setJtag s f).xbar = s.xbar := (rfl)
@[simp] theorem State.setJtag_per (s : State) (f : Jtag → Jtag) : (State.setJtag s f).per = s.per := (rfl)
@[simp] theorem State.setJtag_rst (s : State) (f : Jtag → Jtag) : (State.setJtag s f).rst = s.rst := (rfl)
@[simp] theorem State.setJtag_pwr (s : State) (f : Jtag → Jtag) : (State.setJtag s f).pwr = s.pwr := (rfl)
@[simp] theorem State.setJtag_start (s : State) (f : Jtag → Jtag) : (State.setJtag s f).start = s.start := (rfl)
@[simp] theorem State.setJtag_age (s : State) (f : Jtag → Jtag) : (State.setJtag s f).age = s.age := (rfl)
@[simp] theorem State.setJtag_usb (s : State) (f : Jtag → Jtag) : (State.setJtag s f).usb = s.usb := (rfl)
@[simp] theorem State.setJtag_pending (s : State) (f : Jtag → Jtag) : (State.setJtag s f).pending = s.pending := (rfl)
@[simp] theorem State.setJtag_rw (s : State) (f : Jtag → Jtag) (reg : Nat) : (State.setJtag s f).rw reg = s.rw reg := (rfl)
@[simp] theorem State.setJtag_g (s : State) (f : Jtag → Jtag) (field : Field) : (State.setJtag s f).g field = s.g field := (rfl)
@[simp] theorem State.setJtag_on (s : State) (f : Jtag → Jtag) (field : Field) : (State.setJtag s f).on field = s.on field := (rfl)
@[simp] theorem State.setJtag_bit (s : State) (f : Jtag → Jtag) (field : Field) (j : Nat) : (State.setJtag s f).bit field j = s.bit field j := (rfl)
@[simp] theorem State.setJtag_byte (s : State) (f : Jtag → Jtag) (addr : Nat) : (State.setJtag s f).byte addr = s.byte addr := (rfl)

@[simp] theorem State.answerWith_csr (s : State) (status : Nat) (data : List Byte) : (State.answerWith s status data).csr = s.csr := (rfl)
@[simp] theorem State.answerWith_freeCtr (s : State) (status : Nat) (data : List Byte) : (State.answerWith s status data).freeCtr = s.freeCtr := (rfl)
@[simp] theorem State.answerWith_tick (s : State) (status : Nat) (data : List Byte) : (State.answerWith s status data).tick = s.tick := (rfl)
@[simp] theorem State.answerWith_xtick (s : State) (status : Nat) (data : List Byte) : (State.answerWith s status data).xtick = s.xtick := (rfl)
@[simp] theorem State.answerWith_rtc (s : State) (status : Nat) (data : List Byte) : (State.answerWith s status data).rtc = s.rtc := (rfl)
@[simp] theorem State.answerWith_msixSeen (s : State) (status : Nat) (data : List Byte) : (State.answerWith s status data).msixSeen = s.msixSeen := (rfl)
@[simp] theorem State.answerWith_msixSent (s : State) (status : Nat) (data : List Byte) : (State.answerWith s status data).msixSent = s.msixSent := (rfl)
@[simp] theorem State.answerWith_faultLog (s : State) (status : Nat) (data : List Byte) : (State.answerWith s status data).faultLog = s.faultLog := (rfl)
@[simp] theorem State.answerWith_mem (s : State) (status : Nat) (data : List Byte) : (State.answerWith s status data).mem = s.mem := (rfl)
@[simp] theorem State.answerWith_fill (s : State) (status : Nat) (data : List Byte) : (State.answerWith s status data).fill = s.fill := (rfl)
@[simp] theorem State.answerWith_epoch (s : State) (status : Nat) (data : List Byte) : (State.answerWith s status data).epoch = s.epoch := (rfl)
@[simp] theorem State.answerWith_haltN (s : State) (status : Nat) (data : List Byte) : (State.answerWith s status data).haltN = s.haltN := (rfl)
@[simp] theorem State.answerWith_ang (s : State) (status : Nat) (data : List Byte) : (State.answerWith s status data).ang = s.ang := (rfl)
@[simp] theorem State.answerWith_evt (s : State) (status : Nat) (data : List Byte) : (State.answerWith s status data).evt = s.evt := (rfl)
@[simp] theorem State.answerWith_fab (s : State) (status : Nat) (data : List Byte) : (State.answerWith s status data).fab = s.fab := (rfl)
@[simp] theorem State.answerWith_lgr (s : State) (status : Nat) (data : List Byte) : (State.answerWith s status data).lgr = s.lgr := (rfl)
@[simp] theorem State.answerWith_mt (s : State) (status : Nat) (data : List Byte) : (State.answerWith s status data).mt = s.mt := (rfl)
@[simp] theorem State.answerWith_hbm (s : State) (status : Nat) (data : List Byte) : (State.answerWith s status data).hbm = s.hbm := (rfl)
@[simp] theorem State.answerWith_noc (s : State) (status : Nat) (data : List Byte) : (State.answerWith s status data).noc = s.noc := (rfl)
@[simp] theorem State.answerWith_lanes (s : State) (status : Nat) (data : List Byte) : (State.answerWith s status data).lanes = s.lanes := (rfl)
@[simp] theorem State.answerWith_vsm (s : State) (status : Nat) (data : List Byte) : (State.answerWith s status data).vsm = s.vsm := (rfl)
@[simp] theorem State.answerWith_sec (s : State) (status : Nat) (data : List Byte) : (State.answerWith s status data).sec = s.sec := (rfl)
@[simp] theorem State.answerWith_cfg (s : State) (status : Nat) (data : List Byte) : (State.answerWith s status data).cfg = s.cfg := (rfl)
@[simp] theorem State.answerWith_twin (s : State) (status : Nat) (data : List Byte) : (State.answerWith s status data).twin = s.twin := (rfl)
@[simp] theorem State.answerWith_xbar (s : State) (status : Nat) (data : List Byte) : (State.answerWith s status data).xbar = s.xbar := (rfl)
@[simp] theorem State.answerWith_per (s : State) (status : Nat) (data : List Byte) : (State.answerWith s status data).per = s.per := (rfl)
@[simp] theorem State.answerWith_jtag (s : State) (status : Nat) (data : List Byte) : (State.answerWith s status data).jtag = s.jtag := (rfl)
@[simp] theorem State.answerWith_rst (s : State) (status : Nat) (data : List Byte) : (State.answerWith s status data).rst = s.rst := (rfl)
@[simp] theorem State.answerWith_pwr (s : State) (status : Nat) (data : List Byte) : (State.answerWith s status data).pwr = s.pwr := (rfl)
@[simp] theorem State.answerWith_start (s : State) (status : Nat) (data : List Byte) : (State.answerWith s status data).start = s.start := (rfl)
@[simp] theorem State.answerWith_age (s : State) (status : Nat) (data : List Byte) : (State.answerWith s status data).age = s.age := (rfl)
@[simp] theorem State.answerWith_usb (s : State) (status : Nat) (data : List Byte) : (State.answerWith s status data).usb = s.usb := (rfl)
@[simp] theorem State.answerWith_pending (s : State) (status : Nat) (data : List Byte) : (State.answerWith s status data).pending = s.pending := (rfl)
@[simp] theorem State.answerWith_rw (s : State) (status : Nat) (data : List Byte) (reg : Nat) : (State.answerWith s status data).rw reg = s.rw reg := (rfl)
@[simp] theorem State.answerWith_g (s : State) (status : Nat) (data : List Byte) (field : Field) : (State.answerWith s status data).g field = s.g field := (rfl)
@[simp] theorem State.answerWith_on (s : State) (status : Nat) (data : List Byte) (field : Field) : (State.answerWith s status data).on field = s.on field := (rfl)
@[simp] theorem State.answerWith_bit (s : State) (status : Nat) (data : List Byte) (field : Field) (j : Nat) : (State.answerWith s status data).bit field j = s.bit field j := (rfl)
@[simp] theorem State.answerWith_byte (s : State) (status : Nat) (data : List Byte) (addr : Nat) : (State.answerWith s status data).byte addr = s.byte addr := (rfl)

@[simp] theorem State.report_csr (s : State) (e : FaultNote) : (State.report s e).csr = s.csr := (rfl)
@[simp] theorem State.report_freeCtr (s : State) (e : FaultNote) : (State.report s e).freeCtr = s.freeCtr := (rfl)
@[simp] theorem State.report_tick (s : State) (e : FaultNote) : (State.report s e).tick = s.tick := (rfl)
@[simp] theorem State.report_xtick (s : State) (e : FaultNote) : (State.report s e).xtick = s.xtick := (rfl)
@[simp] theorem State.report_rtc (s : State) (e : FaultNote) : (State.report s e).rtc = s.rtc := (rfl)
@[simp] theorem State.report_resp (s : State) (e : FaultNote) : (State.report s e).resp = s.resp := (rfl)
@[simp] theorem State.report_msixSeen (s : State) (e : FaultNote) : (State.report s e).msixSeen = s.msixSeen := (rfl)
@[simp] theorem State.report_msixSent (s : State) (e : FaultNote) : (State.report s e).msixSent = s.msixSent := (rfl)
@[simp] theorem State.report_mem (s : State) (e : FaultNote) : (State.report s e).mem = s.mem := (rfl)
@[simp] theorem State.report_fill (s : State) (e : FaultNote) : (State.report s e).fill = s.fill := (rfl)
@[simp] theorem State.report_epoch (s : State) (e : FaultNote) : (State.report s e).epoch = s.epoch := (rfl)
@[simp] theorem State.report_haltN (s : State) (e : FaultNote) : (State.report s e).haltN = s.haltN := (rfl)
@[simp] theorem State.report_ang (s : State) (e : FaultNote) : (State.report s e).ang = s.ang := (rfl)
@[simp] theorem State.report_evt (s : State) (e : FaultNote) : (State.report s e).evt = s.evt := (rfl)
@[simp] theorem State.report_fab (s : State) (e : FaultNote) : (State.report s e).fab = s.fab := (rfl)
@[simp] theorem State.report_lgr (s : State) (e : FaultNote) : (State.report s e).lgr = s.lgr := (rfl)
@[simp] theorem State.report_mt (s : State) (e : FaultNote) : (State.report s e).mt = s.mt := (rfl)
@[simp] theorem State.report_hbm (s : State) (e : FaultNote) : (State.report s e).hbm = s.hbm := (rfl)
@[simp] theorem State.report_noc (s : State) (e : FaultNote) : (State.report s e).noc = s.noc := (rfl)
@[simp] theorem State.report_lanes (s : State) (e : FaultNote) : (State.report s e).lanes = s.lanes := (rfl)
@[simp] theorem State.report_vsm (s : State) (e : FaultNote) : (State.report s e).vsm = s.vsm := (rfl)
@[simp] theorem State.report_sec (s : State) (e : FaultNote) : (State.report s e).sec = s.sec := (rfl)
@[simp] theorem State.report_cfg (s : State) (e : FaultNote) : (State.report s e).cfg = s.cfg := (rfl)
@[simp] theorem State.report_twin (s : State) (e : FaultNote) : (State.report s e).twin = s.twin := (rfl)
@[simp] theorem State.report_xbar (s : State) (e : FaultNote) : (State.report s e).xbar = s.xbar := (rfl)
@[simp] theorem State.report_per (s : State) (e : FaultNote) : (State.report s e).per = s.per := (rfl)
@[simp] theorem State.report_jtag (s : State) (e : FaultNote) : (State.report s e).jtag = s.jtag := (rfl)
@[simp] theorem State.report_rst (s : State) (e : FaultNote) : (State.report s e).rst = s.rst := (rfl)
@[simp] theorem State.report_pwr (s : State) (e : FaultNote) : (State.report s e).pwr = s.pwr := (rfl)
@[simp] theorem State.report_start (s : State) (e : FaultNote) : (State.report s e).start = s.start := (rfl)
@[simp] theorem State.report_age (s : State) (e : FaultNote) : (State.report s e).age = s.age := (rfl)
@[simp] theorem State.report_usb (s : State) (e : FaultNote) : (State.report s e).usb = s.usb := (rfl)
@[simp] theorem State.report_pending (s : State) (e : FaultNote) : (State.report s e).pending = s.pending := (rfl)
@[simp] theorem State.report_rw (s : State) (e : FaultNote) (reg : Nat) : (State.report s e).rw reg = s.rw reg := (rfl)
@[simp] theorem State.report_g (s : State) (e : FaultNote) (field : Field) : (State.report s e).g field = s.g field := (rfl)
@[simp] theorem State.report_on (s : State) (e : FaultNote) (field : Field) : (State.report s e).on field = s.on field := (rfl)
@[simp] theorem State.report_bit (s : State) (e : FaultNote) (field : Field) (j : Nat) : (State.report s e).bit field j = s.bit field j := (rfl)
@[simp] theorem State.report_byte (s : State) (e : FaultNote) (addr : Nat) : (State.report s e).byte addr = s.byte addr := (rfl)

@[simp] theorem State.signal_csr (s : State) : (State.signal s).csr = s.csr := (rfl)
@[simp] theorem State.signal_freeCtr (s : State) : (State.signal s).freeCtr = s.freeCtr := (rfl)
@[simp] theorem State.signal_tick (s : State) : (State.signal s).tick = s.tick := (rfl)
@[simp] theorem State.signal_xtick (s : State) : (State.signal s).xtick = s.xtick := (rfl)
@[simp] theorem State.signal_rtc (s : State) : (State.signal s).rtc = s.rtc := (rfl)
@[simp] theorem State.signal_resp (s : State) : (State.signal s).resp = s.resp := (rfl)
@[simp] theorem State.signal_faultLog (s : State) : (State.signal s).faultLog = s.faultLog := (rfl)
@[simp] theorem State.signal_mem (s : State) : (State.signal s).mem = s.mem := (rfl)
@[simp] theorem State.signal_fill (s : State) : (State.signal s).fill = s.fill := (rfl)
@[simp] theorem State.signal_epoch (s : State) : (State.signal s).epoch = s.epoch := (rfl)
@[simp] theorem State.signal_haltN (s : State) : (State.signal s).haltN = s.haltN := (rfl)
@[simp] theorem State.signal_ang (s : State) : (State.signal s).ang = s.ang := (rfl)
@[simp] theorem State.signal_evt (s : State) : (State.signal s).evt = s.evt := (rfl)
@[simp] theorem State.signal_fab (s : State) : (State.signal s).fab = s.fab := (rfl)
@[simp] theorem State.signal_lgr (s : State) : (State.signal s).lgr = s.lgr := (rfl)
@[simp] theorem State.signal_mt (s : State) : (State.signal s).mt = s.mt := (rfl)
@[simp] theorem State.signal_hbm (s : State) : (State.signal s).hbm = s.hbm := (rfl)
@[simp] theorem State.signal_noc (s : State) : (State.signal s).noc = s.noc := (rfl)
@[simp] theorem State.signal_lanes (s : State) : (State.signal s).lanes = s.lanes := (rfl)
@[simp] theorem State.signal_vsm (s : State) : (State.signal s).vsm = s.vsm := (rfl)
@[simp] theorem State.signal_sec (s : State) : (State.signal s).sec = s.sec := (rfl)
@[simp] theorem State.signal_cfg (s : State) : (State.signal s).cfg = s.cfg := (rfl)
@[simp] theorem State.signal_twin (s : State) : (State.signal s).twin = s.twin := (rfl)
@[simp] theorem State.signal_xbar (s : State) : (State.signal s).xbar = s.xbar := (rfl)
@[simp] theorem State.signal_per (s : State) : (State.signal s).per = s.per := (rfl)
@[simp] theorem State.signal_jtag (s : State) : (State.signal s).jtag = s.jtag := (rfl)
@[simp] theorem State.signal_rst (s : State) : (State.signal s).rst = s.rst := (rfl)
@[simp] theorem State.signal_pwr (s : State) : (State.signal s).pwr = s.pwr := (rfl)
@[simp] theorem State.signal_start (s : State) : (State.signal s).start = s.start := (rfl)
@[simp] theorem State.signal_age (s : State) : (State.signal s).age = s.age := (rfl)
@[simp] theorem State.signal_usb (s : State) : (State.signal s).usb = s.usb := (rfl)
@[simp] theorem State.signal_pending (s : State) : (State.signal s).pending = s.pending := (rfl)
@[simp] theorem State.signal_rw (s : State) (reg : Nat) : (State.signal s).rw reg = s.rw reg := (rfl)
@[simp] theorem State.signal_g (s : State) (field : Field) : (State.signal s).g field = s.g field := (rfl)
@[simp] theorem State.signal_on (s : State) (field : Field) : (State.signal s).on field = s.on field := (rfl)
@[simp] theorem State.signal_bit (s : State) (field : Field) (j : Nat) : (State.signal s).bit field j = s.bit field j := (rfl)
@[simp] theorem State.signal_byte (s : State) (addr : Nat) : (State.signal s).byte addr = s.byte addr := (rfl)

@[simp] theorem State.setPwr_csr (s : State) (f : Pwr → Pwr) : (State.setPwr s f).csr = s.csr := (rfl)
@[simp] theorem State.setPwr_freeCtr (s : State) (f : Pwr → Pwr) : (State.setPwr s f).freeCtr = s.freeCtr := (rfl)
@[simp] theorem State.setPwr_tick (s : State) (f : Pwr → Pwr) : (State.setPwr s f).tick = s.tick := (rfl)
@[simp] theorem State.setPwr_xtick (s : State) (f : Pwr → Pwr) : (State.setPwr s f).xtick = s.xtick := (rfl)
@[simp] theorem State.setPwr_rtc (s : State) (f : Pwr → Pwr) : (State.setPwr s f).rtc = s.rtc := (rfl)
@[simp] theorem State.setPwr_resp (s : State) (f : Pwr → Pwr) : (State.setPwr s f).resp = s.resp := (rfl)
@[simp] theorem State.setPwr_msixSeen (s : State) (f : Pwr → Pwr) : (State.setPwr s f).msixSeen = s.msixSeen := (rfl)
@[simp] theorem State.setPwr_msixSent (s : State) (f : Pwr → Pwr) : (State.setPwr s f).msixSent = s.msixSent := (rfl)
@[simp] theorem State.setPwr_faultLog (s : State) (f : Pwr → Pwr) : (State.setPwr s f).faultLog = s.faultLog := (rfl)
@[simp] theorem State.setPwr_mem (s : State) (f : Pwr → Pwr) : (State.setPwr s f).mem = s.mem := (rfl)
@[simp] theorem State.setPwr_fill (s : State) (f : Pwr → Pwr) : (State.setPwr s f).fill = s.fill := (rfl)
@[simp] theorem State.setPwr_epoch (s : State) (f : Pwr → Pwr) : (State.setPwr s f).epoch = s.epoch := (rfl)
@[simp] theorem State.setPwr_haltN (s : State) (f : Pwr → Pwr) : (State.setPwr s f).haltN = s.haltN := (rfl)
@[simp] theorem State.setPwr_ang (s : State) (f : Pwr → Pwr) : (State.setPwr s f).ang = s.ang := (rfl)
@[simp] theorem State.setPwr_evt (s : State) (f : Pwr → Pwr) : (State.setPwr s f).evt = s.evt := (rfl)
@[simp] theorem State.setPwr_fab (s : State) (f : Pwr → Pwr) : (State.setPwr s f).fab = s.fab := (rfl)
@[simp] theorem State.setPwr_lgr (s : State) (f : Pwr → Pwr) : (State.setPwr s f).lgr = s.lgr := (rfl)
@[simp] theorem State.setPwr_mt (s : State) (f : Pwr → Pwr) : (State.setPwr s f).mt = s.mt := (rfl)
@[simp] theorem State.setPwr_hbm (s : State) (f : Pwr → Pwr) : (State.setPwr s f).hbm = s.hbm := (rfl)
@[simp] theorem State.setPwr_noc (s : State) (f : Pwr → Pwr) : (State.setPwr s f).noc = s.noc := (rfl)
@[simp] theorem State.setPwr_lanes (s : State) (f : Pwr → Pwr) : (State.setPwr s f).lanes = s.lanes := (rfl)
@[simp] theorem State.setPwr_vsm (s : State) (f : Pwr → Pwr) : (State.setPwr s f).vsm = s.vsm := (rfl)
@[simp] theorem State.setPwr_sec (s : State) (f : Pwr → Pwr) : (State.setPwr s f).sec = s.sec := (rfl)
@[simp] theorem State.setPwr_cfg (s : State) (f : Pwr → Pwr) : (State.setPwr s f).cfg = s.cfg := (rfl)
@[simp] theorem State.setPwr_twin (s : State) (f : Pwr → Pwr) : (State.setPwr s f).twin = s.twin := (rfl)
@[simp] theorem State.setPwr_xbar (s : State) (f : Pwr → Pwr) : (State.setPwr s f).xbar = s.xbar := (rfl)
@[simp] theorem State.setPwr_per (s : State) (f : Pwr → Pwr) : (State.setPwr s f).per = s.per := (rfl)
@[simp] theorem State.setPwr_jtag (s : State) (f : Pwr → Pwr) : (State.setPwr s f).jtag = s.jtag := (rfl)
@[simp] theorem State.setPwr_rst (s : State) (f : Pwr → Pwr) : (State.setPwr s f).rst = s.rst := (rfl)
@[simp] theorem State.setPwr_start (s : State) (f : Pwr → Pwr) : (State.setPwr s f).start = s.start := (rfl)
@[simp] theorem State.setPwr_age (s : State) (f : Pwr → Pwr) : (State.setPwr s f).age = s.age := (rfl)
@[simp] theorem State.setPwr_usb (s : State) (f : Pwr → Pwr) : (State.setPwr s f).usb = s.usb := (rfl)
@[simp] theorem State.setPwr_pending (s : State) (f : Pwr → Pwr) : (State.setPwr s f).pending = s.pending := (rfl)
@[simp] theorem State.setPwr_rw (s : State) (f : Pwr → Pwr) (reg : Nat) : (State.setPwr s f).rw reg = s.rw reg := (rfl)
@[simp] theorem State.setPwr_g (s : State) (f : Pwr → Pwr) (field : Field) : (State.setPwr s f).g field = s.g field := (rfl)
@[simp] theorem State.setPwr_on (s : State) (f : Pwr → Pwr) (field : Field) : (State.setPwr s f).on field = s.on field := (rfl)
@[simp] theorem State.setPwr_bit (s : State) (f : Pwr → Pwr) (field : Field) (j : Nat) : (State.setPwr s f).bit field j = s.bit field j := (rfl)
@[simp] theorem State.setPwr_byte (s : State) (f : Pwr → Pwr) (addr : Nat) : (State.setPwr s f).byte addr = s.byte addr := (rfl)

@[simp] theorem State.setForce_csr (s : State) (a : Nat) (v : Word) : (State.setForce s a v).csr = s.csr := (rfl)
@[simp] theorem State.setForce_freeCtr (s : State) (a : Nat) (v : Word) : (State.setForce s a v).freeCtr = s.freeCtr := (rfl)
@[simp] theorem State.setForce_tick (s : State) (a : Nat) (v : Word) : (State.setForce s a v).tick = s.tick := (rfl)
@[simp] theorem State.setForce_xtick (s : State) (a : Nat) (v : Word) : (State.setForce s a v).xtick = s.xtick := (rfl)
@[simp] theorem State.setForce_rtc (s : State) (a : Nat) (v : Word) : (State.setForce s a v).rtc = s.rtc := (rfl)
@[simp] theorem State.setForce_resp (s : State) (a : Nat) (v : Word) : (State.setForce s a v).resp = s.resp := (rfl)
@[simp] theorem State.setForce_msixSeen (s : State) (a : Nat) (v : Word) : (State.setForce s a v).msixSeen = s.msixSeen := (rfl)
@[simp] theorem State.setForce_msixSent (s : State) (a : Nat) (v : Word) : (State.setForce s a v).msixSent = s.msixSent := (rfl)
@[simp] theorem State.setForce_faultLog (s : State) (a : Nat) (v : Word) : (State.setForce s a v).faultLog = s.faultLog := (rfl)
@[simp] theorem State.setForce_mem (s : State) (a : Nat) (v : Word) : (State.setForce s a v).mem = s.mem := (rfl)
@[simp] theorem State.setForce_fill (s : State) (a : Nat) (v : Word) : (State.setForce s a v).fill = s.fill := (rfl)
@[simp] theorem State.setForce_epoch (s : State) (a : Nat) (v : Word) : (State.setForce s a v).epoch = s.epoch := (rfl)
@[simp] theorem State.setForce_haltN (s : State) (a : Nat) (v : Word) : (State.setForce s a v).haltN = s.haltN := (rfl)
@[simp] theorem State.setForce_ang (s : State) (a : Nat) (v : Word) : (State.setForce s a v).ang = s.ang := (rfl)
@[simp] theorem State.setForce_fab (s : State) (a : Nat) (v : Word) : (State.setForce s a v).fab = s.fab := (rfl)
@[simp] theorem State.setForce_lgr (s : State) (a : Nat) (v : Word) : (State.setForce s a v).lgr = s.lgr := (rfl)
@[simp] theorem State.setForce_mt (s : State) (a : Nat) (v : Word) : (State.setForce s a v).mt = s.mt := (rfl)
@[simp] theorem State.setForce_hbm (s : State) (a : Nat) (v : Word) : (State.setForce s a v).hbm = s.hbm := (rfl)
@[simp] theorem State.setForce_noc (s : State) (a : Nat) (v : Word) : (State.setForce s a v).noc = s.noc := (rfl)
@[simp] theorem State.setForce_lanes (s : State) (a : Nat) (v : Word) : (State.setForce s a v).lanes = s.lanes := (rfl)
@[simp] theorem State.setForce_vsm (s : State) (a : Nat) (v : Word) : (State.setForce s a v).vsm = s.vsm := (rfl)
@[simp] theorem State.setForce_sec (s : State) (a : Nat) (v : Word) : (State.setForce s a v).sec = s.sec := (rfl)
@[simp] theorem State.setForce_cfg (s : State) (a : Nat) (v : Word) : (State.setForce s a v).cfg = s.cfg := (rfl)
@[simp] theorem State.setForce_twin (s : State) (a : Nat) (v : Word) : (State.setForce s a v).twin = s.twin := (rfl)
@[simp] theorem State.setForce_xbar (s : State) (a : Nat) (v : Word) : (State.setForce s a v).xbar = s.xbar := (rfl)
@[simp] theorem State.setForce_per (s : State) (a : Nat) (v : Word) : (State.setForce s a v).per = s.per := (rfl)
@[simp] theorem State.setForce_jtag (s : State) (a : Nat) (v : Word) : (State.setForce s a v).jtag = s.jtag := (rfl)
@[simp] theorem State.setForce_rst (s : State) (a : Nat) (v : Word) : (State.setForce s a v).rst = s.rst := (rfl)
@[simp] theorem State.setForce_pwr (s : State) (a : Nat) (v : Word) : (State.setForce s a v).pwr = s.pwr := (rfl)
@[simp] theorem State.setForce_start (s : State) (a : Nat) (v : Word) : (State.setForce s a v).start = s.start := (rfl)
@[simp] theorem State.setForce_age (s : State) (a : Nat) (v : Word) : (State.setForce s a v).age = s.age := (rfl)
@[simp] theorem State.setForce_usb (s : State) (a : Nat) (v : Word) : (State.setForce s a v).usb = s.usb := (rfl)
@[simp] theorem State.setForce_pending (s : State) (a : Nat) (v : Word) : (State.setForce s a v).pending = s.pending := (rfl)
@[simp] theorem State.setForce_rw (s : State) (a : Nat) (v : Word) (reg : Nat) : (State.setForce s a v).rw reg = s.rw reg := (rfl)
@[simp] theorem State.setForce_g (s : State) (a : Nat) (v : Word) (field : Field) : (State.setForce s a v).g field = s.g field := (rfl)
@[simp] theorem State.setForce_on (s : State) (a : Nat) (v : Word) (field : Field) : (State.setForce s a v).on field = s.on field := (rfl)
@[simp] theorem State.setForce_bit (s : State) (a : Nat) (v : Word) (field : Field) (j : Nat) : (State.setForce s a v).bit field j = s.bit field j := (rfl)
@[simp] theorem State.setForce_byte (s : State) (a : Nat) (v : Word) (addr : Nat) : (State.setForce s a v).byte addr = s.byte addr := (rfl)

@[simp] theorem State.setCmp_csr (s : State) (n : Nat) (t : Target) : (State.setCmp s n t).csr = s.csr := (rfl)
@[simp] theorem State.setCmp_freeCtr (s : State) (n : Nat) (t : Target) : (State.setCmp s n t).freeCtr = s.freeCtr := (rfl)
@[simp] theorem State.setCmp_tick (s : State) (n : Nat) (t : Target) : (State.setCmp s n t).tick = s.tick := (rfl)
@[simp] theorem State.setCmp_xtick (s : State) (n : Nat) (t : Target) : (State.setCmp s n t).xtick = s.xtick := (rfl)
@[simp] theorem State.setCmp_rtc (s : State) (n : Nat) (t : Target) : (State.setCmp s n t).rtc = s.rtc := (rfl)
@[simp] theorem State.setCmp_resp (s : State) (n : Nat) (t : Target) : (State.setCmp s n t).resp = s.resp := (rfl)
@[simp] theorem State.setCmp_msixSeen (s : State) (n : Nat) (t : Target) : (State.setCmp s n t).msixSeen = s.msixSeen := (rfl)
@[simp] theorem State.setCmp_msixSent (s : State) (n : Nat) (t : Target) : (State.setCmp s n t).msixSent = s.msixSent := (rfl)
@[simp] theorem State.setCmp_faultLog (s : State) (n : Nat) (t : Target) : (State.setCmp s n t).faultLog = s.faultLog := (rfl)
@[simp] theorem State.setCmp_mem (s : State) (n : Nat) (t : Target) : (State.setCmp s n t).mem = s.mem := (rfl)
@[simp] theorem State.setCmp_fill (s : State) (n : Nat) (t : Target) : (State.setCmp s n t).fill = s.fill := (rfl)
@[simp] theorem State.setCmp_epoch (s : State) (n : Nat) (t : Target) : (State.setCmp s n t).epoch = s.epoch := (rfl)
@[simp] theorem State.setCmp_haltN (s : State) (n : Nat) (t : Target) : (State.setCmp s n t).haltN = s.haltN := (rfl)
@[simp] theorem State.setCmp_ang (s : State) (n : Nat) (t : Target) : (State.setCmp s n t).ang = s.ang := (rfl)
@[simp] theorem State.setCmp_fab (s : State) (n : Nat) (t : Target) : (State.setCmp s n t).fab = s.fab := (rfl)
@[simp] theorem State.setCmp_lgr (s : State) (n : Nat) (t : Target) : (State.setCmp s n t).lgr = s.lgr := (rfl)
@[simp] theorem State.setCmp_mt (s : State) (n : Nat) (t : Target) : (State.setCmp s n t).mt = s.mt := (rfl)
@[simp] theorem State.setCmp_hbm (s : State) (n : Nat) (t : Target) : (State.setCmp s n t).hbm = s.hbm := (rfl)
@[simp] theorem State.setCmp_noc (s : State) (n : Nat) (t : Target) : (State.setCmp s n t).noc = s.noc := (rfl)
@[simp] theorem State.setCmp_lanes (s : State) (n : Nat) (t : Target) : (State.setCmp s n t).lanes = s.lanes := (rfl)
@[simp] theorem State.setCmp_vsm (s : State) (n : Nat) (t : Target) : (State.setCmp s n t).vsm = s.vsm := (rfl)
@[simp] theorem State.setCmp_sec (s : State) (n : Nat) (t : Target) : (State.setCmp s n t).sec = s.sec := (rfl)
@[simp] theorem State.setCmp_cfg (s : State) (n : Nat) (t : Target) : (State.setCmp s n t).cfg = s.cfg := (rfl)
@[simp] theorem State.setCmp_twin (s : State) (n : Nat) (t : Target) : (State.setCmp s n t).twin = s.twin := (rfl)
@[simp] theorem State.setCmp_xbar (s : State) (n : Nat) (t : Target) : (State.setCmp s n t).xbar = s.xbar := (rfl)
@[simp] theorem State.setCmp_per (s : State) (n : Nat) (t : Target) : (State.setCmp s n t).per = s.per := (rfl)
@[simp] theorem State.setCmp_jtag (s : State) (n : Nat) (t : Target) : (State.setCmp s n t).jtag = s.jtag := (rfl)
@[simp] theorem State.setCmp_rst (s : State) (n : Nat) (t : Target) : (State.setCmp s n t).rst = s.rst := (rfl)
@[simp] theorem State.setCmp_pwr (s : State) (n : Nat) (t : Target) : (State.setCmp s n t).pwr = s.pwr := (rfl)
@[simp] theorem State.setCmp_start (s : State) (n : Nat) (t : Target) : (State.setCmp s n t).start = s.start := (rfl)
@[simp] theorem State.setCmp_age (s : State) (n : Nat) (t : Target) : (State.setCmp s n t).age = s.age := (rfl)
@[simp] theorem State.setCmp_usb (s : State) (n : Nat) (t : Target) : (State.setCmp s n t).usb = s.usb := (rfl)
@[simp] theorem State.setCmp_pending (s : State) (n : Nat) (t : Target) : (State.setCmp s n t).pending = s.pending := (rfl)
@[simp] theorem State.setCmp_rw (s : State) (n : Nat) (t : Target) (reg : Nat) : (State.setCmp s n t).rw reg = s.rw reg := (rfl)
@[simp] theorem State.setCmp_g (s : State) (n : Nat) (t : Target) (field : Field) : (State.setCmp s n t).g field = s.g field := (rfl)
@[simp] theorem State.setCmp_on (s : State) (n : Nat) (t : Target) (field : Field) : (State.setCmp s n t).on field = s.on field := (rfl)
@[simp] theorem State.setCmp_bit (s : State) (n : Nat) (t : Target) (field : Field) (j : Nat) : (State.setCmp s n t).bit field j = s.bit field j := (rfl)
@[simp] theorem State.setCmp_byte (s : State) (n : Nat) (t : Target) (addr : Nat) : (State.setCmp s n t).byte addr = s.byte addr := (rfl)

@[simp] theorem State.setEdge_csr (s : State) (n : Nat) (e : Edge) : (State.setEdge s n e).csr = s.csr := (rfl)
@[simp] theorem State.setEdge_freeCtr (s : State) (n : Nat) (e : Edge) : (State.setEdge s n e).freeCtr = s.freeCtr := (rfl)
@[simp] theorem State.setEdge_tick (s : State) (n : Nat) (e : Edge) : (State.setEdge s n e).tick = s.tick := (rfl)
@[simp] theorem State.setEdge_xtick (s : State) (n : Nat) (e : Edge) : (State.setEdge s n e).xtick = s.xtick := (rfl)
@[simp] theorem State.setEdge_rtc (s : State) (n : Nat) (e : Edge) : (State.setEdge s n e).rtc = s.rtc := (rfl)
@[simp] theorem State.setEdge_resp (s : State) (n : Nat) (e : Edge) : (State.setEdge s n e).resp = s.resp := (rfl)
@[simp] theorem State.setEdge_msixSeen (s : State) (n : Nat) (e : Edge) : (State.setEdge s n e).msixSeen = s.msixSeen := (rfl)
@[simp] theorem State.setEdge_msixSent (s : State) (n : Nat) (e : Edge) : (State.setEdge s n e).msixSent = s.msixSent := (rfl)
@[simp] theorem State.setEdge_faultLog (s : State) (n : Nat) (e : Edge) : (State.setEdge s n e).faultLog = s.faultLog := (rfl)
@[simp] theorem State.setEdge_mem (s : State) (n : Nat) (e : Edge) : (State.setEdge s n e).mem = s.mem := (rfl)
@[simp] theorem State.setEdge_fill (s : State) (n : Nat) (e : Edge) : (State.setEdge s n e).fill = s.fill := (rfl)
@[simp] theorem State.setEdge_epoch (s : State) (n : Nat) (e : Edge) : (State.setEdge s n e).epoch = s.epoch := (rfl)
@[simp] theorem State.setEdge_haltN (s : State) (n : Nat) (e : Edge) : (State.setEdge s n e).haltN = s.haltN := (rfl)
@[simp] theorem State.setEdge_ang (s : State) (n : Nat) (e : Edge) : (State.setEdge s n e).ang = s.ang := (rfl)
@[simp] theorem State.setEdge_fab (s : State) (n : Nat) (e : Edge) : (State.setEdge s n e).fab = s.fab := (rfl)
@[simp] theorem State.setEdge_lgr (s : State) (n : Nat) (e : Edge) : (State.setEdge s n e).lgr = s.lgr := (rfl)
@[simp] theorem State.setEdge_mt (s : State) (n : Nat) (e : Edge) : (State.setEdge s n e).mt = s.mt := (rfl)
@[simp] theorem State.setEdge_hbm (s : State) (n : Nat) (e : Edge) : (State.setEdge s n e).hbm = s.hbm := (rfl)
@[simp] theorem State.setEdge_noc (s : State) (n : Nat) (e : Edge) : (State.setEdge s n e).noc = s.noc := (rfl)
@[simp] theorem State.setEdge_lanes (s : State) (n : Nat) (e : Edge) : (State.setEdge s n e).lanes = s.lanes := (rfl)
@[simp] theorem State.setEdge_vsm (s : State) (n : Nat) (e : Edge) : (State.setEdge s n e).vsm = s.vsm := (rfl)
@[simp] theorem State.setEdge_sec (s : State) (n : Nat) (e : Edge) : (State.setEdge s n e).sec = s.sec := (rfl)
@[simp] theorem State.setEdge_cfg (s : State) (n : Nat) (e : Edge) : (State.setEdge s n e).cfg = s.cfg := (rfl)
@[simp] theorem State.setEdge_twin (s : State) (n : Nat) (e : Edge) : (State.setEdge s n e).twin = s.twin := (rfl)
@[simp] theorem State.setEdge_xbar (s : State) (n : Nat) (e : Edge) : (State.setEdge s n e).xbar = s.xbar := (rfl)
@[simp] theorem State.setEdge_per (s : State) (n : Nat) (e : Edge) : (State.setEdge s n e).per = s.per := (rfl)
@[simp] theorem State.setEdge_jtag (s : State) (n : Nat) (e : Edge) : (State.setEdge s n e).jtag = s.jtag := (rfl)
@[simp] theorem State.setEdge_rst (s : State) (n : Nat) (e : Edge) : (State.setEdge s n e).rst = s.rst := (rfl)
@[simp] theorem State.setEdge_pwr (s : State) (n : Nat) (e : Edge) : (State.setEdge s n e).pwr = s.pwr := (rfl)
@[simp] theorem State.setEdge_start (s : State) (n : Nat) (e : Edge) : (State.setEdge s n e).start = s.start := (rfl)
@[simp] theorem State.setEdge_age (s : State) (n : Nat) (e : Edge) : (State.setEdge s n e).age = s.age := (rfl)
@[simp] theorem State.setEdge_usb (s : State) (n : Nat) (e : Edge) : (State.setEdge s n e).usb = s.usb := (rfl)
@[simp] theorem State.setEdge_pending (s : State) (n : Nat) (e : Edge) : (State.setEdge s n e).pending = s.pending := (rfl)
@[simp] theorem State.setEdge_rw (s : State) (n : Nat) (e : Edge) (reg : Nat) : (State.setEdge s n e).rw reg = s.rw reg := (rfl)
@[simp] theorem State.setEdge_g (s : State) (n : Nat) (e : Edge) (field : Field) : (State.setEdge s n e).g field = s.g field := (rfl)
@[simp] theorem State.setEdge_on (s : State) (n : Nat) (e : Edge) (field : Field) : (State.setEdge s n e).on field = s.on field := (rfl)
@[simp] theorem State.setEdge_bit (s : State) (n : Nat) (e : Edge) (field : Field) (j : Nat) : (State.setEdge s n e).bit field j = s.bit field j := (rfl)
@[simp] theorem State.setEdge_byte (s : State) (n : Nat) (e : Edge) (addr : Nat) : (State.setEdge s n e).byte addr = s.byte addr := (rfl)

@[simp] theorem State.setCap_csr (s : State) (n : Nat) (c : Capture) : (State.setCap s n c).csr = s.csr := (rfl)
@[simp] theorem State.setCap_freeCtr (s : State) (n : Nat) (c : Capture) : (State.setCap s n c).freeCtr = s.freeCtr := (rfl)
@[simp] theorem State.setCap_tick (s : State) (n : Nat) (c : Capture) : (State.setCap s n c).tick = s.tick := (rfl)
@[simp] theorem State.setCap_xtick (s : State) (n : Nat) (c : Capture) : (State.setCap s n c).xtick = s.xtick := (rfl)
@[simp] theorem State.setCap_rtc (s : State) (n : Nat) (c : Capture) : (State.setCap s n c).rtc = s.rtc := (rfl)
@[simp] theorem State.setCap_resp (s : State) (n : Nat) (c : Capture) : (State.setCap s n c).resp = s.resp := (rfl)
@[simp] theorem State.setCap_msixSeen (s : State) (n : Nat) (c : Capture) : (State.setCap s n c).msixSeen = s.msixSeen := (rfl)
@[simp] theorem State.setCap_msixSent (s : State) (n : Nat) (c : Capture) : (State.setCap s n c).msixSent = s.msixSent := (rfl)
@[simp] theorem State.setCap_faultLog (s : State) (n : Nat) (c : Capture) : (State.setCap s n c).faultLog = s.faultLog := (rfl)
@[simp] theorem State.setCap_mem (s : State) (n : Nat) (c : Capture) : (State.setCap s n c).mem = s.mem := (rfl)
@[simp] theorem State.setCap_fill (s : State) (n : Nat) (c : Capture) : (State.setCap s n c).fill = s.fill := (rfl)
@[simp] theorem State.setCap_epoch (s : State) (n : Nat) (c : Capture) : (State.setCap s n c).epoch = s.epoch := (rfl)
@[simp] theorem State.setCap_haltN (s : State) (n : Nat) (c : Capture) : (State.setCap s n c).haltN = s.haltN := (rfl)
@[simp] theorem State.setCap_ang (s : State) (n : Nat) (c : Capture) : (State.setCap s n c).ang = s.ang := (rfl)
@[simp] theorem State.setCap_fab (s : State) (n : Nat) (c : Capture) : (State.setCap s n c).fab = s.fab := (rfl)
@[simp] theorem State.setCap_lgr (s : State) (n : Nat) (c : Capture) : (State.setCap s n c).lgr = s.lgr := (rfl)
@[simp] theorem State.setCap_mt (s : State) (n : Nat) (c : Capture) : (State.setCap s n c).mt = s.mt := (rfl)
@[simp] theorem State.setCap_hbm (s : State) (n : Nat) (c : Capture) : (State.setCap s n c).hbm = s.hbm := (rfl)
@[simp] theorem State.setCap_noc (s : State) (n : Nat) (c : Capture) : (State.setCap s n c).noc = s.noc := (rfl)
@[simp] theorem State.setCap_lanes (s : State) (n : Nat) (c : Capture) : (State.setCap s n c).lanes = s.lanes := (rfl)
@[simp] theorem State.setCap_vsm (s : State) (n : Nat) (c : Capture) : (State.setCap s n c).vsm = s.vsm := (rfl)
@[simp] theorem State.setCap_sec (s : State) (n : Nat) (c : Capture) : (State.setCap s n c).sec = s.sec := (rfl)
@[simp] theorem State.setCap_cfg (s : State) (n : Nat) (c : Capture) : (State.setCap s n c).cfg = s.cfg := (rfl)
@[simp] theorem State.setCap_twin (s : State) (n : Nat) (c : Capture) : (State.setCap s n c).twin = s.twin := (rfl)
@[simp] theorem State.setCap_xbar (s : State) (n : Nat) (c : Capture) : (State.setCap s n c).xbar = s.xbar := (rfl)
@[simp] theorem State.setCap_per (s : State) (n : Nat) (c : Capture) : (State.setCap s n c).per = s.per := (rfl)
@[simp] theorem State.setCap_jtag (s : State) (n : Nat) (c : Capture) : (State.setCap s n c).jtag = s.jtag := (rfl)
@[simp] theorem State.setCap_rst (s : State) (n : Nat) (c : Capture) : (State.setCap s n c).rst = s.rst := (rfl)
@[simp] theorem State.setCap_pwr (s : State) (n : Nat) (c : Capture) : (State.setCap s n c).pwr = s.pwr := (rfl)
@[simp] theorem State.setCap_start (s : State) (n : Nat) (c : Capture) : (State.setCap s n c).start = s.start := (rfl)
@[simp] theorem State.setCap_age (s : State) (n : Nat) (c : Capture) : (State.setCap s n c).age = s.age := (rfl)
@[simp] theorem State.setCap_usb (s : State) (n : Nat) (c : Capture) : (State.setCap s n c).usb = s.usb := (rfl)
@[simp] theorem State.setCap_pending (s : State) (n : Nat) (c : Capture) : (State.setCap s n c).pending = s.pending := (rfl)
@[simp] theorem State.setCap_rw (s : State) (n : Nat) (c : Capture) (reg : Nat) : (State.setCap s n c).rw reg = s.rw reg := (rfl)
@[simp] theorem State.setCap_g (s : State) (n : Nat) (c : Capture) (field : Field) : (State.setCap s n c).g field = s.g field := (rfl)
@[simp] theorem State.setCap_on (s : State) (n : Nat) (c : Capture) (field : Field) : (State.setCap s n c).on field = s.on field := (rfl)
@[simp] theorem State.setCap_bit (s : State) (n : Nat) (c : Capture) (field : Field) (j : Nat) : (State.setCap s n c).bit field j = s.bit field j := (rfl)
@[simp] theorem State.setCap_byte (s : State) (n : Nat) (c : Capture) (addr : Nat) : (State.setCap s n c).byte addr = s.byte addr := (rfl)

@[simp] theorem State.setXbar_csr (s : State) (f : Xbar → Xbar) : (State.setXbar s f).csr = s.csr := (rfl)
@[simp] theorem State.setXbar_freeCtr (s : State) (f : Xbar → Xbar) : (State.setXbar s f).freeCtr = s.freeCtr := (rfl)
@[simp] theorem State.setXbar_tick (s : State) (f : Xbar → Xbar) : (State.setXbar s f).tick = s.tick := (rfl)
@[simp] theorem State.setXbar_xtick (s : State) (f : Xbar → Xbar) : (State.setXbar s f).xtick = s.xtick := (rfl)
@[simp] theorem State.setXbar_rtc (s : State) (f : Xbar → Xbar) : (State.setXbar s f).rtc = s.rtc := (rfl)
@[simp] theorem State.setXbar_resp (s : State) (f : Xbar → Xbar) : (State.setXbar s f).resp = s.resp := (rfl)
@[simp] theorem State.setXbar_msixSeen (s : State) (f : Xbar → Xbar) : (State.setXbar s f).msixSeen = s.msixSeen := (rfl)
@[simp] theorem State.setXbar_msixSent (s : State) (f : Xbar → Xbar) : (State.setXbar s f).msixSent = s.msixSent := (rfl)
@[simp] theorem State.setXbar_faultLog (s : State) (f : Xbar → Xbar) : (State.setXbar s f).faultLog = s.faultLog := (rfl)
@[simp] theorem State.setXbar_mem (s : State) (f : Xbar → Xbar) : (State.setXbar s f).mem = s.mem := (rfl)
@[simp] theorem State.setXbar_fill (s : State) (f : Xbar → Xbar) : (State.setXbar s f).fill = s.fill := (rfl)
@[simp] theorem State.setXbar_epoch (s : State) (f : Xbar → Xbar) : (State.setXbar s f).epoch = s.epoch := (rfl)
@[simp] theorem State.setXbar_haltN (s : State) (f : Xbar → Xbar) : (State.setXbar s f).haltN = s.haltN := (rfl)
@[simp] theorem State.setXbar_ang (s : State) (f : Xbar → Xbar) : (State.setXbar s f).ang = s.ang := (rfl)
@[simp] theorem State.setXbar_evt (s : State) (f : Xbar → Xbar) : (State.setXbar s f).evt = s.evt := (rfl)
@[simp] theorem State.setXbar_fab (s : State) (f : Xbar → Xbar) : (State.setXbar s f).fab = s.fab := (rfl)
@[simp] theorem State.setXbar_lgr (s : State) (f : Xbar → Xbar) : (State.setXbar s f).lgr = s.lgr := (rfl)
@[simp] theorem State.setXbar_mt (s : State) (f : Xbar → Xbar) : (State.setXbar s f).mt = s.mt := (rfl)
@[simp] theorem State.setXbar_hbm (s : State) (f : Xbar → Xbar) : (State.setXbar s f).hbm = s.hbm := (rfl)
@[simp] theorem State.setXbar_noc (s : State) (f : Xbar → Xbar) : (State.setXbar s f).noc = s.noc := (rfl)
@[simp] theorem State.setXbar_lanes (s : State) (f : Xbar → Xbar) : (State.setXbar s f).lanes = s.lanes := (rfl)
@[simp] theorem State.setXbar_vsm (s : State) (f : Xbar → Xbar) : (State.setXbar s f).vsm = s.vsm := (rfl)
@[simp] theorem State.setXbar_sec (s : State) (f : Xbar → Xbar) : (State.setXbar s f).sec = s.sec := (rfl)
@[simp] theorem State.setXbar_cfg (s : State) (f : Xbar → Xbar) : (State.setXbar s f).cfg = s.cfg := (rfl)
@[simp] theorem State.setXbar_twin (s : State) (f : Xbar → Xbar) : (State.setXbar s f).twin = s.twin := (rfl)
@[simp] theorem State.setXbar_per (s : State) (f : Xbar → Xbar) : (State.setXbar s f).per = s.per := (rfl)
@[simp] theorem State.setXbar_jtag (s : State) (f : Xbar → Xbar) : (State.setXbar s f).jtag = s.jtag := (rfl)
@[simp] theorem State.setXbar_rst (s : State) (f : Xbar → Xbar) : (State.setXbar s f).rst = s.rst := (rfl)
@[simp] theorem State.setXbar_pwr (s : State) (f : Xbar → Xbar) : (State.setXbar s f).pwr = s.pwr := (rfl)
@[simp] theorem State.setXbar_start (s : State) (f : Xbar → Xbar) : (State.setXbar s f).start = s.start := (rfl)
@[simp] theorem State.setXbar_age (s : State) (f : Xbar → Xbar) : (State.setXbar s f).age = s.age := (rfl)
@[simp] theorem State.setXbar_usb (s : State) (f : Xbar → Xbar) : (State.setXbar s f).usb = s.usb := (rfl)
@[simp] theorem State.setXbar_pending (s : State) (f : Xbar → Xbar) : (State.setXbar s f).pending = s.pending := (rfl)
@[simp] theorem State.setXbar_rw (s : State) (f : Xbar → Xbar) (reg : Nat) : (State.setXbar s f).rw reg = s.rw reg := (rfl)
@[simp] theorem State.setXbar_g (s : State) (f : Xbar → Xbar) (field : Field) : (State.setXbar s f).g field = s.g field := (rfl)
@[simp] theorem State.setXbar_on (s : State) (f : Xbar → Xbar) (field : Field) : (State.setXbar s f).on field = s.on field := (rfl)
@[simp] theorem State.setXbar_bit (s : State) (f : Xbar → Xbar) (field : Field) (j : Nat) : (State.setXbar s f).bit field j = s.bit field j := (rfl)
@[simp] theorem State.setXbar_byte (s : State) (f : Xbar → Xbar) (addr : Nat) : (State.setXbar s f).byte addr = s.byte addr := (rfl)

@[simp] theorem State.setAdapter_csr (s : State) (g : Nat) (a : Adapter) : (State.setAdapter s g a).csr = s.csr := (rfl)
@[simp] theorem State.setAdapter_freeCtr (s : State) (g : Nat) (a : Adapter) : (State.setAdapter s g a).freeCtr = s.freeCtr := (rfl)
@[simp] theorem State.setAdapter_tick (s : State) (g : Nat) (a : Adapter) : (State.setAdapter s g a).tick = s.tick := (rfl)
@[simp] theorem State.setAdapter_xtick (s : State) (g : Nat) (a : Adapter) : (State.setAdapter s g a).xtick = s.xtick := (rfl)
@[simp] theorem State.setAdapter_rtc (s : State) (g : Nat) (a : Adapter) : (State.setAdapter s g a).rtc = s.rtc := (rfl)
@[simp] theorem State.setAdapter_resp (s : State) (g : Nat) (a : Adapter) : (State.setAdapter s g a).resp = s.resp := (rfl)
@[simp] theorem State.setAdapter_msixSeen (s : State) (g : Nat) (a : Adapter) : (State.setAdapter s g a).msixSeen = s.msixSeen := (rfl)
@[simp] theorem State.setAdapter_msixSent (s : State) (g : Nat) (a : Adapter) : (State.setAdapter s g a).msixSent = s.msixSent := (rfl)
@[simp] theorem State.setAdapter_faultLog (s : State) (g : Nat) (a : Adapter) : (State.setAdapter s g a).faultLog = s.faultLog := (rfl)
@[simp] theorem State.setAdapter_mem (s : State) (g : Nat) (a : Adapter) : (State.setAdapter s g a).mem = s.mem := (rfl)
@[simp] theorem State.setAdapter_fill (s : State) (g : Nat) (a : Adapter) : (State.setAdapter s g a).fill = s.fill := (rfl)
@[simp] theorem State.setAdapter_epoch (s : State) (g : Nat) (a : Adapter) : (State.setAdapter s g a).epoch = s.epoch := (rfl)
@[simp] theorem State.setAdapter_haltN (s : State) (g : Nat) (a : Adapter) : (State.setAdapter s g a).haltN = s.haltN := (rfl)
@[simp] theorem State.setAdapter_ang (s : State) (g : Nat) (a : Adapter) : (State.setAdapter s g a).ang = s.ang := (rfl)
@[simp] theorem State.setAdapter_evt (s : State) (g : Nat) (a : Adapter) : (State.setAdapter s g a).evt = s.evt := (rfl)
@[simp] theorem State.setAdapter_fab (s : State) (g : Nat) (a : Adapter) : (State.setAdapter s g a).fab = s.fab := (rfl)
@[simp] theorem State.setAdapter_lgr (s : State) (g : Nat) (a : Adapter) : (State.setAdapter s g a).lgr = s.lgr := (rfl)
@[simp] theorem State.setAdapter_mt (s : State) (g : Nat) (a : Adapter) : (State.setAdapter s g a).mt = s.mt := (rfl)
@[simp] theorem State.setAdapter_hbm (s : State) (g : Nat) (a : Adapter) : (State.setAdapter s g a).hbm = s.hbm := (rfl)
@[simp] theorem State.setAdapter_lanes (s : State) (g : Nat) (a : Adapter) : (State.setAdapter s g a).lanes = s.lanes := (rfl)
@[simp] theorem State.setAdapter_vsm (s : State) (g : Nat) (a : Adapter) : (State.setAdapter s g a).vsm = s.vsm := (rfl)
@[simp] theorem State.setAdapter_sec (s : State) (g : Nat) (a : Adapter) : (State.setAdapter s g a).sec = s.sec := (rfl)
@[simp] theorem State.setAdapter_cfg (s : State) (g : Nat) (a : Adapter) : (State.setAdapter s g a).cfg = s.cfg := (rfl)
@[simp] theorem State.setAdapter_twin (s : State) (g : Nat) (a : Adapter) : (State.setAdapter s g a).twin = s.twin := (rfl)
@[simp] theorem State.setAdapter_xbar (s : State) (g : Nat) (a : Adapter) : (State.setAdapter s g a).xbar = s.xbar := (rfl)
@[simp] theorem State.setAdapter_per (s : State) (g : Nat) (a : Adapter) : (State.setAdapter s g a).per = s.per := (rfl)
@[simp] theorem State.setAdapter_jtag (s : State) (g : Nat) (a : Adapter) : (State.setAdapter s g a).jtag = s.jtag := (rfl)
@[simp] theorem State.setAdapter_rst (s : State) (g : Nat) (a : Adapter) : (State.setAdapter s g a).rst = s.rst := (rfl)
@[simp] theorem State.setAdapter_pwr (s : State) (g : Nat) (a : Adapter) : (State.setAdapter s g a).pwr = s.pwr := (rfl)
@[simp] theorem State.setAdapter_start (s : State) (g : Nat) (a : Adapter) : (State.setAdapter s g a).start = s.start := (rfl)
@[simp] theorem State.setAdapter_age (s : State) (g : Nat) (a : Adapter) : (State.setAdapter s g a).age = s.age := (rfl)
@[simp] theorem State.setAdapter_usb (s : State) (g : Nat) (a : Adapter) : (State.setAdapter s g a).usb = s.usb := (rfl)
@[simp] theorem State.setAdapter_pending (s : State) (g : Nat) (a : Adapter) : (State.setAdapter s g a).pending = s.pending := (rfl)
@[simp] theorem State.setAdapter_rw (s : State) (g : Nat) (a : Adapter) (reg : Nat) : (State.setAdapter s g a).rw reg = s.rw reg := (rfl)
@[simp] theorem State.setAdapter_g (s : State) (g : Nat) (a : Adapter) (field : Field) : (State.setAdapter s g a).g field = s.g field := (rfl)
@[simp] theorem State.setAdapter_on (s : State) (g : Nat) (a : Adapter) (field : Field) : (State.setAdapter s g a).on field = s.on field := (rfl)
@[simp] theorem State.setAdapter_bit (s : State) (g : Nat) (a : Adapter) (field : Field) (j : Nat) : (State.setAdapter s g a).bit field j = s.bit field j := (rfl)
@[simp] theorem State.setAdapter_byte (s : State) (g : Nat) (a : Adapter) (addr : Nat) : (State.setAdapter s g a).byte addr = s.byte addr := (rfl)

@[simp] theorem State.setPerUnit_csr (s : State) (k : Nat) (u : PerUnit) : (State.setPerUnit s k u).csr = s.csr := (rfl)
@[simp] theorem State.setPerUnit_freeCtr (s : State) (k : Nat) (u : PerUnit) : (State.setPerUnit s k u).freeCtr = s.freeCtr := (rfl)
@[simp] theorem State.setPerUnit_tick (s : State) (k : Nat) (u : PerUnit) : (State.setPerUnit s k u).tick = s.tick := (rfl)
@[simp] theorem State.setPerUnit_xtick (s : State) (k : Nat) (u : PerUnit) : (State.setPerUnit s k u).xtick = s.xtick := (rfl)
@[simp] theorem State.setPerUnit_rtc (s : State) (k : Nat) (u : PerUnit) : (State.setPerUnit s k u).rtc = s.rtc := (rfl)
@[simp] theorem State.setPerUnit_resp (s : State) (k : Nat) (u : PerUnit) : (State.setPerUnit s k u).resp = s.resp := (rfl)
@[simp] theorem State.setPerUnit_msixSeen (s : State) (k : Nat) (u : PerUnit) : (State.setPerUnit s k u).msixSeen = s.msixSeen := (rfl)
@[simp] theorem State.setPerUnit_msixSent (s : State) (k : Nat) (u : PerUnit) : (State.setPerUnit s k u).msixSent = s.msixSent := (rfl)
@[simp] theorem State.setPerUnit_faultLog (s : State) (k : Nat) (u : PerUnit) : (State.setPerUnit s k u).faultLog = s.faultLog := (rfl)
@[simp] theorem State.setPerUnit_mem (s : State) (k : Nat) (u : PerUnit) : (State.setPerUnit s k u).mem = s.mem := (rfl)
@[simp] theorem State.setPerUnit_fill (s : State) (k : Nat) (u : PerUnit) : (State.setPerUnit s k u).fill = s.fill := (rfl)
@[simp] theorem State.setPerUnit_epoch (s : State) (k : Nat) (u : PerUnit) : (State.setPerUnit s k u).epoch = s.epoch := (rfl)
@[simp] theorem State.setPerUnit_haltN (s : State) (k : Nat) (u : PerUnit) : (State.setPerUnit s k u).haltN = s.haltN := (rfl)
@[simp] theorem State.setPerUnit_ang (s : State) (k : Nat) (u : PerUnit) : (State.setPerUnit s k u).ang = s.ang := (rfl)
@[simp] theorem State.setPerUnit_evt (s : State) (k : Nat) (u : PerUnit) : (State.setPerUnit s k u).evt = s.evt := (rfl)
@[simp] theorem State.setPerUnit_fab (s : State) (k : Nat) (u : PerUnit) : (State.setPerUnit s k u).fab = s.fab := (rfl)
@[simp] theorem State.setPerUnit_lgr (s : State) (k : Nat) (u : PerUnit) : (State.setPerUnit s k u).lgr = s.lgr := (rfl)
@[simp] theorem State.setPerUnit_mt (s : State) (k : Nat) (u : PerUnit) : (State.setPerUnit s k u).mt = s.mt := (rfl)
@[simp] theorem State.setPerUnit_hbm (s : State) (k : Nat) (u : PerUnit) : (State.setPerUnit s k u).hbm = s.hbm := (rfl)
@[simp] theorem State.setPerUnit_noc (s : State) (k : Nat) (u : PerUnit) : (State.setPerUnit s k u).noc = s.noc := (rfl)
@[simp] theorem State.setPerUnit_lanes (s : State) (k : Nat) (u : PerUnit) : (State.setPerUnit s k u).lanes = s.lanes := (rfl)
@[simp] theorem State.setPerUnit_vsm (s : State) (k : Nat) (u : PerUnit) : (State.setPerUnit s k u).vsm = s.vsm := (rfl)
@[simp] theorem State.setPerUnit_sec (s : State) (k : Nat) (u : PerUnit) : (State.setPerUnit s k u).sec = s.sec := (rfl)
@[simp] theorem State.setPerUnit_cfg (s : State) (k : Nat) (u : PerUnit) : (State.setPerUnit s k u).cfg = s.cfg := (rfl)
@[simp] theorem State.setPerUnit_twin (s : State) (k : Nat) (u : PerUnit) : (State.setPerUnit s k u).twin = s.twin := (rfl)
@[simp] theorem State.setPerUnit_xbar (s : State) (k : Nat) (u : PerUnit) : (State.setPerUnit s k u).xbar = s.xbar := (rfl)
@[simp] theorem State.setPerUnit_jtag (s : State) (k : Nat) (u : PerUnit) : (State.setPerUnit s k u).jtag = s.jtag := (rfl)
@[simp] theorem State.setPerUnit_rst (s : State) (k : Nat) (u : PerUnit) : (State.setPerUnit s k u).rst = s.rst := (rfl)
@[simp] theorem State.setPerUnit_pwr (s : State) (k : Nat) (u : PerUnit) : (State.setPerUnit s k u).pwr = s.pwr := (rfl)
@[simp] theorem State.setPerUnit_start (s : State) (k : Nat) (u : PerUnit) : (State.setPerUnit s k u).start = s.start := (rfl)
@[simp] theorem State.setPerUnit_age (s : State) (k : Nat) (u : PerUnit) : (State.setPerUnit s k u).age = s.age := (rfl)
@[simp] theorem State.setPerUnit_usb (s : State) (k : Nat) (u : PerUnit) : (State.setPerUnit s k u).usb = s.usb := (rfl)
@[simp] theorem State.setPerUnit_pending (s : State) (k : Nat) (u : PerUnit) : (State.setPerUnit s k u).pending = s.pending := (rfl)
@[simp] theorem State.setPerUnit_rw (s : State) (k : Nat) (u : PerUnit) (reg : Nat) : (State.setPerUnit s k u).rw reg = s.rw reg := (rfl)
@[simp] theorem State.setPerUnit_g (s : State) (k : Nat) (u : PerUnit) (field : Field) : (State.setPerUnit s k u).g field = s.g field := (rfl)
@[simp] theorem State.setPerUnit_on (s : State) (k : Nat) (u : PerUnit) (field : Field) : (State.setPerUnit s k u).on field = s.on field := (rfl)
@[simp] theorem State.setPerUnit_bit (s : State) (k : Nat) (u : PerUnit) (field : Field) (j : Nat) : (State.setPerUnit s k u).bit field j = s.bit field j := (rfl)
@[simp] theorem State.setPerUnit_byte (s : State) (k : Nat) (u : PerUnit) (addr : Nat) : (State.setPerUnit s k u).byte addr = s.byte addr := (rfl)

@[simp] theorem State.setAxis_csr (s : State) (n : Nat) (a : Axis) : (State.setAxis s n a).csr = s.csr := (rfl)
@[simp] theorem State.setAxis_freeCtr (s : State) (n : Nat) (a : Axis) : (State.setAxis s n a).freeCtr = s.freeCtr := (rfl)
@[simp] theorem State.setAxis_tick (s : State) (n : Nat) (a : Axis) : (State.setAxis s n a).tick = s.tick := (rfl)
@[simp] theorem State.setAxis_xtick (s : State) (n : Nat) (a : Axis) : (State.setAxis s n a).xtick = s.xtick := (rfl)
@[simp] theorem State.setAxis_rtc (s : State) (n : Nat) (a : Axis) : (State.setAxis s n a).rtc = s.rtc := (rfl)
@[simp] theorem State.setAxis_resp (s : State) (n : Nat) (a : Axis) : (State.setAxis s n a).resp = s.resp := (rfl)
@[simp] theorem State.setAxis_msixSeen (s : State) (n : Nat) (a : Axis) : (State.setAxis s n a).msixSeen = s.msixSeen := (rfl)
@[simp] theorem State.setAxis_msixSent (s : State) (n : Nat) (a : Axis) : (State.setAxis s n a).msixSent = s.msixSent := (rfl)
@[simp] theorem State.setAxis_faultLog (s : State) (n : Nat) (a : Axis) : (State.setAxis s n a).faultLog = s.faultLog := (rfl)
@[simp] theorem State.setAxis_mem (s : State) (n : Nat) (a : Axis) : (State.setAxis s n a).mem = s.mem := (rfl)
@[simp] theorem State.setAxis_fill (s : State) (n : Nat) (a : Axis) : (State.setAxis s n a).fill = s.fill := (rfl)
@[simp] theorem State.setAxis_epoch (s : State) (n : Nat) (a : Axis) : (State.setAxis s n a).epoch = s.epoch := (rfl)
@[simp] theorem State.setAxis_haltN (s : State) (n : Nat) (a : Axis) : (State.setAxis s n a).haltN = s.haltN := (rfl)
@[simp] theorem State.setAxis_evt (s : State) (n : Nat) (a : Axis) : (State.setAxis s n a).evt = s.evt := (rfl)
@[simp] theorem State.setAxis_fab (s : State) (n : Nat) (a : Axis) : (State.setAxis s n a).fab = s.fab := (rfl)
@[simp] theorem State.setAxis_lgr (s : State) (n : Nat) (a : Axis) : (State.setAxis s n a).lgr = s.lgr := (rfl)
@[simp] theorem State.setAxis_mt (s : State) (n : Nat) (a : Axis) : (State.setAxis s n a).mt = s.mt := (rfl)
@[simp] theorem State.setAxis_hbm (s : State) (n : Nat) (a : Axis) : (State.setAxis s n a).hbm = s.hbm := (rfl)
@[simp] theorem State.setAxis_noc (s : State) (n : Nat) (a : Axis) : (State.setAxis s n a).noc = s.noc := (rfl)
@[simp] theorem State.setAxis_lanes (s : State) (n : Nat) (a : Axis) : (State.setAxis s n a).lanes = s.lanes := (rfl)
@[simp] theorem State.setAxis_vsm (s : State) (n : Nat) (a : Axis) : (State.setAxis s n a).vsm = s.vsm := (rfl)
@[simp] theorem State.setAxis_sec (s : State) (n : Nat) (a : Axis) : (State.setAxis s n a).sec = s.sec := (rfl)
@[simp] theorem State.setAxis_cfg (s : State) (n : Nat) (a : Axis) : (State.setAxis s n a).cfg = s.cfg := (rfl)
@[simp] theorem State.setAxis_twin (s : State) (n : Nat) (a : Axis) : (State.setAxis s n a).twin = s.twin := (rfl)
@[simp] theorem State.setAxis_xbar (s : State) (n : Nat) (a : Axis) : (State.setAxis s n a).xbar = s.xbar := (rfl)
@[simp] theorem State.setAxis_per (s : State) (n : Nat) (a : Axis) : (State.setAxis s n a).per = s.per := (rfl)
@[simp] theorem State.setAxis_jtag (s : State) (n : Nat) (a : Axis) : (State.setAxis s n a).jtag = s.jtag := (rfl)
@[simp] theorem State.setAxis_rst (s : State) (n : Nat) (a : Axis) : (State.setAxis s n a).rst = s.rst := (rfl)
@[simp] theorem State.setAxis_pwr (s : State) (n : Nat) (a : Axis) : (State.setAxis s n a).pwr = s.pwr := (rfl)
@[simp] theorem State.setAxis_start (s : State) (n : Nat) (a : Axis) : (State.setAxis s n a).start = s.start := (rfl)
@[simp] theorem State.setAxis_age (s : State) (n : Nat) (a : Axis) : (State.setAxis s n a).age = s.age := (rfl)
@[simp] theorem State.setAxis_usb (s : State) (n : Nat) (a : Axis) : (State.setAxis s n a).usb = s.usb := (rfl)
@[simp] theorem State.setAxis_pending (s : State) (n : Nat) (a : Axis) : (State.setAxis s n a).pending = s.pending := (rfl)
@[simp] theorem State.setAxis_rw (s : State) (n : Nat) (a : Axis) (reg : Nat) : (State.setAxis s n a).rw reg = s.rw reg := (rfl)
@[simp] theorem State.setAxis_g (s : State) (n : Nat) (a : Axis) (field : Field) : (State.setAxis s n a).g field = s.g field := (rfl)
@[simp] theorem State.setAxis_on (s : State) (n : Nat) (a : Axis) (field : Field) : (State.setAxis s n a).on field = s.on field := (rfl)
@[simp] theorem State.setAxis_bit (s : State) (n : Nat) (a : Axis) (field : Field) (j : Nat) : (State.setAxis s n a).bit field j = s.bit field j := (rfl)
@[simp] theorem State.setAxis_byte (s : State) (n : Nat) (a : Axis) (addr : Nat) : (State.setAxis s n a).byte addr = s.byte addr := (rfl)

@[simp] theorem State.setUsb_csr (s : State) (f : Usb → Usb) : (State.setUsb s f).csr = s.csr := (rfl)
@[simp] theorem State.setUsb_freeCtr (s : State) (f : Usb → Usb) : (State.setUsb s f).freeCtr = s.freeCtr := (rfl)
@[simp] theorem State.setUsb_tick (s : State) (f : Usb → Usb) : (State.setUsb s f).tick = s.tick := (rfl)
@[simp] theorem State.setUsb_xtick (s : State) (f : Usb → Usb) : (State.setUsb s f).xtick = s.xtick := (rfl)
@[simp] theorem State.setUsb_rtc (s : State) (f : Usb → Usb) : (State.setUsb s f).rtc = s.rtc := (rfl)
@[simp] theorem State.setUsb_resp (s : State) (f : Usb → Usb) : (State.setUsb s f).resp = s.resp := (rfl)
@[simp] theorem State.setUsb_msixSeen (s : State) (f : Usb → Usb) : (State.setUsb s f).msixSeen = s.msixSeen := (rfl)
@[simp] theorem State.setUsb_msixSent (s : State) (f : Usb → Usb) : (State.setUsb s f).msixSent = s.msixSent := (rfl)
@[simp] theorem State.setUsb_faultLog (s : State) (f : Usb → Usb) : (State.setUsb s f).faultLog = s.faultLog := (rfl)
@[simp] theorem State.setUsb_mem (s : State) (f : Usb → Usb) : (State.setUsb s f).mem = s.mem := (rfl)
@[simp] theorem State.setUsb_fill (s : State) (f : Usb → Usb) : (State.setUsb s f).fill = s.fill := (rfl)
@[simp] theorem State.setUsb_epoch (s : State) (f : Usb → Usb) : (State.setUsb s f).epoch = s.epoch := (rfl)
@[simp] theorem State.setUsb_haltN (s : State) (f : Usb → Usb) : (State.setUsb s f).haltN = s.haltN := (rfl)
@[simp] theorem State.setUsb_ang (s : State) (f : Usb → Usb) : (State.setUsb s f).ang = s.ang := (rfl)
@[simp] theorem State.setUsb_evt (s : State) (f : Usb → Usb) : (State.setUsb s f).evt = s.evt := (rfl)
@[simp] theorem State.setUsb_fab (s : State) (f : Usb → Usb) : (State.setUsb s f).fab = s.fab := (rfl)
@[simp] theorem State.setUsb_lgr (s : State) (f : Usb → Usb) : (State.setUsb s f).lgr = s.lgr := (rfl)
@[simp] theorem State.setUsb_mt (s : State) (f : Usb → Usb) : (State.setUsb s f).mt = s.mt := (rfl)
@[simp] theorem State.setUsb_hbm (s : State) (f : Usb → Usb) : (State.setUsb s f).hbm = s.hbm := (rfl)
@[simp] theorem State.setUsb_noc (s : State) (f : Usb → Usb) : (State.setUsb s f).noc = s.noc := (rfl)
@[simp] theorem State.setUsb_lanes (s : State) (f : Usb → Usb) : (State.setUsb s f).lanes = s.lanes := (rfl)
@[simp] theorem State.setUsb_vsm (s : State) (f : Usb → Usb) : (State.setUsb s f).vsm = s.vsm := (rfl)
@[simp] theorem State.setUsb_sec (s : State) (f : Usb → Usb) : (State.setUsb s f).sec = s.sec := (rfl)
@[simp] theorem State.setUsb_cfg (s : State) (f : Usb → Usb) : (State.setUsb s f).cfg = s.cfg := (rfl)
@[simp] theorem State.setUsb_twin (s : State) (f : Usb → Usb) : (State.setUsb s f).twin = s.twin := (rfl)
@[simp] theorem State.setUsb_xbar (s : State) (f : Usb → Usb) : (State.setUsb s f).xbar = s.xbar := (rfl)
@[simp] theorem State.setUsb_per (s : State) (f : Usb → Usb) : (State.setUsb s f).per = s.per := (rfl)
@[simp] theorem State.setUsb_jtag (s : State) (f : Usb → Usb) : (State.setUsb s f).jtag = s.jtag := (rfl)
@[simp] theorem State.setUsb_rst (s : State) (f : Usb → Usb) : (State.setUsb s f).rst = s.rst := (rfl)
@[simp] theorem State.setUsb_pwr (s : State) (f : Usb → Usb) : (State.setUsb s f).pwr = s.pwr := (rfl)
@[simp] theorem State.setUsb_start (s : State) (f : Usb → Usb) : (State.setUsb s f).start = s.start := (rfl)
@[simp] theorem State.setUsb_age (s : State) (f : Usb → Usb) : (State.setUsb s f).age = s.age := (rfl)
@[simp] theorem State.setUsb_pending (s : State) (f : Usb → Usb) : (State.setUsb s f).pending = s.pending := (rfl)
@[simp] theorem State.setUsb_rw (s : State) (f : Usb → Usb) (reg : Nat) : (State.setUsb s f).rw reg = s.rw reg := (rfl)
@[simp] theorem State.setUsb_g (s : State) (f : Usb → Usb) (field : Field) : (State.setUsb s f).g field = s.g field := (rfl)
@[simp] theorem State.setUsb_on (s : State) (f : Usb → Usb) (field : Field) : (State.setUsb s f).on field = s.on field := (rfl)
@[simp] theorem State.setUsb_bit (s : State) (f : Usb → Usb) (field : Field) (j : Nat) : (State.setUsb s f).bit field j = s.bit field j := (rfl)
@[simp] theorem State.setUsb_byte (s : State) (f : Usb → Usb) (addr : Nat) : (State.setUsb s f).byte addr = s.byte addr := (rfl)

@[simp] theorem State.setLane_csr (s : State) (n : Nat) (l : Lane) : (State.setLane s n l).csr = s.csr := (rfl)
@[simp] theorem State.setLane_freeCtr (s : State) (n : Nat) (l : Lane) : (State.setLane s n l).freeCtr = s.freeCtr := (rfl)
@[simp] theorem State.setLane_tick (s : State) (n : Nat) (l : Lane) : (State.setLane s n l).tick = s.tick := (rfl)
@[simp] theorem State.setLane_xtick (s : State) (n : Nat) (l : Lane) : (State.setLane s n l).xtick = s.xtick := (rfl)
@[simp] theorem State.setLane_rtc (s : State) (n : Nat) (l : Lane) : (State.setLane s n l).rtc = s.rtc := (rfl)
@[simp] theorem State.setLane_resp (s : State) (n : Nat) (l : Lane) : (State.setLane s n l).resp = s.resp := (rfl)
@[simp] theorem State.setLane_msixSeen (s : State) (n : Nat) (l : Lane) : (State.setLane s n l).msixSeen = s.msixSeen := (rfl)
@[simp] theorem State.setLane_msixSent (s : State) (n : Nat) (l : Lane) : (State.setLane s n l).msixSent = s.msixSent := (rfl)
@[simp] theorem State.setLane_faultLog (s : State) (n : Nat) (l : Lane) : (State.setLane s n l).faultLog = s.faultLog := (rfl)
@[simp] theorem State.setLane_mem (s : State) (n : Nat) (l : Lane) : (State.setLane s n l).mem = s.mem := (rfl)
@[simp] theorem State.setLane_fill (s : State) (n : Nat) (l : Lane) : (State.setLane s n l).fill = s.fill := (rfl)
@[simp] theorem State.setLane_epoch (s : State) (n : Nat) (l : Lane) : (State.setLane s n l).epoch = s.epoch := (rfl)
@[simp] theorem State.setLane_haltN (s : State) (n : Nat) (l : Lane) : (State.setLane s n l).haltN = s.haltN := (rfl)
@[simp] theorem State.setLane_ang (s : State) (n : Nat) (l : Lane) : (State.setLane s n l).ang = s.ang := (rfl)
@[simp] theorem State.setLane_evt (s : State) (n : Nat) (l : Lane) : (State.setLane s n l).evt = s.evt := (rfl)
@[simp] theorem State.setLane_fab (s : State) (n : Nat) (l : Lane) : (State.setLane s n l).fab = s.fab := (rfl)
@[simp] theorem State.setLane_lgr (s : State) (n : Nat) (l : Lane) : (State.setLane s n l).lgr = s.lgr := (rfl)
@[simp] theorem State.setLane_mt (s : State) (n : Nat) (l : Lane) : (State.setLane s n l).mt = s.mt := (rfl)
@[simp] theorem State.setLane_hbm (s : State) (n : Nat) (l : Lane) : (State.setLane s n l).hbm = s.hbm := (rfl)
@[simp] theorem State.setLane_noc (s : State) (n : Nat) (l : Lane) : (State.setLane s n l).noc = s.noc := (rfl)
@[simp] theorem State.setLane_vsm (s : State) (n : Nat) (l : Lane) : (State.setLane s n l).vsm = s.vsm := (rfl)
@[simp] theorem State.setLane_sec (s : State) (n : Nat) (l : Lane) : (State.setLane s n l).sec = s.sec := (rfl)
@[simp] theorem State.setLane_cfg (s : State) (n : Nat) (l : Lane) : (State.setLane s n l).cfg = s.cfg := (rfl)
@[simp] theorem State.setLane_twin (s : State) (n : Nat) (l : Lane) : (State.setLane s n l).twin = s.twin := (rfl)
@[simp] theorem State.setLane_xbar (s : State) (n : Nat) (l : Lane) : (State.setLane s n l).xbar = s.xbar := (rfl)
@[simp] theorem State.setLane_per (s : State) (n : Nat) (l : Lane) : (State.setLane s n l).per = s.per := (rfl)
@[simp] theorem State.setLane_jtag (s : State) (n : Nat) (l : Lane) : (State.setLane s n l).jtag = s.jtag := (rfl)
@[simp] theorem State.setLane_rst (s : State) (n : Nat) (l : Lane) : (State.setLane s n l).rst = s.rst := (rfl)
@[simp] theorem State.setLane_pwr (s : State) (n : Nat) (l : Lane) : (State.setLane s n l).pwr = s.pwr := (rfl)
@[simp] theorem State.setLane_start (s : State) (n : Nat) (l : Lane) : (State.setLane s n l).start = s.start := (rfl)
@[simp] theorem State.setLane_age (s : State) (n : Nat) (l : Lane) : (State.setLane s n l).age = s.age := (rfl)
@[simp] theorem State.setLane_usb (s : State) (n : Nat) (l : Lane) : (State.setLane s n l).usb = s.usb := (rfl)
@[simp] theorem State.setLane_pending (s : State) (n : Nat) (l : Lane) : (State.setLane s n l).pending = s.pending := (rfl)
@[simp] theorem State.setLane_rw (s : State) (n : Nat) (l : Lane) (reg : Nat) : (State.setLane s n l).rw reg = s.rw reg := (rfl)
@[simp] theorem State.setLane_g (s : State) (n : Nat) (l : Lane) (field : Field) : (State.setLane s n l).g field = s.g field := (rfl)
@[simp] theorem State.setLane_on (s : State) (n : Nat) (l : Lane) (field : Field) : (State.setLane s n l).on field = s.on field := (rfl)
@[simp] theorem State.setLane_bit (s : State) (n : Nat) (l : Lane) (field : Field) (j : Nat) : (State.setLane s n l).bit field j = s.bit field j := (rfl)
@[simp] theorem State.setLane_byte (s : State) (n : Nat) (l : Lane) (addr : Nat) : (State.setLane s n l).byte addr = s.byte addr := (rfl)

@[simp] theorem State.setCfg_csr (s : State) (f : Cfg → Cfg) : (State.setCfg s f).csr = s.csr := (rfl)
@[simp] theorem State.setCfg_freeCtr (s : State) (f : Cfg → Cfg) : (State.setCfg s f).freeCtr = s.freeCtr := (rfl)
@[simp] theorem State.setCfg_tick (s : State) (f : Cfg → Cfg) : (State.setCfg s f).tick = s.tick := (rfl)
@[simp] theorem State.setCfg_xtick (s : State) (f : Cfg → Cfg) : (State.setCfg s f).xtick = s.xtick := (rfl)
@[simp] theorem State.setCfg_rtc (s : State) (f : Cfg → Cfg) : (State.setCfg s f).rtc = s.rtc := (rfl)
@[simp] theorem State.setCfg_resp (s : State) (f : Cfg → Cfg) : (State.setCfg s f).resp = s.resp := (rfl)
@[simp] theorem State.setCfg_msixSeen (s : State) (f : Cfg → Cfg) : (State.setCfg s f).msixSeen = s.msixSeen := (rfl)
@[simp] theorem State.setCfg_msixSent (s : State) (f : Cfg → Cfg) : (State.setCfg s f).msixSent = s.msixSent := (rfl)
@[simp] theorem State.setCfg_faultLog (s : State) (f : Cfg → Cfg) : (State.setCfg s f).faultLog = s.faultLog := (rfl)
@[simp] theorem State.setCfg_mem (s : State) (f : Cfg → Cfg) : (State.setCfg s f).mem = s.mem := (rfl)
@[simp] theorem State.setCfg_fill (s : State) (f : Cfg → Cfg) : (State.setCfg s f).fill = s.fill := (rfl)
@[simp] theorem State.setCfg_epoch (s : State) (f : Cfg → Cfg) : (State.setCfg s f).epoch = s.epoch := (rfl)
@[simp] theorem State.setCfg_haltN (s : State) (f : Cfg → Cfg) : (State.setCfg s f).haltN = s.haltN := (rfl)
@[simp] theorem State.setCfg_ang (s : State) (f : Cfg → Cfg) : (State.setCfg s f).ang = s.ang := (rfl)
@[simp] theorem State.setCfg_evt (s : State) (f : Cfg → Cfg) : (State.setCfg s f).evt = s.evt := (rfl)
@[simp] theorem State.setCfg_fab (s : State) (f : Cfg → Cfg) : (State.setCfg s f).fab = s.fab := (rfl)
@[simp] theorem State.setCfg_lgr (s : State) (f : Cfg → Cfg) : (State.setCfg s f).lgr = s.lgr := (rfl)
@[simp] theorem State.setCfg_mt (s : State) (f : Cfg → Cfg) : (State.setCfg s f).mt = s.mt := (rfl)
@[simp] theorem State.setCfg_hbm (s : State) (f : Cfg → Cfg) : (State.setCfg s f).hbm = s.hbm := (rfl)
@[simp] theorem State.setCfg_noc (s : State) (f : Cfg → Cfg) : (State.setCfg s f).noc = s.noc := (rfl)
@[simp] theorem State.setCfg_lanes (s : State) (f : Cfg → Cfg) : (State.setCfg s f).lanes = s.lanes := (rfl)
@[simp] theorem State.setCfg_vsm (s : State) (f : Cfg → Cfg) : (State.setCfg s f).vsm = s.vsm := (rfl)
@[simp] theorem State.setCfg_sec (s : State) (f : Cfg → Cfg) : (State.setCfg s f).sec = s.sec := (rfl)
@[simp] theorem State.setCfg_twin (s : State) (f : Cfg → Cfg) : (State.setCfg s f).twin = s.twin := (rfl)
@[simp] theorem State.setCfg_xbar (s : State) (f : Cfg → Cfg) : (State.setCfg s f).xbar = s.xbar := (rfl)
@[simp] theorem State.setCfg_per (s : State) (f : Cfg → Cfg) : (State.setCfg s f).per = s.per := (rfl)
@[simp] theorem State.setCfg_jtag (s : State) (f : Cfg → Cfg) : (State.setCfg s f).jtag = s.jtag := (rfl)
@[simp] theorem State.setCfg_rst (s : State) (f : Cfg → Cfg) : (State.setCfg s f).rst = s.rst := (rfl)
@[simp] theorem State.setCfg_pwr (s : State) (f : Cfg → Cfg) : (State.setCfg s f).pwr = s.pwr := (rfl)
@[simp] theorem State.setCfg_start (s : State) (f : Cfg → Cfg) : (State.setCfg s f).start = s.start := (rfl)
@[simp] theorem State.setCfg_age (s : State) (f : Cfg → Cfg) : (State.setCfg s f).age = s.age := (rfl)
@[simp] theorem State.setCfg_usb (s : State) (f : Cfg → Cfg) : (State.setCfg s f).usb = s.usb := (rfl)
@[simp] theorem State.setCfg_pending (s : State) (f : Cfg → Cfg) : (State.setCfg s f).pending = s.pending := (rfl)
@[simp] theorem State.setCfg_rw (s : State) (f : Cfg → Cfg) (reg : Nat) : (State.setCfg s f).rw reg = s.rw reg := (rfl)
@[simp] theorem State.setCfg_g (s : State) (f : Cfg → Cfg) (field : Field) : (State.setCfg s f).g field = s.g field := (rfl)
@[simp] theorem State.setCfg_on (s : State) (f : Cfg → Cfg) (field : Field) : (State.setCfg s f).on field = s.on field := (rfl)
@[simp] theorem State.setCfg_bit (s : State) (f : Cfg → Cfg) (field : Field) (j : Nat) : (State.setCfg s f).bit field j = s.bit field j := (rfl)
@[simp] theorem State.setCfg_byte (s : State) (f : Cfg → Cfg) (addr : Nat) : (State.setCfg s f).byte addr = s.byte addr := (rfl)

@[simp] theorem State.setStream_csr (s : State) (n : Nat) (x : LStream) : (State.setStream s n x).csr = s.csr := (rfl)
@[simp] theorem State.setStream_freeCtr (s : State) (n : Nat) (x : LStream) : (State.setStream s n x).freeCtr = s.freeCtr := (rfl)
@[simp] theorem State.setStream_tick (s : State) (n : Nat) (x : LStream) : (State.setStream s n x).tick = s.tick := (rfl)
@[simp] theorem State.setStream_xtick (s : State) (n : Nat) (x : LStream) : (State.setStream s n x).xtick = s.xtick := (rfl)
@[simp] theorem State.setStream_rtc (s : State) (n : Nat) (x : LStream) : (State.setStream s n x).rtc = s.rtc := (rfl)
@[simp] theorem State.setStream_resp (s : State) (n : Nat) (x : LStream) : (State.setStream s n x).resp = s.resp := (rfl)
@[simp] theorem State.setStream_msixSeen (s : State) (n : Nat) (x : LStream) : (State.setStream s n x).msixSeen = s.msixSeen := (rfl)
@[simp] theorem State.setStream_msixSent (s : State) (n : Nat) (x : LStream) : (State.setStream s n x).msixSent = s.msixSent := (rfl)
@[simp] theorem State.setStream_faultLog (s : State) (n : Nat) (x : LStream) : (State.setStream s n x).faultLog = s.faultLog := (rfl)
@[simp] theorem State.setStream_mem (s : State) (n : Nat) (x : LStream) : (State.setStream s n x).mem = s.mem := (rfl)
@[simp] theorem State.setStream_fill (s : State) (n : Nat) (x : LStream) : (State.setStream s n x).fill = s.fill := (rfl)
@[simp] theorem State.setStream_epoch (s : State) (n : Nat) (x : LStream) : (State.setStream s n x).epoch = s.epoch := (rfl)
@[simp] theorem State.setStream_haltN (s : State) (n : Nat) (x : LStream) : (State.setStream s n x).haltN = s.haltN := (rfl)
@[simp] theorem State.setStream_ang (s : State) (n : Nat) (x : LStream) : (State.setStream s n x).ang = s.ang := (rfl)
@[simp] theorem State.setStream_evt (s : State) (n : Nat) (x : LStream) : (State.setStream s n x).evt = s.evt := (rfl)
@[simp] theorem State.setStream_fab (s : State) (n : Nat) (x : LStream) : (State.setStream s n x).fab = s.fab := (rfl)
@[simp] theorem State.setStream_mt (s : State) (n : Nat) (x : LStream) : (State.setStream s n x).mt = s.mt := (rfl)
@[simp] theorem State.setStream_hbm (s : State) (n : Nat) (x : LStream) : (State.setStream s n x).hbm = s.hbm := (rfl)
@[simp] theorem State.setStream_noc (s : State) (n : Nat) (x : LStream) : (State.setStream s n x).noc = s.noc := (rfl)
@[simp] theorem State.setStream_lanes (s : State) (n : Nat) (x : LStream) : (State.setStream s n x).lanes = s.lanes := (rfl)
@[simp] theorem State.setStream_vsm (s : State) (n : Nat) (x : LStream) : (State.setStream s n x).vsm = s.vsm := (rfl)
@[simp] theorem State.setStream_sec (s : State) (n : Nat) (x : LStream) : (State.setStream s n x).sec = s.sec := (rfl)
@[simp] theorem State.setStream_cfg (s : State) (n : Nat) (x : LStream) : (State.setStream s n x).cfg = s.cfg := (rfl)
@[simp] theorem State.setStream_twin (s : State) (n : Nat) (x : LStream) : (State.setStream s n x).twin = s.twin := (rfl)
@[simp] theorem State.setStream_xbar (s : State) (n : Nat) (x : LStream) : (State.setStream s n x).xbar = s.xbar := (rfl)
@[simp] theorem State.setStream_per (s : State) (n : Nat) (x : LStream) : (State.setStream s n x).per = s.per := (rfl)
@[simp] theorem State.setStream_jtag (s : State) (n : Nat) (x : LStream) : (State.setStream s n x).jtag = s.jtag := (rfl)
@[simp] theorem State.setStream_rst (s : State) (n : Nat) (x : LStream) : (State.setStream s n x).rst = s.rst := (rfl)
@[simp] theorem State.setStream_pwr (s : State) (n : Nat) (x : LStream) : (State.setStream s n x).pwr = s.pwr := (rfl)
@[simp] theorem State.setStream_start (s : State) (n : Nat) (x : LStream) : (State.setStream s n x).start = s.start := (rfl)
@[simp] theorem State.setStream_age (s : State) (n : Nat) (x : LStream) : (State.setStream s n x).age = s.age := (rfl)
@[simp] theorem State.setStream_usb (s : State) (n : Nat) (x : LStream) : (State.setStream s n x).usb = s.usb := (rfl)
@[simp] theorem State.setStream_pending (s : State) (n : Nat) (x : LStream) : (State.setStream s n x).pending = s.pending := (rfl)
@[simp] theorem State.setStream_rw (s : State) (n : Nat) (x : LStream) (reg : Nat) : (State.setStream s n x).rw reg = s.rw reg := (rfl)
@[simp] theorem State.setStream_g (s : State) (n : Nat) (x : LStream) (field : Field) : (State.setStream s n x).g field = s.g field := (rfl)
@[simp] theorem State.setStream_on (s : State) (n : Nat) (x : LStream) (field : Field) : (State.setStream s n x).on field = s.on field := (rfl)
@[simp] theorem State.setStream_bit (s : State) (n : Nat) (x : LStream) (field : Field) (j : Nat) : (State.setStream s n x).bit field j = s.bit field j := (rfl)
@[simp] theorem State.setStream_byte (s : State) (n : Nat) (x : LStream) (addr : Nat) : (State.setStream s n x).byte addr = s.byte addr := (rfl)

end Sys2Proof.Machine
end

