-- ==== Sys2Proof/Tests/Slice0.lean ====
section
/-! SUPPORT. Tests: the bounds of WellFormed, worked values of the spec, and one witness for every statement, a state and
operands that meet its hypotheses (or show its cases at the ends of their ranges). -/

open Sys2Proof Sys2Proof.Machine

set_option Elab.async false

namespace Sys2Proof.Tests

/-! Operands out of range. -/

/-- Each bound on an access or an angle command refuses the first value past it;
at the first unit the commands are well-formed. -/
theorem test_wf_angle :
    (([.csrWrite .super 16777216 0 0 0, .csrWrite .super 0 0 0 4000, .csrWrite (.fabric 512) 0 0 0 0,
     .rcFieldRead .super 16777216 0, .rcFieldRead (.fabric 512) 0 0, .encoderEdge 16 false false 0,
     .encoderEdge 0 false false 16, .zPulse 16, .ssiFrame 16 0 0, .ssiFrame 0 0 16, .ssiTimeout 16, .coastlimExpiry 16,
     .angApply 65536 0, .angApply 0 4000, .angSnap 65536, .angAxisTrimWrite 16 0 false, .axisEnable 16,
     .axisDisable 16, .rearm 16] : List Instr).all
      fun i => !i.wellFormed) = true ∧
    (([.csrWrite .super 0 0 0 0, .rcFieldRead .super 0 0, .encoderEdge 0 false false 0, .zPulse 0, .ssiFrame 0 0 0,
     .ssiTimeout 0, .coastlimExpiry 0, .angApply 0 0, .angSnap 0, .angAxisTrimWrite 0 0 false, .axisEnable 0,
     .axisDisable 0, .rearm 0] : List Instr).all
      Instr.wellFormed) = true := by decide +kernel

/-- Each bound on an event-unit command refuses the first value past it;
at the first unit the commands are well-formed. -/
theorem test_wf_events :
    (([.evtTargetCommit .cmp 64 0 0, .evtTargetCommit .edgClr 128 0 0, .evtCmpCfgWrite 64 0 0, .evtCmpCfgWrite 0 0 4000,
     .evtEdgCfgWrite 128 0 0, .evtEdgCfgWrite 0 0 4000, .evtCapCfgWrite 128 0 0, .evtCapCfgWrite 0 0 4000,
     .edgeFabricTrigger 128 0, .edgeFabricTrigger 0 4000, .captureEdge 128 false 0, .captureEdge 0 false 4000,
     .capRec3Read 128, .cmpPortWrite 512 0 0 0 0, .cmpPortWrite 0 16 0 0 0, .cmpPortWrite 0 0 8 0 0,
     .cmpPortWrite 0 0 0 0 4000] : List Instr).all
      fun i => !i.wellFormed) = true ∧
    (([.evtTargetCommit .cmp 0 0 0, .evtCmpCfgWrite 0 0 0, .evtEdgCfgWrite 0 0 0, .evtCapCfgWrite 0 0 0,
     .edgeFabricTrigger 0 0, .captureEdge 0 false 0, .capRec3Read 0, .cmpPortWrite 0 0 0 0 0] : List Instr).all
      Instr.wellFormed) = true := by decide +kernel

/-- Each bound on a word-unit command refuses the first value past it;
at the first unit the commands are well-formed. -/
theorem test_wf_word_units :
    (([.wuPass 131072 0 0, .wuAdd 131072 0 0, .wuSub 131072 0 0, .wuAddc 131072 0 0 false, .wuAnd 131072 0 0,
     .wuOr 131072 0 0, .wuXor 131072 0 0, .wuMin 131072 0 0, .wuMax 131072 0 0, .wuShl 131072 0 0, .wuShr 131072 0 0,
     .wuCmp 131072 0 0, .wuMul 131072 0 0, .wuMac 131072 0 0, .wuMsu 131072 0 0, .wuLdacc 131072 0 0,
     .clracc 131072 0 0 0 false, .clracc 0 16 0 0 false] : List Instr).all
      fun i => !i.wellFormed) = true ∧
    (([.wuPass 0 0 0, .wuAdd 0 0 0, .wuSub 0 0 0, .wuAddc 0 0 0 false, .wuAnd 0 0 0, .wuOr 0 0 0, .wuXor 0 0 0,
     .wuMin 0 0 0, .wuMax 0 0 0, .wuShl 0 0 0, .wuShr 0 0 0, .wuCmp 0 0 0, .wuMul 0 0 0, .wuMac 0 0 0, .wuMsu 0 0 0,
     .wuLdacc 0 0 0, .clracc 0 0 0 0 false] : List Instr).all
      Instr.wellFormed) = true := by decide +kernel

/-- Each bound on a watchdog, region or switch command refuses the first value past it;
at the first unit the commands are well-formed. -/
theorem test_wf_fabric_and_contexts :
    (([.kick 512, .fwdExpiry 512, .sysFwdCfgWrite 512 0, .unfreeze 512, .switchComplete 0 4000, .switchComplete 32 0,
     .ctxSwitch 0 4000, .swtrig 512, .sgArm 32 0, .regionCtlWrite 512 0] : List Instr).all
      fun i => !i.wellFormed) = true ∧
    (([.kick 0, .fwdExpiry 0, .sysFwdCfgWrite 0 0, .unfreeze 0, .switchComplete 0 0, .ctxSwitch 0 0, .swtrig 0,
     .sgArm 0 0, .regionCtlWrite 0 0] : List Instr).all
      Instr.wellFormed) = true := by decide +kernel

/-- Each bound on a ledger command refuses the first value past it;
at the first unit the commands are well-formed. -/
theorem test_wf_ledger :
    (([.lgrApply 16, .ledgerPost 2048 0 0 0 false 0, .ledgerPost 0 64 0 0 false 0, .ledgerPost 0 0 4 0 false 0,
     .recordRelease 4, .lgrFence 64 0, .streamEnable 4, .streamDisable 4 0, .streamDisable 0 4000] : List Instr).all
      fun i => !i.wellFormed) = true ∧
    (([.lgrApply 0, .ledgerPost 0 0 0 0 false 0, .recordRelease 0, .lgrFence 0 0, .streamEnable 0, .streamDisable 0 0] :
     List Instr).all
      Instr.wellFormed) = true := by decide +kernel

/-- Each bound on a mailbox, image or flash command refuses the first value past it;
at the first unit the commands are well-formed. -/
theorem test_wf_images_and_flash :
    (([.load 16, .pad 4, .frame 4, .bcast 4, .supfw 4, .csrw 4, .activate 4, .endCmd 4, .cancel 16, .invalidate 16,
     .switch 0 4000, .switch 16 0, .map 16, .flashprog 16, .flasherase 16, .flashOpComplete 2 false,
     .flashWipTimeout 2, .cfgReclaim .super 16] : List Instr).all
      fun i => !i.wellFormed) = true ∧
    (([.load 0, .pad 0, .frame 0, .bcast 0, .supfw 0, .csrw 0, .activate 0, .endCmd 0, .cancel 0, .invalidate 0,
     .switch 0 0, .map 0, .flashprog 0, .flasherase 0, .flashOpComplete 0 false, .flashWipTimeout 0,
     .cfgReclaim .super 0] : List Instr).all
      Instr.wellFormed) = true := by decide +kernel

/-- Each bound on a scrub, bank or HBM command refuses the first value past it;
at the first unit the commands are well-formed. -/
theorem test_wf_memory :
    (([.scrubPassStart 512, .storedFrameCheck 4294967296, .bankNop { region := 512 }, .bankRead { region := 512 } none,
     .bankRead {} (some (8, {})), .bankRead {} (some (1, { port := 16 })), .bankWrite { region := 512 } none,
     .bankWrite {} (some (8, {})), .bankWrite {} (some (1, { port := 16 })), .bankAdd16 { region := 512 } none,
     .bankAdd16 {} (some (8, {})), .bankAdd16 {} (some (1, { port := 16 })), .bankSwap16 { region := 512 } none,
     .bankSwap16 {} (some (8, {})), .bankSwap16 {} (some (1, { port := 16 })), .bankAdd32 { region := 512 } none,
     .bankAdd32 {} (some (8, {})), .bankAdd32 {} (some (1, { port := 16 })), .bankSwap32 { region := 512 } none,
     .bankSwap32 {} (some (8, {})), .bankSwap32 {} (some (1, { port := 16 })), .bankBadop { region := 512 },
     .memBankOwnerWrite .super 4096 0, .handoverEffect 4096, .memReclaim .super 4096, .marchEnd [(4096, 0)],
     .marchEnd [(0, 8192)], .pcFail 4 0, .pcFail 0 32, .sweepGrant 4, .sweepGroup 4 .none, .hbmRefresh 4 0,
     .hbmCalibration 4 0, .hbmCalibration 0 32, .scraccess 16] : List Instr).all
      fun i => !i.wellFormed) = true ∧
    (([.scrubPassStart 0, .storedFrameCheck 0, .bankNop {}, .bankRead {} none, .bankWrite {} none, .bankAdd16 {} none,
     .bankSwap16 {} none, .bankAdd32 {} none, .bankSwap32 {} none, .bankBadop {}, .memBankOwnerWrite .super 0 0,
     .handoverEffect 0, .memReclaim .super 0, .marchEnd [], .pcFail 0 0, .sweepGrant 0, .sweepGroup 0 .none,
     .hbmRefresh 0 0, .hbmCalibration 0 0, .scraccess 0] : List Instr).all
      Instr.wellFormed) = true := by decide +kernel

/-- Each bound on a network command refuses the first value past it;
at the first unit the commands are well-formed. -/
theorem test_wf_network :
    (([.nocRead { op := 16 }, .nocWrite { op := 16 }, .nocWritep { op := 16 }, .nocAdd16 { op := 16 },
     .nocSwap16 { op := 16 }, .nocAdd32 { op := 16 }, .nocSwap32 { op := 16 }, .nocBadop { op := 16 },
     .packetForward 64 0 false .none, .packetForward 0 20 false .none, .nocResponse 520 0, .nocResponse 0 4096,
     .targetTimeout 1024, .initiatorTimeout 520 0, .initiatorTimeout 0 4096, .wait 1024, .nocReclaim .super 1024,
     .revive 1024, .portCloseComplete 1024, .adapterRequest 512 {}, .adapterRequest 0 { op := 16 },
     .adapterResponseSend 512 0 0 0 [], .adapterResponseSend 0 64 0 0 [], .adapterResponseSend 0 0 16 0 [],
     .adapterResponseSend 0 0 0 256 [], .rxtake 512] : List Instr).all
      fun i => !i.wellFormed) = true ∧
    (([.nocRead {}, .nocWrite {}, .nocWritep {}, .nocAdd16 {}, .nocSwap16 {}, .nocAdd32 {}, .nocSwap32 {}, .nocBadop {},
     .packetForward 0 0 false .none, .nocResponse 0 0, .targetTimeout 0, .initiatorTimeout 0 0, .wait 0,
     .nocReclaim .super 0, .revive 0, .portCloseComplete 0, .adapterRequest 0 {}, .adapterResponseSend 0 0 0 0 [],
     .rxtake 0] : List Instr).all
      Instr.wellFormed) = true := by decide +kernel

/-- Each bound on a lane command refuses the first value past it;
at the first unit the commands are well-formed. -/
theorem test_wf_lanes :
    (([.laneEnable 48, .laneDisable 48, .pllLock 12, .pllLockTimeout 12, .cdrLock 48, .laneSymbolReceive 48 0 0,
     .laneSymbolReceive 0 1024 0, .laneSymbolReceive 0 0 10, .lossOfLock 48, .laneRetrain 48, .adaptSetSend 48,
     .escanStart 48 0, .escanEnd 48 0, .bundleDegrade 12 0 [], .bundleDegrade 0 4 [], .bundleDegrade 0 0 [(12, 0)],
     .bundleDegrade 0 0 [(0, 4)], .bundleRejoin 12 0, .bundleRejoin 0 4, .rxBlockPost 48, .txBlockRead 48,
     .txUnderrun 48] : List Instr).all
      fun i => !i.wellFormed) = true ∧
    (([.laneEnable 0, .laneDisable 0, .pllLock 0, .pllLockTimeout 0, .cdrLock 0, .laneSymbolReceive 0 0 0, .lossOfLock 0,
     .laneRetrain 0, .adaptSetSend 0, .escanStart 0 0, .escanEnd 0 0, .bundleDegrade 0 0 [], .bundleRejoin 0 0,
     .rxBlockPost 0, .txBlockRead 0, .txUnderrun 0] : List Instr).all
      Instr.wellFormed) = true := by decide +kernel

/-- Each bound on a Vasum or twin command refuses the first value past it;
at the first unit the commands are well-formed. -/
theorem test_wf_vasum :
    (([.vsmPortEnable 48 0, .vsmPortDisable 48 0, .alignSetReceive 48 0 0, .portDown 48, .frameReceive 48 [],
     .ackSend 48 0, .ackSend 0 256, .ack 48 0 0, .ack 0 256 0, .ack 0 0 65536, .nak 48 0 0, .nak 0 256 0,
     .nak 0 0 65536, .retransmitTimeout 48 0 0, .retransmitTimeout 0 256 0, .retransmitTimeout 0 0 65536,
     .widen 48 0 0, .widenack 48 0, .fail 256 0 0, .fail 0 65536 0, .fail 0 0 256, .rack 256 0, .sync 48 0 0 0 0,
     .dreq 48, .drsp 48 0 0, .angleExport 16, .angleFrame 16 0 0 0 0 0, .angleFrame 0 65536 0 0 0 0, .gaplimExpiry 16,
     .switchCommand 4294967296 0, .tunnelRequest { op := 16 }, .tunnelledRequestArrive 65536 0 0 0 0 [],
     .tunnelledRequestArrive 0 65536 0 0 0 [], .tunnelResponse 65536 0 0 [], .tunnelResponse 0 16 0 [],
     .tunnelResponse 0 0 256 [], .tunnelTimeout 65536, .reportFrameReceive 0 65536 [], .reportFrameReceive 256 0 [],
     .vmaster 16 0 0 0] : List Instr).all
      fun i => !i.wellFormed) = true ∧
    (([.vsmPortEnable 0 0, .vsmPortDisable 0 0, .alignSetReceive 0 0 0, .portDown 0, .frameReceive 0 [], .ackSend 0 0,
     .ack 0 0 0, .nak 0 0 0, .retransmitTimeout 0 0 0, .widen 0 0 0, .widenack 0 0, .fail 0 0 0, .rack 0 0,
     .sync 0 0 0 0 0, .dreq 0, .drsp 0 0 0, .angleExport 0, .angleFrame 0 0 0 0 0 0, .gaplimExpiry 0,
     .switchCommand 0 0, .tunnelRequest {}, .tunnelledRequestArrive 0 0 0 0 0 [], .tunnelResponse 0 0 0 [],
     .tunnelTimeout 0, .reportFrameReceive 0 0 [], .vmaster 0 0 0 0] : List Instr).all
      Instr.wellFormed) = true := by decide +kernel

/-- Each bound on a crossbar, pin or peripheral command refuses the first value past it;
at the first unit the commands are well-formed. -/
theorem test_wf_machine_io :
    (([.xbarCommit .super 65536 0, .xbarCommit .super 0 2000, .xbarStageWrite .super false 1024 0, .xbarReclaim 16 0,
     .xbarReclaim 0 2000, .xbarCgOwnerWrite .super 16 0, .xbarPinCfgWrite 640 0 0, .xbarPinCfgWrite 0 0 2000,
     .pinInputChange 640 0, .pinInputChange 0 3, .peripheralEnable (.uart 8) 0, .peripheralDisable (.uart 8) 0,
     .i2cStart 4 .ack, .i2cWrite 4 .ack, .i2cRead 4 0 .ack, .i2cStop 4, .i2cTimeout 4, .spiTxdata 4 0, .uartTxdata 8 0,
     .uartRxByte 8 0 false false false, .rxdataRead (.uart 8)] : List Instr).all
      fun i => !i.wellFormed) = true ∧
    (([.xbarCommit .super 0 0, .xbarStageWrite .super false 0 0, .xbarReclaim 0 0, .xbarCgOwnerWrite .super 0 0,
     .xbarPinCfgWrite 0 0 0, .pinInputChange 0 0, .peripheralEnable (.enc 0) 0, .peripheralDisable (.enc 0) 0,
     .i2cStart 0 .ack, .i2cWrite 0 .ack, .i2cRead 0 0 .ack, .i2cStop 0, .i2cTimeout 0, .spiTxdata 0 0, .uartTxdata 0 0,
     .uartRxByte 0 0 false false false, .rxdataRead (.enc 0)] : List Instr).all
      Instr.wellFormed) = true := by decide +kernel

/-- Each bound on a reset, power or clock command refuses the first value past it;
at the first unit the commands are well-formed. -/
theorem test_wf_reset_and_power :
    (([.fabricResetComplete 512, .resetRelease 11, .blockResetEnc 16, .blockResetI2c 4, .blockResetSpi 4,
     .blockResetUart 8, .blockResetQuad 12, .blockResetHbm 4, .blockResetCmp 2, .blockResetEdg 4, .blockResetCap 4,
     .blockResetAxis 16, .pdRequestOff 45, .pdRequestOn 45, .pdRequestRetain 45, .domainOffReached 45,
     .domainOnReached 45, .fpllCfgWrite 8 0, .fpllLock 8, .fpllLockLoss 8, .clkRegionStage 512 0, .clkRegionStage 0 8] :
     List Instr).all
      fun i => !i.wellFormed) = true ∧
    (([.fabricResetComplete 0, .resetRelease 0, .blockResetEnc 0, .blockResetI2c 0, .blockResetSpi 0, .blockResetUart 0,
     .blockResetQuad 0, .blockResetHbm 0, .blockResetCmp 0, .blockResetEdg 0, .blockResetCap 0, .blockResetAxis 0,
     .pdRequestOff 0, .pdRequestOn 0, .pdRequestRetain 0, .domainOffReached 0, .domainOnReached 0, .fpllCfgWrite 0 0,
     .fpllLock 0, .fpllLockLoss 0, .clkRegionStage 0 0] : List Instr).all
      Instr.wellFormed) = true := by decide +kernel

/-- Each bound on a start, ageing or security command refuses the first value past it;
at the first unit the commands are well-formed. -/
theorem test_wf_start_and_security :
    (([.hbmtrain 16 false, .march [(4096, 0)], .thmSample 44 none, .ageMeasurement [(512, 0, 0)], .ageapply 16,
     .aonCmpLock 4 0, .quote 16 false, .kbset 16, .kberase 16, .kfprog 16, .signerprog 16, .signerrevoke 16,
     .arbadvance 16, .policyset 16] : List Instr).all
      fun i => !i.wellFormed) = true ∧
    (([.hbmtrain 0 false, .march [], .thmSample 0 none, .ageMeasurement [], .ageapply 0, .aonCmpLock 0 0, .quote 0 false,
     .kbset 0, .kberase 0, .kfprog 0, .signerprog 0, .signerrevoke 0, .arbadvance 0, .policyset 0] : List Instr).all
      Instr.wellFormed) = true := by decide +kernel

/-- Each bound on a host, DMA or debug command refuses the first value past it;
at the first unit the commands are well-formed. -/
theorem test_wf_host_and_debug :
    (([.hostMemoryWrite 1 0 [], .hostMemoryWrite 0 65536 [0], .hostMemoryWrite 2 4294967296 [0], .hostMemoryRead 3 0 0,
     .hostMemoryRead 0 65535 2, .bar4Read 33554432 1, .usbIrqRearm 4294967296, .mbxSlotWrite .super 16 0 0,
     .mbxSlotWrite .super 0 5 0, .mbxDoorbell 65536, .mbxDoneClear 65536, .hostLinkUp 0, .hostLinkUp 4,
     .dmaTailWrite 8 0, .dmaDescriptorComplete 8 none none, .dmaEnable 8, .dmaDisable 8, .extest [(645, true)],
     .samplePreload [(645, true)], .bypass 32, .bypass 256, .dapRead 1099511627776 false false,
     .dapWrite 1099511627776 false false 0, .fabricClockEdge [512] false 0, .fabricClockEdge [] false 4000,
     .vccioChange 20 0, .vccioChange 0 4, .upset (.latch 4294967296 0 0), .upset (.stored 0 512 0),
     .upset (.ledger 65536), .upset (.owner 4096 0), .upset (.xbar 8192), .upset (.ember 8), .hbmTrainingDone 4 false,
     .uartByteSent 8, .spiFrameDone 4 0] : List Instr).all
      fun i => !i.wellFormed) = true ∧
    (([.hostMemoryWrite 0 0 [], .hostMemoryRead 0 0 0, .bar4Read 0 0, .usbIrqRearm 0, .mbxSlotWrite .super 0 0 0,
     .mbxDoorbell 0, .mbxDoneClear 0, .hostLinkUp 1, .dmaTailWrite 0 0, .dmaDescriptorComplete 0 none none,
     .dmaEnable 0, .dmaDisable 0, .extest [], .samplePreload [], .bypass 6, .dapRead 0 false false,
     .dapWrite 0 false false 0, .fabricClockEdge [] false 0, .vccioChange 0 0, .upset (.ledger 0),
     .hbmTrainingDone 0 false, .uartByteSent 0, .spiFrameDone 0 0] : List Instr).all
      Instr.wellFormed) = true := by decide +kernel

/-! The table gives no row any bits, so no word spells a command. -/

theorem test_decode_none : decodeTableWord 32 0 = none := rfl

/-! Worked values of the spec, and of the published standards it cites. -/

/-- The nine bytes over which R184 gives the three checks. -/
def digits : List Byte := [49, 50, 51, 52, 53, 54, 55, 56, 57]

/-- R184: CRC-32C over "123456789". -/
theorem test_crc32c : crc32c digits = 0xE3069283#32 := by decide +kernel

/-- R184: CRC-16 over "123456789". -/
theorem test_crc16 : crc16 digits = 0x29B1#16 := by decide +kernel

/-- R184: CRC-8 over "123456789". -/
theorem test_crc8 : crc8 digits = 0xF4#8 := by decide +kernel

/-- The digest of "abc" that the SM3 standard gives. -/
theorem test_sm3 : sm3Words (sm3Block sm3Init (sm3Pad [0x61, 0x62, 0x63])) =
    [0x66C7F0F4#32, 0x62EEEDD9#32, 0xD1F2D46B#32, 0xDC10E4E2#32, 0x4167C487#32, 0x5CF2F7A2#32, 0x297DA02B#32, 0x8F4BA8E0#32] := by
  decide +kernel

/-- The block that the SM4 standard gives, enciphered and deciphered. -/
theorem test_sm4 :
    sm4 0x0123456789ABCDEFFEDCBA9876543210#128 0x0123456789ABCDEFFEDCBA9876543210#128 = 0x681EDF34D206965E86B3E94F536E4246#128 ∧
    sm4Dec 0x0123456789ABCDEFFEDCBA9876543210#128 0x681EDF34D206965E86B3E94F536E4246#128 = 0x0123456789ABCDEFFEDCBA9876543210#128 := by
  decide +kernel

/-- An LZ4 block by hand from the format: three literals, a match of six at offset 3 that overlaps itself, one literal. -/
theorem test_lz4 : lz4 [0x32, 0x61, 0x62, 0x63, 3, 0, 0x10, 0x64] =
    some [0x61, 0x62, 0x63, 0x61, 0x62, 0x63, 0x61, 0x62, 0x63, 0x64] := by decide +kernel

/-- R95: region T4.3.12 is column 60 and has FXI121. -/
theorem test_fxPort : fxPort (256 + 60) = 121 ∧ fxRegion 121 = 256 + 60 := by decide

/-- R33: 10,000 counts per cycle, one in 6 µs (24,000 steps of 250 ps), make VMEAS 73,301. -/
theorem test_vmeas : (countVel 10000 1 24000 + 128) / 256 = 73301 := by decide +kernel

/-! Witnesses, each under the name of its statement. -/

/-! StepRunsFrontCommand -/

theorem wit_StepRunsFrontCommand : State.reset.pending = [] := rfl

/-! StepKeepsVectorsSeen -/

theorem wit_StepKeepsVectorsSeen : vectorsSeen State.reset ∧ step State.reset = .next State.reset := by
  refine ⟨?_, rfl⟩
  unfold vectorsSeen
  decide +kernel

/-! StepKeepsMemoryForm -/

theorem wit_StepKeepsMemoryForm : State.reset.memWf = true ∧ step State.reset = .next State.reset := ⟨rfl, rfl⟩

/-! StepTakesOneCommand -/

theorem wit_StepTakesOneCommand : step { State.reset with pending := [.mainon] } = exec .mainon State.reset := rfl

/-! OtherCommandsLeaveMemory -/

theorem wit_OtherCommandsLeaveMemory : writesMemory (.rearm 15) = false ∧ writesMemory (.bankWrite { region := 0, port := 0 } none) = true := by decide

/-! AxisControlWrites -/

theorem wit_AxisControlWrites : (State.reset.axis 15).disPend = false ∧
    ((State.reset.setAxis 15 { disPend := true }).axis 15).disPend = true ∧
    (State.reset.putB (R.ANG_AXIS_CTL.EN 15) true).on (R.ANG_AXIS_CTL.EN 15) = true ∧
    State.reset.on (R.ANG_AXIS_CTL.EN 0) = false := by decide

/-! AngleTickAdvancesTime -/

theorem wit_AngleTickAdvancesTime : ({ State.reset with sec := { State.reset.sec with onBat := true } } : State).sec.onBat = true ∧
    (State.reset.rst.reach ≠ 0 ∧ State.reset.sec.onBat = false ∧ State.reset.sec.lost = false) ∧
    (({ State.reset with rst := { State.reset.rst with reach := 0 } } : State).rst.reach = 0) := by decide

/-! TrimStepIsBounded -/

theorem wit_TrimStepIsBounded : (State.reset.axis 15).trimSkip = false ∧ (State.reset.rw (R.ANG_AXIS_TRIM.reg 15)).toInt = 0 ∧
    ((State.reset.wr (R.ANG_AXIS_TRIM.reg 0) 0x80000000#32).rw (R.ANG_AXIS_TRIM.reg 0)).toInt = -2147483648 ∧
    ((State.reset.setAxis 0 { trimSkip := true }).axis 0).trimSkip = true := by decide

/-! ApplyIsWholeOrNot -/

theorem wit_ApplyIsWholeOrNot :
    ({ State.reset with ang := { State.reset.ang with stage := [(R.ANG_AXIS_CFG.reg 15, some 0x50#32)] } } : State).applyBreach 15 = 3 ∧
    State.reset.applyBreach 0 = 0 ∧ (32768 : Nat).testBit 15 = true := by decide

/-! StagesComeIntoForceTogether -/

theorem wit_StagesComeIntoForceTogether :
    ({ State.reset with ang := { State.reset.ang with applies := [(0, 32768)] } } : State).ang.applies = [(0, 32768)] ∧
    (0 : Nat) ≤ State.reset.tick ∧ (∀ n, n < 16 → (32768 : Nat).testBit n = true → State.reset.applyBreach n = 0) ∧
    R.ANG_AXIS_COAST.reg 15 ∈ stagedRegs 15 ∧ State.reset.ang.stage.get (R.ANG_AXIS_COAST.reg 15) = none := by decide

/-! SnapshotAndCoastLimit -/

theorem wit_SnapshotAndCoastLimit : State.reset.ang.snap = none ∧
    ({ State.reset with ang := { State.reset.ang with snap := some 0 } } : State).ang.snap = some 0 ∧
    ({ State.reset with ang := { State.reset.ang with snap := some 0x8000 } } : State).ang.snap = some 0x8000 ∧ Nat.testBit 0x8000 15 = true ∧
    (State.reset.put (R.ANG_AXIS_STATE.STATE 15) axCOAST).axState 15 = axCOAST ∧ State.reset.axState 0 ≠ axCOAST := by decide

/-! CrossingRule -/

theorem wit_CrossingRule : crossing 0xFFFFFFFF#32 0#32 0#32 = some true ∧ crossing 1#32 0#32 0#32 = some false ∧
    crossing 0x7FFFFFFF#32 0x80000000#32 0#32 = some false ∧ crossing 0#32 5#32 0#32 = none ∧ (1#32 ≠ 0#32) := by decide

/-! FabricTriggerPushesPair -/

def edg127 : State := { (State.reset.setForce (R.EVT_EDG_CFG.reg 127) ((R.EVT_EDG_CFG.SRC 127).into 0#32 2)) with
  xbar := { State.reset.xbar with pinsOn := true } }

theorem wit_FabricTriggerPushesPair : edg127.edgSrc 127 = 2 ∧ edg127.unitsRun = true ∧ (edg127.edge 127).queue.length < 4 ∧
    (edg127.edge 127).armed = false ∧ State.reset.edgSrc 0 ≠ 2 ∧
    4 ≤ ((edg127.setEdge 127 { queue := List.replicate 4 {} }).edge 127).queue.length ∧
    (edg127.setEdge 127 { queue := List.replicate 4 {} }).edgSrc 127 = 2 := by decide

/-! CaptureStamps -/

def cap127 (l : Nat) : State := (({ State.reset with xbar := { State.reset.xbar with pinsOn := true } } : State).setForce (R.EVT_CAP_CFG.reg 127)
  ((R.EVT_CAP_CFG.WMODE 127).into ((R.EVT_CAP_CFG.EDGE 127).into 0#32 3) 1)).setCap 127
  { armed := true, isOpen := true, fifo := List.replicate l 0 }

theorem wit_CaptureStamps : (cap127 15).unitsRun = true ∧ ((cap127 15).cap 127).armed = true ∧ ((cap127 15).cap 127).isOpen = true ∧ ((cap127 15).cap 127).stamped = false ∧
    ((cap127 15).cap 127).fifo.length < 16 ∧ (cap127 15).fg (R.EVT_CAP_CFG.EDGE 127) = 3 ∧ (cap127 15).fg (R.EVT_CAP_CFG.POST 127) = 0 ∧
    (cap127 15).fg (R.EVT_CAP_CFG.WMODE 127) = 1 ∧ 16 ≤ ((cap127 16).cap 127).fifo.length ∧ (cap127 16).fg (R.EVT_CAP_CFG.EDGE 127) = 3 ∧
    (State.reset.cap 0).armed = false := by decide

/-! WordUnitSamples -/

def ungated (g : Nat) : State := ((((State.reset.putB (R.CTX_REGION_STATUS.HASACT g) true).put (R.PWR_PD_STATUS.STATE (logicDomain g)) 1).setRegion g
  { released := true }).putB (R.CLK_REGION_STATUS.CLKLOST g) false).putB (R.SYS_FWD_STATUS.FROZEN g) false

theorem wit_WordUnitSamples : (ungated 511).gated (130816 / 256) = false ∧ 130816 % 2 = 0 ∧ State.reset.gated (0 / 256) = true := by decide

theorem wit_WordUnitSamples_alone (s : State) : s.wuFollows 130816 = false := by unfold State.wuFollows; simp

/-! WordUnitAlu -/

theorem wit_WordUnitAlu : ({} : Wu).busy = false ∧ ({} : Wu).pipe = [] ∧ (default : Config.WuSet).osel = 0 ∧
    32 = (if true then 32 else 16) ∧ 4294967295 < 2 ^ 32 ∧ 65535 < 2 ^ 16 ∧
    (({} : Wu).edge default false 1 65535 1 0 false 0 0).pipe = [{ left := 1, out := some 0, flags := some 5 }] ∧
    (({} : Wu).edge { (default : Config.WuSet) with sgnA := true } false 10 0x8000 15 0 false 0 0).pipe.map (·.out) = [some 0xFFFF] := by decide

/-! AccumulatorWrapsOrSaturates -/

theorem wit_AccumulatorWrapsOrSaturates :
    let c : Config.WuSet := { (default : Config.WuSet) with satAcc := true }
    let u : Wu := { acc := 0x7FFFFFFFFFFF#80 }
    u.busy = false ∧ c.satAcc = true ∧ (default : Config.WuSet).satAcc = false ∧
    (u.acc.setWidth 48).toInt = 140737488355327 ∧ (u.edge c false 13 1 1 0 false 0 0).sat = true ∧
    (u.edge default false 13 1 1 0 false 0 0).acc = 0x800000000000#80 ∧
    (({ acc := 0x800000000000#80 } : Wu).edge c false 14 1 1 0 false 0 0).acc = 0x800000000000#80 := by decide

/-! WatchdogAndComparatorPort -/

def expiring (act : Nat) : State := { (((ungated 511).put (R.SYS_FWD_CFG.TMO 511) 1).put (R.SYS_FWD_CFG.ACTION 511) act) with
    xbar := { State.reset.xbar with pinsOn := true } }
def expired (act : Nat) : State := (((((expiring act).raise (R.SYS_FWD_STATUS.EXPIRED 511)).setBit (R.SYS_FWD_EXPIRED.EXPIRED 15) 31).bump
    (R.SYS_FWD_STATUS.EXPCNT 511) 1).fwdReload 511).setRegion 511 { (expiring act).region 511 with wdexpDue := true }

theorem wit_WatchdogAndComparatorPort : (State.reset.region 0).held = false ∧ State.reset.on (R.SYS_FWD_STATUS.UNFREEZE 0) = false ∧
    (State.reset.putB (R.SYS_FWD_STATUS.UNFREEZE 511) true).on (R.SYS_FWD_STATUS.UNFREEZE 511) = true ∧
    (State.reset.putB (R.SYS_FWD_STATUS.UNFREEZE 511) true).on (R.SYS_FWD_STATUS.FROZEN 511) = false ∧
    ((State.reset.putB (R.SYS_FWD_STATUS.UNFREEZE 511) true).putB (R.SYS_FWD_STATUS.FROZEN 511) true).on (R.SYS_FWD_STATUS.FROZEN 511) = true ∧
    State.reset.g (R.SYS_FWD_CFG.TMO 0) = 0 ∧ (expiring 2).g (R.SYS_FWD_CFG.TMO 511) ≠ 0 ∧
    (expiring 2).g (R.SYS_FWD_STATUS.COUNT 511) = 0 ∧ ((expiring 2).region 511).released = true ∧ ((expiring 2).region 511).stopped = false ∧
    (expiring 2).logicOn 511 = true ∧ (expiring 2).on (R.CTX_REGION_STATUS.HASACT 511) = true ∧
    (expired 2).on (R.SYS_FWD_STATUS.FROZEN 511) = false ∧ (expired 2).g (R.SYS_FWD_CFG.ACTION 511) = 2 ∧
    (expired 0).g (R.SYS_FWD_CFG.ACTION 511) = 0 ∧ (expired 1).g (R.SYS_FWD_CFG.ACTION 511) = 1 := by decide

theorem wit_WatchdogAndComparatorPort_port : State.reset.activeCtx 0 = none ∧
    ((State.reset.putB (R.CTX_REGION_STATUS.HASACT 511) true).put (R.CTX_REGION_STATUS.ACT 511) 7).activeCtx 511 = some 7 := by decide

/-! FabricClockEdge -/

theorem wit_FabricClockEdge : State.reset.edgeRegions [] 0 = [] ∧ (ungated 511).edgeRegions [511] 0 = [511] ∧ (ungated 511).gated 511 = false ∧
    (ungated 511).activeCtx 511 ≠ none ∧ ((ungated 511).putB (R.SYS_FWD_STATUS.FROZEN 511) true).gated 511 = true ∧
    ((ungated 511).putB (R.SYS_FWD_STATUS.FROZEN 511) true).edgeRegions [511] 0 = [511] ∧ State.reset.memWf = true := by decide

/-! SwitchGroupArming -/

theorem wit_SwitchGroupArming : (R.CTX_SG_CFG.ARM 31).of (0 &&& 0xC1FF001F#32) = 0 ∧
    (R.CTX_SG_CFG.ARM 31).of ((R.CTX_SG_CFG.ARM 31).into 0 1 &&& 0xC1FF001F#32) = 1 ∧
    State.reset.sgLocks 0 = false ∧ State.reset.on (R.CTX_REGION_CTL.MEMBER 511) = false ∧
    (State.reset.putB (R.CTX_SG_CFG.ARM 31) true).sgLocks 31 = true ∧
    (State.reset.putB (R.CTX_REGION_CTL.MEMBER 511) true).on (R.CTX_REGION_CTL.MEMBER 511) = true := by decide

theorem wit_SwitchGroupArming_fails : State.reset.groupFail 31 ((R.CTX_SG_CFG.ARM 31).into 0 1 &&& 0xC1FF001F#32) = (2, 0) := by decide +kernel

/-! SwitchTriggers -/

/-- Region 511 alone in group 31, its target proofed, its group armed by SWTRIG, the start release past. -/
def group31 : State :=
  let s := ((State.reset.putB (R.CTX_REGION_CTL.MEMBER 511) true).put (R.CTX_REGION_CTL.GROUP 511) 31).setSlot 511 0 slotPROOFED
  let s := ((s.putB (R.CTX_SG_CFG.ARM 31) true).putB (R.CTX_SG_CFG.EN_SWTRIG 31) true).put (R.CTX_SG_CFG.TRIGREG 31) 511
  { (s.put (R.PWR_PD_STATUS.STATE (logicDomain 511)) 1).putB (R.CTX_SG_CFG.EN_REG 31) true with xbar := { s.xbar with pinsOn := true } }

theorem wit_SwitchTriggers_idle : State.reset.xbar.pinsOn = false ∧ State.reset.on (R.CTX_SG_CFG.EN_REG 31) = false ∧
    (List.range 32).filter (fun m => State.reset.on (R.CTX_SG_CFG.EN_SWTRIG m) && decide (State.reset.g (R.CTX_SG_CFG.TRIGREG m) = 511)) = [] ∧
    (State.reset.putB (R.CTX_SG_CFG.EN_REG 31) true).on (R.CTX_SG_CFG.EN_REG 31) = true := by decide

theorem wit_SwitchTriggers_unpowered : (State.reset.members 31).any (State.reset.logicOn ·) = false := by decide +kernel

theorem wit_SwitchTriggers_armed : group31.members 31 = [511] ∧ group31.groupFail 31 (group31.rw (R.CTX_SG_CFG.reg 31)) = (0, 0) ∧
    group31.sgEdge 31 = none ∧ group31.logicOn 511 = true ∧ group31.on (R.CTX_SG_CFG.EN_REG 31) = true ∧
    (group31.setRegion 511 { edges := some 0 }).sgEdge 31 = some 0 ∧ (group31.setRegion 511 { edges := some 3 }).sgEdge 31 = some 3 ∧
    (group31.setSlot 511 0 slotEMPTY).groupFail 31 (group31.rw (R.CTX_SG_CFG.reg 31)) = (1, 511) ∧
    (List.range 32).filter (fun m => group31.on (R.CTX_SG_CFG.EN_SWTRIG m) && decide (group31.g (R.CTX_SG_CFG.TRIGREG m) = 511)) = [31] := by
  decide +kernel

/-! SwitchCompletes -/

theorem wit_SwitchCompletes : State.reset.on (R.CTX_SG_STATUS.BUSY 0) = false ∧
    ((group31.putB (R.CTX_SG_STATUS.BUSY 31) true).setRegion 511 { edges := some 2 }).on (R.CTX_SG_STATUS.BUSY 31) = true ∧
    (State.reset.putB (R.CTX_SG_CFG.REPEAT 31) true).on (R.CTX_SG_CFG.REPEAT 31) = true ∧
    (let s := (((State.reset.putB (R.CTX_REGION_STATUS.HASACT 511) true).put (R.CTX_REGION_STATUS.ACT 511) 7).put (R.CTX_REGION_CTL.KIND 511) 1)
     s.activeCtx 511 = some 7 ∧ s.g (R.CTX_REGION_CTL.NEXT 511) = 0 ∧ s.g (R.CTX_REGION_CTL.KIND 511) = 1 ∧ s.on (R.CLK_REGION_CFG.PEND 511) = false) := by decide +kernel

theorem wit_SwitchCompletes_third : (let s := (group31.putB (R.CTX_SG_STATUS.BUSY 31) true).setRegion 511 { edges := some 2 }
    (s.members 31).all s.third) = true := by decide +kernel

/-! LedgerPostsAndFences -/

def queued (port n : Nat) : State := { State.reset with lgr := { State.reset.lgr with ports := [(port, { queue := List.replicate n {} })] } }

theorem wit_LedgerPostsAndFences : (queued 2047 3).bit (R.LGR_FENCE.FENCE (2047 / 32)) (2047 % 32) = false ∧
    ((queued 2047 3).lgr.ports.get 2047).queue.length < 4 ∧ 4 ≤ ((queued 2047 4).lgr.ports.get 2047).queue.length ∧
    (queued 2047 3).lgr.due = [] ∧ (0x80000000#32).getLsbD (2047 % 32) = true ∧
    (State.reset.setBit (R.LGR_FENCE.FENCE 0) 0).bit (R.LGR_FENCE.FENCE (0 / 32)) (0 % 32) = true := by decide

/-! PostsResolve -/

/-- Station 0 of stream 0 in both banks, and item 5 of the stream open at entry 5 in bank 0, with a post by ID waiting. -/
def resolves : State :=
  let s := (State.reset.wr (R.LGR_STATION_CFG.reg 0) ((R.LGR_STATION_CFG.EN 0).into 0 1))
  { s with
    rst := { s.rst with reach := 0 }
    xbar := { s.xbar with pinsOn := true }
    lgr := { s.lgr with
      other := [(R.LGR_STATION_CFG.reg 0, (R.LGR_STATION_CFG.EN 0).into 0 1 ^^^ resetWord (R.LGR_STATION_CFG.reg 0))]
      entries := [(5, { id := 5, st := itOPEN })]
      ports := [(0, { queue := [{ idv := true, id := 5, verd := 1, code := 7 }] })] } }

theorem wit_PostsResolve : State.reset.lgrWorks = false ∧ resolves.lgrWorks = true ∧ resolves.lgrActs = true ∧
    (resolves.lgr.ports.filter (fun p => !p.2.queue.isEmpty)).map (·.1) = [0] ∧
    (resolves.lgr.ports.get 0).queue = { idv := true, id := 5, verd := 1, code := 7 } :: [] ∧
    resolves.resolveFind { idv := true, id := 5, verd := 1, code := 7 } = .inl 5 ∧
    resolves.resolveFind { idv := true, id := 6 } = .inr 1 ∧
    resolves.resolveJudge 0 5 { idv := true, id := 5, verd := 1, code := 7 } = 0 ∧ resolves.resolveJudge 1 5 { idv := true, id := 5 } = 4 ∧
    (resolves.entry 5).st = itOPEN ∧ (resolves.entry 5).reason = 0#16 ∧ (resolves.entry 5).done.getLsbD 0 = false ∧
    resolves.on (R.LGR_STREAM_CFG.GATEEN (idStream (resolves.entry 5).id)) = false := by decide +kernel

/-! StreamsAndBanks -/

theorem wit_StreamsAndBanks : (State.reset.stream 3).disDue = none ∧ (State.reset.stream 3).enabled = false ∧
    (State.reset.put (R.LGR_STREAM_PITCH.PITCH 3) 0).streamOk 3 (State.reset.rw (R.LGR_STREAM_CFG.reg 3)) = false ∧
    ((State.reset.put (R.LGR_STREAM_PITCH.PITCH 3) 1).streamOk 3 ((R.LGR_STREAM_CFG.SIZE 3).into 0 4) = true) ∧
    ((State.reset.setStream 3 { enabled := true, disDue := some 1 }).stream 3).disDue ≠ none ∧
    ((State.reset.setStream 3 { enabled := true }).stream 3).enabled = true ∧
    State.reset.on (R.LGR_STREAM_STATUS.APPLYPEND 3) = false ∧ State.reset.applyOk 3 = true ∧
    (State.reset.putB (R.LGR_STREAM_STATUS.APPLYPEND 3) true).on (R.LGR_STREAM_STATUS.APPLYPEND 3) = true := by decide +kernel

/-- Two enabled stations of stream 0 with one bit between them in the idle bank: an APPLY of it breaches. -/
theorem wit_StreamsAndBanks_breach :
    (((State.reset.wr (R.LGR_STATION_CFG.reg 0) ((R.LGR_STATION_CFG.EN 0).into 0 1)).wr (R.LGR_STATION_CFG.reg 63)
      ((R.LGR_STATION_CFG.EN 63).into 0 1))).applyOk 0 = false := by decide +kernel

/-! RecordsLeaveInOrder -/

def held3 (st : Nat) : State :=
  let s := ((State.reset.setStream 3 { items := [5] }).setEntry 3 (State.reset.entryOf 3 5) { id := mkId 3 5, st := st })
  { s with
    rst := { s.rst with reach := 0 }
    xbar := { s.xbar with pinsOn := true } }

theorem wit_RecordsLeaveInOrder : (held3 itHELD).lgrReports = true ∧ (held3 itHELD).lgrWorks = true ∧ (held3 itHELD).lgr.suspects = [] ∧
    ((held3 itHELD).stream 3).items = [5] ∧
    ((held3 itHELD).entry ((held3 itHELD).entryOf 3 5)).st = itHELD ∧ ((held3 itHELD).entry ((held3 itHELD).entryOf 3 5)).bad = false ∧
    (held3 itHELD).mirrored ((held3 itHELD).entryOf 3 5) = true ∧ idStream ((held3 itHELD).entry ((held3 itHELD).entryOf 3 5)).id = 3 ∧
    idSeq ((held3 itHELD).entry ((held3 itHELD).entryOf 3 5)).id = 5 ∧ (held3 itHELD).g R.TWIN_STATUS.STATE ≠ 3 ∧ (held3 itHELD).lgr.out.all (fun r => !r.ring && r.vsm) = true ∧
    ((held3 itOPEN).entry ((held3 itOPEN).entryOf 3 5)).st ≠ itHELD ∧ (held3 itHELD).on R.LGR_CTL.RING_EN = false ∧
    (held3 itHELD).on R.LGR_CTL.VSM_EN = false ∧ ((held3 itHELD).putB R.LGR_CTL.VSM_EN true).on R.LGR_CTL.VSM_EN = true ∧
    (State.reset.put R.TWIN_STATUS.STATE 5).lgrReports = false := by decide +kernel

/-! ImageCommands -/

/-- A command's 16 header bytes with their check. -/
def cmdBytes (op stored addr : Nat) (fcheck : Word) (arg : Nat) : List Byte :=
  let h := [BitVec.ofNat 8 op, 0#8] ++ natBytes stored 2 ++ natBytes addr 4 ++ wordBytes fcheck ++ natBytes arg 2
  h ++ natBytes (crc16 h).toNat 2

/-- A FULL image's header as far as the stream uses it: one segment, one slot of every region. -/
def fullHdr : List Byte := natBytes 0x594C4854 4 ++ natBytes 1 2 ++ [1, 0] ++ List.replicate 10 0#8 ++ natBytes 1 2 ++ List.replicate 12 0#8 ++
  [3, 0xF0, 0xF0, 1]

/-- Channel 3 in the middle of a stream. -/
def streamAt (rest : List Byte) : State := State.reset.setLoadCh 3 { busy := true, hdr := fullHdr, rest := rest, map := identityMap, sup := true }

def nextOp (s : State) : Nat ⊕ (Nat × Nat) := match nextCmd (decide (fieldAt (s.loadCh 3).hdr 6 1 = 1)) (s.loadCh 3).rest with
  | .inl st => .inl st
  | .inr (c, r) => .inr (c.op, r.length)

theorem wit_ImageCommands_ops : nextOp (streamAt (cmdBytes 0 0 0 0 0 ++ [0])) = .inr (0, 1) ∧
    nextOp (streamAt (cmdBytes 0x7F 0 0 0 0)) = .inr (0x7F, 0) ∧ imgSegs fullHdr = 1 ∧ fieldAt fullHdr 6 1 = 1 ∧
    nextOp (streamAt (cmdBytes 0x12 0 0x1FF00000 0 1 ++ [0])) = .inr (0x12, 1) ∧ ((streamAt []).loadCh 3).inSet 511 0 = true ∧
    nextOp (streamAt (cmdBytes 0x11 4 0xFFFFFC (crc32c [1, 2, 3, 4]) 0 ++ [1, 2, 3, 4, 0])) = .inr (0x11, 1) ∧ csrwBarred 0xFFFFFC = false ∧
    nextOp (streamAt (cmdBytes 0x10 4 0 (crc32c [1, 2, 3, 4]) 0 ++ [1, 2, 3, 4, 0])) = .inr (0x10, 1) ∧
    ((streamAt []).loadCh 3).busy = true ∧ ((streamAt []).loadCh 3).waiting = false := by decide +kernel

/-- What the next command of channel 3 writes: its opcode, the bytes after it, the status, the frames, the payload. -/
def framesOf (l : List Byte) : Nat × Nat × Nat × List Nat × List Byte :=
  match nextCmd true l with
  | .inl st => (99, 0, st, [], [])
  | .inr (c, r) =>
    match checkFrames ((streamAt l).loadCh 3) c (if c.op = 1 then some [c.addr] else bcastSet c.addr c.arg) with
    | .inl st => (c.op, r.length, st, [], [])
    | .inr (f, d) => (c.op, r.length, 0, f, d)

/-- FRAME of tile 15.15 of the last region, kind FF (64 bytes); BCAST past the end of a row; BCAST along a whole row. -/
theorem wit_ImageCommands_frames :
    (framesOf (cmdBytes 1 64 0x1FFFF200 (crc32c (List.replicate 64 0#8)) 0 ++ List.replicate 65 0#8) ==
      (1, 1, 0, [0x1FFFF200], List.replicate 64 0#8)) = true ∧
    (framesOf (cmdBytes 2 64 0x1FFFF200 (crc32c (List.replicate 64 0#8)) 1 ++ List.replicate 65 0#8) == (2, 1, 0x0F, [], [])) = true ∧
    (framesOf (cmdBytes 2 64 0x1FFF0200 (crc32c (List.replicate 64 0#8)) 15 ++ List.replicate 65 0#8) ==
      (2, 1, 0, (List.range 16).map (fun d => 0x1FFF0200 + d * 0x1000), List.replicate 64 0#8)) = true := by decide +kernel

/-! LoadRequests -/

/-- Mailbox slot 15 runs a request with arguments. -/
def running (code : Nat) (args : List Nat) : State :=
  ((args.zip (List.range 8)).foldl (fun (s : State) e => s.put (R.USB_MBX_A.A 15 e.2) e.1)
    (State.reset.put (R.USB_MBX_REQ.REQ 15) code)).setMbx 15 mbxRUNNING

theorem wit_LoadRequests : (running 0x20 [3]).mbxRuns 15 0x20 = true ∧ 2 < (running 0x20 [3]).mbxArg 15 0 ∧
    ((running 0x20 []).loadCh 0).busy = false ∧ ((running 0x20 [2]).mbxArg 15 0 = 2 ∧ (running 0x20 [2]).portBusy 1 = false) ∧
    ((running 0x20 [2]).put R.CFG_STATUS.XSPIB_MODE 2).portMode 1 = 2 ∧
    ((running 0x20 [2]).setLoadCh 3 { busy := true, src := 2 }).portBusy 1 = true ∧
    (running 0x21 [3]).mbxRuns 15 0x21 = true ∧ (((running 0x21 [3]).setLoadCh 3 { busy := true }).loadCh 3).busy = true ∧
    (running 0x22 [511, 128]).mbxRuns 15 0x22 = true ∧ (running 0x22 [511, 128]).mbxArg 15 0 = 511 ∧
    ((running 0x22 [511, 128]).mbxArg 15 1).testBit 7 = true ∧ ((running 0x22 [511, 128]).setSlot 511 7 slotACTIVE).slotState 511 7 = slotACTIVE ∧
    (running 0x22 [511, 128]).slotLocked 511 7 = false ∧ (running 0x22 [511, 128]).slotState 511 7 ≠ slotACTIVE := by decide +kernel

/-! BankOperations -/

/-- Bank 15 of the last column, owned by its T4 region, with the region's clock the bank clock. -/
def bank15 : State :=
  (((State.reset.put R.MEM_STATUS.QSTATE 0x249).put (R.PWR_PD_STATUS.STATE (logicDomain 511)) 1).put (R.MEM_COL_CFG.CLKSEL 255) 1).setOwner 4095 ownUPPER

theorem wit_BankOperations : portBank { region := 511, port := 15 } = 4095 ∧ bank15.quadState (bankQuad 4095) = 1 ∧ bank15.bankClockOk 511 = true ∧
    bank15.ownerOk 4095 = true ∧ bank15.mt.met.get 255 = none ∧ bank15.g (R.MEM_BANK_OWNER.OWNER_A 4095) = regionOwner 511 ∧
    bank15.g (R.MEM_BANK_OWNER.OWNER_B 4095) ≠ ownFAULT ∧ bank15.on (R.MEM_BANK_STATUS.FENCED 4095) = false ∧
    bank15.on (R.MEM_BANK_STATUS.BAD 4095) = false := by decide +kernel

/-- Bank 0 of the last column, owned by both its regions on one clock source. -/
def bank0 : State := (((State.reset.put R.MEM_STATUS.QSTATE 0x249).put (R.PWR_PD_STATUS.STATE (logicDomain 511)) 1).put
  (R.PWR_PD_STATUS.STATE (logicDomain 255)) 1).setOwner 4080 (ownUPPER * 16 + ownLOWER)

theorem wit_BankOperations_meet : bank0.g (R.MEM_BANK_OWNER.OWNER_A (portBank { region := 255 })) ≠ regionOwner 511 ∧
    bank0.admits 2 { region := 255, lane := 1 } = true ∧ bank0.admits 2 { region := 511, lane := 3 } = true := by decide +kernel

/-! BankOwnership -/

theorem wit_BankOwnership : State.reset.handoverCode 4080 0x30 false = 0 ∧ State.reset.handoverCode 4095 0x10 false = 1 ∧
    State.reset.handoverCode 4080 0x33 false = 2 ∧ State.reset.handoverCode 4095 4 true = 0 ∧ State.reset.handoverCode 4095 4 false = 1 ∧
    (State.reset.putB (R.MEM_BANK_STATUS.PEND 4095) true).handoverCode 4095 3 false = 4 ∧
    (State.reset.putB (R.MEM_BANK_STATUS.PEND 4095) true).on (R.MEM_BANK_STATUS.PEND 4095) = true ∧
    (State.reset.putB (R.MEM_BANK_STATUS.BAD 4095) true).handoverCode 4095 3 false = 5 ∧
    (State.reset.setOwner 4095 ownFAULT).g (R.MEM_BANK_OWNER.OWNER_A 4095) = ownFAULT ∧ State.reset.g (R.MEM_BANK_OWNER.OWNER_A 0) ≠ ownFAULT ∧
    ({ State.reset with mt := { State.reset.mt with pend := [(4095, some 3)] } } : State).mt.pend.get 4095 = some 3 ∧
    State.reset.mt.pend.get 0 = none ∧ State.reset.bankBusy 4095 = false ∧
    ({ State.reset with mt := { State.reset.mt with jobs := [{ bank := 4095 }] } } : State).bankBusy 4095 = true ∧
    State.reset.mt.reclaims = [] ∧ 4095 ∈ ({ State.reset with mt := { State.reset.mt with march := [4095], reclaims := [(4095, 7)] } } : State).mt.march ∧
    State.reset.mt.march = [] := by decide +kernel

/-! MarchTest -/

/-- The last bank alone selected for the march test, its quadrant running. -/
def march15 : State := (State.reset.put R.MEM_STATUS.QSTATE 0x249).put (R.MEM_MARCH_SEL.SEL 127) 0x80000000

theorem wit_MarchTest : march15.marchSelected = [4095] ∧ march15.marchRefusal march15.marchSelected = 0 ∧
    State.reset.marchRefusal State.reset.marchSelected = 4 ∧ State.reset.mt.march = [] ∧ State.reset.on R.MEM_STATUS.MARCHBUSY = false ∧
    State.reset.marchSelected = [] ∧ ({ State.reset with mt := { State.reset.mt with march := [0, 4095] } } : State).mt.march ≠ [] ∧
    ({ State.reset with mt := { State.reset.mt with march := [0, 4095], before := [(4095, some 3)] } } : State).mt.before.get 4095 = some 3 ∧
    (State.reset.putB R.MEM_STATUS.MARCHBUSY true).on R.MEM_STATUS.MARCHBUSY = true ∧ State.reset.mt.preserve = false ∧
    [(4095, 8191), (0, 7)].filter (fun f => [0, 4095].contains f.1) = (4095, 8191) :: [(0, 7)] := by decide +kernel

/-! FlashAndMapRequests -/

/-- Mailbox slot 15 running SWITCH of group 31. -/
def switch31 : State := running 0x23 [0x80000000]

theorem wit_FlashAndMapRequests_switch : switch31.mbxRuns 15 0x23 = true ∧ switch31.mbxArg 15 0 = 2 ^ 31 ∧ switch31.cfg.swReqs = [] ∧
    switch31.on (R.CTX_SG_CFG.EN_REG 31) = false ∧ (switch31.putB (R.CTX_SG_CFG.EN_REG 31) true).on (R.CTX_SG_CFG.EN_REG 31) = true ∧
    (switch31.setCfg (fun c => { c with swReqs := [{ mbx := 15, posted := 2 ^ 31 }] })).cfg.swReqs = [{ mbx := 15, posted := 2 ^ 31 }] ∧
    (switch31.setCfg (fun c => { c with swReqs := [{ mbx := 15, wait := 2 ^ 31 }] })).cfg.swReqs = [{ mbx := 15, wait := 2 ^ 31 }] := by decide +kernel

/-- Flash A holds the header of a map of region 511, slot 0, whose slot is PROOFED with tag 7; MAP runs from it. -/
def mapRuns : State :=
  let s := ((running 0x24 [1, 0, 0, 0]).put R.CFG_STATUS.XSPIA_MODE 1).setSlot 511 0 slotPROOFED
  (s.put (R.CTX_SLOT_STATE.IMGTAG (511 * 8)) 7).setBytes (flashAddr 0 0) (natBytes 0x4D454854 4 ++ natBytes 7 2 ++ natBytes 511 2 ++ natBytes 1 2 ++ [0, 0, 0, 0, 0, 0])

theorem wit_FlashAndMapRequests_map : mapRuns.mbxRuns 15 0x24 = true ∧ mapRuns.mbxArg 15 0 = 1 ∧ mapRuns.portBusy 0 = false ∧ mapRuns.portMode 0 = 1 ∧
    (mapRuns.imgRead 1 0 16).2 = .inr (natBytes 0x4D454854 4 ++ natBytes 7 2 ++ natBytes 511 2 ++ natBytes 1 2 ++ [0, 0, 0, 0, 0, 0]) ∧
    mapRuns.slotState 511 0 = slotPROOFED ∧ mapRuns.g (R.CTX_SLOT_STATE.IMGTAG (511 * 8)) = 7 := by decide +kernel

theorem wit_FlashAndMapRequests_data : (((mapRuns.imgRead 1 0 16).1.imgRead 1 16 0x8000).2).isRight = true := rfl

/-- FLASHPROG and FLASHERASE of the last page and sector of flash B. -/
theorem wit_FlashAndMapRequests_flash : ((running 0x25 [1, 0xFFFFFF00]).put R.CFG_STATUS.XSPIB_MODE 2).mbxRuns 15 0x25 = true ∧
    ((running 0x25 [1, 0xFFFFFF00]).put R.CFG_STATUS.XSPIB_MODE 2).portMode 1 = 2 ∧
    ((running 0x25 [1, 0xFFFFFF00]).put R.CFG_STATUS.XSPIB_MODE 2).portBusy 1 = false ∧
    (((running 0x25 [1, 0xFFFFFF00]).readAt iniConfig 0 256).2 = none) ∧
    (running 0x26 [1, 0xFFFF0000]).mbxRuns 15 0x26 = true ∧ (running 0x26 [1, 0xFFFF0000]).mbxArg 15 1 % 65536 = 0 ∧
    (running 0x26 [1, 0xFFFF0000]).portMode 1 = 0 ∧
    ((State.reset.setCfg (fun c => { c with ops := [(1, { erase := true, offset := 0xFFFF0000 })] })).cfg.ops.find 1 =
      some { erase := true, offset := 0xFFFF0000 }) := by decide +kernel

/-! ScrubberFinds -/

/-- Region 511 running slot 7 with the scrubber on and its logic powered. -/
def scrub511 : State := ((((State.reset.putB R.UPS_CTL.EN true).setSlot 511 7 slotACTIVE).put (R.PWR_PD_STATUS.STATE (logicDomain 511)) 1).put
  (R.CTX_REGION_STATUS.ACT 511) 7).putB (R.CTX_REGION_STATUS.HASACT 511) true

theorem wit_ScrubberFinds : scrub511.scrubs 511 = true ∧ scrub511.activeCtx 511 = some 7 ∧ scrub511.slotState 511 7 = slotACTIVE ∧ scrub511.switching 511 = false ∧ (scrub511.scrub 511).pos = none ∧
    State.reset.scrubs 511 = false ∧ State.reset.slotState 511 7 = slotEMPTY ∧
    (scrub511.setSlot 511 6 slotPROOFED).slotState 511 6 = slotPROOFED ∧ frameAddr 7 511 15 15 2 = 0xFFFFF200 := by decide +kernel

/-- The last frame of the last region with a byte struck, and the latches as they were. -/
def struck : State := { scrub511 with fab := { scrub511.fab with
  frames := [(0xFFFFF200, { data := [1], check := crc32c [0] })], latch := [(0xFFFFF200, some [0])] } }

theorem wit_ScrubberFinds_struck : (struck.frame 0xFFFFF200).good = false ∧ diffBytes 2 (struck.latched 0xFFFFF200) (struck.frame 0xFFFFF200).data ≠ [] ∧
    crc32c (struck.latched 0xFFFFF200) = (struck.frame 0xFFFFF200).check ∧ (scrub511.frame 0xFFFFF200).data = [] := by decide +kernel

/-! HbmAndScrambler -/

/-- The last region of stack 3 pending; with its engine at its last group; with the stack training. -/
def sweeps : State := State.reset.put (R.SCR_REGION_KEYSEL.STATE 95) 1
def sweptLast : State := { (((State.reset.put R.HBM_STATUS.STATE 0x2222).put (R.SCR_REGION_KEYSEL.STATE 95) 2).put (R.SCR_REGION_BOUNDARY.BOUNDARY 95) 262128) with
  hbm := { State.reset.hbm with engine := [(3, some 95)] } }

theorem wit_HbmAndScrambler : sweeps.hbm.engine.get 3 = none ∧ sweeps.hbm.token.get 3 = 0 ∧ sweeps.scrState (24 * 3 + 23) = 1 ∧
    (∀ e, e < 23 → sweeps.scrState (24 * 3 + e) ≠ 1) ∧ sweptLast.hbm.engine.get 3 = some 95 ∧
    sweptLast.treeFinding (95 * 262144 + 262128) .none = none ∧ sweptLast.g (R.SCR_REGION_BOUNDARY.BOUNDARY 95) = 262128 ∧
    sweptLast.treeFinding (95 * 262144 + 262128) (.node 3 2) = some (2, 3, nodeOf 3 (95 * 262144 + 262128)) ∧
    (State.reset.put R.HBM_STATUS.STATE 0x1222).stackState 3 = 1 ∧ State.reset.stackState 0 ≠ 1 ∧
    ({ State.reset.put R.HBM_STATUS.STATE 0x1222 with start := { State.reset.start with step := none } } : State).start.step = none ∧
    (running 0x30 [95, 1, 3]).mbxRuns 15 0x30 = true ∧ (running 0x30 [95, 2]).mbxArg 15 0 = 95 ∧
    (R.SCR_REGION_ACCESS.DBG 0).of (BitVec.ofNat 32 0x3FF) ≠ 2 := by decide +kernel

/-! NocRequests -/

/-- Every stack ON, every quadrant running, the network running and the ports of the last line of HBM and of bank 4095 open. -/
def network : State :=
  let s := ((State.reset.put R.HBM_STATUS.STATE 0x2222).put R.MEM_STATUS.QSTATE 0x249).put R.NOC_STATUS.RUN 1
  ((s.put (R.NOC_PORT_STATUS.STATE (targetEp .hbm 0xFFF)) portOPEN).put (R.NOC_PORT_STATUS.STATE (bankEp 4095)) portOPEN).setOwner 4095 ownNOC

theorem wit_NocRequests : network.portState (iniEp 512) ≠ portFENCED ∧ network.g R.NOC_STATUS.RUN ≠ 0 ∧ network.noc.arrived = [] ∧
    network.usb.reads = [] ∧ decodeAddr 0xF100000000 = none ∧ decodeAddr 0x5000000000 = some .config ∧
    mayReach (classOf 515) .config = false ∧ decodeAddr 0xFFF = some .hbm ∧ mayReach (classOf 512) .hbm = true ∧
    reqOk .hbm { ini := 512, addr := 0xFFF, len := 2 } = false ∧ reqOk .hbm { ini := 512, op := 3, addr := 0xFF8, len := 8 } = false ∧
    reqOk .hbm { ini := 512, op := 7, addr := 0xFF8, len := 8 } = false ∧ reqOk .hbm { ini := 512, op := 2, addr := 0xFFF, len := 1, data := [7] } = true ∧
    network.portState (targetEp .hbm 0xFFF) = portOPEN ∧ network.hbm.waiting.get (apOfLine (lineOf 0xFFF)) = [] ∧
    network.stackState 0 = 2 ∧ network.pcFailed 0xFFF = false ∧ network.hbmPermits clsSUPER 0xFFF true false = true ∧
    network.hbmPermits clsSUPER 0xFFF true true = false ∧ network.treeFinding 0 .none = none ∧ network.saturated 0 = false ∧
    (State.reset.put R.NOC_STATUS.RUN 0).g R.NOC_STATUS.RUN = 0 ∧ network.tagFree 512 7 = true ∧ network.noc.quarantine = [] ∧
    (State.reset.put (R.NOC_PORT_STATUS.STATE (iniEp 516)) portFENCED).portState (iniEp 516) = portFENCED := by decide +kernel

theorem wit_NocRequests_bank : decodeAddr (bankAddr 4095 8191) = some .bank ∧ network.portState (targetEp .bank (bankAddr 4095 8191)) = portOPEN ∧
    (∀ n, n < 7 → reqOk .bank { ini := 513, op := n, addr := bankAddr 4095 8191, len := 4, data := [1, 0, 1, 0] } = true) ∧
    (network.bankServe 5 (bankAddr 4095 8191) 4 [1, 0, 1, 0] true).2.1 = 0 := by decide +kernel

/-- Region 511 running context 7 with a quota of 128 units, its logic powered and its port open. -/
def adapter511 : State :=
  let s := (((State.reset.put (R.CTX_REGION_STATUS.ACT 511) 7).putB (R.CTX_REGION_STATUS.HASACT 511) true).put R.NOC_STATUS.RUN 1)
  ((s.put (R.NOC_REGION_QUOTA.QUOTA 511) 0x10000000).put (R.PWR_PD_STATUS.STATE (logicDomain 511)) 1).put (R.NOC_PORT_STATUS.STATE (regionEp 511)) portOPEN

theorem wit_NocRequests_adapter : adapter511.activeCtx 511 = some 7 ∧ adapter511.logicOn 511 = true ∧
    (adapter511.adapter 511).used.get 7 + reserveUnits 0 4032 ≤ adapter511.g (R.NOC_REGION_QUOTA.QUOTA 511) / 16 ^ 7 % 16 * 128 ∧
    adapter511.g (R.NOC_REGION_QUOTA.QUOTA 511) / 16 ^ 7 % 16 * 128 < (adapter511.adapter 511).used.get 7 + reserveUnits 0 4096 ∧
    adapter511.portState (regionEp 511) = portOPEN ∧ State.reset.activeCtx 511 = none := by decide +kernel

/-! PacketsTravel -/

/-- A response for initiator 512, at the router beside its own and at its own; and a request of initiator 512 it answers. -/
def rsp512 (router port : Nat) : Packet := { dest := 446, src := 446, tag := 9, op := 0, isRsp := true, router := router, port := port, ini := 512 }
def travels (p : Packet) : State := { State.reset with noc := { State.reset.noc with pkts := [p], issued := [{ ini := 512, tag := 9 }] } }

def lies (p : Packet) : State := { State.reset with noc := { State.reset.noc with inbox := [p], issued := [{ ini := 512, tag := 9 }] } }

theorem wit_PacketsTravel : ((travels (rsp512 26 0)).put R.NOC_STATUS.RUN 1).granted 26 1 = some (true, 0, rsp512 26 0) ∧ neighbour 26 1 = some 27 ∧
    ((travels (rsp512 26 0)).put R.NOC_STATUS.RUN 1).g R.NOC_STATUS.RUN ≠ 0 ∧ (travels (rsp512 26 0)).noc.share = [] ∧
    (travels (rsp512 27 3)).granted 26 1 = none ∧ (travels (rsp512 27 3)).granted 27 18 = some (true, 3, rsp512 27 3) ∧
    (travels { rsp512 27 3 with isRsp := false }).granted 27 18 = some (false, 3, { rsp512 27 3 with isRsp := false }) ∧
    (travels (rsp512 26 0)).candidate 26 1 true = some (0, rsp512 26 0) ∧
    (lies (rsp512 27 3)).noc.inbox.find? (fun p => p.ini = 512 && decide (p.tag = 9)) = some (rsp512 27 3) ∧
    ((lies (rsp512 27 3)).issuedOf 512 9).isSome = true ∧ (lies (rsp512 27 3)).issuedOf 512 8 = none ∧
    ((lies (rsp512 27 3)).put (R.NOC_PORT_STATUS.STATE 446) portOPEN).portState (iniEp 512) ≠ portOFF := by decide +kernel

/-- Region 511 owes an answer to the request with RTAG 63; its adapter presents a request of one beat, or a response of context 7. -/
def owes511 : State := { State.reset with noc := { State.reset.noc with owed := [{ dest := regionEp 511, rtag := 63 }] } }
def takes511 : State := State.reset.setAdapter 511 { req := [{ beats := [7] }] }
def gives511 : State := (((State.reset.put (R.CTX_REGION_STATUS.ACT 511) 7).putB (R.CTX_REGION_STATUS.HASACT 511) true).setAdapter 511
  { used := [(7, 2)], rsp := [{ beats := [7], units := 2, ctx := some 7 }] })

theorem wit_PacketsTravel_adapter : owes511.noc.owed.find? (fun o => o.dest = regionEp 511 && decide (o.rtag = 63) && decide (63 < 64)) =
      some { dest := regionEp 511, rtag := 63 } ∧
    owes511.noc.owed.find? (fun o => o.dest = regionEp 511 && decide (o.rtag = 62) && decide (62 < 64)) = none ∧
    (State.reset.put (R.NOC_PORT_STATUS.STATE (regionEp 511)) portDEAD).portState (regionEp 511) = portDEAD ∧
    owes511.portState (regionEp 511) ≠ portDEAD ∧ takes511.rspHead 511 = none ∧ (takes511.adapter 511).req = [{ beats := [7] }] ∧
    gives511.rspHead 511 = some { beats := [7], units := 2, ctx := some 7 } ∧ (gives511.adapter 511).req = [] := by decide +kernel

/-! PortsAndEpochs -/

theorem wit_PortsAndEpochs : (owes511.put (R.NOC_PORT_STATUS.STATE (regionEp 511)) portOPEN).portState (regionEp 511) = portOPEN ∧
    (State.reset.noc.owed = []) ∧ ((travels (rsp512 27 3)).issuedOf 512 9).isSome = true ∧ State.reset.issuedOf 512 9 = none ∧
    iniAt (bankEp 0) = none ∧ epExists (bankEp 0) = true ∧ epExists 15 = false ∧ regionEp 511 < 1024 ∧ State.reset.portState (bankEp 0) ≠ portFENCED ∧
    (State.reset.put (R.NOC_PORT_STATUS.STATE (bankEp 0)) portFENCED).portState (bankEp 0) = portFENCED ∧
    (State.reset.put (R.NOC_PORT_STATUS.STATE (bankEp 0)) portCLOSING).portState (bankEp 0) = portCLOSING ∧
    State.reset.noc.checking = false ∧ (State.reset.putB R.NOC_EPOCH.DRAINED false).on R.NOC_EPOCH.DRAINED = false := by decide +kernel

/-- The walk by X-Y routing alone. -/
def walkXY (dst : Nat) : Nat → Nat → Bool → Nat
  | 0, router, _ => if router = dst ∧ routeOut 0 router dst = some 4 then 0 else 3
  | k + 1, router, turned =>
    match routeOut 0 router dst with
    | none => 2
    | some 4 => if router = dst then 0 else 3
    | some out =>
      if out = 3 && turned then 4
      else match neighbour router out with
        | none => 5
        | some nx => walkXY dst k nx (turned || decide (out ≠ 3))

theorem walkXY_arrives : ∀ r, r < 64 → ∀ d, d < 64 → walkXY d 14 r false = 0 := by decide +kernel

theorem neighbour_lt : ∀ r, r < 64 → ∀ o, o < 4 → ∀ nx, neighbour r o = some nx → nx < 64 := by
  intro r hr o ho nx h
  unfold neighbour at h
  split at h <;> (try split at h) <;> simp at h <;> omega

theorem routes_reset : ∀ n, n < 128 → ∀ k, k < 8 → resetWord (R.NOC_RT.reg n k) = 0#32 := by decide +kernel

theorem entry_reset (m : Noc) (r b d : Nat) (hr : r < 64) (hb : b < 2) (hd : d < 64) : State.routeEntry { State.reset with noc := m } r b d = 0 := by
  have : State.rw { State.reset with noc := m } (R.NOC_RT.reg (r * 2 + b) (d / 8)) = 0#32 := by
    unfold State.rw
    rw [show (State.csr { State.reset with noc := m }) = [] from rfl, routes_reset (r * 2 + b) (by omega) (d / 8) (by omega), SMap.get_nil]; rfl
  unfold State.routeEntry
  rw [this]
  simp

theorem walk_eq (s : State) (b d : Nat) (H : ∀ r, r < 64 → s.routeEntry r b d = 0) : ∀ k r turned, r < 64 →
    s.walk b d k r turned = walkXY d k r turned := by
  intro k
  induction k with
  | zero => intro r turned hr; simp only [State.walk, walkXY, H r hr]
  | succ k ih =>
    intro r turned hr
    have hn := neighbour_lt r hr
    unfold State.walk walkXY
    rw [H r hr]
    cases ho : routeOut 0 r d with
    | none => rfl
    | some out =>
      have h4 : out ≤ 4 := by
        unfold routeOut at ho
        repeat' split at ho
        all_goals simp at ho
        all_goals omega
      obtain rfl | rfl | rfl | rfl | rfl : out = 0 ∨ out = 1 ∨ out = 2 ∨ out = 3 ∨ out = 4 := by omega
      · cases h5 : neighbour r 0 with
        | none => simp only [h5]
        | some nx => simp only [h5, ih nx _ (hn 0 (by decide) nx h5)]
      · cases h5 : neighbour r 1 with
        | none => simp only [h5]
        | some nx => simp only [h5, ih nx _ (hn 1 (by decide) nx h5)]
      · cases h5 : neighbour r 2 with
        | none => simp only [h5]
        | some nx => simp only [h5, ih nx _ (hn 2 (by decide) nx h5)]
      · cases h5 : neighbour r 3 with
        | none => simp only [h5]
        | some nx => simp only [h5, ih nx _ (hn 3 (by decide) nx h5)]
      · rfl

theorem flip_passes (s : State) (hd : s.on R.NOC_EPOCH.DRAINED = true) (hi : s.g R.NOC_EPOCH.INJ = 0)
    (H : ∀ r, r < 64 → ∀ d, d < 64 → s.routeEntry r 1 d = 0) : s.flipCheck = 0 := by
  have h1 : (List.range 64).any (fun r => (List.range 64).any (fun d => decide (6 ≤ s.routeEntry r 1 d))) = false := by
    rw [List.any_eq_false]; intro r hr h
    rw [List.any_eq_true] at h
    obtain ⟨d, hd, h⟩ := h
    rw [H r (List.mem_range.1 hr) d (List.mem_range.1 hd)] at h
    simp at h
  have h2 : ∀ c, c ≠ 0 → ((List.range 64).flatMap (fun r => (List.range 64).map (fun d => s.walk 1 d 14 r false))).contains c = false := by
    intro c hc0
    rw [Bool.eq_false_iff]; intro h
    have hc := List.contains_iff_mem.1 h
    obtain ⟨r, hr, hc⟩ := List.mem_flatMap.1 hc
    obtain ⟨d, hd, rfl⟩ := List.mem_map.1 hc
    rw [walk_eq s 1 d (fun r hr => H r hr d (List.mem_range.1 hd)) 14 r false (List.mem_range.1 hr)] at hc0
    exact hc0 (walkXY_arrives r (List.mem_range.1 hr) d (List.mem_range.1 hd))
  unfold State.flipCheck
  simp only [hd, hi, h1, Nat.sub_zero, Bool.not_true, Bool.false_eq_true, if_false]
  have h3 : [3, 4, 5].find? (fun c => ((List.range 64).flatMap (fun r => (List.range 64).map (fun d => s.walk 1 d 14 r false))).contains c) = none := by
    rw [List.find?_eq_none]
    intro c hc
    have : c ≠ 0 := by intro h; subst h; simp at hc
    rw [h2 c this]; simp
  rw [h3]

theorem wit_PortsAndEpochs_flips : State.flipCheck { State.reset with noc := { State.reset.noc with checking := true } } = 0 :=
  flip_passes _ (by decide +kernel) (by decide +kernel) (fun r hr d hd => entry_reset _ r 1 d hr (by decide) hd)

/-! SerialLanes -/

/-- Lane 47 in stage `st` and use `u`, MODE 1, its quad powered. -/
def lane47 (u st : Nat) : State :=
  let s := ((State.reset.put (R.LANE_LANE_CFG.USE 47) u).put (R.LANE_LANE_STATUS.STAGE 47) st).putB (R.LANE_LANE_ADAPT.MODE 47) true
  (s.put (R.PWR_PD_STATUS.STATE (quadDomain 11)) 1).setLane 47 { bound := some 9 }

theorem wit_SerialLanes : (lane47 2 0).isStream 47 = true ∧ ringFits ((lane47 2 0).rw (R.LANE_LANE_RXRING.reg 47)) ((lane47 2 0).rw (R.LANE_LANE_RXOFS.reg 47)) = true ∧
    ringFits 0x400 0xFFFF00 = false ∧ (lane47 4 0).stage 47 = stOFF ∧ (lane47 1 4).isStream 47 = false ∧ (lane47 1 4).stage 47 = stUP ∧
    (lane47 2 4).pdOn (quadDomain 11) = true ∧ (State.reset.put (R.PWR_PD_STATUS.STATE (quadDomain 11)) 0).pdOn (quadDomain 11) = false ∧
    ((State.reset.put (R.LANE_QUAD_CFG.N 11) 100).bit R.LANE_REFCFG.FREQ 5 = false ∧ (State.reset.put (R.LANE_QUAD_CFG.N 11) 100).pllOk 11 = true) ∧
    (State.reset.put (R.LANE_QUAD_CFG.N 11) 31).pllOk 11 = false ∧ (lane47 3 2).stage 47 = stCDR ∧ (lane47 3 2).laneUse 47 = 3 ∧
    (lane47 7 4).laneUse 47 = 0 := by decide +kernel

theorem wit_SerialLanes_symbols : ((lane47 2 4).laneOf 47).bound = some 9 ∧ decodeGroup false (encodeData false 0xB5) = some (0xB5, false) ∧
    decodeGroup false 380 = some (188, true) ∧ decodeGroup false 0 = none ∧
    ((lane47 2 4).laneOf 47).entries.length + 1 < (ringBlk ((lane47 2 4).rw (R.LANE_LANE_RXRING.reg 47)) - 32) / 2 ∧
    ((lane47 4 4).laneOf 47).entries.length + 1 < (ringBlk ((lane47 4 4).rw (R.LANE_LANE_RXRING.reg 47)) - 32) / (lane47 4 4).entryBytes 47 ∧
    (lane47 4 4).on (R.LANE_LANE_ESCAN.START 47) = false ∧ ((lane47 4 4).putB (R.LANE_LANE_ESCAN.START 47) true).on (R.LANE_LANE_ESCAN.START 47) = true ∧
    ((lane47 4 4).laneOf 47).stopping = false ∧ (lane47 4 4).issuedOf iniVasum 188 = none := by decide +kernel

/-! VasumPortsAndFrames -/

/-- Port 44, a bundle of four lanes in quad 11, UP at width 4, its lanes in the stages given. -/
def port44 (st : Nat) : State :=
  let s := ((State.reset.put (R.LANE_QUAD_CFG.BUNDLE 11) 2).putB (R.VSM_PORT_CFG.EN 44) true).put (R.VSM_PORT_STATUS.STATE 44) vsUP
  let s := (s.put (R.VSM_PORT_STATUS.WIDTH 44) 4).each [44, 45, 46, 47] (fun s n => s.put (R.LANE_LANE_CFG.USE n) 1)
  (s.put (R.LANE_LANE_STATUS.STAGE 44) st).put (R.LANE_LANE_STATUS.STAGE 45) st

/-- A frame of channel `chan` from node 7 with this SEQ, its checks good. -/
def frameOf (chan seq : Nat) (data : List Byte) : List Byte :=
  let h := natBytes 0xFFFF 2 ++ natBytes 7 2 ++ natBytes chan 1 ++ natBytes 32 1 ++ natBytes seq 2 ++ natBytes 0 2 ++ natBytes data.length 2 ++ List.replicate 10 0#8
  h ++ natBytes (crc16 h).toNat 2 ++ data

theorem wit_VasumPortsAndFrames : (port44 4).portLanes 44 = [44, 45, 46, 47] ∧ (port44 4).isUp 44 = true ∧ pow2Floor ((port44 4).lanesUp (bundlePort 11 0)) = 2 ∧
    (port44 4).g (R.VSM_PORT_STATUS.WIDTH (bundlePort 11 0)) = 4 ∧ (port44 4).vstate 44 ≠ vsDOWN ∧ State.reset.vstate 44 = vsDOWN ∧
    (port44 4).laneUse 44 = 1 ∧ State.reset.isUp 44 = false ∧
    (((port44 4).put (R.VSM_PORT_STATUS.WIDTH 44) 1).setVport 44 { widen := some (9, 2, true) }).vport (bundlePort 11 0) = { widen := some (9, 2, true) } := by
  decide +kernel

theorem wit_VasumPortsAndFrames_frames : ({ wait := [{ chan := 1, seq := 3 }] } : VPort).nextOf 1 = some { chan := 1, seq := 3 } ∧
    ({ wait := [{ chan := 1, seq := 3 }] } : VPort).nextOf 0 = none ∧ (parseFrame (frameOf 1 9 (withCrc (List.replicate 22 0#8)))).2 = (true, true) ∧
    (parseFrame (frameOf 3 9 [])).2.1 = true ∧ chanKnown 3 = false ∧ (parseFrame [1, 2]).2.1 = false ∧ chanKnown 0x45 = true ∧
    (port44 4).carries 44 0x45 = false ∧ (port44 4).carries 44 1 = true ∧
    ((port44 4).setVport 44 { rxSeq := [(1, 9)] }).isUp 44 = true ∧ (port44 4).twin.asked = false ∧
    ((port44 4).setVport 44 { ackDue := [(2, 3)], replay := [({ chan := 2, seq := 65535 }, 3)] }).isUp 44 = true := by decide +kernel

/-! VasumServices -/

/-- Plant time in a state, taken by port 47. -/
def timed (st : Nat) : State := ((State.reset.put R.VSM_STATUS.TSTATE st).put R.VSM_TIME_CFG.UPPORT 47).setVport 47 { measured := true }

theorem wit_VasumServices : (timed 3).on R.VSM_TIME_CFG.GM = false ∧ (timed 3).twinTime = false ∧ (timed 3).g R.VSM_STATUS.TSTATE = 3 ∧
    ((timed 2).vport 47).measured = true ∧ (State.reset.vport 47).measured = false ∧ (timed 1).g R.VSM_STATUS.TSTATE = 1 ∧
    ((timed 2).put (R.VSM_PORT_STATUS.STATE 47) vsUP).isUp 47 = true ∧ (State.reset.putB R.VSM_TIME_CFG.GM true).on R.VSM_TIME_CFG.GM = true ∧
    ((timed 2).putB (R.VSM_ANGTX.EN 15) true).on (R.VSM_ANGTX.EN 15) = true ∧ ((timed 2).vsm.angRx.get 15).latched = false ∧
    ((timed 2).setVsm (fun v => { v with angRx := [(15, { latched := true })] })).g (R.VSM_ANGRX.SRCNODE 15) = 0 ∧
    (timed 2).plantNs.toNat + 200 ≤ 200 ∧ ((timed 2).putB (R.CTX_SG_CFG.EN_VSM 31) true).on (R.CTX_SG_CFG.EN_VSM 31) = true ∧
    (0xFFFFFFFFFF - 0xC000000000) / 0x100000000 = 63 ∧ (State.reset.putB (R.VSM_WIN.EN 15) true).on (R.VSM_WIN.EN 15) = true ∧
    State.reset.on (R.VSM_WIN.EN 15) = false ∧ (State.reset.put R.VSM_NODE.NODE 9).node ≠ 0 ∧ State.reset.on R.TWIN_PEERWIN.EN = false ∧
    State.reset.on R.VSM_TUN.TUNEN = false ∧ State.reset.issuedOf iniVasum 512 = none ∧
    (State.reset.putB R.VSM_TUN.TUNEN true).on R.VSM_TUN.TUNEN = true := by decide +kernel

/-- Report channel 15 open to node 9, its ring in HBM of stack 0, which is ON. -/
def reports15 : State :=
  let s := (((State.reset.put R.HBM_STATUS.STATE 0x2222).put R.NOC_STATUS.RUN 1).putB (R.VSM_RPT_CFG.EN 15) true).put (R.VSM_RPT_CFG.SRC 15) 9
  (s.put (R.NOC_PORT_STATUS.STATE (targetEp .hbm 0)) portOPEN).wr (R.SCR_REGION_ACCESS.reg 0) 0xFFFFFFFF

theorem wit_VasumServices_report : reports15.on (R.VSM_RPT_CFG.EN 15) = true ∧ reports15.g (R.VSM_RPT_CFG.SRC 15) = 9 ∧
    (0 + 1) % 16 ≠ reports15.g (R.VSM_RPT_RPTR.RPTR 15) % 16 ∧ reports15.g (R.VSM_RPT_WPTR.WPTR 15) = 0 ∧
    (reports15.put (R.VSM_RPT_RPTR.RPTR 15) 1).g (R.VSM_RPT_RPTR.RPTR 15) % 16 = 1 ∧
    reports15.rptSeen 15 9 5#32 = false ∧ (reports15.setVsm (fun v => { v with rptLast := [(15, some (9, 5#32))] })).rptSeen 15 9 5#32 = true ∧
    (reports15.postWrite iniVasum 0 (List.replicate 32 0#8)).2 = stOK := by decide +kernel

/-! TwinStates -/

/-- A device of a pair in a state, with a lease pin. -/
def twinIn (st : Nat) : State := (State.reset.put R.TWIN_STATUS.STATE st).putB R.TWIN_CFG.LEASEEN true

theorem wit_TwinStates : State.reset.twState = twOFF ∧ (State.reset.putB R.TWIN_STATUS.SEL true).on R.TWIN_STATUS.SEL = true ∧
    (State.reset.putB R.TWIN_STATUS.LEASEIN false).on R.TWIN_STATUS.LEASEIN = false ∧ State.reset.isUp (63 % 64) = false ∧
    State.reset.halted = false ∧ (twinIn 3).twState = twPRIMARY ∧ (twinIn 5).twState = twSTANDBY ∧ (twinIn 5).takesOver = true ∧
    (twinIn 6).takesOver = false ∧ (twinIn 1).twState = twUNPAIRED ∧ (twinIn 1).twinUp = false ∧ (twinIn 5).twin.waiting = false ∧
    (twinIn 5).on R.TWIN_CFG.LEASEEN = true ∧ ((twinIn 5).putB R.TWIN_STATUS.LEASEIN true).on R.TWIN_STATUS.LEASEIN = true ∧
    ((twinIn 5).setTwinBlk (fun t => { t with waiting := true })).twState ≠ twUNPAIRED ∧ (twinIn 6).twState = twDETACHED ∧
    ((twinIn 4).setTwinBlk (fun t => { t with synced := true })).twin.fails = 0 := by decide +kernel

/-! TwinTraffic -/

/-- The twin port 63 UP in the twin role, in a state of the pair. -/
def paired (st : Nat) : State :=
  (((State.reset.put R.TWIN_STATUS.STATE st).put R.TWIN_CFG.PORT 63).put (R.VSM_PORT_STATUS.STATE 63) vsUP).put (R.VSM_PORT_CFG.ROLE 63) 1

theorem wit_TwinTraffic : (paired 5).twinUp = true ∧ ((paired 5).putB R.TWIN_CFG.EN true).on R.TWIN_CFG.EN = true ∧ (paired 5).twinTime = true ∧
    (paired 5).twin.yielded = false ∧ (paired 3).twState = twPRIMARY ∧ (paired 5).twState = twSTANDBY ∧
    ((paired 5).setTwinBlk (fun t => { t with fails := 1 })).twin.fails = 1 ∧ ((paired 4).put R.TWIN_AXCHK.AXMASK 0).lockstep [] = 3 ∧ (paired 4).lockstep [] = 2 ∧
    (((paired 4).put R.TWIN_AXCHK.AXMASK 0).putB R.TWIN_STATUS.TLOCK true).lockstep [] = 0 ∧ ((paired 4).setTwinBlk (fun t => { t with snap := some [] })).twin.snap = some [] ∧
    (paired 5).plantNs.toNat + 100000 ≤ (100000#64).toNat ∧ ((paired 3).setTwinBlk (fun t => { t with hoT := some 4 })).twin.hoT ≠ none ∧
    ((paired 5).putB R.TWIN_STATUS.HOPEND true).on R.TWIN_STATUS.HOPEND = true ∧ ((paired 3).rw R.TWIN_HOTIME_LO.reg).toNat % 4 = 0 := by decide +kernel

/-! CrossbarAndPins -/

/-- Destination 707 and source 707 staged in group 15, whose commit is due at the next crossbar tick. -/
def commits15 : State := { State.reset with xbar := { State.reset.xbar with
  pend := [(707, some { word := 0xF400067F }), (1731, some { word := 0xF000127F })], commits := [(1, 15)] } }

theorem wit_CrossbarAndPins : badStage 707 (0xF400067F &&& xMask 707) = false ∧ badStage 707 (0xF6800000 &&& xMask 707) = true ∧
    State.reset.groupAllows 15 (.fabric 0) = (State.reset.g (R.XBAR_CG_CTL.OWNER 15) == 0) ∧
    (State.reset.put (R.XBAR_CG_CTL.OWNER 15) 0).groupAllows 15 .host = true ∧ (State.reset.put (R.XBAR_CG_CTL.OWNER 15) 3).groupAllows 15 .host = false ∧
    SMap.rising commits15.xbar.pend = true ∧ commits15.stagesOf 15 = [(707, 0xF400067F), (1731, 0xF000127F)] ∧ commits15.xbar.reclaims = [] := by decide +kernel

theorem wit_CrossbarAndPins_pins : (State.reset.put (R.XBAR_BANK_STATUS.VIO 19) 3).g (R.XBAR_BANK_STATUS.VIO 19) ≠ 0 ∧ State.reset.jtag.force = 0 ∧
    State.reset.xbar.pinsOn = false ∧ ({ State.reset with xbar := { State.reset.xbar with
      pinForce := [(639, (R.XBAR_PIN_CFG.IMODE 639).into (resetWord (R.XBAR_PIN_CFG.reg 639)) 1 ^^^ resetWord (R.XBAR_PIN_CFG.reg 639))] } } : State).pinF 639 R.XBAR_PIN_CFG.IMODE = 1 ∧
    State.reset.pinF 639 R.XBAR_PIN_CFG.INVIN = 0 ∧ State.reset.pinF 639 R.XBAR_PIN_CFG.FILT = 0 ∧ State.reset.xbar.inp.get 639 = false := by decide +kernel

/-! EncoderCounts -/

def enc15 (mode : Nat) : State := (State.reset.putB (R.PER_ENC_CFG.EN 15) true).put (R.PER_ENC_CFG.MODE 15) mode

theorem wit_EncoderCounts : (enc15 0).on (R.PER_ENC_CFG.EN 15) = true ∧ (enc15 0).g (R.PER_ENC_CFG.MODE 15) = 0 ∧
    ((enc15 0).per.enc.get 15).a = false ∧ ((enc15 0).per.enc.get 15).b = false ∧
    (enc15 1).g (R.PER_ENC_CFG.MODE 15) = 1 ∧ (enc15 2).g (R.PER_ENC_CFG.MODE 15) = 2 ∧
    (1 : Int) = (if (enc15 0).on (R.PER_ENC_CFG.DIRINV 15) then -1 else 1) ∧ State.reset.on (R.PER_ENC_CFG.EN 0) = false := by decide

/-! EncoderFaultsAndZ -/

theorem wit_EncoderFaults : (enc15 2).on (R.PER_ENC_CFG.EN 15) = true ∧ (enc15 2).encIsSsi 15 = true ∧ (enc15 0).encIsSsi 15 = false ∧
    (((enc15 0).per.enc.get 15).a ≠ true ∧ ((enc15 0).per.enc.get 15).b ≠ true) ∧
    (enc15 2).g (R.PER_ENC_CFG.JUMPLIM 15) = 0 ∧ ((enc15 2).per.enc.get 15).had = false ∧
    (let s := { (enc15 2).put (R.PER_ENC_CFG.JUMPLIM 15) 1 with per := { enc := [(15, { had := true })] } }
     s.g (R.PER_ENC_CFG.JUMPLIM 15) = 1 ∧ (s.per.enc.get 15).had = true ∧ s.g (R.PER_ENC_POS.POS 15) = 0) := by decide

def home15 : State := ((State.reset.putB (R.PER_ENC_CFG.EN 15) true).put (R.ANG_AXIS_CFG.KIND 15) 1).put (R.ANG_AXIS_CFG.SRCSEL 15) 15

theorem wit_ZPulse : let s := home15.putB (R.ANG_AXIS_CFG.HOME 15) true
    s.on (R.PER_ENC_CFG.EN 15) = true ∧ s.encIsSsi 15 = false ∧ (s.axesOf 1 15).filter (fun m => s.on (R.ANG_AXIS_CFG.HOME m)) = [15] ∧
    s.axState 15 ≠ axLOCKED ∧ (s.put (R.ANG_AXIS_STATE.STATE 15) axLOCKED).axState 15 = axLOCKED := by decide

/-! PeripheralUnits -/

theorem wit_PeripheralQueues : (State.reset.perUnit 11).tx.length < perDepth 11 ∧ perKey (.uart 7) = some 15 ∧ perKey (.enc 0) = none ∧
    perDepth 7 ≤ ((State.reset.setPerUnit 7 { tx := List.replicate 16 0 }).perUnit 7).tx.length ∧
    perDepth 15 ≤ ((State.reset.setPerUnit 15 { tx := List.replicate 32 0, rx := List.replicate 32 0 }).perUnit 15).tx.length := by decide

theorem wit_PeripheralEnable : perKey (.uart 7) = some 15 ∧ (State.reset.perUnit 15).stopping = false ∧
    State.reset.on ⟨perCfgReg (.uart 7), 31, 1⟩ = false ∧
    ((State.reset.setPerUnit 0 { stopping := true }).perUnit 0).stopping = true ∧ perKey (.i2c 0) = some 0 := by decide

/-! TransfersComplete -/

def i2cRuns (left : Nat) (send : Bool) : State := State.reset.setPerUnit 3 { running := true, left := left, tx := [if send then 0x100#32 else 0x200#32] }

theorem wit_TransfersComplete : ((State.reset.setPerUnit 7 { running := true }).perUnit 7).running = true ∧
    ((State.reset.setPerUnit 15 { running := true }).perUnit 15).running = true ∧
    (State.reset.putB (R.PER_UART_CFG.EN 7) true).perOn 15 = true ∧ (State.reset.putB (R.PER_UART_CFG.EN 7) true).on (R.PER_UART_CFG.DATA7 7) = false ∧
    ((State.reset.putB (R.PER_I2C_CFG.EN 3) true).put (R.PER_I2C_CFG.TOUT 3) 1).perOn 3 = true ∧
    ((State.reset.putB (R.PER_I2C_CFG.EN 3) true).put (R.PER_I2C_CFG.TOUT 3) 1).g (R.PER_I2C_CFG.TOUT 3) ≠ 0 ∧
    ((i2cRuns 7 true).perUnit 3).running = true ∧ ((i2cRuns 6 true).perUnit 3).left = 6 ∧ (i2cRuns 6 true).i2cSends 3 = true ∧
    (i2cRuns 6 false).i2cSends 3 = false ∧ ((i2cRuns 4 true).perUnit 3).left = 4 ∧
    ((State.reset.setPerUnit 15 { stopping := true }).perUnit 15).stopping = true := by decide

/-! Resets -/

/-- A device out of reset. -/
def released : State := { State.reset with rst := {} }

theorem wit_Resets : released.halted = false ∧ released.rst.reach < 2 ∧ released.rst.asserted = [] ∧ State.reset.portState 0 ≠ portFENCED ∧ epExists 0 = true ∧ released.sec.lost = false ∧
    (released.putB R.TWIN_CFG.ACCRST true).resetReqOk = true ∧ released.resetReqOk = false ∧
    (released.putB R.RST_STATUS.HALT true).halted = true ∧ (released.put (R.RST_FABSEL.SEL 15) 0x80000000).fabSel = [511] ∧
    (released.put (R.PWR_PD_STATUS.STATE (logicDomain 511)) 1).logicOn 511 = true ∧ State.reset.rst.asserted = [0] ∧ State.reset.rst.reach ≠ 0 ∧
    released.g R.DBG_RSTREQ.REQ ≠ 2 ∧ keptReg false R.ANG_EVENTS.reg = false ∧ keptReg true R.RST_CAUSE.reg = false := by decide +kernel

/-! BlockResets -/

theorem wit_BlockResets : released.rst.reach = 0 ∧ State.reset.rst.reach ≠ 0 ∧ (released.putB (R.PER_ENC_CFG.EN 15) true).on (R.PER_ENC_CFG.EN 15) = true ∧
    released.on (R.PER_ENC_CFG.EN 15) = false ∧ (∀ a, a < 16 → released.g (R.ANG_AXIS_CFG.KIND a) ≠ 1) ∧ released.perOn 15 = false ∧
    released.on (perField 15 7 1) = false ∧ released.stackState 3 = 0 ∧ (released.put R.HBM_STATUS.STATE 0x2222).stackState 3 = 2 ∧
    released.stage 47 = stOFF ∧ released.on (R.LANE_LANE_STATUS.BUSY 47) = false ∧ (released.put (R.LANE_LANE_STATUS.STAGE 47) 4).stage 47 ≠ stOFF ∧
    (∀ p, p < 48 → released.on (R.VSM_PORT_CFG.EN p) = false ∧ released.vstate p = vsDOWN ∧ released.on (R.VSM_PORT_STATUS.BUSY p) = false) ∧
    (released.putB R.USB_STATUS.LINK true).on R.USB_STATUS.LINK = true ∧ released.on R.USB_STATUS.LINK = false ∧
    (∀ n, n < 8 → released.dmaState n = dmaSTOPPED) ∧ (∀ n, n < 64 → released.on (R.EVT_CMP_STATUS.ARMED n) = false) ∧
    (∀ n, n < 128 → released.on (R.EVT_EDG_STATUS.ARMED n) = false ∧ released.g (R.EVT_EDG_STATUS.QFILL n) = 0 ∧
      released.on (R.EVT_CAP_STATUS.ARMED n) = false ∧ released.g (R.EVT_CAP_STATUS.FILL n) = 0) ∧ (∀ n, n < 4 → released.on (R.LGR_STREAM_CFG.EN n) = false) ∧
    released.axState 15 = axDISABLED ∧ released.on (R.ANG_AXIS_STATE.BUSY 15) = false ∧ (∀ a, a < 16 → released.g (R.ANG_AXIS_CFG.KIND a) ≠ 3) ∧
    released.axisNamed 15 = false ∧ released.on R.PER_PMB_STATUS.BUSY = false ∧ (released.putB R.PER_PMB_STATUS.BUSY true).on R.PER_PMB_STATUS.BUSY = true ∧ (released.put (R.ANG_AXIS_STATE.STATE 15) axLOCKED).axState 15 ≠ axDISABLED := by decide +kernel

/-! PowerAndClocks -/

/-- A domain in a state, with every port at rest. -/
def pdIn (n st : Nat) : State := State.reset.put (R.PWR_PD_STATUS.STATE n) st
/-- A logic group waking with an ACTIVE slot in its region 511. -/
def waking511 : State := { ((((pdIn (logicDomain 511) pdPOWERING).putB (R.CTX_REGION_STATUS.HASACT 511) true).put (R.CTX_REGION_STATUS.ACT 511) 7).put
  (R.CTX_SLOT_STATE.STATE (511 * 8 + 7)) slotACTIVE) with xbar := { State.reset.xbar with pinsOn := true } }

theorem wit_PowerAndClocks : State.reset.pdRefusal 22 pdOFF = 0 ∧ State.reset.pdMoving 22 = false ∧ State.reset.pdState 22 = pdON ∧
    (pdIn 22 pdCLOSING).pdMoving 22 = true ∧ (pdIn 22 pdCLOSING).pdRefusal 22 pdON = 0 ∧ (pdIn 22 pdOFF).heldOff 22 = false ∧
    ((pdIn 22 pdOFF).putB R.THM_STATUS.TRIP true).heldOff 22 = true ∧ (State.reset.put R.HBM_STATUS.STATE 0x0200).stackState 2 = 2 ∧
    (State.reset.putB R.MEM_STATUS.MARCHBUSY true).on R.MEM_STATUS.MARCHBUSY = true ∧ State.reset.pdState (logicDomain 511) ≠ pdOFF ∧ 511 % 16 / 8 = 44 - 43 ∧
    State.reset.pdRefusal 42 pdRETAIN = 0 ∧ (pdIn 22 pdCLOSING).pwr.queued.get 22 = none ∧ (pdIn 22 pdCLOSING).pwr.goal.get 22 = pdOFF ∧
    (∀ ep, ep ∈ domainPorts 22 → (pdIn 22 pdCLOSING).portState ep ≠ portOPEN ∧ (pdIn 22 pdCLOSING).portState ep ≠ portCLOSING) ∧
    waking511.activeCtx 511 = some 7 ∧ waking511.xbar.pinsOn = true ∧ waking511.pdState (logicDomain 511) = pdPOWERING := by decide +kernel

/-- The adaptive-voltage loop on; a stage for region 511. -/
def loopOn : State := State.reset.putB R.PWR_AVS_CFG.EN true

theorem wit_PowerAndClocks_clocks : loopOn.on R.PWR_AVS_CFG.EN = true ∧ loopOn.pwr.held = false ∧ loopOn.pwr.waits = [] ∧ loopOn.pwr.vccl < 65536 ∧
    ({ loopOn with pwr := { loopOn.pwr with misses := 2 } } : State).pwr.misses = 2 ∧ loopOn.g R.PWR_AVS_STATUS.TARGET = 750 ∧
    (R.CLK_FPLL_CFG.M 7).of 0x80000418#32 = 24 ∧ (R.CLK_FPLL_CFG.P 7).of 0x80000418#32 = 4 ∧ State.reset.fpllUsers 7 = 0 ∧
    (R.CLK_FPLL_CFG.M 7).of 0x8000031F#32 = 31 ∧ State.reset.on (R.CLK_FPLL_CFG.EN 7) = true ∧
    (State.reset.putB (R.CLK_FPLL_STATUS.LOCK 7) true).on (R.CLK_FPLL_STATUS.LOCK 7) = true ∧ State.reset.on (R.CLK_FPLL_STATUS.LOCK 7) = false ∧
    (State.reset.putB (R.CLK_FPLL_CFG.EN 7) false).on (R.CLK_FPLL_CFG.EN 7) = false ∧ State.reset.g (R.CLK_REGION_CFG.SRC 511) = 0 ∧
    100 * State.reset.g (R.CLK_FPLL_CFG.M 7) ≤ State.reset.g (R.CLK_REGION_STATUS.FMAX 511) * State.reset.g (R.CLK_FPLL_CFG.P 7) ∧
    State.reset.on (R.CTX_REGION_STATUS.HASACT 511) = false ∧ waking511.on (R.CTX_REGION_STATUS.HASACT 511) = true ∧
    (waking511.put (R.PWR_PD_STATUS.STATE (logicDomain 511)) 1).logicOn 511 = true := by decide +kernel

/-! StartSteps -/

/-- A start with a step due. -/
def dueAt (k : Nat) : State := { State.reset with rst := {}, start := { State.reset.start with step := some k } }
/-- A start whose policy action for step k applies. -/
def dueWith (k a arg : Nat) : State := { dueAt k with start := { (dueAt k).start with action := some (k, a, arg) } }
/-- REGIONS with region 511 named for slot 7, PROOFED, powered and clocked. -/
def named511 : State := { (((((dueAt stepREGIONS).setSlot 511 7 slotPROOFED).put (R.PWR_PD_STATUS.STATE (logicDomain 511)) 1).putB
  (R.CLK_FPLL_STATUS.LOCK 0) true)) with cfg := { State.reset.cfg with acts := [(0, 511, 7)] } }

theorem wit_StartSteps : (∀ k, k ∈ [stepTRIM, stepPORTS, stepFETCH, stepHBMTRAIN, stepMARCH, stepCSR, stepLEDGER, stepLANES, stepPLANTTIME, stepREGIONS,
      stepRELEASE] → (dueAt k).stepDue k = true) ∧ State.reset.start.step ≠ some stepPORTS ∧ (State.reset.put (R.AON_POLICY.ENTRY 15) 0x301).policyEntry 1 = some 0x301 ∧
    actAllowed 1 3 = true ∧ actAllowed 1 0 = true ∧ actAllowed 1 2 = false ∧ State.reset.policyEntry 1 = none ∧
    (dueAt stepFETCH).applied stepFETCH actALTERNATE = none ∧ (dueWith stepFETCH actALTERNATE 1).applied stepFETCH actALTERNATE = some 1 ∧
    (dueWith stepFETCH actALTERNATE 0).applied stepFETCH actALTERNATE = some 0 ∧ ((dueAt stepFETCH).loadCh 0).busy = false ∧
    ((dueAt stepFETCH).setLoadCh 0 { busy := true }).stepDue stepFETCH = true ∧ (dueAt stepHBMTRAIN).start.drawing = none ∧
    ((dueWith stepHBMTRAIN actALTERNATE 4).applied stepHBMTRAIN actALTERNATE).getD 0 = 4 ∧ Nat.testBit 4 2 = true ∧
    ((dueWith stepMARCH actSKIP 0).applied stepMARCH actSKIP).isSome = true ∧ ((dueAt stepMARCH).applied stepMARCH actSKIP).isSome = false ∧
    (running 0x50 []).mbxRuns 15 0x50 = true ∧ (dueAt stepCSR).cfg.held = [] ∧ (dueAt stepLEDGER).lgr.entries.any (fun e => e.2.bad) = false := by decide +kernel

theorem wit_StartSteps_later : ((dueAt stepCSR).heldWrite R.LANE_REFCFG.reg 0).2 = true ∧ ((dueAt stepCSR).heldWrite R.LANE_REFCFG.reg 0).1.rst.reach = 0 ∧
    ((dueAt stepCSR).heldWrite (R.LANE_REFCFG.reg + 1) 0).2 = false ∧
    (∀ n, n < 48 → (dueAt stepLANES).on (R.LANE_LANE_CTL.EN n) = true → (dueAt stepLANES).stage n = stUP) ∧
    ((dueAt stepLANES).putB (R.LANE_LANE_CTL.EN 47) true).on (R.LANE_LANE_CTL.EN 47) = true ∧
    ((dueAt stepLANES).putB (R.LANE_LANE_CTL.EN 47) true).stage 47 ≠ stUP ∧
    (dueAt stepPLANTTIME).on (R.VSM_PORT_CFG.EN ((dueAt stepPLANTTIME).g R.VSM_TIME_CFG.UPPORT)) = false ∧
    ((dueAt stepPLANTTIME).putB (R.VSM_PORT_CFG.EN 0) true).on (R.VSM_PORT_CFG.EN 0) = true ∧ named511.regionFail 511 7 = 0 ∧
    named511.on R.AGE_STATUS.PLANPEND = false ∧ (dueAt stepREGIONS).regionFail 511 7 = 2 ∧ named511.stepDue stepREGIONS = true ∧
    ({ dueAt stepRELEASE with start := { (dueAt stepRELEASE).start with committed := [(511, 7)] } } : State).stepDue stepRELEASE = true ∧
    ({ dueAt 0 with start := { (dueAt 0).start with retry := true } } : State).start.retry = true ∧ (dueAt 0).rst.reach = 0 := by decide +kernel

/-! TemperatureAndAgeing -/

/-- Channel n on, TRIP as at reset. -/
def channelOn (n : Nat) : State := { State.reset.putB (R.THM_CH_CFG.EN n) true with rst := {} }

theorem wit_TemperatureAndAgeing : (channelOn 39).on (R.THM_CH_CFG.EN 39) = true ∧ State.reset.on (R.THM_CH_CFG.EN 39) = false ∧
    flagAfter false 1600 (signed16 0x640) 0 = true ∧ flagAfter true 1599 (signed16 0x640) 16 = true ∧ flagAfter true 1583 (signed16 0x640) 16 = false ∧
    ((channelOn 39).put (R.THM_CH_CFG.ACTION 39) 1).g (R.THM_CH_CFG.ACTION 39) = 1 ∧
    (((channelOn 39).put (R.THM_CH_CFG.ACTION 39) 2).putB (R.CTX_SG_CFG.EN_REG 0) true).on (R.CTX_SG_CFG.EN_REG 0) = true ∧
    signed16 (State.reset.g R.THM_TRIP.TRIP) ≤ 32767 ∧ ({ channelOn 19 with age := { State.reset.age with hot := [(19, 1)] } } : State).age.hot.get 19 = 1 ∧
    (channelOn 19).rst.reach < 2 ∧ 10 ∉ (channelOn 19).rst.asserted ∧ (channelOn 19).halted = false ∧ (1440 : Int) ≤ signed16 1440 ∧
    signed16 1440 ≤ signed16 (State.reset.g R.THM_TRIP.TRIP) := by decide +kernel

theorem wit_TemperatureAndAgeing_ageing : (∀ x, x ∈ [(511, 9500, 10)] → x.1 < 512 ∧ (State.reset.put (R.PWR_PD_STATUS.STATE (logicDomain 511)) 1).logicOn x.1 = true) ∧
    (running 0x60 []).mbxRuns 15 0x60 = true ∧ ((running 0x60 []).putB R.AGE_STATUS.PLANPEND true).on R.AGE_STATUS.PLANPEND = true ∧
    ((running 0x60 []).putB R.PWR_AVS_CFG.EN true).on R.PWR_AVS_CFG.EN = true ∧ (running 0x60 []).pwr.held = false ∧
    State.reset.g R.PWR_AVS_STATUS.TARGET = 750 ∧ State.reset.g R.VSM_STATUS.TSTATE ≠ 2 ∧ (State.reset.put R.VSM_STATUS.TSTATE 2).g R.VSM_STATUS.TSTATE = 2 ∧
    (State.reset.putB R.THM_CRYS.EN true).on R.THM_CRYS.EN = true ∧ State.reset.on R.THM_CRYS.EN = false := by decide +kernel

/-! EmberDomain -/

/-- On battery with comparator 3 on and its key erased on a rising edge. -/
def ember3 : State := (((State.reset.putB (R.AON_CMP_CFG.EN 3) true).put (R.AON_CMP_CFG.EDGE 3) 1).putB (R.AON_CMP_CFG.ERASE 3) true).setSec
  (fun x => { x with onBat := true, runs := [] })

theorem wit_EmberDomain : ember3.on R.AON_STATUS.XTALFAIL = false ∧ ember3.sec.lost = false ∧ ember3.on (R.AON_CMP_CFG.LEVEL 3) = false ∧
    ember3.g (R.AON_CMP_CFG.DEB 3) ≤ ember3.sec.runs.get 3 ∧ (ember3.g (R.AON_CMP_CFG.EDGE 3)).testBit 0 = true ∧ ember3.on (R.AON_CMP_CFG.ERASE 3) = true ∧
    200 + 100 * ember3.g (R.AON_CMP_CFG.THR 3) ≤ [0, 0, 0, 200].getD 3 0 ∧ ember3.on (R.AON_CMP_CFG.LOCK 3) = false ∧
    (ember3.putB (R.AON_CMP_CFG.LOCK 3) true).on (R.AON_CMP_CFG.LOCK 3) = true ∧ ember3.sec.log = [] ∧
    ((ember3.aonLog 3 1).sec.log.map (fun e => (e.src, e.info))) = [(3, 1)] := by decide +kernel

/-! SecurityRequests -/

/-- Slot 15 running a code, with its buffer in bank memory that holds zeros. -/
def secReq (code : Nat) : State := running code [0, 0]
/-- A fuse request with one copy left to blow, and a slot waiting for it. -/
def blowing (tries : Nat) (more : List (Nat × Nat)) : State := (running 0x57 [1]).setSec (fun x => { x with jobs := [{ mbx := some 15, todo := (55, 31) :: more, tries := tries }] })

theorem wit_SecurityRequests : (secReq 0x51).mbxRuns 15 0x51 = true ∧ State.reset.mbxRuns 15 0x51 = false ∧ (secReq 0x51).policyBit 2 = false ∧
    ((secReq 0x51).put R.SEC_POLICY.POLICY 4).policyBit 2 = true ∧ (secReq 0x51).sec.kbValid = false ∧
    ((secReq 0x51).setSec (fun x => { x with kbValid := true })).sec.kbValid = true ∧ (secReq 0x53).major fuseKFPROG = false ∧
    ((running 0x54 [3])).mbxArg 15 0 = 3 ∧ (running 0x54 [3]).major (fuseSLOTPROG 3) = false ∧ (running 0x55 [4]).mbxArg 15 0 = 4 ∧
    (∀ k, k < 4 → k ≠ 3 → (running 0x55 [3]).major (fuseSLOTPROG k) = true → (running 0x55 [3]).major (fuseREVOKE k) = true) ∧
    (running 0x56 [0]).mbxArg 15 0 ≤ (running 0x56 [0]).cfg.fullArb ∧ (running 0x56 [0]).arbTodo 0 = [] ∧ (running 0x56 [0]).sec.jobs = [] ∧
    (running 0x57 [1]).major (fusePOLICY 0) = false ∧ ((running 0x57 [1]).blowThree (fusePOLICY 0)).length = 3 ∧
    (blowing 2 []).sec.jobs = [{ mbx := some 15, todo := [(55, 31)], tries := 2 }] ∧ (blowing 2 []).mbxState 15 = mbxRUNNING ∧
    (secReq 0x50).mbxArg 15 0 % 256 = 0 ∧ (running 0x50 [128]).mbxArg 15 0 % 256 ≠ 0 := by decide +kernel

/-! HostPath -/

/-- The host link up. -/
def hosted : State := (State.reset.putB R.USB_STATUS.PCIE true).putB R.USB_STATUS.LINK true
/-- Channel 7 running with one descriptor to process, and perhaps one in progress. -/
def channel7 (jobs : SMap DmaJob) : State := { (((hosted.setDma 7 dmaRUNNING).put (R.USB_DMA_TAIL.TAIL 7) 1)) with usb := { State.reset.usb with dma := jobs } }

theorem wit_HostPath : hosted.on R.USB_STATUS.PCIE = true ∧ State.reset.on R.USB_STATUS.PCIE = false ∧ (hosted.csrGet 0xA00000).resp.isSome = true ∧
    (hosted.csrSet .host 0xA00004 0 0).resp = some { status := stOK, data := [] } ∧
    hosted.freeTag iniHost (fun t => !hosted.hostWaits [] t) = some 0 ∧ spansOf 4095 2 = [(4095, 1), (4096, 1)] ∧
    hosted.ringBytes ≠ 0 ∧ hosted.mbxState 15 = mbxFREE ∧ (hosted.setMbx 15 mbxRUNNING).mbxState 15 ≠ mbxFREE ∧
    (hosted.setMbx 15 mbxPOSTED).mbxState 15 = mbxPOSTED ∧ (hosted.setUsb (fun u => { u with token := 15 })).usb.token = 15 ∧
    ((hosted.put (R.USB_MBX_REQ.REQ 15) 0x60).setMbx 15 mbxPOSTED).mbxCode 15 = 0x60 ∧ ((hosted.setMbx 0 mbxANSWERED).setBit R.USB_MBX_DONE.DONE 0).bit R.USB_MBX_DONE.DONE 0 = true ∧
    (channel7 []).dmaState 7 = dmaRUNNING ∧ (channel7 []).dmaDue 7 = true ∧ SMap.find (channel7 []).usb.dma 7 = none ∧ hosted.dmaDue 7 = false ∧
    descOk (natBytes 0 16 ++ natBytes 3 3 ++ natBytes 0 13) = true ∧ descLen (natBytes 0 16 ++ natBytes 3 3 ++ natBytes 0 13) = 4 ∧
    descOk (natBytes 1 16 ++ natBytes 3 3 ++ natBytes 0 13) = false ∧ descIn (natBytes 0 16 ++ natBytes 3 3 ++ natBytes 1 13) = true ∧
    (channel7 [(7, { parts := [{ got := some (0, [0, 0, 0, 0]) }] })]).usb.dma.length = 1 ∧
    partsStatus [{ got := some (0, []) }, { got := some (9, []) }] = 9 ∧
    ({ hosted with usb := { hosted.usb with reads := [[{ got := some (0, [1]) }]] } } : State).hostAnswers.resp = some { status := stOK, data := [1] } ∧
    (State.reset.put (R.PWR_PD_STATUS.STATE 6) 1).pdOn 6 = true ∧ State.reset.rst.reach ≠ 0 := by decide +kernel

/-! RegisterAccess -/

/-- The network up and the register endpoint open. -/
def reachable : State := (State.reset.putB R.NOC_STATUS.RUN true).openPorts [csrEp]

theorem wit_RegisterAccess : State.reset.csrPath .super = some 6 ∧ reachable.csrPath .super = none ∧ reachable.csrPath .debug = none ∧
    csrBlockOf 0xF00000 = none ∧ (csrBlockOf R.LANE_REFCFG.reg).isSome = true ∧ (regRowOf R.LANE_REFCFG.reg).isSome = true ∧
    csrOpOf R.LANE_REFCFG.reg = none ∧ (csrOpOf R.ANG_APPLY.reg).isSome = true ∧ (regRowOf R.PWR_AVS_CFG.reg).any (fun r => !r.writer.accepts .host) = true ∧
    (regRowOf R.PWR_AVS_CFG.reg).any (fun r => r.writer.accepts .super) = true ∧ (regRowOf R.AGE_CFG.reg).isSome = true := by decide +kernel

/-! DebugPort -/

/-- DAPACC selected. -/
def dapOn (wait : Option (Bool × Bool)) : State := { reachable with jtag := { State.reset.jtag with ir := 0x20, wait := wait } }

theorem wit_DebugPort : State.reset.policyBit 3 = false ∧ (State.reset.put R.SEC_POLICY.POLICY 8).policyBit 3 = true ∧ sidePath 0xF000010000 = true ∧
    sidePath 0xF000020000 = false ∧ (dapOn none).jtag.ir = 0x20 ∧ (dapOn (some (true, true))).jtag.wait.isSome = true ∧ (dapOn none).halted = false ∧
    (dapOn none).freeTag iniDebug (fun _ => true) = some 0 ∧ ((dapOn none).csrGet 0x10000).resp.isSome = true ∧
    (dapOn (some (true, true))).noc.issued.any (fun i => i.ini = iniDebug) = false ∧
    ({ (dapOn (some (true, true))) with noc := { (dapOn none).noc with arrived := [(iniDebug * 4096, 0, 0, [1, 2, 3, 4])] } } : State).noc.arrived.length = 1 := by decide +kernel

end Sys2Proof.Tests
end

/-! Accesses to the control and status registers (R5 to R10, R283, R302, R515): where an access is turned back, what a write and
a read do that arrive, and O59. -/

namespace Sys2Proof.Machine

/-! ### The way to the registers -/

/-- An access that is turned back on its way is answered so, and does not act. -/
theorem State.csrAccess_turnedBack {s : State} {who : Who} {st : Nat} (h : s.csrPath who = some st) (a size : Nat)
    (f : State → State) : s.csrAccess who a size f = s.answerWith st [] := by
  simp only [State.csrAccess, h]

/-- An access that arrives acts only when it is of 4 aligned bytes. -/
theorem State.csrAccess_arrived {s : State} {who : Who} (h : s.csrPath who = none) (a size : Nat) (f : State → State) :
    s.csrAccess who a size f = if size ≠ 4 ∨ a % 4 ≠ 0 then s.answerWith stBAD [] else f s := by
  simp only [State.csrAccess, h, Bool.or_eq_true, decide_eq_true_eq]

theorem State.csrAccess_badShape {s : State} {who : Who} (h : s.csrPath who = none) {a size : Nat}
    (hbad : size ≠ 4 ∨ a % 4 ≠ 0) (f : State → State) : s.csrAccess who a size f = s.answerWith stBAD [] := by
  rw [State.csrAccess_arrived h, if_pos hbad]

theorem State.csrAccess_aligned {s : State} {who : Who} (h : s.csrPath who = none) {a : Nat} (ha : a % 4 = 0)
    (f : State → State) : s.csrAccess who a 4 f = f s := by
  rw [State.csrAccess_arrived h, if_neg (by simp [ha])]

theorem regRowOf_eq_none {a : Nat} (h : csrBlockOf a = none) : regRowOf a = none := by
  simp only [regRowOf, h]

/-- A register lies in a block. -/
theorem csrBlockOf_isSome_of_regRowOf {a : Nat} {r : RegRow} (h : regRowOf a = some r) : ∃ rows, csrBlockOf a = some rows := by
  cases hb : csrBlockOf a with
  | none => simp [regRowOf_eq_none hb] at h
  | some rows => exact ⟨rows, rfl⟩

/-! ### A write that arrives -/

section Write

variable (s : State) (who : Who) {a : Nat} (v : Word) (sub : Nat)

theorem State.csrSet_outside (hb : csrBlockOf a = none) : s.csrSet who a v sub = s.answerWith stNONE [] := by
  simp only [State.csrSet, hb]

theorem State.csrSet_unimplemented (hb : (csrBlockOf a).isSome = true) (hr : regRowOf a = none) :
    s.csrSet who a v sub = s.answerWith stOK [] := by
  obtain ⟨rows, hb⟩ := Option.isSome_iff_exists.1 hb
  simp only [State.csrSet, hb, hr]

variable {who} {r : RegRow} (hr : regRowOf a = some r)
include hr

theorem State.csrSet_refused (hw : r.writer.accepts who = false) : s.csrSet who a v sub = s.answerWith stERR [] := by
  obtain ⟨rows, hb⟩ := csrBlockOf_isSome_of_regRowOf hr
  simp only [State.csrSet, hb, hr, hw, Bool.not_false, if_true]

theorem State.csrSet_operation (hw : r.writer.accepts who = true) {o : CsrOp} {n : Nat} (ho : csrOpOf a = some (o, n)) :
    s.csrSet who a v sub = o.act who n v sub (s.answerWith stOK []) := by
  obtain ⟨rows, hb⟩ := csrBlockOf_isSome_of_regRowOf hr
  simp [State.csrSet, hb, hr, hw, ho]

theorem State.csrSet_plain (hw : r.writer.accepts who = true) (ho : csrOpOf a = none) :
    s.csrSet who a v sub = (s.answerWith stOK []).plainWrite r a v := by
  obtain ⟨rows, hb⟩ := csrBlockOf_isSome_of_regRowOf hr
  simp [State.csrSet, hb, hr, hw, ho]

end Write

/-- A register write touches its own register only. -/
theorem State.regsBut_wr (s : State) (a : Nat) (v : Word) : regsBut [a] s (s.wr a v) :=
  fun _ hb => s.rw_wr_other v (by simpa using hb)

/-- What a plain write makes of each bit, by the access code that the register's row gives it (Table 0.3). -/
theorem State.plainWrite_bit (s : State) (r : RegRow) (a : Nat) (v : Word) {b : Nat} (hb : b < 32) :
    ((s.plainWrite r a v).rw a).getLsbD b =
      ((((s.rw a).getLsbD b && !r.rw.testBit b) || (v.getLsbD b && r.rw.testBit b)) && !(v.getLsbD b && r.w1c.testBit b) ||
        (v.getLsbD b && r.w1s.testBit b)) := by
  simp only [State.plainWrite, State.rw_wr_same, BitVec.getLsbD_or, BitVec.getLsbD_and, BitVec.getLsbD_not, BitVec.getLsbD_ofNat,
    hb, decide_true, Bool.true_and]

/-! ### A read that arrives -/

/-- Clearing a mask of bits in a register leaves its other bits. -/
theorem State.clear_bit (s : State) (a mask : Nat) {b : Nat} (hb : b < 32) :
    ((s.wr a (s.rw a &&& ~~~(BitVec.ofNat 32 mask))).rw a).getLsbD b = ((s.rw a).getLsbD b && !mask.testBit b) := by
  simp only [State.rw_wr_same, BitVec.getLsbD_and, BitVec.getLsbD_not, BitVec.getLsbD_ofNat, hb, decide_true, Bool.true_and]

theorem State.csrGet_outside (s : State) {a : Nat} (hb : csrBlockOf a = none) : s.csrGet a = s.answerWith stNONE [] := by
  simp only [State.csrGet, hb]

theorem State.csrGet_unimplemented (s : State) {a : Nat} (hb : (csrBlockOf a).isSome = true) (hr : regRowOf a = none) :
    s.csrGet a = s.answerWith stOK [0, 0, 0, 0] := by
  obtain ⟨rows, hb⟩ := Option.isSome_iff_exists.1 hb
  simp only [State.csrGet, hb, hr]
  rfl

/-- The offsets that hold no register whose read takes something: the ranges leave out the ember block, the captures and the
receive queues of the peripherals. -/
def readTakesNothing (a : Nat) : Prop :=
  a < 0x60000 ∨ (0x70000 ≤ a ∧ a < 0x114000) ∨ (0x116000 ≤ a ∧ a < 0xC00400) ∨ 0xC00700 ≤ a

/-- Such a read clears the fields that a read clears (R10). -/
theorem State.csrTake_of_takesNothing (s : State) {a : Nat} (ha : readTakesNothing a) {r : RegRow} (hr : regRowOf a = some r) :
    s.csrTake a = s.wr a (s.rw a &&& ~~~(BitVec.ofNat 32 r.rc)) := by
  unfold readTakesNothing at ha
  have hrtc : a ≠ R.AON_RTC_LO.reg := by unfold R.AON_RTC_LO.reg; omega
  have hlog : ∀ k, k ≤ 3 → a ≠ R.AON_LOG_ENT.reg k := by unfold R.AON_LOG_ENT.reg; omega
  have hcap : ¬(0x114000 ≤ a ∧ a < 0x116000 ∧ a % 64 = 0x2C) := by omega
  have hi2c : ¬(0xC00400 ≤ a ∧ a < 0xC00480 ∧ a % 32 = 8) := by omega
  have hspi : ¬(0xC00500 ≤ a ∧ a < 0xC00580 ∧ a % 32 = 8) := by omega
  have huart : ¬(0xC00600 ≤ a ∧ a < 0xC00700 ∧ a % 32 = 8) := by omega
  simp only [State.csrTake, hrtc, hlog, hcap, hi2c, hspi, huart, hr, if_false, Nat.zero_le, le_refl]

/-- Such a read returns the word that the register shows. -/
theorem State.csrGet_of_takesNothing (s : State) {a : Nat} (ha : readTakesNothing a) {r : RegRow} (hr : regRowOf a = some r) :
    s.csrGet a = (s.wr a (s.rw a &&& ~~~(BitVec.ofNat 32 r.rc))).answerWith stOK (wordBytes (s.csrShown a)) := by
  obtain ⟨rows, hb⟩ := csrBlockOf_isSome_of_regRowOf hr
  have hlog : a ≠ R.AON_LOG_ENT.reg 0 := by unfold readTakesNothing at ha; unfold R.AON_LOG_ENT.reg; omega
  have hrx : ¬(0xC00400 ≤ a ∧ a < 0xC00700 ∧ a % 32 = 8) := by unfold readTakesNothing at ha; omega
  simp only [State.csrGet, hb, hr, hlog, hrx, if_false, s.csrTake_of_takesNothing ha hr]

/-! ### The statement -/

/-- Settles O59: the judgement on the way by `csrAccess`, then the write by the cases of `csrSet` and the read by those of
`csrGet`. -/
theorem registerAccess : Obligations.RegisterAccess := by
  unfold Obligations.RegisterAccess
  refine ⟨fun s => ⟨rfl, rfl, fun _ => rfl, ?path⟩, fun s w a size v sub => ?write, fun s w a size => ?read⟩
  case path =>
    rintro w ini (⟨rfl, rfl⟩ | ⟨rfl, rfl⟩ | ⟨rfl, rfl⟩) <;> rfl
  case write =>
    refine ⟨s.csrAccess w a size (fun s => s.csrSet w a v sub), rfl, fun st h => State.csrAccess_turnedBack h a size _,
      fun h => ⟨fun hbad => State.csrAccess_badShape h hbad _, ?_⟩⟩
    rintro rfl ha
    rw [State.csrAccess_aligned h ha]
    refine ⟨s.csrSet_outside w v sub, s.csrSet_unimplemented w v sub, fun r _ hr => ⟨s.csrSet_refused v sub hr, ?_, ?_⟩⟩
    · intro hw ho
      rw [s.csrSet_plain v sub hr hw ho]
      exact ⟨rfl, rfl, State.regsBut_wr (s.answerWith stOK []) a _, fun b hb => (s.answerWith stOK []).plainWrite_bit r a v hb⟩
    · exact fun o n hw ho => s.csrSet_operation v sub hr hw ho
  case read =>
    refine ⟨s.csrAccess w a size (fun s => s.csrGet a), rfl, fun st h => State.csrAccess_turnedBack h a size _,
      fun h => ⟨fun hbad => State.csrAccess_badShape h hbad _, ?_⟩⟩
    rintro rfl ha
    rw [State.csrAccess_aligned h ha]
    refine ⟨s.csrGet_outside, s.csrGet_unimplemented, fun r _ hr => ⟨rfl, fun hplain => ?_⟩⟩
    rw [s.csrGet_of_takesNothing hplain hr]
    exact ⟨rfl, rfl, s.regsBut_wr a _, fun b hb => s.clear_bit a r.rc hb⟩

end Sys2Proof.Machine

/-! The angle timebase (R25 to R48): what a write of an axis, an APPLY, a trim step, a snapshot, the coast limit and a tick do, and O8 to
O13. -/

namespace Sys2Proof.Machine

/-! ### Axes -/

/-- An axis record written reads back; every other axis reads as before. -/
theorem State.axis_setAxis (s : State) (n m : Nat) (a : Axis) : (s.setAxis n a).axis m = if m = n then a else s.axis m :=
  SMap.get_set s.ang.axes n m a

theorem State.rw_withAng (s : State) (x : Ang) (a : Nat) : State.rw { s with ang := x } a = s.rw a := rfl
@[simp] theorem State.axis_wr (s : State) (a : Nat) (v : Word) (m : Nat) : (s.wr a v).axis m = s.axis m := rfl
@[simp] theorem State.axis_putB (s : State) (f : Field) (b : Bool) (m : Nat) : (s.putB f b).axis m = s.axis m := rfl
@[simp] theorem State.axOffset_setAxis (s : State) (n m : Nat) (a : Axis) : (s.setAxis n a).axOffset m = s.axOffset m := rfl
@[simp] theorem State.axState_setAxis (s : State) (n m : Nat) (a : Axis) : (s.setAxis n a).axState m = s.axState m := rfl
@[simp] theorem State.axis_setAxOffset (s : State) (n m : Nat) (v : DWord) : (s.setAxOffset n v).axis m = s.axis m := rfl

/-- A 64-bit number is its upper word and its lower word. -/
theorem upper_append_lower (v : DWord) : (v >>> 32).setWidth 32 ++ v.setWidth 32 = v := by
  refine BitVec.eq_of_getLsbD_eq fun i hi => ?_
  rw [BitVec.getLsbD_append]
  by_cases h : i < 32
  · simp [h]
  · have h32 : 32 + (i - 32) = i := by omega
    have hlt : i - 32 < 32 := by omega
    simp [h, h32, hlt]

theorem State.axOffset_setAxOffset (s : State) (n : Nat) (v : DWord) : (s.setAxOffset n v).axOffset n = v := by
  have hne : R.ANG_AXIS_OFFSET_LO.reg n ≠ R.ANG_AXIS_OFFSET_HI.reg n := by
    unfold R.ANG_AXIS_OFFSET_LO.reg R.ANG_AXIS_OFFSET_HI.reg; omega
  simp only [State.axOffset, State.setAxOffset, State.rw_wr_same, State.rw_wr_other _ _ hne, upper_append_lower]

theorem State.axOffset_wr_other (s : State) {a n : Nat} (v : Word) (hlo : R.ANG_AXIS_OFFSET_LO.reg n ≠ a)
    (hhi : R.ANG_AXIS_OFFSET_HI.reg n ≠ a) : (s.wr a v).axOffset n = s.axOffset n := by
  simp only [State.axOffset, State.rw_wr_other s v hlo, State.rw_wr_other s v hhi]

/-! ### The trim step (R46) -/

/-- The step that a pending trim `p` takes at most `slew` of. -/
def trimStep (p slew : Int) : Int := if p < 0 then max p (-slew) else min p slew

/-- The step is bounded by TRIMSLEW, and goes from zero toward the pending trim without passing it. -/
theorem trimStep_bounds (p : Int) {slew : Int} (hs : 0 ≤ slew) :
    (trimStep p slew).natAbs ≤ slew.natAbs ∧ (min p 0 ≤ trimStep p slew ∧ trimStep p slew ≤ max p 0) := by
  unfold trimStep
  split <;> omega

/-- What is left of a trim that a register holds is a number that the register holds. -/
theorem toInt_ofInt_trim_left (v : Word) {slew : Int} (hs : 0 ≤ slew) :
    (BitVec.ofInt 32 (v.toInt - trimStep v.toInt slew)).toInt = v.toInt - trimStep v.toInt slew := by
  obtain ⟨-, hlo, hhi⟩ := trimStep_bounds v.toInt hs
  have hmin := BitVec.le_toInt v
  have hmax := BitVec.toInt_lt (x := v)
  exact BitVec.toInt_ofInt_eq_self (by decide) (by omega) (by omega)

section Trim

variable (s : State) (n : Nat)

theorem State.trimTick_skip (h : (s.axis n).trimSkip = true) :
    s.trimTick n = s.setAxis n { s.axis n with trimSkip := false } := by
  simp only [State.trimTick, h, if_true]

theorem State.trimTick_none (h : (s.axis n).trimSkip = false) (hp : (s.rw (R.ANG_AXIS_TRIM.reg n)).toInt = 0) :
    s.trimTick n = s := by
  simp only [State.trimTick, h, hp, if_true, Bool.false_eq_true, if_false]

/-- A step that is taken: the axis and its effective offset move, and the pending trim shrinks. -/
theorem State.trimTick_step (h : (s.axis n).trimSkip = false) {p slew : Int} (hp : p = (s.rw (R.ANG_AXIS_TRIM.reg n)).toInt)
    (hs : slew = s.g (R.ANG_AXIS_SLEW.TRIMSLEW n)) (hne : p ≠ 0) :
    s.trimTick n = ((s.setAxis n ((s.axis n).shift (BitVec.ofInt 64 (trimStep p slew)))).setAxOffset n
      (s.axOffset n + BitVec.ofInt 64 (trimStep p slew))).wr (R.ANG_AXIS_TRIM.reg n) (BitVec.ofInt 32 (p - trimStep p slew)) := by
  subst hp hs
  simp only [State.trimTick, h, hne, Bool.false_eq_true, if_false, trimStep]

end Trim

/-- Settles O10: the three cases of `trimTick`, and the bounds of the step. -/
theorem trimStepIsBounded : Obligations.TrimStepIsBounded := by
  unfold Obligations.TrimStepIsBounded
  intro s n p slew d _ hp hslew hd
  replace hd : d = trimStep p slew := hd
  have hs : 0 ≤ slew := by omega
  refine ⟨s.trimTick_skip n, fun h h0 => s.trimTick_none n h (hp.symm.trans h0), fun h hne => ?_⟩
  obtain ⟨hle, hlo, hhi⟩ := trimStep_bounds p hs
  have hleft : (BitVec.ofInt 32 (p - trimStep p slew)).toInt = p - trimStep p slew := by
    rw [hp]; exact toInt_ofInt_trim_left _ hs
  have hoffLo : R.ANG_AXIS_OFFSET_LO.reg n ≠ R.ANG_AXIS_TRIM.reg n := by
    unfold R.ANG_AXIS_OFFSET_LO.reg R.ANG_AXIS_TRIM.reg; omega
  have hoffHi : R.ANG_AXIS_OFFSET_HI.reg n ≠ R.ANG_AXIS_TRIM.reg n := by
    unfold R.ANG_AXIS_OFFSET_HI.reg R.ANG_AXIS_TRIM.reg; omega
  rw [s.trimTick_step n h hp hslew hne, hd]
  simp only [State.axis_wr, State.axis_setAxOffset, State.axis_setAxis, if_true, State.rw_wr_same, hleft,
    State.axOffset_wr_other _ _ hoffLo hoffHi, State.axOffset_setAxOffset]
  refine ⟨hle, by omega, rfl, rfl, rfl, trivial, trivial, fun m hm => if_neg hm, fun a ha => ?_⟩
  obtain ⟨htrim, hlo', hhi'⟩ : a ≠ _ ∧ a ≠ _ ∧ a ≠ _ := by simpa using ha
  rw [State.rw_wr_other _ _ htrim]
  exact (State.rw_wr_other _ _ hhi').trans (State.rw_wr_other _ _ hlo')

/-! ### Folds over units -/

theorem mem_maskBits {m k n : Nat} : n ∈ maskBits m k ↔ n < k ∧ m.testBit n = true := by
  simp [maskBits]

@[simp] theorem maskBits_zero (k : Nat) : maskBits 0 k = [] := by simp [maskBits]

@[simp] theorem State.each_nil (s : State) (f : State → Nat → State) : s.each [] f = s := rfl

/-- What every change of a fold keeps, the fold keeps. -/
theorem State.each_keeps {β : Type} (p : State → β) {f : State → Nat → State} {l : List Nat}
    (h : ∀ t, ∀ n ∈ l, p (f t n) = p t) (s : State) : p (s.each l f) = p s :=
  List.foldlRecOn (motive := fun t => p t = p s) l f rfl fun t ht n hn => (h t n hn).trans ht

/-! ### APPLY (R43 to R45) -/

/-- The first axis of a mask that breaches. -/
theorem State.find_breach_eq_some (s : State) {mask n : Nat} (hn : n < 16) (hm : mask.testBit n = true) (hb : s.applyBreach n ≠ 0)
    (hfirst : ∀ m, m < n → mask.testBit m = true → s.applyBreach m = 0) :
    (maskBits mask 16).find? (fun n => decide (s.applyBreach n ≠ 0)) = some n := by
  rw [maskBits, List.find?_filter, List.find?_range_eq_some]
  refine ⟨by simp [hm, hb], List.mem_range.2 hn, fun m hlt => ?_⟩
  cases ht : mask.testBit m with
  | false => simp
  | true => simp [hfirst m hlt ht]

/-- An APPLY with a breach reports the first axis that breaches, and does nothing else. -/
theorem State.applyNow_refused (s : State) {mask n : Nat} (hn : n < 16) (hm : mask.testBit n = true) (hb : s.applyBreach n ≠ 0)
    (hfirst : ∀ m, m < n → mask.testBit m = true → s.applyBreach m = 0) :
    s.applyNow mask =
      ((s.put R.ANG_STATUS.APPLY_ERR (s.applyBreach n)).put R.ANG_STATUS.ERR_AXIS n).raise R.ANG_EVENTS.APPLY_DONE := by
  simp only [State.applyNow, s.find_breach_eq_some hn hm hb hfirst]

/-- An APPLY without a breach puts the stages of every axis of its mask into force. -/
theorem State.applyNow_accepted (s : State) {mask : Nat} (h : ∀ n, n < 16 → mask.testBit n = true → s.applyBreach n = 0) :
    s.applyNow mask = (((s.each (maskBits mask 16) State.applyAxis).put R.ANG_STATUS.APPLY_ERR 0).put R.ANG_STATUS.ERR_AXIS 0).raise
      R.ANG_EVENTS.APPLY_DONE := by
  have hnone : (maskBits mask 16).find? (fun n => decide (s.applyBreach n ≠ 0)) = none :=
    List.find?_eq_none.2 fun n hn => by simp [h n (mem_maskBits.1 hn).1 (mem_maskBits.1 hn).2]
  simp only [State.applyNow, hnone]

/-- Settles O11: the two outcomes of the search for a breach. -/
theorem applyIsWholeOrNot : Obligations.ApplyIsWholeOrNot := by
  unfold Obligations.ApplyIsWholeOrNot
  exact fun s _ => ⟨fun _ hn hm hb hfirst => s.applyNow_refused hn hm hb hfirst, s.applyNow_accepted⟩

/-! ### Stages (R43, R44)

`stagedW a`, the value that a staged register would take, is what an APPLY keeps: once a stage is in force, the register itself holds it. -/

theorem SMap.get_keep {α : Type} [Inhabited α] (m : SMap α) (p : Nat → Bool) (k : Nat) :
    (m.keep p).get k = if p k then m.get k else default := by
  have hfind : (m.keep p).find k = if p k then m.find k else none := by
    induction m with
    | nil => simp [SMap.keep, SMap.find]
    | cons e t ih =>
      obtain ⟨a, w⟩ := e
      have hkeep : SMap.keep ((a, w) :: t) p = if p a then (a, w) :: SMap.keep t p else SMap.keep t p := List.filter_cons
      by_cases hak : a = k
      · subst hak
        by_cases hpa : p a <;> simp [hkeep, hpa, ih, SMap.find]
      · by_cases hpa : p a <;> simp [hkeep, hpa, hak, ih, SMap.find]
  unfold SMap.get
  rw [hfind]
  split <;> rfl

theorem State.stagedW_of_some (s : State) {a : Nat} {v : Word} (h : s.ang.stage.get a = some v) : s.stagedW a = v := by
  simp only [State.stagedW, h]

theorem State.stagedW_of_none (s : State) {a : Nat} (h : s.ang.stage.get a = none) : s.stagedW a = s.rw a := by
  simp only [State.stagedW, h]

/-- A register's stage put into force. -/
def State.takeStage (s : State) (a : Nat) : State := s.wr a (s.stagedW a)

theorem State.takeStage_stagedW (s : State) (a b : Nat) : (s.takeStage b).stagedW a = s.stagedW a := by
  cases h : s.ang.stage.get a with
  | some v => rw [s.stagedW_of_some h]; exact State.stagedW_of_some _ h
  | none =>
    rw [State.stagedW_of_none (s.takeStage b) h, State.takeStage, State.rw_wr]
    split
    · rename_i hab; rw [hab]
    · exact (s.stagedW_of_none h).symm

theorem State.rw_each_takeStage (l : List Nat) (s : State) (a : Nat) :
    (s.each l State.takeStage).rw a = if a ∈ l then s.stagedW a else s.rw a := by
  induction l generalizing s with
  | nil => rfl
  | cons b l ih =>
    refine (ih (s.takeStage b)).trans ?_
    rw [s.takeStage_stagedW, State.takeStage, State.rw_wr]
    by_cases hl : a ∈ l
    · simp [hl]
    · by_cases hb : a = b <;> simp [hl, hb]

/-- The stages of axis `n` forgotten. -/
def State.dropStages (s : State) (n : Nat) : State :=
  { s with ang := { s.ang with stage := s.ang.stage.keep (fun a => !(stagedRegs n).contains a) } }

@[simp] theorem State.dropStages_rw (s : State) (n a : Nat) : (s.dropStages n).rw a = s.rw a := rfl

theorem State.dropStages_get (s : State) (n a : Nat) :
    (s.dropStages n).ang.stage.get a = if a ∈ stagedRegs n then none else s.ang.stage.get a := by
  have hstage : (s.dropStages n).ang.stage = s.ang.stage.keep (fun a => !(stagedRegs n).contains a) := rfl
  rw [hstage, SMap.get_keep]
  by_cases ha : a ∈ stagedRegs n
  · simp [ha]; rfl
  · simp [ha]

/-- The stages of axis `n` put into force, and forgotten as stages. -/
def State.stagesTaken (s : State) (n : Nat) : State := (s.each (stagedRegs n) State.takeStage).dropStages n

/-- What an APPLY does to an axis of its mask: the stages come into force, the axis record follows, and a step of the offset discards
the pending trim. -/
theorem State.applyAxis_cases (s : State) (n : Nat) : ∃ a : Axis,
    s.applyAxis n = (s.stagesTaken n).setAxis n a ∨
    s.applyAxis n = ((s.stagesTaken n).setAxis n a).wr (R.ANG_AXIS_TRIM.reg n) 0#32 := by
  unfold State.applyAxis
  simp only
  split
  · exact ⟨_, .inl rfl⟩
  · exact ⟨_, .inr rfl⟩

theorem State.applyAxis_rw (s : State) (n : Nat) {a : Nat} (ha : a ≠ R.ANG_AXIS_TRIM.reg n) :
    (s.applyAxis n).rw a = if a ∈ stagedRegs n then s.stagedW a else s.rw a := by
  rw [← State.rw_each_takeStage]
  obtain ⟨x, h | h⟩ := s.applyAxis_cases n <;> rw [h]
  · rw [State.setAxis_rw, State.stagesTaken, State.dropStages_rw]
  · rw [State.rw_wr_other _ _ ha, State.setAxis_rw, State.stagesTaken, State.dropStages_rw]

theorem State.applyAxis_stage (s : State) (n a : Nat) :
    (s.applyAxis n).ang.stage.get a = if a ∈ stagedRegs n then none else s.ang.stage.get a := by
  have hkept : (s.each (stagedRegs n) State.takeStage).ang.stage = s.ang.stage :=
    State.each_keeps (f := State.takeStage) (fun t => t.ang.stage) (fun _ _ _ => rfl) s
  rw [← hkept, ← State.dropStages_get]
  obtain ⟨x, h | h⟩ := s.applyAxis_cases n <;> rw [h] <;> rfl

/-- An APPLY of an axis changes no value that a register would take. -/
theorem State.applyAxis_stagedW (s : State) (n : Nat) {a : Nat} (ha : a ≠ R.ANG_AXIS_TRIM.reg n) :
    (s.applyAxis n).stagedW a = s.stagedW a := by
  by_cases hr : a ∈ stagedRegs n
  · rw [State.stagedW_of_none _ (by rw [s.applyAxis_stage, if_pos hr]), s.applyAxis_rw n ha, if_pos hr]
  · simp only [State.stagedW, s.applyAxis_stage, if_neg hr, s.applyAxis_rw n ha]

theorem State.stage_each_applyAxis (l : List Nat) (s : State) (a : Nat) :
    (s.each l State.applyAxis).ang.stage.get a = if ∃ n ∈ l, a ∈ stagedRegs n then none else s.ang.stage.get a := by
  induction l generalizing s with
  | nil => simp [State.each]
  | cons n l ih =>
    refine (ih (s.applyAxis n)).trans ?_
    rw [s.applyAxis_stage]
    by_cases hl : ∃ m ∈ l, a ∈ stagedRegs m
    · simp [hl]
    · by_cases hn : a ∈ stagedRegs n <;> simp [hl, hn]

/-- After an APPLY of axes a staged register of one of them holds what it would take before. -/
theorem State.rw_each_applyAxis (s : State) {l : List Nat} {n a : Nat} (hn : n ∈ l) (ha : a ∈ stagedRegs n)
    (htrim : ∀ m ∈ l, a ≠ R.ANG_AXIS_TRIM.reg m) : (s.each l State.applyAxis).rw a = s.stagedW a := by
  have hnone : (s.each l State.applyAxis).ang.stage.get a = none := by
    rw [State.stage_each_applyAxis, if_pos ⟨n, hn, ha⟩]
  rw [← State.stagedW_of_none _ hnone]
  exact State.each_keeps (fun t => t.stagedW a) (fun t m hm => t.applyAxis_stagedW m (htrim m hm)) s

theorem State.regsBut_each_applyAxis (s : State) (l : List Nat) :
    regsBut (l.flatMap (fun n => R.ANG_AXIS_TRIM.reg n :: stagedRegs n)) s (s.each l State.applyAxis) := by
  intro a ha
  refine State.each_keeps (fun t => t.rw a) (fun t m hm => ?_) s
  obtain ⟨htrim, hstaged⟩ : a ≠ R.ANG_AXIS_TRIM.reg m ∧ a ∉ stagedRegs m := by
    simpa using fun h => ha (List.mem_flatMap.2 ⟨m, hm, h⟩)
  rw [t.applyAxis_rw m htrim, if_neg hstaged]

/-- A staged register is one of its axis, other than TRIM. -/
theorem stagedRegs_apart {n a : Nat} (ha : a ∈ stagedRegs n) :
    a ≠ R.ANG_STATUS.reg ∧ a ≠ R.ANG_EVENTS.reg ∧ ∀ m, a ≠ R.ANG_AXIS_TRIM.reg m := by
  simp only [stagedRegs, List.mem_cons, List.not_mem_nil, or_false, R.ANG_AXIS_CFG.reg, R.ANG_AXIS_CPC.reg,
    R.ANG_AXIS_RATIO_NUM.reg, R.ANG_AXIS_RATIO_DEN.reg, R.ANG_AXIS_OFFSET_LO.reg, R.ANG_AXIS_OFFSET_HI.reg, R.ANG_AXIS_HOME.reg,
    R.ANG_AXIS_COAST.reg] at ha
  unfold R.ANG_STATUS.reg R.ANG_EVENTS.reg R.ANG_AXIS_TRIM.reg
  exact ⟨by omega, by omega, fun m => by omega⟩

/-- A single APPLY that is due takes effect, and waits no more. -/
theorem State.applyDue_single (s : State) {k mask : Nat} (h : s.ang.applies = [(k, mask)]) (hk : k ≤ s.tick) :
    s.applyDue = State.applyNow { s with ang := { s.ang with applies := [] } } mask := by
  simp [State.applyDue, h, hk]

/-- Outside the registers that report it, an APPLY without a breach does what putting the stages into force does. -/
theorem State.applyDue_accepted_rw (s : State) {k mask : Nat} (h : s.ang.applies = [(k, mask)]) (hk : k ≤ s.tick)
    (hb : ∀ n, n < 16 → mask.testBit n = true → s.applyBreach n = 0) {a : Nat} (hst : a ≠ R.ANG_STATUS.reg)
    (hev : a ≠ R.ANG_EVENTS.reg) :
    s.applyDue.rw a = (State.each { s with ang := { s.ang with applies := [] } } (maskBits mask 16) State.applyAxis).rw a := by
  rw [s.applyDue_single h hk, State.applyNow_accepted _ (by exact hb), State.raise, State.rw_put_other _ _ _ hev,
    State.rw_put_other _ _ _ hst, State.rw_put_other _ _ _ hst]

/-- Settles O12: each staged register ends at `stagedW`, which the APPLY of every axis keeps. -/
theorem stagesComeIntoForceTogether : Obligations.StagesComeIntoForceTogether := by
  unfold Obligations.StagesComeIntoForceTogether
  intro s k mask happlies hk hb
  refine ⟨fun n a hn hm ha => ?_, fun a ha => ?_⟩
  · obtain ⟨hst, hev, htrim⟩ := stagedRegs_apart ha
    have htakes : s.applyDue.rw a = s.stagedW a :=
      (s.applyDue_accepted_rw happlies hk hb hst hev).trans
        (State.rw_each_applyAxis _ (mem_maskBits.2 ⟨hn, hm⟩) ha fun m _ => htrim m)
    exact ⟨fun _ hv => htakes.trans (s.stagedW_of_some hv), fun hv => htakes.trans (s.stagedW_of_none hv)⟩
  · simp only [List.mem_cons, not_or] at ha
    obtain ⟨hst, hev, hrest⟩ := ha
    rw [s.applyDue_accepted_rw happlies hk hb hst hev]
    exact State.regsBut_each_applyAxis _ _ a hrest

/-! ### Control writes of an axis (R42, R43, R46, R47) -/

theorem State.axEnable_eq (s : State) (n : Nat) : s.axEnable n =
    if (s.axis n).disPend then (s.putB (R.ANG_AXIS_CTL.EN n) true).putB (R.ANG_AXIS_STATE.BUSY n) true
    else s.putB (R.ANG_AXIS_CTL.EN n) true := rfl

theorem State.axDisable_eq (s : State) (n : Nat) : s.axDisable n =
    if s.on (R.ANG_AXIS_CTL.EN n) then
      ((s.putB (R.ANG_AXIS_CTL.EN n) false).putB (R.ANG_AXIS_STATE.BUSY n) false).setAxis n { s.axis n with disPend := true }
    else (s.putB (R.ANG_AXIS_CTL.EN n) false).putB (R.ANG_AXIS_STATE.BUSY n) false := rfl

/-- The first angle tick at least 8 ns later, in whole ticks of 4,000 ps. -/
theorem State.dueTick_eq (s : State) (sub : Nat) : s.dueTick sub = s.tick + (sub + 11999) / 4000 := rfl

/-- Settles O8: each command is its operation, and the two that look at the axis are split by what they find. -/
theorem axisControlWrites : Obligations.AxisControlWrites := by
  unfold Obligations.AxisControlWrites
  intro s n
  have henable : exec (.axisEnable n) s = .next (s.axEnable n).signal := rfl
  have hdisable : exec (.axisDisable n) s = .next (s.axDisable n).signal := rfl
  refine ⟨fun h => ?_, fun h => ?_, fun h => ?_, fun h => ?_, rfl, fun v same => rfl, fun mask sub => ?_⟩
  · rw [henable, s.axEnable_eq, if_neg (Bool.eq_false_iff.1 h)]
  · rw [henable, s.axEnable_eq, if_pos h]
  · rw [hdisable, s.axDisable_eq, if_pos h]
  · rw [hdisable, s.axDisable_eq, if_neg (Bool.eq_false_iff.1 h)]
  · rw [← s.dueTick_eq]; rfl

/-! ### Snapshots (R48) and the coast limit (R40) -/

/-- The position of axis `n` copied into its POS registers. -/
def State.posTake (s : State) (n : Nat) : State :=
  (s.wr (R.ANG_AXIS_POS_LO.reg n) ((s.axis n).value.setWidth 32)).wr (R.ANG_AXIS_POS_HI.reg n)
    (((s.axis n).value >>> 32).setWidth 32)

theorem State.posTake_lo (s : State) (n m : Nat) : (s.posTake m).rw (R.ANG_AXIS_POS_LO.reg n) =
    if n = m then (s.axis n).value.setWidth 32 else s.rw (R.ANG_AXIS_POS_LO.reg n) := by
  have hhi : R.ANG_AXIS_POS_LO.reg n ≠ R.ANG_AXIS_POS_HI.reg m := by
    unfold R.ANG_AXIS_POS_LO.reg R.ANG_AXIS_POS_HI.reg; omega
  have hlo : R.ANG_AXIS_POS_LO.reg n = R.ANG_AXIS_POS_LO.reg m ↔ n = m := by unfold R.ANG_AXIS_POS_LO.reg; omega
  rw [State.posTake, State.rw_wr_other _ _ hhi, State.rw_wr]
  by_cases h : n = m
  · rw [if_pos (hlo.2 h), if_pos h, h]
  · rw [if_neg (h ∘ hlo.1), if_neg h]

theorem State.posTake_hi (s : State) (n m : Nat) : (s.posTake m).rw (R.ANG_AXIS_POS_HI.reg n) =
    if n = m then ((s.axis n).value >>> 32).setWidth 32 else s.rw (R.ANG_AXIS_POS_HI.reg n) := by
  have hlo : R.ANG_AXIS_POS_HI.reg n ≠ R.ANG_AXIS_POS_LO.reg m := by
    unfold R.ANG_AXIS_POS_LO.reg R.ANG_AXIS_POS_HI.reg; omega
  have hhi : R.ANG_AXIS_POS_HI.reg n = R.ANG_AXIS_POS_HI.reg m ↔ n = m := by unfold R.ANG_AXIS_POS_HI.reg; omega
  rw [State.posTake, State.rw_wr, State.rw_wr_other _ _ hlo]
  by_cases h : n = m
  · rw [if_pos (hhi.2 h), if_pos h, h]
  · rw [if_neg (h ∘ hhi.1), if_neg h]

/-- A register that only the copy of axis `n` writes, and with a value of the axes alone, holds that value when the mask has the axis. -/
theorem State.rw_each_posTake {a n : Nat} {v : State → Word} (hv : ∀ t m, v (t.posTake m) = v t)
    (hw : ∀ t m, (t.posTake m).rw a = if n = m then v t else t.rw a) (l : List Nat) (s : State) :
    (s.each l State.posTake).rw a = if n ∈ l then v s else s.rw a := by
  induction l generalizing s with
  | nil => rfl
  | cons m l ih =>
    refine (ih (s.posTake m)).trans ?_
    rw [hv, hw]
    by_cases hl : n ∈ l
    · simp [hl]
    · by_cases hm : n = m <;> simp [hl, hm]

theorem State.snapTake_some (s : State) {m : Nat} (h : s.ang.snap = some m) : s.snapTake =
    { ((((s.each (maskBits m 16) State.posTake).wr R.ANG_SNAP_TIME_LO.reg
          ((s.each (maskBits m 16) State.posTake).plantNs.setWidth 32)).wr R.ANG_SNAP_TIME_HI.reg
            (((s.each (maskBits m 16) State.posTake).plantNs >>> 32).setWidth 32)).putB R.ANG_STATUS.SNAP_PEND false).raise
        R.ANG_EVENTS.SNAP_DONE with ang := { (s.each (maskBits m 16) State.posTake).ang with snap := none } } := by
  simp only [State.snapTake, h]
  rfl

/-- A register that is none of those of the snapshot as a whole reads what the copies of the positions leave. -/
theorem State.snapTake_rw (s : State) {m a : Nat} (h : s.ang.snap = some m) (ha : 0x100100 ≤ a) :
    s.snapTake.rw a = (s.each (maskBits m 16) State.posTake).rw a := by
  have hlo : a ≠ R.ANG_SNAP_TIME_LO.reg := by unfold R.ANG_SNAP_TIME_LO.reg; omega
  have hhi : a ≠ R.ANG_SNAP_TIME_HI.reg := by unfold R.ANG_SNAP_TIME_HI.reg; omega
  have hst : a ≠ R.ANG_STATUS.reg := by unfold R.ANG_STATUS.reg; omega
  have hev : a ≠ R.ANG_EVENTS.reg := by unfold R.ANG_EVENTS.reg; omega
  rw [s.snapTake_some h, State.rw_withAng, State.raise, State.rw_put_other _ _ _ hev, State.putB, State.rw_put_other _ _ _ hst,
    State.rw_wr_other _ _ hhi, State.rw_wr_other _ _ hlo]

theorem exec_coastlimExpiry (s : State) (n : Nat) : exec (.coastlimExpiry n) s =
    done (if s.axState n = axCOAST then (s.setAxis n { s.axis n with vel := 0 }).axGotoCause n axLOST 7 else s) := rfl

/-- A transition to a new state is flagged and records its cause (R39). -/
theorem State.axGotoCause_moves (s : State) {n st : Nat} (cause : Nat) (h : s.axState n ≠ st) : s.axGotoCause n st cause =
    ((s.put (R.ANG_AXIS_STATE.STATE n) st).setBit R.ANG_EVENTS.STATE_CHG n).put (R.ANG_AXIS_STATE.CAUSE n) cause := by
  rw [State.axGotoCause, State.axGoto, if_neg h]

/-- Settles O13: the masks merge, the copies of the positions are a fold over the mask, and the limit acts in COAST only. -/
theorem snapshotAndCoastLimit : Obligations.SnapshotAndCoastLimit := by
  unfold Obligations.SnapshotAndCoastLimit
  refine ⟨fun s mask => ⟨fun h => ?none, fun m h => ?merge, fun h => ?idle, fun h => ?empty, fun m n h hn => ?positions⟩,
    fun s n => ⟨fun h => ?coast, fun h => ?other⟩⟩
  case none =>
    have hmask : (s.ang.snap.getD 0) ||| mask % 65536 = mask % 65536 := by rw [h]; exact Nat.zero_or _
    rw [← hmask]; rfl
  case merge =>
    have hmask : (s.ang.snap.getD 0) ||| mask % 65536 = m ||| mask % 65536 := by rw [h]; rfl
    rw [← hmask]; rfl
  case idle => simp only [State.snapTake, h]
  case empty => rw [s.snapTake_some h, maskBits_zero, State.each_nil]
  case positions =>
    have hmem : n ∈ maskBits m 16 ↔ m.testBit n = true := by simp [mem_maskBits, hn]
    have hlo : 0x100100 ≤ R.ANG_AXIS_POS_LO.reg n := by unfold R.ANG_AXIS_POS_LO.reg; omega
    have hhi : 0x100100 ≤ R.ANG_AXIS_POS_HI.reg n := by unfold R.ANG_AXIS_POS_HI.reg; omega
    rw [s.snapTake_rw h hlo, s.snapTake_rw h hhi,
      State.rw_each_posTake (v := fun t => (t.axis n).value.setWidth 32) (fun _ _ => rfl) (fun t k => t.posTake_lo n k),
      State.rw_each_posTake (v := fun t => ((t.axis n).value >>> 32).setWidth 32) (fun _ _ => rfl) (fun t k => t.posTake_hi n k)]
    simp only [hmem, and_self]
  case coast =>
    have hmoves : (s.setAxis n { s.axis n with vel := 0 }).axState n ≠ axLOST := by
      rw [State.axState_setAxis, h]; decide
    rw [exec_coastlimExpiry, if_pos h, State.axGotoCause_moves _ _ hmoves]
    rfl
  case other => rw [exec_coastlimExpiry, if_neg h]; rfl

/-! ### The tick (R25, R26) -/

/-- The real-time counter after a tick on main power: the next whole multiple of 4 ns of plant time with the ticks locked or their rate
held, else 4 ns more, steered. -/
def State.rtcNext (s : State) : BitVec 80 :=
  if s.on R.ANG_STATUS.TICK_LOCK ∨ s.on R.ANG_STATUS.TICK_HOLD then ((s.rtc >>> 18) + 1) <<< 18
  else s.rtc + BitVec.ofInt 80 (262144 + s.vsm.rate)

theorem State.rtcTick_onBat (s : State) (h : s.sec.onBat = true) : s.rtcTick = s := by
  simp only [State.rtcTick, h, Bool.true_or, if_true]

theorem State.rtcTick_mainPower (s : State) (hb : s.sec.onBat = false) (hl : s.sec.lost = false) :
    s.rtcTick = { s with rtc := s.rtcNext } := by
  simp only [State.rtcTick, State.rtcNext, hb, hl, Bool.or_false, Bool.false_eq_true, if_false, Bool.or_eq_true]
  split <;> rfl

theorem State.tickGuarded_onBat (s : State) (h : s.sec.onBat = true) : s.tickGuarded = s := by
  simp only [State.tickGuarded, h, Bool.or_true, if_true]

theorem State.tickGuarded_inReset (s : State) (h : s.rst.reach ≠ 0) : s.tickGuarded = s := by
  simp only [State.tickGuarded, h, ne_eq, not_false_eq_true, decide_true, Bool.true_or, if_true]

theorem State.tickGuarded_runs (s : State) (h : s.rst.reach = 0) (hb : s.sec.onBat = false) : s.tickGuarded = s.tickRun := by
  simp only [State.tickGuarded, h, hb, ne_eq, not_true_eq_false, decide_false, Bool.or_false, Bool.false_eq_true, if_false]

/-- A look at the vectors changes nothing but what they have sent. -/
@[simp] theorem State.mute_signal (s : State) : s.signal.mute = s.mute := rfl

section AngleTick

variable (s : State)

theorem State.angleTick_onBat (h : s.sec.onBat = true) : s.angleTick = { s with tick := s.tick + 1 } :=
  (congrArg State.tickGuarded (State.rtcTick_onBat { s with tick := s.tick + 1 } h)).trans
    (State.tickGuarded_onBat { s with tick := s.tick + 1 } h)

variable (hb : s.sec.onBat = false) (hl : s.sec.lost = false)
include hb hl

theorem State.angleTick_inReset (h : s.rst.reach ≠ 0) : s.angleTick = { s with tick := s.tick + 1, rtc := s.rtcNext } :=
  (congrArg State.tickGuarded (State.rtcTick_mainPower { s with tick := s.tick + 1 } hb hl)).trans
    (State.tickGuarded_inReset { s with tick := s.tick + 1, rtc := s.rtcNext } h)

theorem State.angleTick_runs (h : s.rst.reach = 0) :
    s.angleTick = State.tickRun { s with tick := s.tick + 1, rtc := s.rtcNext } :=
  (congrArg State.tickGuarded (State.rtcTick_mainPower { s with tick := s.tick + 1 } hb hl)).trans
    (State.tickGuarded_runs { s with tick := s.tick + 1, rtc := s.rtcNext } h hb)

end AngleTick

/-- Settles O9: the counter by `rtcTick`, the guard by `tickGuarded`, and what every tick keeps by `execAngleTick_lead`. -/
theorem angleTickAdvancesTime : Obligations.AngleTickAdvancesTime := by
  unfold Obligations.AngleTickAdvancesTime
  intro s rtc hrtc
  replace hrtc : rtc = s.rtcNext := hrtc
  subst hrtc
  have hexec : exec .angleTick s = .next s.angleTick.signal := rfl
  refine ⟨fun hb => ?_, fun hr hb hl => ?_, fun hr hb hl => ?_⟩
  · rw [hexec, s.angleTick_onBat hb]
  · rw [hexec, s.angleTick_inReset hb hl hr]
  · obtain ⟨hlead, hmem⟩ := execAngleTick_lead s hexec
    obtain ⟨hpending, htick, hxtick⟩ := by simpa only [State.lead, Prod.mk.injEq] using hlead
    exact ⟨_, hexec, htick, hxtick, hpending, hmem, by rw [State.mute_signal, s.angleTick_runs hb hl hr]⟩

end Sys2Proof.Machine

/-! Event scheduling (R49, R54, R63, R64, R67 to R69): the crossing rule, a write that waits for its in-force tick, a trigger of an edge
unit, an edge at a capture unit, and O14 to O17. -/

namespace Sys2Proof.Machine

/-! ### The crossing rule (R49) -/

section Crossing

variable {w : Nat} (p q T : BitVec w)

/-- A target lies at signed distance zero from its own position only. -/
theorem toInt_sub_eq_zero_iff : (p - T).toInt = 0 ↔ p = T := by
  rw [← BitVec.toInt_zero (w := w), BitVec.toInt_inj]
  exact sub_eq_zero

theorem crossing_eq_forward_iff : crossing p q T = some true ↔ (p - T).toInt < 0 ∧ 0 ≤ (q - T).toInt := by
  simp only [crossing]
  split <;> simp_all

theorem crossing_eq_backward_iff : crossing p q T = some false ↔ 0 < (p - T).toInt ∧ (q - T).toInt ≤ 0 := by
  simp only [crossing]
  split
  · simp only [Option.some.injEq, Bool.true_eq_false, false_iff]; omega
  · simp

/-- A target met exactly is crossed, from whichever side it was approached. -/
theorem crossing_onto_target (h : p ≠ T) : crossing p T T ≠ none := by
  have hT : (T - T).toInt = 0 := (toInt_sub_eq_zero_iff T T).2 rfl
  rcases lt_or_gt_of_ne (mt (toInt_sub_eq_zero_iff p T).1 h) with hneg | hpos
  · rw [(crossing_eq_forward_iff p T T).2 ⟨hneg, hT.ge⟩]; exact Option.some_ne_none _
  · rw [(crossing_eq_backward_iff p T T).2 ⟨hpos, hT.le⟩]; exact Option.some_ne_none _

/-- An axis that leaves the target it stands on does not cross it. -/
theorem crossing_from_target : crossing T q T = none := by
  simp [crossing]

end Crossing

/-- Settles O14: the two directions exclude each other, and only the target itself lies at distance zero. -/
theorem crossingRule : Obligations.CrossingRule := by
  unfold Obligations.CrossingRule
  exact fun _ p q T => ⟨crossing_eq_forward_iff p q T, crossing_eq_backward_iff p q T, crossing_onto_target p T,
    crossing_from_target q T⟩

/-! ### Writes that wait for their in-force tick (R54) -/

section Later

variable (s : State)

/-- Of the state only the list of waiting writes changes, and the write waits for the first tick at least 8 ns later. -/
theorem State.evtLater_eq (addr : Nat) (value low : Word) (sub : Nat) : s.evtLater addr value low sub =
    { s with evt := { s.evt with pend := s.evt.pend ++
      [{ due := s.tick + (sub + 8000 + 3999) / 4000, addr := addr, value := value, low := low }] } } := rfl

/-- The write of a _HI register, ended: the register takes the value, and both words wait. -/
theorem State.done_targetCommit (hiReg loReg : Nat) (hi : Word) (sub : Nat) : done (s.targetCommit hiReg loReg hi sub) =
    .next (State.signal { s.wr hiReg hi with evt := { s.evt with pend := s.evt.pend ++
      [{ due := s.tick + (sub + 8000 + 3999) / 4000, addr := hiReg, value := hi, low := s.rw loReg }] } }) :=
  congrArg done ((s.wr hiReg hi).evtLater_eq hiReg hi (s.rw loReg) sub)

/-- The write of a CFG register, ended: the register takes the fields, and they wait. -/
theorem State.done_evtWrite (a : Nat) (v : Word) (mask sub : Nat) : done (s.evtWrite a v mask sub) =
    .next (State.signal { s.wr a (v &&& BitVec.ofNat 32 mask) with evt := { s.evt with pend := s.evt.pend ++
      [{ due := s.tick + (sub + 8000 + 3999) / 4000, addr := a, value := v &&& BitVec.ofNat 32 mask, low := 0#32 }] } }) :=
  congrArg done ((s.wr a (v &&& BitVec.ofNat 32 mask)).evtLater_eq a (v &&& BitVec.ofNat 32 mask) 0#32 sub)

end Later

/-- Settles O15: three commands commit a target and three write a CFG, each at its register's offset and with its mask of fields. -/
theorem targetWritesWait : Obligations.TargetWritesWait := by
  unfold Obligations.TargetWritesWait
  exact fun s n sub v => ⟨s.done_targetCommit (R.EVT_CMP_ANGLE_HI.reg n) (R.EVT_CMP_ANGLE_LO.reg n) v sub,
    s.done_targetCommit (R.EVT_EDG_SET_HI.reg n) (R.EVT_EDG_SET_LO.reg n) v sub,
    s.done_targetCommit (R.EVT_EDG_CLR_HI.reg n) (R.EVT_EDG_CLR_LO.reg n) v sub,
    s.done_evtWrite (R.EVT_CMP_CFG.reg n) v cmpCfgMask sub,
    s.done_evtWrite (R.EVT_EDG_CFG.reg n) v edgCfgMask sub,
    s.done_evtWrite (R.EVT_CAP_CFG.reg n) v capCfgMask sub⟩

/-! ### Triggers of edge units (R63, R64) -/

section Trigger

variable (s : State) (n : Nat)

theorem State.edgPush_full (p : EdgePair) (h : 4 ≤ (s.edge n).queue.length) :
    s.edgPush n p = s.edgFlag n (R.EVT_EDG_STATUS.OVERFLOW n) := by
  rw [State.edgPush, if_pos h]

/-- A pair that finds room enters; behind another pair, or at a unit not armed, it does not come into force yet. -/
theorem State.edgPush_waits (p : EdgePair) (h : (s.edge n).queue.length < 4)
    (hw : (s.edge n).queue ≠ [] ∨ (s.edge n).armed = false) :
    s.edgPush n p = (s.setEdge n { s.edge n with queue := (s.edge n).queue ++ [p] }).edgShow n := by
  have hhead : ¬((s.edge n).queue.isEmpty && (s.edge n).armed) = true := by
    rcases hw with hq | ha
    · simp [hq]
    · simp [ha]
  simp only [State.edgPush, if_neg (Nat.not_le.2 h), if_neg hhead]

theorem State.edgTrigger_idle (sub : Nat) (h : s.edgSrc n ≠ 2 ∨ s.unitsRun = false) : s.edgTrigger n sub = s := by
  refine if_neg ?_
  rcases h with hsrc | hrun
  · simp [hsrc]
  · simp [hrun]

/-- The pair of instants that a trigger pushes: DELAY and WIDTH steps of 250 ps, with their minima. -/
def State.triggerPair (s : State) (n sub : Nat) : EdgePair :=
  let set := s.tick * 16 + sub + max 32 (s.fg (R.EVT_EDG_FAB.DELAY n))
  { set := BitVec.ofNat 64 set, clr := BitVec.ofNat 64 (set + max 8 (s.fg (R.EVT_EDG_FAB.WIDTH n))) }

theorem State.edgTrigger_pushes (sub : Nat) (hsrc : s.edgSrc n = 2) (hrun : s.unitsRun = true) :
    s.edgTrigger n sub = s.edgPush n (s.triggerPair n sub) :=
  if_pos (by simp [hsrc, hrun])

end Trigger

/-- Settles O16: outside source 2 a trigger is idle; in source 2 it pushes its pair, which a full queue refuses. -/
theorem fabricTriggerPushesPair : Obligations.FabricTriggerPushesPair := by
  unfold Obligations.FabricTriggerPushesPair
  intro s n sub
  have hexec : exec (.edgeFabricTrigger n sub) s = .next (s.edgTrigger n sub).signal := rfl
  refine ⟨fun hidle => ?_, fun hsrc hrun hfull => ?_, fun d w hsrc hrun hroom hwait hd hw => ?_⟩
  · rw [hexec, s.edgTrigger_idle n sub hidle]
  · rw [hexec, s.edgTrigger_pushes n sub hsrc hrun, s.edgPush_full n _ hfull]; rfl
  · rw [hexec, s.edgTrigger_pushes n sub hsrc hrun, s.edgPush_waits n _ hroom hwait, hd, hw]; rfl

/-! ### Capture units (R67 to R69) -/

@[simp] theorem State.cap_setCap_same (s : State) (n : Nat) (c : Capture) : (s.setCap n c).cap n = c :=
  SMap.get_set_same s.evt.caps n c

/-- Of two writes of a capture unit's record the second stays, when the first lists a record. -/
theorem State.setCap_setCap (s : State) (n : Nat) {c : Capture} (c' : Capture) (hc : c ≠ default) :
    (s.setCap n c).setCap n c' = s.setCap n c' := by
  simp only [State.setCap, SMap.set_set _ _ _ hc]

/-- A unit that has stamped an edge is not as after reset. -/
theorem Capture.ne_default_of_stamped {c : Capture} (h : c.stamped = true) : c ≠ default := by
  rintro rfl
  cases h

@[simp] theorem State.putBit_evt (s : State) (f : Field) (b : Nat) (v : Bool) : (s.putBit f b v).evt = s.evt := by
  cases v
  · exact s.clrBit_evt f b
  · exact s.setBit_evt f b

/-- What the registers show of a capture unit is no setting of an event unit. -/
theorem State.capShow_evt (s : State) (n : Nat) : (s.capShow n).evt = s.evt := by
  rw [State.capShow, State.each_keeps State.evt fun t k _ => t.wr_evt _ _]
  simp only [State.putBit_evt, State.putB_evt, State.put_evt]

@[simp] theorem State.fg_capShow (s : State) (n : Nat) (f : Field) : (s.capShow n).fg f = s.fg f := by
  simp only [State.fg, State.inForce, State.capShow_evt]

@[simp] theorem State.fg_setCap (s : State) (n : Nat) (c : Capture) (f : Field) : (s.setCap n c).fg f = s.fg f := rfl
@[simp] theorem State.fg_raise (s : State) (g f : Field) : (s.raise g).fg f = s.fg f := rfl

section Store

variable (s : State) (n : Nat) (value : DWord) (time : Nat) (miss rising : Bool) (hpost : s.fg (R.EVT_CAP_CFG.POST n) = 0)
include hpost

/-- A record made with room in the FIFO enters it last, with OVF if one was dropped before it. -/
theorem State.capStore_room (h : (s.cap n).fifo.length < 16) : s.capStore n value time miss rising =
    (s.setCap n { s.cap n with ovf := false, fifo := (s.cap n).fifo ++
      [capRecord n (s.fg (R.EVT_CAP_CFG.AXIS n)) value time (s.cap n).jumped (s.cap n).ovf miss rising] }).capShow n := by
  have hfull : ¬16 ≤ (s.cap n).fifo.length := Nat.not_le.2 h
  simp [State.capStore, hfull, hpost]

/-- A record made at a full FIFO is dropped, and OVF is set. -/
theorem State.capStore_full (h : 16 ≤ (s.cap n).fifo.length) : s.capStore n value time miss rising =
    ((s.setCap n { s.cap n with ovf := true }).raise (R.EVT_CAP_STATUS.OVF n)).capShow n := by
  simp [State.capStore, h, hpost]

theorem State.capStore_fg (f : Field) : (s.capStore n value time miss rising).fg f = s.fg f := by
  by_cases h : (s.cap n).fifo.length < 16
  · rw [s.capStore_room n value time miss rising hpost h, State.fg_capShow, State.fg_setCap]
  · rw [s.capStore_full n value time miss rising hpost (Nat.not_lt.1 h), State.fg_capShow, State.fg_raise, State.fg_setCap]

end Store

/-- Does the code of EVT_CAPn_CFG.EDGE select an edge: 1 rising, 2 falling, 3 both? -/
def edgeSelected (sel : Nat) (rising : Bool) : Prop := sel = 3 ∨ (sel = 1 ∧ rising = true) ∨ (sel = 2 ∧ rising = false)

theorem not_edgeSelected {sel : Nat} {rising : Bool} (h : sel = 0 ∨ (sel = 1 ∧ rising = false) ∨ (sel = 2 ∧ rising = true)) :
    ¬edgeSelected sel rising := by
  rcases h with rfl | ⟨rfl, rfl⟩ | ⟨rfl, rfl⟩ <;> simp [edgeSelected]

section Take

variable (s : State) (n : Nat) (rising : Bool) (sub : Nat)

theorem State.capTakes_iff : s.capTakes n rising = true ↔ (s.cap n).armed = true ∧ (s.cap n).isOpen = true ∧
    edgeSelected (s.fg (R.EVT_CAP_CFG.EDGE n)) rising ∧ ¬(s.fg (R.EVT_CAP_CFG.FIRST n) = 1 ∧ (s.cap n).stamped = true) := by
  simp [State.capTakes, edgeSelected, and_assoc, or_assoc, imp_iff_not_or]

/-- The ways in which an edge is not taken: the unit, its window, EDGE or FIRST. -/
theorem State.capTakes_eq_false (h : (s.cap n).armed = false ∨ (s.cap n).isOpen = false ∨ s.fg (R.EVT_CAP_CFG.EDGE n) = 0 ∨
    (s.fg (R.EVT_CAP_CFG.EDGE n) = 1 ∧ rising = false) ∨ (s.fg (R.EVT_CAP_CFG.EDGE n) = 2 ∧ rising = true) ∨
    (s.fg (R.EVT_CAP_CFG.FIRST n) = 1 ∧ (s.cap n).stamped = true)) : s.capTakes n rising = false := by
  refine Bool.eq_false_iff.2 fun ht => ?_
  obtain ⟨harmed, hopen, hsel, hfirst⟩ := (s.capTakes_iff n rising).1 ht
  rcases h with h | h | h | h | h | h
  · exact Bool.false_ne_true (h.symm.trans harmed)
  · exact Bool.false_ne_true (h.symm.trans hopen)
  · exact not_edgeSelected (.inl h) hsel
  · exact not_edgeSelected (.inr (.inl h)) hsel
  · exact not_edgeSelected (.inr (.inr h)) hsel
  · exact hfirst h

theorem State.captureEdge_ignored (h : s.unitsRun = false ∨ s.capTakes n rising = false) : s.captureEdge n rising sub = s := by
  rcases h with hrun | ht
  · simp [State.captureEdge, hrun]
  · simp [State.captureEdge, State.capEdge, ht]

theorem State.captureEdge_taken (hrun : s.unitsRun = true) (ht : s.capTakes n rising = true) :
    s.captureEdge n rising sub = (s.capEdge n rising sub).stampStreams n (s.capValue n sub) := by
  simp [State.captureEdge, hrun, ht]

variable (ht : s.capTakes n rising = true) (hpost : s.fg (R.EVT_CAP_CFG.POST n) = 0)
  (hwin : s.fg (R.EVT_CAP_CFG.WMODE n) = 1 ∨ s.fg (R.EVT_CAP_CFG.WMODE n) = 2)
include ht hpost hwin

/-- In a window an edge taken marks the window as stamped and makes a record; the span for JUMP goes on. -/
theorem State.capEdge_taken : s.capEdge n rising sub =
    (s.setCap n { s.cap n with stamped := true }).capStore n (s.capValue n sub) (s.plantNs.toNat * 4 + sub) false rising := by
  rw [State.capEdge, if_pos ht]
  refine if_pos ?_
  rw [State.capStore_fg _ _ _ _ _ _ (by exact hpost), State.fg_setCap]
  simpa using hwin

theorem State.capEdge_room (h : (s.cap n).fifo.length < 16) : s.capEdge n rising sub =
    (s.setCap n { s.cap n with stamped := true, ovf := false, fifo := (s.cap n).fifo ++
      [capRecord n (s.fg (R.EVT_CAP_CFG.AXIS n)) (s.capValue n sub) (s.plantNs.toNat * 4 + sub) (s.cap n).jumped (s.cap n).ovf
        false rising] }).capShow n := by
  rw [s.capEdge_taken n rising sub ht hpost hwin, State.capStore_room _ _ _ _ _ _ (by exact hpost) (by simpa using h),
    State.setCap_setCap _ _ _ (Capture.ne_default_of_stamped rfl), State.cap_setCap_same]
  rfl

theorem State.capEdge_full (h : 16 ≤ (s.cap n).fifo.length) : s.capEdge n rising sub =
    ((s.setCap n { s.cap n with stamped := true, ovf := true }).raise (R.EVT_CAP_STATUS.OVF n)).capShow n := by
  rw [s.capEdge_taken n rising sub ht hpost hwin, State.capStore_full _ _ _ _ _ _ (by exact hpost) (by simpa using h),
    State.setCap_setCap _ _ _ (Capture.ne_default_of_stamped rfl), State.cap_setCap_same]

end Take

/-- A stamp that the streams see is written to their records alone. -/
theorem State.stampStreams_keeps {β : Type} (p : State → β) (h : ∀ t m x, p (State.setStream t m x) = p t) (s : State) (n : Nat)
    (v : DWord) : p (s.stampStreams n v) = p s :=
  State.each_keeps p (fun t m _ => h t m _) s

/-- Settles O17: `capTakes` decides whether an edge is stamped, and the room in the FIFO what becomes of its record. -/
theorem captureStamps : Obligations.CaptureStamps := by
  unfold Obligations.CaptureStamps
  intro s n
  refine ⟨fun rising sub => ?edge, ?streams, rfl⟩
  case streams =>
    exact ⟨State.stampStreams_keeps State.rw (fun _ _ _ => rfl) s n _, State.stampStreams_keeps State.evt (fun _ _ _ => rfl) s n _,
      State.stampStreams_keeps State.mem (fun _ _ _ => rfl) s n _⟩
  case edge =>
    have hexec : exec (.captureEdge n rising sub) s = .next (s.captureEdge n rising sub).signal := rfl
    refine ⟨fun hno => ?ignored, fun hrun harmed hopen hfirst hsel hpost hwin => ?taken⟩
    case ignored =>
      rw [hexec, s.captureEdge_ignored n rising sub (hno.imp_right (s.capTakes_eq_false n rising))]
    case taken =>
      have hsecond : ¬(s.fg (R.EVT_CAP_CFG.FIRST n) = 1 ∧ (s.cap n).stamped = true) := by
        rintro ⟨hone, hstamped⟩
        rcases hfirst with hclear | hzero
        · exact Bool.false_ne_true (hclear.symm.trans hstamped)
        · omega
      have ht : s.capTakes n rising = true := (s.capTakes_iff n rising).2 ⟨harmed, hopen, hsel, hsecond⟩
      rw [hexec, s.captureEdge_taken n rising sub hrun ht]
      exact ⟨fun h => by rw [s.capEdge_room n rising sub ht hpost hwin h],
        fun h => by rw [s.capEdge_full n rising sub ht hpost hwin h]⟩

end Sys2Proof.Machine

/-! Word units of the fabric tiles (R83 to R88): one edge of a unit, the ALU and the accumulator, and O18 to O20. -/

namespace Sys2Proof.Machine

/-! ### An edge of the unit of a tile (R83, R87) -/

section WuStep

variable (s p : State) (t op a b cin : Nat) (clr : Bool) (x y : DWord)

/-- Of the state only the word units change. -/
theorem State.wuStep_eq : s.wuStep p t op a b cin clr x y =
    { s with fab := { s.fab with wu := (s.wuStep p t op a b cin clr x y).fab.wu } } := rfl

theorem State.wuStep_get_same : (s.wuStep p t op a b cin clr x y).fab.wu.get t =
    (s.fab.wu.get t).edge (p.tileSet t).wu (p.wuPair t) op (p.wuA t a) (p.wuB t b) cin clr x y := by
  simp only [State.wuStep]
  split
  · rw [SMap.get_upd_other _ _ (Nat.ne_of_lt t.lt_succ_self), SMap.get_set_same]
  · rw [SMap.get_set_same]

/-- The odd tile of a pair shows the high half of the pair's output. -/
theorem State.wuStep_out_odd (hp : p.wuPair t = true) :
    ((s.wuStep p t op a b cin clr x y).fab.wu.get (t + 1)).out = ((s.wuStep p t op a b cin clr x y).fab.wu.get t).out >>> 16 := by
  rw [State.wuStep_get_same]
  simp only [State.wuStep, hp, if_true, SMap.get_upd_same]

theorem State.wuStep_get_other {m : Nat} (hm : m ≠ t) (hodd : m ≠ t + 1 ∨ p.wuPair t = false) :
    (s.wuStep p t op a b cin clr x y).fab.wu.get m = s.fab.wu.get m := by
  rcases hodd with hodd | hp
  · simp only [State.wuStep]
    split
    · rw [SMap.get_upd_other _ _ hodd, SMap.get_set_other _ _ hm]
    · rw [SMap.get_set_other _ _ hm]
  · simp only [State.wuStep, hp, Bool.false_eq_true, if_false, SMap.get_set_other _ _ hm]

end WuStep

section WuOp

variable (s : State) (t op : Nat) (a b : Word) (cin clr : Bool)

theorem State.wuOp_idle (h : s.gated (t / 256) = true ∨ s.wuFollows t = true) : s.wuOp t op a b cin clr = s := by
  rw [State.wuOp, if_pos (by simpa using h)]

/-- Otherwise the unit takes one edge, with two free values for what the spec leaves open. -/
theorem State.wuOp_steps (hg : s.gated (t / 256) = false) (hf : s.wuFollows t = false) : s.wuOp t op a b cin clr =
    State.wuStep { s with freeCtr := s.freeCtr + 2 } s t op a.toNat b.toNat cin.toNat clr (Config.freeBits s.freeCtr)
      (Config.freeBits (s.freeCtr + 1)) := by
  rw [State.wuOp, if_neg (by simp [hg, hf])]
  rfl

end WuOp

/-- Settles O18: every command is `wuOp` with its code, which is idle or gives the unit one edge. -/
theorem wordUnitSamples : Obligations.WordUnitSamples := by
  unfold Obligations.WordUnitSamples
  intro s t a b runs
  refine ⟨fun hg hf => ?_, fun hidle => ?_⟩
  · have run {cmd : Instr} {op : Nat} {cin clr : Bool} (h : exec cmd s = done (s.wuOp t op a b cin clr)) :
        runs cmd op cin.toNat clr :=
      ⟨_, _, _, h.trans (congrArg done (s.wuOp_steps t op a b cin clr hg hf)), State.wuStep_get_same ..,
        State.wuStep_out_odd _ _ _ _ _ _ _ _ _ _, fun _ => State.wuStep_get_other _ _ _ _ _ _ _ _ _ _, rfl⟩
    exact ⟨run (cin := false) rfl, run (cin := false) rfl, run (cin := false) rfl, run (cin := false) rfl, run (cin := false) rfl,
      run (cin := false) rfl, run (cin := false) rfl, run (cin := false) rfl, run (cin := false) rfl, run (cin := false) rfl,
      run (cin := false) rfl, run (cin := false) rfl, run (cin := false) rfl, run (cin := false) rfl, run (cin := false) rfl,
      fun _ => run rfl, fun op cin hop => run (congrArg (fun k => done (s.wuOp t k a b cin true)) (Nat.mod_eq_of_lt hop))⟩
  · have idle {cmd : Instr} {op : Nat} {cin clr : Bool} (h : exec cmd s = done (s.wuOp t op a b cin clr)) :
        exec cmd s = .next s.signal := h.trans (congrArg done (s.wuOp_idle t op a b cin clr hidle))
    exact ⟨idle rfl, idle rfl, idle rfl, idle rfl, idle rfl, idle rfl, idle rfl, idle rfl, idle rfl, idle rfl, idle rfl, idle rfl,
      idle rfl, idle rfl, idle rfl, fun _ => idle rfl, fun _ _ => idle rfl⟩

/-! ### What the ALU gives (R83, R85 to R87) -/

/-- The four flags: Z and N of the result, and the C and V given. -/
theorem wuFlags_bits (w r : Nat) (c v : Bool) : (wuFlags w r c v).getLsbD 0 = decide (r % 2 ^ w = 0) ∧
    (wuFlags w r c v).getLsbD 1 = r.testBit (w - 1) ∧ (wuFlags w r c v).getLsbD 2 = c ∧ (wuFlags w r c v).getLsbD 3 = v := by
  unfold wuFlags
  generalize decide (r % 2 ^ w = 0) = z
  generalize r.testBit (w - 1) = n
  revert z n c v
  decide

/-- V of a sum is the overflow of the signed sum. -/
theorem wuAdd_overflow (w a b : Nat) : (wuAdd w a b 0).2.2 = BitVec.saddOverflow (BitVec.ofNat w a) (BitVec.ofNat w b) := by
  rw [Bool.eq_iff_iff]
  simp [wuAdd, asSigned, BitVec.saddOverflow, or_comm]

theorem wuSub_overflow (w a b : Nat) : (wuSub w a b).2.2 = BitVec.ssubOverflow (BitVec.ofNat w a) (BitVec.ofNat w b) := by
  rw [Bool.eq_iff_iff]
  simp [wuSub, asSigned, BitVec.ssubOverflow, or_comm]

/-- An operand read as signed lies in the signed range, and so does what a shift to the right makes of it. -/
theorem toInt_ofInt_asSigned_div {w : Nat} (hw : 0 < w) (a k : Nat) :
    (BitVec.ofInt w (asSigned w a / (2 ^ k : Nat))).toInt = (BitVec.ofNat w a).toInt / 2 ^ k := by
  have hlo := BitVec.le_toInt (BitVec.ofNat w a)
  have hhi := BitVec.toInt_lt (x := BitVec.ofNat w a)
  have hk : (0 : Int) < 2 ^ k := by positivity
  have hw' : (0 : Int) < 2 ^ (w - 1) := by positivity
  rw [asSigned, Nat.cast_pow, Nat.cast_ofNat]
  refine BitVec.toInt_ofInt_eq_self hw ?_ ?_
  · exact (Int.le_ediv_iff_mul_le hk).2 (by nlinarith)
  · exact Int.ediv_lt_of_lt_mul hk (by nlinarith)

theorem wuFlags_wuAdd_overflow (w a b r : Nat) (c : Bool) :
    (wuFlags w r c (wuAdd w a b 0).2.2).getLsbD 3 = BitVec.saddOverflow (BitVec.ofNat w a) (BitVec.ofNat w b) := by
  obtain ⟨-, -, -, hv⟩ := wuFlags_bits w r c (wuAdd w a b 0).2.2
  exact hv.trans (wuAdd_overflow w a b)

section Alu

variable {w a b : Nat} (ha : a < 2 ^ w) (hb : b < 2 ^ w)
include ha hb

theorem wuAdd_sum (cin : Nat) : (wuAdd w a b cin).1 = (a + b + cin) % 2 ^ w := by
  simp only [wuAdd, Nat.mod_eq_of_lt ha, Nat.mod_eq_of_lt hb]

theorem wuAdd_carry (cin : Nat) : (wuAdd w a b cin).2.1 = decide (2 ^ w ≤ a + b + cin) := by
  simp only [wuAdd, Nat.mod_eq_of_lt ha, Nat.mod_eq_of_lt hb]

theorem wuSub_difference : (wuSub w a b).1 = (a + 2 ^ w - b) % 2 ^ w := by
  have ht : a + (2 ^ w - 1 - b) + 1 = a + 2 ^ w - b := by omega
  simp only [wuSub, Nat.mod_eq_of_lt ha, Nat.mod_eq_of_lt hb, ht]

/-- C of a difference is set when nothing is borrowed. -/
theorem wuSub_carry : (wuSub w a b).2.1 = decide (b ≤ a) := by
  have hc : 2 ^ w ≤ a + (2 ^ w - 1 - b) + 1 ↔ b ≤ a := by omega
  simp only [wuSub, Nat.mod_eq_of_lt ha, Nat.mod_eq_of_lt hb, hc]

theorem wuSub_eq_zero_iff : (wuSub w a b).1 = 0 ↔ a = b := by
  rw [wuSub_difference ha hb]
  rcases Nat.lt_or_ge a b with h | h
  · rw [Nat.mod_eq_of_lt (by omega)]; omega
  · rw [show a + 2 ^ w - b = a - b + 2 ^ w by omega, Nat.add_mod_right, Nat.mod_eq_of_lt (by omega)]; omega

/-- The result of every operation is a number of the unit's width. -/
theorem wuAlu_lt (op : Nat) (sgn : Bool) (cin : Nat) : wuAlu op w sgn a b cin < 2 ^ w := by
  have hpos := Nat.two_pow_pos w
  unfold wuAlu
  simp only [Nat.mod_eq_of_lt ha, Nat.mod_eq_of_lt hb]
  split
  · exact Nat.mod_lt _ hpos
  · exact Nat.mod_lt _ hpos
  · exact Nat.mod_lt _ hpos
  · exact Nat.and_lt_two_pow _ hb
  · exact Nat.or_lt_two_pow ha hb
  · exact Nat.xor_lt_two_pow ha hb
  · split <;> assumption
  · split <;> assumption
  · exact Nat.mod_lt _ hpos
  · split
    · exact BitVec.isLt _
    · exact (Nat.div_le_self _ _).trans_lt ha
  · exact ha

theorem wuAlu_signed_min (cin : Nat) :
    (BitVec.ofNat w (wuAlu 7 w true a b cin)).toInt = min (BitVec.ofNat w a).toInt (BitVec.ofNat w b).toInt := by
  simp only [wuAlu, asOperand, asSigned, Nat.mod_eq_of_lt ha, Nat.mod_eq_of_lt hb, if_true, min_def]
  split <;> rfl

theorem wuAlu_signed_max (cin : Nat) :
    (BitVec.ofNat w (wuAlu 8 w true a b cin)).toInt = max (BitVec.ofNat w a).toInt (BitVec.ofNat w b).toInt := by
  simp only [wuAlu, asOperand, asSigned, Nat.mod_eq_of_lt ha, Nat.mod_eq_of_lt hb, if_true, max_def]
  split <;> rfl

theorem wuAlu_signed_shr (hw : 0 < w) (cin : Nat) :
    (BitVec.ofNat w (wuAlu 10 w true a b cin)).toInt = (BitVec.ofNat w a).toInt / 2 ^ (b % 16) := by
  rw [← toInt_ofInt_asSigned_div hw]
  simp only [wuAlu, Nat.mod_eq_of_lt ha, Nat.mod_eq_of_lt hb, if_true, BitVec.ofNat_toNat, BitVec.setWidth_eq]

theorem wuAlu_unsigned_min (cin : Nat) : wuAlu 7 w false a b cin = min a b := by
  simp only [wuAlu, asOperand, Nat.mod_eq_of_lt ha, Nat.mod_eq_of_lt hb, Bool.false_eq_true, if_false, Nat.cast_le, min_def]

theorem wuAlu_unsigned_max (cin : Nat) : wuAlu 8 w false a b cin = max a b := by
  simp only [wuAlu, asOperand, Nat.mod_eq_of_lt ha, Nat.mod_eq_of_lt hb, Bool.false_eq_true, if_false, Nat.cast_le, max_def]

theorem wuAlu_unsigned_shr (cin : Nat) : wuAlu 10 w false a b cin = a / 2 ^ (b % 16) := by
  simp only [wuAlu, Nat.mod_eq_of_lt ha, Nat.mod_eq_of_lt hb, Bool.false_eq_true, if_false]

/-! ### The flags -/

/-- But for CMP, whose result is A, the flags are made of the result. -/
theorem wuAluFlags_of_result {op : Nat} (hop : op ≠ 11) (sgn : Bool) (cin : Nat) (x : DWord) :
    ∃ c v, wuAluFlags op w sgn a b cin x = wuFlags w (wuAlu op w sgn a b cin) c v := by
  by_cases h : op = 1 ∨ op = 2 ∨ op = 3
  · rcases h with rfl | rfl | rfl <;>
      exact ⟨_, _, by simp only [wuAluFlags, wuAlu, Nat.mod_eq_of_lt ha, Nat.mod_eq_of_lt hb]; rfl⟩
  · obtain ⟨h1, h2, h3⟩ : op ≠ 1 ∧ op ≠ 2 ∧ op ≠ 3 := by omega
    exact ⟨x.getLsbD 0, x.getLsbD 1, by simp only [wuAluFlags]⟩

theorem wuAluFlags_zn {op : Nat} (hop : op ≠ 11) (sgn : Bool) (cin : Nat) (x : DWord) :
    (wuAluFlags op w sgn a b cin x).getLsbD 0 = decide (wuAlu op w sgn a b cin = 0) ∧
    (wuAluFlags op w sgn a b cin x).getLsbD 1 = (wuAlu op w sgn a b cin).testBit (w - 1) := by
  obtain ⟨c, v, hf⟩ := wuAluFlags_of_result ha hb hop sgn cin x
  obtain ⟨hz, hn, -, -⟩ := wuFlags_bits w (wuAlu op w sgn a b cin) c v
  rw [hf]
  exact ⟨by rw [hz, Nat.mod_eq_of_lt (wuAlu_lt ha hb op sgn cin)], hn⟩

theorem wuFlags_wuAdd_carry (r cin : Nat) (v : Bool) :
    (wuFlags w r (wuAdd w a b cin).2.1 v).getLsbD 2 = decide (2 ^ w ≤ a + b + cin) := by
  obtain ⟨-, -, hc, -⟩ := wuFlags_bits w r (wuAdd w a b cin).2.1 v
  exact hc.trans (wuAdd_carry ha hb cin)

/-- The flags of SUB and CMP. -/
theorem wuSub_flags {f : BitVec 4} (hf : f = wuFlags w (wuSub w a b).1 (wuSub w a b).2.1 (wuSub w a b).2.2) :
    f.getLsbD 0 = decide (a = b) ∧ f.getLsbD 1 = ((a + 2 ^ w - b) % 2 ^ w).testBit (w - 1) ∧
    f.getLsbD 2 = decide (b ≤ a) ∧ f.getLsbD 3 = BitVec.ssubOverflow (BitVec.ofNat w a) (BitVec.ofNat w b) := by
  subst hf
  obtain ⟨hz, hn, hc, hv⟩ := wuFlags_bits w (wuSub w a b).1 (wuSub w a b).2.1 (wuSub w a b).2.2
  have hlt : (wuSub w a b).1 < 2 ^ w := Nat.mod_lt _ (Nat.two_pow_pos w)
  refine ⟨?_, by rw [hn, wuSub_difference ha hb], hc.trans (wuSub_carry ha hb), hv.trans (wuSub_overflow w a b)⟩
  rw [hz, Nat.mod_eq_of_lt hlt, decide_eq_decide]
  exact wuSub_eq_zero_iff ha hb

end Alu

/-! ### An ALU operation in a free unit -/

/-- What an operation of the ALU puts into the pipe. -/
def aluRes (op w : Nat) (sgn : Bool) (a b cin : Nat) (x : DWord) : WuRes :=
  { left := 1, out := some (BitVec.ofNat 32 (wuAlu op w sgn a b cin)), flags := some (wuAluFlags op w sgn a b cin x) }

theorem Wu.edge_alu (u : Wu) (c : Config.WuSet) (pair : Bool) {op : Nat} (a b cin : Nat) (x y : DWord) (hb : u.busy = false)
    (hp : u.pipe = []) (ho : c.osel = 0) (hop : op < 12) : u.edge c pair op a b cin false x y =
      { u with pipe := [aluRes op (if pair then 32 else 16) c.sgnA a b cin x] } := by
  have h12 : ¬12 ≤ op := by omega
  have h13 : ¬13 ≤ op := by omega
  have hne : op ≠ 12 := by omega
  simp [Wu.edge, Wu.advance, aluRes, hb, hp, ho, h12, h13, hne]

theorem Wu.advance_aluRes (u : Wu) (op w : Nat) (sgn : Bool) (a b cin : Nat) (x z : DWord)
    (hp : u.pipe = [aluRes op w sgn a b cin x]) : (u.advance z).out = BitVec.ofNat 32 (wuAlu op w sgn a b cin) ∧
      (u.advance z).flags = wuAluFlags op w sgn a b cin x := by
  simp [Wu.advance, aluRes, hp]

/-- Settles O19: a free unit holds what `wuAlu` and `wuAluFlags` give, one value or flag of which is a lemma above each. -/
theorem wordUnitAlu : Obligations.WordUnitAlu := by
  unfold Obligations.WordUnitAlu
  intro u c pair op a b cin w x y z hbusy hpipe hosel _ hw ha hb hop
  have hpos : 0 < w := by rw [hw]; split <;> decide
  have hma := Nat.mod_eq_of_lt ha
  have hmb := Nat.mod_eq_of_lt hb
  rw [u.edge_alu c pair a b cin x y hbusy hpipe hosel hop, ← hw]
  obtain ⟨hout, hflags⟩ := Wu.advance_aluRes { u with pipe := [aluRes op w c.sgnA a b cin x] } op w c.sgnA a b cin x z rfl
  refine ⟨wuAlu op w c.sgnA a b cin, wuAluFlags op w c.sgnA a b cin x, rfl, hout, hflags, rfl, rfl, ?pass, ?add, ?sub, ?addc,
    ?and, ?or, ?xor, fun hs => ⟨?min, ?max, ?shr⟩, fun hs => ⟨?smin, ?smax, ?sshr⟩, ?shl,
    fun hne => wuAluFlags_zn ha hb hne .., ?cmpZN, ?addC, ?addcC, ?addV, ?subCV⟩
  case pass => rintro (rfl | rfl) <;> exact hma
  case add => rintro rfl; simp only [wuAlu, hma, hmb, wuAdd_sum ha hb, Nat.add_zero]
  case sub => rintro rfl; simp only [wuAlu, hma, hmb, wuSub_difference ha hb]
  case addc => rintro rfl; simp only [wuAlu, hma, hmb, wuAdd_sum ha hb]
  case and => rintro rfl; simp only [wuAlu, hma, hmb]
  case or => rintro rfl; simp only [wuAlu, hma, hmb]
  case xor => rintro rfl; simp only [wuAlu, hma, hmb]
  case shl => rintro rfl; simp only [wuAlu, hma, hmb]
  case min => rintro rfl; rw [hs]; exact wuAlu_unsigned_min ha hb cin
  case max => rintro rfl; rw [hs]; exact wuAlu_unsigned_max ha hb cin
  case shr => rintro rfl; rw [hs]; exact wuAlu_unsigned_shr ha hb cin
  case smin => rintro rfl; rw [hs]; exact wuAlu_signed_min ha hb cin
  case smax => rintro rfl; rw [hs]; exact wuAlu_signed_max ha hb cin
  case sshr => rintro rfl; rw [hs]; exact wuAlu_signed_shr ha hb hpos cin
  case cmpZN =>
    rintro rfl
    obtain ⟨hz, hn, -⟩ := wuSub_flags ha hb (f := wuAluFlags 11 w c.sgnA a b cin x) rfl
    exact ⟨hz, hn⟩
  case addC => rintro rfl; exact wuFlags_wuAdd_carry ha hb _ 0 _
  case addcC => rintro rfl; exact wuFlags_wuAdd_carry ha hb _ cin _
  case addV => rintro rfl; exact wuFlags_wuAdd_overflow w a b _ _
  case subCV =>
    intro hop
    have hf : wuAluFlags op w c.sgnA a b cin x = wuFlags w (wuSub w a b).1 (wuSub w a b).2.1 (wuSub w a b).2.2 := by
      rcases hop with rfl | rfl <;> rfl
    obtain ⟨-, -, hcv⟩ := wuSub_flags ha hb hf
    exact hcv

/-! ### The accumulator (R83, R84) -/

@[simp] theorem Wu.advance_acc (u : Wu) (x : DWord) : (u.advance x).acc = u.acc := by
  simp only [Wu.advance]
  split <;> split <;> rfl

@[simp] theorem Wu.advance_sat (u : Wu) (x : DWord) : (u.advance x).sat = u.sat := by
  simp only [Wu.advance]
  split <;> split <;> rfl

/-- What the accumulator of a unit holds as an operation meets it, CLRACC asserted or not. -/
def Wu.accBefore (u : Wu) (clr : Bool) : Int := if clr then 0 else (u.acc.setWidth 48).toInt

/-- The product of two operands of 16 bits as SGNA and SGNB declare them. -/
def wuProduct (c : Config.WuSet) (a b : Nat) : Int := asOperand c.sgnA 16 a * asOperand c.sgnB 16 b

/-- The value that MAC, MSU and LDACC give the accumulator, before it is cut to its width. -/
def accExact (op : Nat) (before prod : Int) : Int := if op = 13 then before + prod else if op = 14 then before - prod else prod

section Edge

variable (u : Wu) (c : Config.WuSet) {op : Nat} (a b : Nat) (clr : Bool) (x y : DWord) (hb : u.busy = false) (hop : 13 ≤ op)
include hb hop

theorem Wu.edge_acc : (u.edge c false op a b 0 clr x y).acc =
    (accTake 48 c.satAcc (accExact op (u.accBefore clr) (wuProduct c a b))).1 := by
  cases clr <;> simp [Wu.edge, Wu.accBefore, wuProduct, accExact, asSigned, hb, hop]

theorem Wu.edge_sat : (u.edge c false op a b 0 clr x y).sat =
    ((accTake 48 c.satAcc (accExact op (u.accBefore clr) (wuProduct c a b))).2 || (u.sat && !clr && decide (op ≠ 15))) := by
  cases clr <;> simp [Wu.edge, Wu.accBefore, wuProduct, accExact, asSigned, hb, hop]

end Edge

/-- With SATACC = 0, and for a value that the accumulator holds, the value is taken modulo 2^48. -/
theorem accTake_wraps {v : Int} {sat : Bool} (h : sat = false ∨ (-140737488355328 ≤ v ∧ v ≤ 140737488355327)) :
    accTake 48 sat v = (BitVec.ofInt 80 (v % 281474976710656), false) := by
  have hhi : ¬(sat = true ∧ 140737488355327 < v) := by rintro ⟨rfl, hv⟩; simp only [Bool.true_eq_false, false_or] at h; omega
  have hlo : ¬(sat = true ∧ v < -140737488355328) := by rintro ⟨rfl, hv⟩; simp only [Bool.true_eq_false, false_or] at h; omega
  simp [accTake, hhi, hlo]

theorem accTake_above {v : Int} (h : 140737488355327 < v) : accTake 48 true v = (0x7FFFFFFFFFFF#80, true) := by
  simp [accTake, h]

theorem accTake_below {v : Int} (h : v < -140737488355328) : accTake 48 true v = (0x800000000000#80, true) := by
  have hhi : ¬140737488355327 < v := by omega
  simp [accTake, hhi, h]

/-- Settles O20: the accumulator takes the exact value by `accTake`, and SAT is what it reports over what stood before. -/
theorem accumulatorWrapsOrSaturates : Obligations.AccumulatorWrapsOrSaturates := by
  unfold Obligations.AccumulatorWrapsOrSaturates
  intro u c op a b clr x y before prod exact t hb hop ht hbefore hprod hexact
  have hop13 : 13 ≤ op := by omega
  have hv : accExact op (u.accBefore clr) (wuProduct c a b) = exact := by
    rw [hexact, hbefore, hprod]; rfl
  rw [ht, u.edge_acc c a b clr x y hb hop13, u.edge_sat c a b clr x y hb hop13, hv]
  refine ⟨fun hs => ?wraps, fun hs h => ?above, fun hs h => ?below, fun hs hlo hhi => ?exact⟩
  case wraps => rw [accTake_wraps (.inl hs)]; exact ⟨rfl, Bool.false_or _⟩
  case above => rw [hs, accTake_above h]; exact ⟨rfl, Bool.true_or _⟩
  case below => rw [hs, accTake_below h]; exact ⟨rfl, Bool.true_or _⟩
  case exact => rw [accTake_wraps (.inr ⟨hlo, hhi⟩)]; exact ⟨rfl, Bool.false_or _⟩

end Sys2Proof.Machine

/-! Fabric watchdogs and the comparator port (R97, R101 to R104), and O21. -/

namespace Sys2Proof.Machine

/-! ### The fabric watchdog (R101 to R104) -/

section Watchdog

variable (s : State) (g : Nat)

theorem State.thaw_idle (h : s.on (R.SYS_FWD_STATUS.UNFREEZE g) = false) : s.thaw g = s :=
  if_neg (Bool.eq_false_iff.1 h)

/-- The state with the bits clear that the edge after UNFREEZE clears. -/
def State.thawed (s : State) (g : Nat) : State :=
  ((s.putB (R.SYS_FWD_STATUS.UNFREEZE g) false).putB (R.SYS_FWD_STATUS.FROZEN g) false).putB (R.UPS_REGION_STATUS.UNCORR g) false

theorem State.thaw_running (h : s.on (R.SYS_FWD_STATUS.UNFREEZE g) = true) (hf : s.on (R.SYS_FWD_STATUS.FROZEN g) = false) :
    s.thaw g = s.thawed g := by
  simp only [State.thaw, h, hf, Bool.false_eq_true, if_true, if_false]
  rfl

theorem State.thaw_frozen (h : s.on (R.SYS_FWD_STATUS.UNFREEZE g) = true) (hf : s.on (R.SYS_FWD_STATUS.FROZEN g) = true) :
    s.thaw g = (s.thawed g).fwdReload g := by
  simp only [State.thaw, h, hf, if_true]
  rfl

/-- Without a hold the edge's gates are UNFREEZE and the end of the period after an ungating. -/
theorem State.gatesEdge_free (h : (s.region g).held = false) :
    s.gatesEdge g = (s.thaw g).setRegion g { s.region g with settling := 0 } := by
  simp only [State.gatesEdge, h, Bool.not_false, if_true]

theorem State.fwdExpiry_idle (h : s.g (R.SYS_FWD_CFG.TMO g) = 0 ∨ s.g (R.SYS_FWD_STATUS.COUNT g) ≠ 0) : s.fwdExpiry g = s := by
  refine if_pos ?_
  rcases h with h | h <;> simp [h]

/-- An expiry before its action: it is shown and counted, the count reloads, and WDEXP waits for the next edge. -/
def State.expired (s : State) (g : Nat) : State :=
  ((((s.raise (R.SYS_FWD_STATUS.EXPIRED g)).setBit (R.SYS_FWD_EXPIRED.EXPIRED (g / 32)) (g % 32)).bump
    (R.SYS_FWD_STATUS.EXPCNT g) 1).fwdReload g).setRegion g { s.region g with wdexpDue := true }

/-- The action of an expiry (R102, R103): none in a region that is frozen already. -/
def State.fwdAct (s : State) (g : Nat) : State :=
  if s.on (R.SYS_FWD_STATUS.FROZEN g) then s
  else match s.g (R.SYS_FWD_CFG.ACTION g) with
    | 1 => (s.putB (R.SYS_FWD_STATUS.FROZEN g) true).gateShow g
    | 2 => s.fabReset 4 [g]
    | _ => s

theorem State.fwdExpiry_acts (ht : s.g (R.SYS_FWD_CFG.TMO g) ≠ 0) (hc : s.g (R.SYS_FWD_STATUS.COUNT g) = 0)
    (hr : (s.region g).released = true) (hs : (s.region g).stopped = false) (hl : s.logicOn g = true)
    (ha : s.on (R.CTX_REGION_STATUS.HASACT g) = true) : s.fwdExpiry g = (s.expired g).fwdAct g := by
  rw [State.fwdExpiry, if_neg (by simp [ht, hc, hr, hs, hl, ha])]
  rfl

theorem State.fwdAct_none (h : s.on (R.SYS_FWD_STATUS.FROZEN g) = true ∨ s.g (R.SYS_FWD_CFG.ACTION g) = 0 ∨
    s.g (R.SYS_FWD_CFG.ACTION g) = 3) : s.fwdAct g = s := by
  rcases h with h | h | h
  · exact if_pos h
  · simp only [State.fwdAct, h, ite_self]
  · simp only [State.fwdAct, h, ite_self]

section Running

variable (hf : s.on (R.SYS_FWD_STATUS.FROZEN g) = false)
include hf

theorem State.fwdAct_freezes (h : s.g (R.SYS_FWD_CFG.ACTION g) = 1) :
    s.fwdAct g = (s.putB (R.SYS_FWD_STATUS.FROZEN g) true).gateShow g := by
  simp only [State.fwdAct, hf, h, Bool.false_eq_true, if_false]

theorem State.fwdAct_resets (h : s.g (R.SYS_FWD_CFG.ACTION g) = 2) : s.fwdAct g = s.fabReset 4 [g] := by
  simp only [State.fwdAct, hf, h, Bool.false_eq_true, if_false]

end Running

end Watchdog

/-! ### The comparator port (R97)

A word of 64 bits is four half words; the port replaces one of them. -/

/-- A word of 64 bits with half word `k` replaced. -/
def putHalf (old : DWord) (k : Nat) (data : Half) : DWord :=
  BitVec.ofNat 64 (old.toNat - (old.toNat / 2 ^ (16 * k) % 65536) * 2 ^ (16 * k) + data.toNat * 2 ^ (16 * k))

/-- The number with the half word replaced: what lies below, the half word, and what lies above. -/
theorem putHalf_number (v d k : Nat) : v - v / 2 ^ (16 * k) % 65536 * 2 ^ (16 * k) + d * 2 ^ (16 * k) =
    2 ^ (16 * k) * (2 ^ 16 * (v / 2 ^ (16 * k) / 65536) + d) + v % 2 ^ (16 * k) := by
  have h1 := Nat.div_add_mod v (2 ^ (16 * k))
  have h2 := Nat.div_add_mod (v / 2 ^ (16 * k)) 65536
  generalize v / 2 ^ (16 * k) = q at *
  generalize v % 2 ^ (16 * k) = r at *
  generalize 2 ^ (16 * k) = p at *
  have h3 : v = q / 65536 * 65536 * p + q % 65536 * p + r := by
    rw [← h1]; conv_lhs => rw [← h2]
    ring
  rw [h3]
  have h4 : p * (2 ^ 16 * (q / 65536) + d) = q / 65536 * 65536 * p + d * p := by ring
  omega

theorem getLsbD_putHalf (old : DWord) (k : Nat) (data : Half) {i : Nat} (hi : i < 64) : (putHalf old k data).getLsbD i =
    if 16 * k ≤ i ∧ i < 16 * k + 16 then data.getLsbD (i - 16 * k) else old.getLsbD i := by
  rw [putHalf, putHalf_number, BitVec.getLsbD_ofNat, decide_eq_true hi, Bool.true_and,
    Nat.testBit_two_pow_mul_add _ (Nat.mod_lt _ (Nat.two_pow_pos _))]
  by_cases hlo : i < 16 * k
  · have hout : ¬(16 * k ≤ i ∧ i < 16 * k + 16) := by omega
    rw [if_pos hlo, if_neg hout, Nat.testBit_mod_two_pow, decide_eq_true hlo, Bool.true_and, BitVec.testBit_toNat]
  · rw [if_neg hlo, Nat.testBit_two_pow_mul_add _ data.isLt]
    by_cases hin : i - 16 * k < 16
    · rw [if_pos hin, if_pos (by omega), BitVec.testBit_toNat]
    · have hi' : i - 16 * k - 16 + 16 + 16 * k = i := by omega
      rw [if_neg hin, if_neg (by omega), show 65536 = 2 ^ 16 from rfl, Nat.testBit_div_two_pow, Nat.testBit_div_two_pow, hi',
        BitVec.testBit_toNat]

/-- Half word `j` after a replacement of half word `k`. -/
theorem half_putHalf (old : DWord) {k j : Nat} (hj : j < 4) (data : Half) : (putHalf old k data >>> (16 * j)).setWidth 16 =
    if j = k then data else (old >>> (16 * j)).setWidth 16 := by
  refine BitVec.eq_of_getLsbD_eq fun i hi => ?_
  have hlt : 16 * j + i < 64 := by omega
  rw [BitVec.getLsbD_setWidth, decide_eq_true hi, Bool.true_and, BitVec.getLsbD_ushiftRight, getLsbD_putHalf old k data hlt]
  by_cases h : j = k
  · subst h
    rw [if_pos rfl, if_pos (by omega), Nat.add_sub_cancel_left]
  · rw [if_neg h, if_neg (by omega), BitVec.getLsbD_setWidth, decide_eq_true hi, Bool.true_and, BitVec.getLsbD_ushiftRight]

/-- The highest half word of a target replaced. -/
theorem putHalf_target_top (old : DWord) (data : Half) : putHalf old 3 data = data ++ (old.setWidth 48 : BitVec 48) := by
  refine BitVec.eq_of_getLsbD_eq fun i hi => ?_
  rw [getLsbD_putHalf old 3 data hi, BitVec.getLsbD_append, BitVec.getLsbD_setWidth]
  by_cases h : i < 48
  · rw [if_neg (by omega), if_pos h, decide_eq_true h, Bool.true_and]
  · rw [if_pos (by omega), if_neg h]

/-- The low half word of a period replaced. -/
theorem putHalf_period_low (per : Word) (data : Half) :
    (putHalf (per.setWidth 64) 0 data).setWidth 32 = ((per >>> 16).setWidth 16 : Half) ++ data := by
  refine BitVec.eq_of_getLsbD_eq fun i hi => ?_
  have h64 : i < 64 := by omega
  rw [BitVec.getLsbD_setWidth, decide_eq_true hi, Bool.true_and, getLsbD_putHalf _ 0 data h64, BitVec.getLsbD_append]
  by_cases h : i < 16
  · rw [if_pos (by omega), if_pos h, Nat.mul_zero, Nat.sub_zero]
  · have hi' : 16 + (i - 16) = i := by omega
    have hlt : i - 16 < 16 := by omega
    rw [if_neg (by omega), if_neg h]
    simp [h64, hlt, hi']

/-- The high half word of a period replaced. -/
theorem putHalf_period_high (per : Word) (data : Half) :
    putHalf (per.setWidth 64) 1 data = (data ++ (per.setWidth 16 : Half) : Word).setWidth 64 := by
  refine BitVec.eq_of_getLsbD_eq fun i hi => ?_
  rw [getLsbD_putHalf _ 1 data hi, BitVec.getLsbD_setWidth, BitVec.getLsbD_setWidth, decide_eq_true hi, Bool.true_and, Bool.true_and,
    BitVec.getLsbD_append]
  by_cases h : i < 16
  · rw [if_neg (by omega), if_pos h, BitVec.getLsbD_setWidth, decide_eq_true h, Bool.true_and]
  · rw [if_neg h]
    split
    · rfl
    · rw [BitVec.getLsbD_of_ge _ _ (by omega), BitVec.getLsbD_of_ge _ _ (by omega)]

section Port

variable (s : State) (g csel : Nat) (data : Half) (sub : Nat)

theorem State.cmpPortWrite_noContext (wsel : Nat) (h : s.activeCtx g = none) : s.cmpPortWrite g csel wsel data sub = s := by
  simp only [State.cmpPortWrite, h]

/-- A word of a comparator waits for its in-force tick, the first at least 8 ns after the edge. -/
def State.rcmpLater (s : State) (key sub w : Nat) (v : DWord) : State :=
  { s with fab := { s.fab with rpend := s.fab.rpend ++ [{ due := s.dueTick sub, key := key, wsel := w, value := v }] } }

variable {c : Nat} (hc : s.activeCtx g = some c) (hsel : csel < 16)
include hc hsel

theorem State.cmpPortWrite_target {wsel : Nat} (hw : wsel < 3) : s.cmpPortWrite g csel wsel data sub =
    s.setRcmp (rcKey g c csel) { s.rcmp (rcKey g c csel) with stTgt := putHalf (s.rcmp (rcKey g c csel)).stTgt wsel data } := by
  have h4 : wsel < 4 := by omega
  have h3 : wsel ≠ 3 := by omega
  simp only [State.cmpPortWrite, hc, Nat.mod_eq_of_lt hsel, h4, h3, if_true, if_false]
  rfl

theorem State.cmpPortWrite_commitTarget : s.cmpPortWrite g csel 3 data sub =
    (s.setRcmp (rcKey g c csel) { s.rcmp (rcKey g c csel) with stTgt := putHalf (s.rcmp (rcKey g c csel)).stTgt 3 data }).rcmpLater
      (rcKey g c csel) sub 3 (putHalf (s.rcmp (rcKey g c csel)).stTgt 3 data) := by
  simp only [State.cmpPortWrite, hc, Nat.mod_eq_of_lt hsel]
  rfl

theorem State.cmpPortWrite_control : s.cmpPortWrite g csel 4 data sub =
    s.rcmpLater (rcKey g c csel) sub 4 ((data &&& 0xFFF8#16).setWidth 64) := by
  simp only [State.cmpPortWrite, hc, Nat.mod_eq_of_lt hsel]
  rfl

theorem State.cmpPortWrite_period : s.cmpPortWrite g csel 5 data sub = s.setRcmp (rcKey g c csel)
    { s.rcmp (rcKey g c csel) with stPer := (putHalf ((s.rcmp (rcKey g c csel)).stPer.setWidth 64) 0 data).setWidth 32 } := by
  simp only [State.cmpPortWrite, hc, Nat.mod_eq_of_lt hsel]
  rfl

theorem State.cmpPortWrite_commitPeriod : s.cmpPortWrite g csel 6 data sub = (s.setRcmp (rcKey g c csel)
    { s.rcmp (rcKey g c csel) with stPer := (putHalf ((s.rcmp (rcKey g c csel)).stPer.setWidth 64) 1 data).setWidth 32 }).rcmpLater
      (rcKey g c csel) sub 6 (putHalf ((s.rcmp (rcKey g c csel)).stPer.setWidth 64) 1 data) := by
  simp only [State.cmpPortWrite, hc, Nat.mod_eq_of_lt hsel]
  rfl

omit hsel in
theorem State.cmpPortWrite_ignored : s.cmpPortWrite g csel 7 data sub = s := by
  simp only [State.cmpPortWrite, hc]
  rfl

end Port

/-- Settles O21: the watchdog's commands by `thaw`, `expired` and `fwdAct`, the port's words by `putHalf`. -/
theorem watchdogAndComparatorPort : Obligations.WatchdogAndComparatorPort := by
  unfold Obligations.WatchdogAndComparatorPort
  refine ⟨fun s g => ⟨rfl, fun v => rfl, rfl, ?edge, ?idle, ?expiry⟩, ?port⟩
  case edge =>
    rintro u hheld rfl
    rw [s.gatesEdge_free g hheld]
    refine ⟨fun h => ?_, fun h hf => ?_, fun h hf => ?_⟩
    · rw [s.thaw_idle g h]
    · rw [s.thaw_running g h hf]; rfl
    · rw [s.thaw_frozen g h hf]; rfl
  case idle =>
    intro h
    exact congrArg done (s.fwdExpiry_idle g h)
  case expiry =>
    intro base ht hc hr hs hl ha hbase
    replace hbase : base = s.expired g := hbase
    have hexec : exec (.fwdExpiry g) s = done (base.fwdAct g) := by
      rw [hbase]; exact congrArg done (s.fwdExpiry_acts g ht hc hr hs hl ha)
    rw [hexec]
    refine ⟨fun h => ?_, fun hf h => ?_, fun hf h => ?_⟩
    · rw [base.fwdAct_none g h]; rfl
    · rw [base.fwdAct_freezes g hf h]; rfl
    · rw [base.fwdAct_resets g hf h]; rfl
  case port =>
    intro s g csel sub data c r hsel key later
    refine ⟨fun h wsel => congrArg done (s.cmpPortWrite_noContext g csel data sub wsel h), fun hc hr => ?_⟩
    replace hr : r = s.rcmp (rcKey g c csel) := hr
    subst hr
    refine ⟨congrArg done (s.cmpPortWrite_ignored g csel data sub hc),
      congrArg done (s.cmpPortWrite_control g csel data sub hc hsel),
      fun wsel hw => ⟨_, congrArg done (s.cmpPortWrite_target g csel data sub hc hsel hw), ?same, fun k hk hne => ?other⟩, ?commit,
      ?period, ?commitPeriod⟩
    case same => rw [half_putHalf _ (by omega), if_pos rfl]
    case other => rw [half_putHalf _ hk, if_neg hne]
    case commit =>
      have h := s.cmpPortWrite_commitTarget g csel data sub hc hsel
      rw [putHalf_target_top] at h
      exact congrArg done h
    case period =>
      have h := s.cmpPortWrite_period g csel data sub hc hsel
      rw [putHalf_period_low] at h
      exact congrArg done h
    case commitPeriod =>
      have h := s.cmpPortWrite_commitPeriod g csel data sub hc hsel
      rw [putHalf_period_high, BitVec.setWidth_setWidth_of_le _ (by decide), BitVec.setWidth_eq] at h
      exact congrArg done h

end Sys2Proof.Machine

/-! Edges of the fabric clock (R79 to R82, R89, R110): what a falling edge clocks and what it leaves alone, and O22. -/

namespace Sys2Proof.Machine

/-! ### Registers that clock together (R81, R110) -/

theorem mem_tilesOf {g tile : Nat} : tile ∈ tilesOf g ↔ tile / 256 = g := by
  simp only [tilesOf, List.mem_map, List.mem_range]
  constructor
  · rintro ⟨k, hk, rfl⟩; omega
  · intro h; exact ⟨tile % 256, by omega, by omega⟩

/-- A table whose keys in a list each take a value of their own. -/
theorem SMap.get_foldl_set {α : Type} [Inhabited α] [DecidableEq α] (f : Nat → α) (l : List Nat) (m : SMap α) (k : Nat) :
    SMap.get ((l.map fun t => (t, f t)).foldl (fun m (e : Nat × α) => m.set e.1 e.2) m) k =
      if k ∈ l then f k else SMap.get m k := by
  induction l generalizing m with
  | nil => rfl
  | cons t l ih =>
    rw [List.map_cons, List.foldl_cons, ih, SMap.get_set]
    by_cases hl : k ∈ l
    · simp [hl]
    · by_cases ht : k = t <;> simp [hl, ht]

theorem State.userEdge_ff (s p : State) (g tile : Nat) :
    (s.userEdge p g).fab.ff.get tile = if tile / 256 = g then p.nextFF tile else s.fab.ff.get tile := by
  simp only [State.userEdge, SMap.get_foldl_set, mem_tilesOf]

theorem State.userEdge_sw (s p : State) (g tile : Nat) :
    (s.userEdge p g).fab.sw.get tile = if tile / 256 = g then p.nextSw tile else s.fab.sw.get tile := by
  simp only [State.userEdge, SMap.get_foldl_set, mem_tilesOf]

/-- The word units of a region change nothing but word units. -/
theorem State.unitsEdge_keeps {β : Type} (f : State → β)
    (h : ∀ (t : State) (m : SMap Wu), f { t with fab := { t.fab with wu := m } } = f t) (s p : State) (g : Nat) : f (s.unitsEdge p g) = f s := by
  unfold State.unitsEdge
  refine List.foldlRecOn (motive := fun t : State => f t = f s) _ _ rfl fun t ht tile _ => ?_
  simp only
  split
  · rw [State.wuStep_eq, h, ht]
  · exact ht

/-- The state but for its user registers and word units. -/
def State.butUser (s : State) : State := { s with fab := { s.fab with ff := [], sw := [], wu := [] } }

theorem State.eq_of_butUser {s t : State} (h : t.butUser = s.butUser) :
    t = { s with fab := { s.fab with ff := t.fab.ff, sw := t.fab.sw, wu := t.fab.wu } } :=
  congrArg (fun u : State => { u with fab := { u.fab with ff := t.fab.ff, sw := t.fab.sw, wu := t.fab.wu } }) h

/-- An edge of the user clocks of region `g`, in a state that stands before the edge. -/
def State.userClock (p : State) (g : Nat) : State := (p.userEdge p g).unitsEdge p g

theorem State.butUser_withRegs (s : State) (ff : SMap (BitVec 64)) (sw : SMap (BitVec 224)) :
    State.butUser { s with fab := { s.fab with ff := ff, sw := sw } } = s.butUser := rfl

theorem State.userEdge_butUser (s p : State) (g : Nat) : (s.userEdge p g).butUser = s.butUser :=
  s.butUser_withRegs _ _

theorem State.userClock_butUser (p : State) (g : Nat) : (p.userClock g).butUser = p.butUser :=
  (State.unitsEdge_keeps State.butUser (fun _ _ => rfl) _ p g).trans (p.userEdge_butUser p g)

theorem State.userClock_ff (p : State) (g tile : Nat) :
    (p.userClock g).fab.ff.get tile = if tile / 256 = g then p.nextFF tile else p.fab.ff.get tile :=
  (State.unitsEdge_keeps (fun t => t.fab.ff.get tile) (fun _ _ => rfl) _ p g).trans (p.userEdge_ff p g tile)

theorem State.userClock_sw (p : State) (g tile : Nat) :
    (p.userClock g).fab.sw.get tile = if tile / 256 = g then p.nextSw tile else p.fab.sw.get tile :=
  (State.unitsEdge_keeps (fun t => t.fab.sw.get tile) (fun _ _ => rfl) _ p g).trans (p.userEdge_sw p g tile)

/-! ### Gates and half periods (R89, R116) -/

theorem State.gated_halfStep (s : State) (rising : Bool) (g : Nat) : (s.halfStep rising g).gated g = s.gated g := by
  have hregion : (s.halfStep rising g).region g = { s.region g with half := ((s.halfStep rising g).region g).half } := by
    simp only [State.halfStep, State.region, State.setRegion, SMap.get_set_same]
  unfold State.gated
  rw [hregion]
  rfl

theorem State.activeCtx_halfStep (s : State) (rising : Bool) (g h : Nat) : (s.halfStep rising g).activeCtx h = s.activeCtx h := rfl

/-- A falling edge of region `g`: half a period goes by, and the user clocks have an edge where they run. -/
def State.fallingEdge (s : State) (g : Nat) : State :=
  if !s.gated g && (s.activeCtx g).isSome then (s.halfStep false g).userClock g else s.halfStep false g

section Falling

variable {s : State} {gs : List Nat} {sub g : Nat} (hl : s.edgeRegions gs (s.instant sub) = [g])
include hl

theorem State.fabricEdges_falling : s.fabricEdges gs false sub =
    { s.fallingEdge g with freeCtr := (s.fallingEdge g).freeCtr + 1 } := by
  cases hrun : !s.gated g && (s.activeCtx g).isSome <;>
    simp only [State.fabricEdges, hl, State.each, List.foldl_cons, List.foldl_nil, Bool.false_and, Bool.not_false, Bool.and_true,
      Bool.false_eq_true, if_false, if_true, State.gated_halfStep, State.activeCtx_halfStep, List.filter_cons, List.filter_nil,
      State.fallingEdge, State.userClock, hrun]

/-- A falling edge of a region that is gated, or has no active context. -/
theorem State.fabricEdges_falling_idle (h : s.gated g = true ∨ s.activeCtx g = none) : s.fabricEdges gs false sub =
    { s.halfStep false g with freeCtr := (s.halfStep false g).freeCtr + 1 } := by
  rw [State.fabricEdges_falling hl, State.fallingEdge, if_neg (by rcases h with h | h <;> simp [h])]

/-- A falling edge of a region whose user clocks run. -/
theorem State.fabricEdges_falling_runs (hg : s.gated g = false) (hc : s.activeCtx g ≠ none) : s.fabricEdges gs false sub =
    { (s.halfStep false g).userClock g with freeCtr := ((s.halfStep false g).userClock g).freeCtr + 1 } := by
  rw [State.fabricEdges_falling hl, State.fallingEdge, if_pos (by simp [hg, Option.isSome_iff_ne_none.2 hc])]

end Falling

/-- Region control of no region. -/
theorem State.controlsEdge_nil (s p : State) (sub : Nat) : s.controlsEdge p [] [] [] sub = s := by
  have hmember (l : List Nat) : l.any (List.contains []) = false := by simp
  simp only [State.controlsEdge, State.each_nil, List.map_nil, List.filter_nil, List.eraseDups_nil, hmember,
    Bool.and_false, List.filter_false]

/-- An edge that no powered region has. -/
theorem State.fabricEdges_nowhere (s : State) (gs : List Nat) (rising : Bool) (sub : Nat)
    (hl : s.edgeRegions gs (s.instant sub) = []) : s.fabricEdges gs rising sub = { s with freeCtr := s.freeCtr + 1 } := by
  have hthird : (List.range 32).filter (fun n => s.on (R.CTX_SG_STATUS.BUSY n) && (s.members n).any (fun _ => false)) = [] := by
    simp
  cases rising <;> simp [State.fabricEdges, hl, State.controlsEdge_nil, hthird]

/-- Settles O22: the falling edge by `fallingEdge`, and what a rising edge keeps by `execFabricClockEdge_kept`. -/
theorem fabricClockEdge : Obligations.FabricClockEdge := by
  unfold Obligations.FabricClockEdge
  intro s gs sub
  refine ⟨fun rising hl => congrArg done (s.fabricEdges_nowhere gs rising sub hl),
    fun g p hl hp => ⟨fun h => ?idle, fun hg hc => ?runs⟩, ?rising⟩
  case idle =>
    replace hp : p = s.halfStep false g := hp
    rw [hp]
    exact congrArg done (State.fabricEdges_falling_idle hl h)
  case runs =>
    replace hp : p = s.halfStep false g := hp
    have hexec : exec (.fabricClockEdge gs false sub) s =
        .next (State.signal { p.userClock g with freeCtr := (p.userClock g).freeCtr + 1 }) := by
      rw [hp]; exact congrArg done (State.fabricEdges_falling_runs hl hg hc)
    have hframe := State.eq_of_butUser (p.userClock_butUser g)
    have hff := p.userClock_ff g
    have hsw := p.userClock_sw g
    generalize p.userClock g = t at hexec hframe hff hsw
    refine ⟨_, hexec, fun tile htile => ⟨?_, ?_⟩, fun tile htile => ⟨?_, ?_⟩, ?_⟩
    · exact (hff tile).trans (if_pos htile)
    · exact (hsw tile).trans (if_pos htile)
    · exact (hff tile).trans ((if_neg htile).trans (by rw [hp]; rfl))
    · exact (hsw tile).trans ((if_neg htile).trans (by rw [hp]; rfl))
    · rw [hframe]; rfl
  case rising =>
    have hexec : exec (.fabricClockEdge gs true sub) s = .next (s.fabricEdges gs true sub).signal := rfl
    obtain ⟨hlead, hmem⟩ := execFabricClockEdge_kept gs true sub s hexec
    obtain ⟨hpending, htick, -⟩ := by simpa only [State.lead, Prod.mk.injEq] using hlead
    exact ⟨_, hexec, hpending, htick, hmem⟩

end Sys2Proof.Machine

/-! Switch groups (R141 to R145): what a write to a group or to a region's membership does, what a trigger does to a group, and O23
and O24. -/

namespace Sys2Proof.Machine

/-! ### Writes to a group and to a membership (R142, R143) -/

section GroupWrites

variable (s : State) (n : Nat)

/-- A group takes its settings where they leave it unarmed, or where every check passes. -/
theorem State.sgCfgWrite_taken {v : Word} (h : (R.CTX_SG_CFG.ARM n).of (v &&& 0xC1FF001F#32) = 0 ∨
    (s.groupFail n (v &&& 0xC1FF001F#32)).1 = 0) : s.sgCfgWrite n v = s.wr (R.CTX_SG_CFG.reg n) (v &&& 0xC1FF001F#32) := by
  rcases h with h | h <;> simp [State.sgCfgWrite, h]

theorem State.sgCfgWrite_refused {v : Word} {code g : Nat} (harm : (R.CTX_SG_CFG.ARM n).of (v &&& 0xC1FF001F#32) = 1)
    (hfail : s.groupFail n (v &&& 0xC1FF001F#32) = (code, g)) (hcode : code ≠ 0) : s.sgCfgWrite n v =
      (s.wr (R.CTX_SG_CFG.reg n) ((R.CTX_SG_CFG.ARM n).into (v &&& 0xC1FF001F#32) 0)).sgRefuse n code g := by
  simp only [State.sgCfgWrite, harm, hfail, ne_eq, hcode, not_false_eq_true, if_true]

variable {s} {g old new : Nat} {v : Word} (hold : old = s.g (R.CTX_REGION_CTL.GROUP g))
  (hnew : new = (R.CTX_REGION_CTL.GROUP g).of (v &&& 0x9F003F00#32))
include hold hnew

theorem State.regionCtlWrite_refused (h : (s.on (R.CTX_REGION_CTL.MEMBER g) = true ∧ s.sgLocks old = true) ∨
    ((R.CTX_REGION_CTL.MEMBER g).of (v &&& 0x9F003F00#32) = 1 ∧ s.sgLocks new = true)) :
    s.regionCtlWrite g v = s.raise (R.CTX_REGION_STATUS.WREFUSED g) := by
  subst hold hnew
  exact if_pos (by simpa using h)

theorem State.regionCtlWrite_taken (hmember : s.on (R.CTX_REGION_CTL.MEMBER g) = false ∨ s.sgLocks old = false)
    (hjoins : (R.CTX_REGION_CTL.MEMBER g).of (v &&& 0x9F003F00#32) = 0 ∨ s.sgLocks new = false) : s.regionCtlWrite g v =
      ((s.wr (R.CTX_REGION_CTL.reg g) (v &&& 0x9F003F00#32)).membersShow old).membersShow new := by
  subst hold hnew
  refine if_neg ?_
  rcases hmember with hm | hm <;> rcases hjoins with hj | hj <;> simp [hm, hj]

end GroupWrites

/-- Settles O23: a write of a group by the two cases of `sgCfgWrite`, one of a membership by those of `regionCtlWrite`. -/
theorem switchGroupArming : Obligations.SwitchGroupArming := by
  unfold Obligations.SwitchGroupArming
  exact ⟨fun s n v => ⟨fun h => congrArg done (s.sgCfgWrite_taken n h),
      fun _ _ harm hfail hcode => congrArg done (s.sgCfgWrite_refused n harm hfail hcode)⟩,
    fun _ _ _ _ _ hold hnew => ⟨fun h => congrArg done (State.regionCtlWrite_refused hold hnew h),
      fun hmember hjoins => congrArg done (State.regionCtlWrite_taken hold hnew hmember hjoins)⟩⟩

/-! ### A trigger taken (R141, R143, R145) -/

theorem State.sgTake_beforeRelease (s p : State) (n : Nat) (h : s.xbar.pinsOn = false) : s.sgTake p n = (s, false) :=
  if_pos (by simp [h])

/-- The members of a group stand at edge 0 of a switch. -/
def State.standAtEdge0 (s : State) (l : List Nat) : State := s.each l (fun s g => s.setRegion g { s.region g with edges := some 0 })

@[simp] theorem State.standAtEdge0_rw (s : State) (l : List Nat) (a : Nat) : (s.standAtEdge0 l).rw a = s.rw a := by
  unfold State.standAtEdge0
  exact State.each_keeps (fun t => t.rw a) (fun _ _ _ => State.setRegion_rw ..) s

@[simp] theorem State.standAtEdge0_on (s : State) (l : List Nat) (f : Field) : (s.standAtEdge0 l).on f = s.on f := by
  unfold State.standAtEdge0
  exact State.each_keeps (fun t => t.on f) (fun _ _ _ => State.setRegion_on ..) s

theorem State.region_setRegion (s : State) (g h : Nat) (r : Region) : (s.setRegion g r).region h = if h = g then r else s.region h :=
  SMap.get_set s.fab.region g h r

theorem State.standAtEdge0_region (s : State) (l : List Nat) (g : Nat) : (s.standAtEdge0 l).region g =
    if g ∈ l then { s.region g with edges := some 0 } else s.region g := by
  induction l generalizing s with
  | nil => rfl
  | cons m l ih =>
    have hcons : s.standAtEdge0 (m :: l) = (s.setRegion m { s.region m with edges := some 0 }).standAtEdge0 l := rfl
    rw [hcons, ih, State.region_setRegion]
    by_cases hl : g ∈ l <;> by_cases hm : g = m <;> simp [hl, hm]

section Released

variable {s : State} {n : Nat} (p : State) (hpins : s.xbar.pinsOn = true)
include hpins

theorem State.sgTake_merges (h : s.sgEdge n = some 0) : s.sgTake p n = (s, true) := by
  simp [State.sgTake, hpins, h]

/-- A trigger in the middle of a switch is lost, and IGNORED shows that too where the group is no longer armed. -/
theorem State.sgTake_overruns {k : Nat} (h : s.sgEdge n = some k) (hk : k ≠ 0) : s.sgTake p n =
    ((if k < 3 && !s.on (R.CTX_SG_CFG.ARM n) then s.raise (R.CTX_SG_STATUS.IGNORED n) else s).raise (R.CTX_SG_STATUS.OVERRUN n),
      false) := by
  obtain ⟨j, rfl⟩ := Nat.exists_eq_succ_of_ne_zero hk
  simp only [State.sgTake, hpins, h, Bool.not_true, Bool.false_eq_true, if_false]

theorem State.sgTake_ignored (h : s.sgEdge n = none) (harm : s.on (R.CTX_SG_CFG.ARM n) = false) :
    s.sgTake p n = (s.raise (R.CTX_SG_STATUS.IGNORED n), false) := by
  simp [State.sgTake, hpins, h, harm]

variable (h : s.sgEdge n = none) (harm : s.on (R.CTX_SG_CFG.ARM n) = true)
include h harm

theorem State.sgTake_begins (hfail : (p.groupFail n (s.rw (R.CTX_SG_CFG.reg n))).1 = 0) :
    s.sgTake p n = ((s.putB (R.CTX_SG_STATUS.BUSY n) true).standAtEdge0 (s.members n), true) := by
  simp only [State.sgTake, hpins, h, harm, hfail, Bool.not_true, Bool.false_eq_true, if_false, ne_eq, not_true_eq_false]
  rfl

theorem State.sgTake_refused {code g : Nat} (hfail : p.groupFail n (s.rw (R.CTX_SG_CFG.reg n)) = (code, g)) (hcode : code ≠ 0) :
    s.sgTake p n = (if (s.sgRefuse n code g).on (R.CTX_SG_CFG.REPEAT n) then s.sgRefuse n code g
      else (s.sgRefuse n code g).putB (R.CTX_SG_CFG.ARM n) false, false) := by
  simp only [State.sgTake, hpins, h, harm, hfail, hcode, Bool.not_true, Bool.false_eq_true, if_false, ne_eq, not_false_eq_true, if_true]

end Released

/-! ### Where triggers come from (R144) -/

/-- A mask of one bit names that unit. -/
theorem maskBits_single {n : Nat} (hn : n < 32) : maskBits (1#32 <<< n).toNat 32 = [n] := by
  have hmask : (1#32 <<< n).toNat = 2 ^ n := by
    rw [BitVec.toNat_shiftLeft, Nat.shiftLeft_eq]
    exact (congrArg (· % _) (Nat.one_mul _)).trans (Nat.mod_eq_of_lt (Nat.pow_lt_pow_right (by decide) hn))
  simp only [maskBits, hmask, Nat.testBit_two_pow, eq_comm (a := n)]
  rw [List.filter_eq, List.count_eq_one_of_mem List.nodup_range (List.mem_range.2 hn)]
  rfl

theorem State.ctxSwitch_single (s : State) {n : Nat} (hn : n < 32) (sub : Nat) : s.ctxSwitch (1#32 <<< n).toNat sub =
    if s.on (R.CTX_SG_CFG.EN_REG n) then s.sgPost n (s.instant (sub + 8000)) else s := by
  rw [State.ctxSwitch, maskBits_single hn]
  rfl

/-- A group with a powered member takes a trigger at an edge to come. -/
theorem State.sgPost_waits (s : State) {n g : Nat} (hg : g ∈ s.members n) (hon : s.logicOn g = true) (now : Nat) :
    s.sgPost n now = { s with fab := { s.fab with trigs := s.fab.trigs ++ [(n, now)] } } :=
  if_pos (List.any_eq_true.2 ⟨g, hg, hon⟩)

theorem State.sgPost_unpowered (s : State) {n : Nat} (h : ∀ g, g ∈ s.members n → s.logicOn g = false) (now : Nat) :
    s.sgPost n now = s.sgTakeAll s n now :=
  if_neg (by simpa using h)

/-- SWTRIG of a region triggers the groups that name it. -/
theorem State.exec_swtrig (s : State) {g : Nat} {l : List Nat} (hl : (List.range 32).filter (fun m =>
    s.on (R.CTX_SG_CFG.EN_SWTRIG m) && decide (s.g (R.CTX_SG_CFG.TRIGREG m) = g)) = l) :
    exec (.swtrig g) s = done (s.each l fun s n => (s.sgTake s n).1) := by
  subst hl
  rfl

/-- Settles O24: a trigger taken by the cases of `sgTake`, one that CTX_SWITCH makes by those of `sgPost`, and SWTRIG by the list of
the groups that name the region. -/
theorem switchTriggers : Obligations.SwitchTriggers := by
  unfold Obligations.SwitchTriggers
  refine ⟨fun s n => s.sgTake_beforeRelease s n, fun s n hpins => ⟨State.sgTake_merges s hpins,
    fun k hedge hk => ⟨?armed, ?disarmed⟩, State.sgTake_ignored s hpins, ?begins,
    fun _ _ hedge harm => State.sgTake_refused s hpins hedge harm⟩, ?ctxSwitch,
    fun s _ _ hl => s.exec_swtrig hl, fun s _ hl => s.exec_swtrig hl, fun _ _ => rfl⟩
  case armed =>
    intro h hle
    rw [State.sgTake_overruns s hpins hedge hk, if_neg]
    rcases h with h | h <;> simp [h]
  case disarmed =>
    intro hlt harm
    rw [State.sgTake_overruns s hpins hedge hk, if_pos (by simp [hlt, harm])]
  case begins =>
    intro hedge harm hfail
    have hbusy : (s.putB (R.CTX_SG_STATUS.BUSY n) true).on (R.CTX_SG_STATUS.BUSY n) = true := by
      rw [State.on, State.g_putB_same _ _ _ rfl (by simp [R.CTX_SG_STATUS.BUSY])]; rfl
    rw [State.sgTake_begins s hpins hedge harm hfail]
    refine ⟨rfl, by rw [State.standAtEdge0_on, hbusy], fun g hg => ?_, fun g hg => ?_, fun a ha => ?_⟩
    · rw [State.standAtEdge0_region, if_pos hg]
    · rw [State.standAtEdge0_region, if_neg hg]; rfl
    · rw [State.standAtEdge0_rw]
      exact s.rw_put_other _ _ (List.ne_of_not_mem_cons ha)
  case ctxSwitch =>
    intro s n sub hn
    have hexec : exec (.ctxSwitch (1#32 <<< n) sub) s = done (s.ctxSwitch (1#32 <<< n).toNat sub) := rfl
    rw [hexec, s.ctxSwitch_single hn]
    refine ⟨fun h => ?_, fun g h hg hon => ?_, fun h hoff => ?_⟩
    · rw [h]; rfl
    · rw [h, if_pos rfl, s.sgPost_waits hg hon]; rfl
    · rw [h, if_pos rfl, s.sgPost_unpowered hoff]; rfl

end Sys2Proof.Machine

/-! Edge 3 of a switch (R136 to R139, R146): a member's switch in its stages, what each stage leaves alone, and O25. -/

namespace Sys2Proof.Machine

/-! ### Fields that do not meet -/

/-- Two fields lie in different registers, or beside each other in one. -/
def Field.Apart (f h : Field) : Prop := h.addr ≠ f.addr ∨ h.lo + h.w ≤ f.lo ∨ f.lo + f.w ≤ h.lo

theorem State.g_put_of_apart (s : State) {f h : Field} (hf : f.lo + f.w ≤ 32) (hfh : f.Apart h) (x : Nat) :
    (s.put f x).g h = s.g h := s.g_put_apart f h x hf hfh

/-! ### The stages of a member's switch (Table 6.4) -/

/-- The old slot: its flip-flops saved by a warm switch, SAVEVALID, PROOFED. -/
def State.slotLeave (s : State) (g o kind : Nat) : State :=
  ((if kind = 1 then s.ffSave g o else s).putB (R.CTX_SLOT_STATE.SAVEVALID (g * 8 + o)) (decide (kind = 1))).setSlot g o slotPROOFED

/-- The user registers of a region that switches to another slot: kept by a hot switch; else saved or initial flip-flops, and the
rest clear. -/
def State.userSwitch (s : State) (g c kind : Nat) (saved : Bool) : State :=
  if kind = 2 then s else (if kind = 1 && saved then s.ffRestore g c else s.ffInit g c).swWuClear g

/-- The new slot is in force. -/
def State.slotEnter (s : State) (g c : Nat) : State :=
  let s : State := { s with fab := { s.fab with latch := s.fab.latch.keep (fun a => decide (a / 0x100000 % 512 ≠ g)) } }
  (((s.setSlot g c slotACTIVE).put (R.CTX_REGION_STATUS.ACT g) c).putB (R.CTX_REGION_STATUS.HASACT g) true).putB
    (R.CTX_REGION_STATUS.SWPEND g) false

/-- A staged clock source takes effect at edge 3 (R436). -/
def State.clockSwitch (s : State) (g : Nat) : State := if s.on (R.CLK_REGION_CFG.PEND g) then s.srcMove g else s

/-- Edge 3 of region control. -/
def State.standAtEdge3 (s : State) (g : Nat) : State :=
  s.setRegion g { s.region g with released := true, edges := some 3, half := 0 }

/-- The units of the new context: watchdog, comparators, the gate shown, and the adapter, which a cold switch empties. -/
def State.unitsSwitch (s : State) (g c kind : Nat) : State :=
  let s := ((s.fwdReload g).compEnter g c).gateShow g
  if kind = 0 then (s.adapterDiscard g c).adapterStale g c else s

/-- TOGGLE makes the old slot the next target. -/
def State.toggleNext (s : State) (g o : Nat) : State :=
  if s.on (R.CTX_REGION_CTL.TOGGLE g) then s.put (R.CTX_REGION_CTL.NEXT g) o else s

/-- What follows once the new slot is in force. -/
def State.switchTail (s : State) (g o c kind : Nat) : State :=
  (((s.clockSwitch g).standAtEdge3 g).unitsSwitch g c kind).toggleNext g o

/-- The switch of a region from one slot to another, in its stages. -/
theorem State.switchMember_eq (s : State) {g o c kind : Nat} (ho : s.activeCtx g = some o) (hc : c = s.g (R.CTX_REGION_CTL.NEXT g))
    (hoc : o ≠ c) (hkind : kind = s.g (R.CTX_REGION_CTL.KIND g)) : s.switchMember g =
      (((s.slotLeave g o kind).userSwitch g c kind (s.on (R.CTX_SLOT_STATE.SAVEVALID (g * 8 + c)))).slotEnter g c).switchTail
        g o c kind := by
  subst hc hkind
  have hne : decide (some o = some (s.g (R.CTX_REGION_CTL.NEXT g))) = false := by simpa using hoc
  simp only [State.switchMember, ho, hne, Bool.and_false, Bool.false_eq_true, if_false, reduceCtorEq]
  rfl

/-! ### The old slot, the user registers and the new slot -/

/-- A table filled for the tiles of a region. -/
theorem SMap.get_foldl_tiles {α : Type} [Inhabited α] [DecidableEq α] (f : Nat → α) (m : SMap α) (g k : Nat) :
    SMap.get ((tilesOf g).foldl (fun m t => m.set t (f t)) m) k = if k / 256 = g then f k else SMap.get m k := by
  have h := SMap.get_foldl_set f (tilesOf g) m k
  simpa only [List.foldl_map, mem_tilesOf] using h

theorem State.ffSave_saved (s : State) (g o k : Nat) : (s.ffSave g o).fab.saved.get k =
    if k / 256 = g * 8 + o then s.fab.ff.get (g * 256 + k % 256) else s.fab.saved.get k := by
  have hkey : ∀ j, j < 256 → (g * 8 + o) * 256 + (g * 256 + j) % 256 = (g * 8 + o) * 256 + j ∧
      g * 256 + ((g * 8 + o) * 256 + j) % 256 = g * 256 + j := by omega
  have hfold : (s.ffSave g o).fab.saved =
      (tilesOf (g * 8 + o)).foldl (fun m k => m.set k (s.fab.ff.get (g * 256 + k % 256))) s.fab.saved := by
    simp only [State.ffSave, tilesOf, List.foldl_map]
    refine List.foldl_ext _ _ _ fun m j hj => ?_
    obtain ⟨h1, h2⟩ := hkey j (List.mem_range.1 hj)
    rw [h1, h2]
  rw [hfold, SMap.get_foldl_tiles]

theorem State.ffRestore_ff (s : State) (g c t : Nat) : (s.ffRestore g c).fab.ff.get t =
    if t / 256 = g then s.fab.saved.get ((g * 8 + c) * 256 + t % 256) else s.fab.ff.get t := by
  rw [State.ffRestore, SMap.get_foldl_tiles]

theorem State.ffInit_ff (s : State) (g c t : Nat) : (s.ffInit g c).fab.ff.get t =
    if t / 256 = g then s.initBits c t else s.fab.ff.get t := by
  rw [State.ffInit, SMap.get_foldl_tiles]

theorem State.swWuClear_sw (s : State) {g t : Nat} (ht : t / 256 = g) : (s.swWuClear g).fab.sw.get t = 0 := by
  rw [State.swWuClear, SMap.get_keep, if_neg (by simpa using ht)]
  rfl

theorem State.slotLeave_warm (s : State) (g o : Nat) : (s.slotLeave g o 1).fab = (s.ffSave g o).fab := rfl

theorem State.slotLeave_fab (s : State) (g o : Nat) {kind : Nat} (h : kind ≠ 1) : (s.slotLeave g o kind).fab = s.fab := by
  rw [State.slotLeave, if_neg h]
  rfl

/-- The flip-flops stay as they are while the old slot takes its copy, and so do the frames. -/
theorem State.slotLeave_initBits (s : State) (g o kind c t : Nat) : (s.slotLeave g o kind).initBits c t = s.initBits c t := by
  unfold State.slotLeave
  split <;> rfl

/-- A warm switch saves into its own slot only. -/
theorem State.slotLeave_saved_other (s : State) {g o k : Nat} (kind : Nat) (hk : k / 256 ≠ g * 8 + o) :
    (s.slotLeave g o kind).fab.saved.get k = s.fab.saved.get k := by
  by_cases h : kind = 1
  · rw [h, s.slotLeave_warm, s.ffSave_saved, if_neg hk]
  · rw [s.slotLeave_fab g o h]

theorem State.userSwitch_hot (s : State) (g c : Nat) (saved : Bool) : s.userSwitch g c 2 saved = s := rfl

theorem State.userSwitch_csr (s : State) (g c kind : Nat) (saved : Bool) : (s.userSwitch g c kind saved).csr = s.csr := by
  simp only [State.userSwitch, State.swWuClear, State.ffRestore, State.ffInit, apply_ite State.csr, ite_self]

theorem State.userSwitch_g (s : State) (g c kind : Nat) (saved : Bool) (f : Field) : (s.userSwitch g c kind saved).g f = s.g f := by
  simp only [State.g, State.rw, s.userSwitch_csr]

theorem State.userSwitch_saved (s : State) (g c kind : Nat) (saved : Bool) : (s.userSwitch g c kind saved).fab.saved = s.fab.saved := by
  simp only [State.userSwitch, State.swWuClear, State.ffRestore, State.ffInit, apply_ite State.fab, apply_ite Fab.saved, ite_self]

section UserSwitch

variable (s : State) {g kind t : Nat} (c : Nat) (saved : Bool) (hkind : kind ≠ 2) (ht : t / 256 = g)
include hkind ht

theorem State.userSwitch_sw : (s.userSwitch g c kind saved).fab.sw.get t = 0 := by
  rw [State.userSwitch, if_neg hkind, State.swWuClear_sw _ ht]

theorem State.userSwitch_ff : (s.userSwitch g c kind saved).fab.ff.get t =
    if kind = 1 ∧ saved = true then s.fab.saved.get ((g * 8 + c) * 256 + t % 256) else s.initBits c t := by
  have hclear : ∀ u : State, (u.swWuClear g).fab.ff = u.fab.ff := fun _ => rfl
  rw [State.userSwitch, if_neg hkind, hclear]
  simp only [Bool.and_eq_true, decide_eq_true_eq]
  split
  · rw [State.ffRestore_ff, if_pos ht]
  · rw [State.ffInit_ff, if_pos ht]

end UserSwitch

/-! ### The registers of the slots -/

theorem State.setSlot_state (s : State) (g c st : Nat) : (s.setSlot g c st).slotState g c = st % 8 :=
  State.g_put_same _ _ _ (by simp [R.CTX_SLOT_STATE.STATE])

theorem State.slotLeave_state (s : State) (g o kind : Nat) : (s.slotLeave g o kind).slotState g o = slotPROOFED :=
  State.setSlot_state _ g o slotPROOFED

theorem State.slotLeave_saveValid (s : State) (g o kind : Nat) :
    (s.slotLeave g o kind).on (R.CTX_SLOT_STATE.SAVEVALID (g * 8 + o)) = decide (kind = 1) := by
  have hapart : (R.CTX_SLOT_STATE.STATE (g * 8 + o)).Apart (R.CTX_SLOT_STATE.SAVEVALID (g * 8 + o)) := by
    simp [Field.Apart, R.CTX_SLOT_STATE.STATE, R.CTX_SLOT_STATE.SAVEVALID]
  rw [State.on, State.slotLeave, State.setSlot, State.g_put_of_apart _ (by simp [R.CTX_SLOT_STATE.STATE]) hapart,
    State.g_putB_same _ _ _ rfl (by simp [R.CTX_SLOT_STATE.SAVEVALID])]
  by_cases h : kind = 1 <;> simp [h]

theorem status_fields_apart (g : Nat) : (R.CTX_REGION_STATUS.HASACT g).Apart (R.CTX_REGION_STATUS.ACT g) ∧
    (R.CTX_REGION_STATUS.SWPEND g).Apart (R.CTX_REGION_STATUS.ACT g) ∧
    (R.CTX_REGION_STATUS.SWPEND g).Apart (R.CTX_REGION_STATUS.HASACT g) := by
  simp [Field.Apart, R.CTX_REGION_STATUS.HASACT, R.CTX_REGION_STATUS.ACT, R.CTX_REGION_STATUS.SWPEND]

theorem status_fields_fit (g : Nat) : (R.CTX_REGION_STATUS.ACT g).lo + (R.CTX_REGION_STATUS.ACT g).w ≤ 32 ∧
    (R.CTX_REGION_STATUS.HASACT g).lo + (R.CTX_REGION_STATUS.HASACT g).w ≤ 32 ∧
    (R.CTX_REGION_STATUS.SWPEND g).lo + (R.CTX_REGION_STATUS.SWPEND g).w ≤ 32 := by
  simp [R.CTX_REGION_STATUS.HASACT, R.CTX_REGION_STATUS.ACT, R.CTX_REGION_STATUS.SWPEND]

section SlotEnter

variable (s : State) {g c : Nat}

/-- The new slot's state and the region's status are all that it writes. -/
theorem State.slotEnter_regsBut : regsBut [R.CTX_SLOT_STATE.reg (g * 8 + c), R.CTX_REGION_STATUS.reg g] s (s.slotEnter g c) := by
  intro a ha
  obtain ⟨hslot, hstatus⟩ : a ≠ R.CTX_SLOT_STATE.reg (g * 8 + c) ∧ a ≠ R.CTX_REGION_STATUS.reg g := by simpa using ha
  exact (State.rw_put_other _ _ _ hstatus).trans ((State.rw_put_other _ _ _ hstatus).trans
    ((State.rw_put_other _ _ _ hstatus).trans (State.rw_put_other _ _ _ hslot)))

theorem State.slotEnter_g_other {f : Field} (hslot : f.addr ≠ R.CTX_SLOT_STATE.reg (g * 8 + c))
    (hstatus : f.addr ≠ R.CTX_REGION_STATUS.reg g) : (s.slotEnter g c).g f = s.g f :=
  congrArg f.of (s.slotEnter_regsBut _ (by simp [hslot, hstatus]))

theorem State.slotEnter_state : (s.slotEnter g c).slotState g c = slotACTIVE := by
  have hne : R.CTX_SLOT_STATE.reg (g * 8 + c) ≠ R.CTX_REGION_STATUS.reg g := by
    unfold R.CTX_SLOT_STATE.reg R.CTX_REGION_STATUS.reg; omega
  have hstatus : ∀ (t : State) (f : Field) (x : Nat), f.addr = R.CTX_REGION_STATUS.reg g →
      (t.put f x).slotState g c = t.slotState g c := fun t f x hf => t.g_put_register f _ x (hf ▸ hne)
  rw [State.slotEnter, State.putB, State.putB, hstatus _ _ _ rfl, hstatus _ _ _ rfl, hstatus _ _ _ rfl, State.setSlot_state]
  rfl

theorem State.slotEnter_activeCtx (hc : c < 8) : (s.slotEnter g c).activeCtx g = some c := by
  obtain ⟨hact, hpendAct, hpend⟩ := status_fields_apart g
  obtain ⟨fitAct, fitHas, fitPend⟩ := status_fields_fit g
  have hhas : (s.slotEnter g c).g (R.CTX_REGION_STATUS.HASACT g) = 1 := by
    rw [State.slotEnter, State.putB, State.g_put_of_apart _ fitPend hpend, State.g_putB_same _ _ _ rfl fitHas]; rfl
  have hslot : (s.slotEnter g c).g (R.CTX_REGION_STATUS.ACT g) = c := by
    rw [State.slotEnter, State.putB, State.putB, State.g_put_of_apart _ fitPend hpendAct, State.g_put_of_apart _ fitHas hact,
      State.g_put_same _ _ _ fitAct]
    exact Nat.mod_eq_of_lt hc
  simp only [State.activeCtx, State.on, hhas, hslot, ne_eq, one_ne_zero, not_false_eq_true, decide_true, if_true]

theorem State.slotEnter_swpend : (s.slotEnter g c).g (R.CTX_REGION_STATUS.SWPEND g) = 0 :=
  State.g_putB_same _ _ _ rfl (status_fields_fit g).2.2

end SlotEnter

/-! ### What follows the new slot -/

/-- The fields that a switch writes once the new slot is in force. -/
def tailFields (g : Nat) : List Field :=
  [R.CLK_REGION_CFG.SRC g, R.CLK_REGION_CFG.PEND g, R.CLK_EVENTS.MOVED, R.CLK_REGION_STATUS.CLKLOST g, R.SYS_FWD_STATUS.COUNT g,
    R.SYS_FWD_STATUS.GATED g, R.NOC_REGION_CFG.USED g, R.CTX_REGION_STATUS.DISCARD g, R.CTX_REGION_CTL.NEXT g]

theorem tailFields_fit {g : Nat} {w : Field} (hw : w ∈ tailFields g) : w.lo + w.w ≤ 32 := by
  simp only [tailFields, List.mem_cons, List.not_mem_nil, or_false] at hw
  rcases hw with rfl | rfl | rfl | rfl | rfl | rfl | rfl | rfl | rfl <;> exact Nat.le_of_ble_eq_true rfl

/-- They meet no field of the context registers but those of the region's CTL and DISCARD. -/
theorem tailFields_apart {g : Nat} (hg : g < 512) {f : Field} (hlo : 0x91000 ≤ f.addr) (hhi : f.addr < 0x600000)
    (hctl : f.addr ≠ R.CTX_REGION_CTL.reg g) (hstatus : f.addr = R.CTX_REGION_STATUS.reg g → f.lo + f.w ≤ 24) :
    ∀ w ∈ tailFields g, w.Apart f := by
  have hdiscard : (R.CTX_REGION_STATUS.DISCARD g).Apart f := by
    by_cases h : f.addr = R.CTX_REGION_STATUS.reg g
    · exact .inr (.inl (hstatus h))
    · exact .inl h
  have hbelow : ∀ w : Field, w.addr < 0x91000 → w.Apart f := fun w h => .inl (by omega)
  have habove : ∀ w : Field, 0x600000 ≤ w.addr → w.Apart f := fun w h => .inl (by omega)
  simp only [tailFields, List.forall_mem_cons]
  refine ⟨hbelow _ ?_, hbelow _ ?_, hbelow _ ?_, hbelow _ ?_, hbelow _ ?_, hbelow _ ?_, habove _ ?_, hdiscard, .inl hctl, by simp⟩ <;>
    simp only [R.CLK_REGION_CFG.SRC, R.CLK_REGION_CFG.PEND, R.CLK_REGION_CFG.reg, R.CLK_EVENTS.MOVED, R.CLK_EVENTS.reg,
      R.CLK_REGION_STATUS.CLKLOST, R.CLK_REGION_STATUS.reg, R.SYS_FWD_STATUS.COUNT, R.SYS_FWD_STATUS.GATED, R.SYS_FWD_STATUS.reg,
      R.NOC_REGION_CFG.USED, R.NOC_REGION_CFG.reg] <;>
    omega

/-- The comparators of a new context write their store and their outputs in the region's record: a view that sees neither stays. -/
theorem State.compEnter_keeps {β : Type} (p : State → β) {g : Nat}
    (hcmp : ∀ (t : State) (key : Nat) (r : RCmp), p (t.setRcmp key r) = p t)
    (hreg : ∀ (t : State) (r : Region), r.edges = (t.region g).edges → p (t.setRegion g r) = p t) (s : State) (c : Nat) :
    p (s.compEnter g c) = p s := by
  unfold State.compEnter
  refine Eq.trans (hreg _ _ ?_) (State.each_keeps p (fun t k _ => ?_) s)
  · rfl
  · exact (hcmp _ _ _).trans (hcmp _ _ _)

section TailFields

variable {g : Nat} {f : Field} (hf : ∀ w ∈ tailFields g, w.Apart f)
include hf

theorem State.g_put_tail (s : State) {w : Field} (hw : w ∈ tailFields g) (x : Nat) : (s.put w x).g f = s.g f :=
  s.g_put_of_apart (tailFields_fit hw) (hf w hw) x

theorem State.clockSwitch_g (s : State) : (s.clockSwitch g).g f = s.g f := by
  have hmove : ∀ k, (((s.put (R.CLK_REGION_CFG.SRC g) k).putB (R.CLK_REGION_CFG.PEND g) false).raise R.CLK_EVENTS.MOVED).g f = s.g f :=
    fun k => (State.g_put_tail hf _ (by simp [tailFields]) _).trans ((State.g_put_tail hf _ (by simp [tailFields]) _).trans
      (State.g_put_tail hf _ (by simp [tailFields]) _))
  unfold State.clockSwitch State.srcMove
  simp only
  split
  · split
    · exact (State.g_put_tail hf _ (by simp [tailFields]) _).trans (hmove _)
    · exact hmove _
  · rfl

theorem State.fwdReload_g (s : State) : (s.fwdReload g).g f = s.g f := State.g_put_tail hf s (by simp [tailFields]) _

theorem State.gateShow_g (s : State) : (s.gateShow g).g f = s.g f := State.g_put_tail hf s (by simp [tailFields]) _

theorem State.adapterDiscard_g (s : State) (c : Nat) : (s.adapterDiscard g c).g f = s.g f := by
  rw [State.adapterDiscard, State.bump, State.g_put_tail hf _ (by simp [tailFields]), State.reserve,
    State.g_put_tail hf _ (by simp [tailFields])]
  rfl

omit hf in
theorem State.adapterStale_g (s : State) (c : Nat) : (s.adapterStale g c).g f = s.g f := rfl

omit hf in
theorem State.compEnter_g (s : State) (c : Nat) : (s.compEnter g c).g f = s.g f :=
  State.compEnter_keeps (fun t => t.g f) (fun t key r => t.setRcmp_g key r f) (fun t r _ => t.setRegion_g g r f) s c

theorem State.unitsSwitch_g (s : State) (c kind : Nat) : (s.unitsSwitch g c kind).g f = s.g f := by
  unfold State.unitsSwitch
  simp only
  split
  · rw [State.adapterStale_g, State.adapterDiscard_g hf, State.gateShow_g hf, State.compEnter_g, State.fwdReload_g hf]
  · rw [State.gateShow_g hf, State.compEnter_g, State.fwdReload_g hf]

theorem State.toggleNext_g (s : State) (o : Nat) : (s.toggleNext g o).g f = s.g f := by
  unfold State.toggleNext
  split
  · exact State.g_put_tail hf _ (by simp [tailFields]) _
  · rfl

theorem State.switchTail_g (s : State) (o c kind : Nat) : (s.switchTail g o c kind).g f = s.g f :=
  calc (s.switchTail g o c kind).g f = (((s.clockSwitch g).standAtEdge3 g).unitsSwitch g c kind).g f := State.toggleNext_g hf _ o
    _ = ((s.clockSwitch g).standAtEdge3 g).g f := State.unitsSwitch_g hf _ c kind
    _ = (s.clockSwitch g).g f := rfl
    _ = s.g f := State.clockSwitch_g hf s

end TailFields

/-! ### User registers and the edge counted, after the new slot -/

/-- Flip-flops, switch registers and saved states. -/
def State.userRegs (s : State) : SMap (BitVec 64) × SMap (BitVec 224) × SMap (BitVec 64) := (s.fab.ff, s.fab.sw, s.fab.saved)

theorem State.clockSwitch_fab (s : State) (g : Nat) : (s.clockSwitch g).fab = s.fab := by
  simp only [State.clockSwitch, State.srcMove, apply_ite State.fab, State.putB_fab, State.raise_fab, State.put_fab, ite_self]

theorem State.unitsSwitch_fab (s : State) (g c kind : Nat) :
    (s.unitsSwitch g c kind).fab = ((s.fwdReload g).compEnter g c).fab := by
  have hadapter : ∀ t : State, ((t.adapterDiscard g c).adapterStale g c).fab = t.fab := fun t => by
    simp only [State.adapterStale, State.adapterDiscard, State.bump_fab, State.reserve, State.put_fab, State.setAdapter_fab]
  simp only [State.unitsSwitch, apply_ite State.fab, hadapter, State.gateShow, State.putB_fab, ite_self]

theorem State.toggleNext_fab (s : State) (g o : Nat) : (s.toggleNext g o).fab = s.fab := by
  simp only [State.toggleNext, apply_ite State.fab, State.put_fab, ite_self]

theorem State.switchTail_fab (s : State) (g o c kind : Nat) :
    (s.switchTail g o c kind).fab = ((((s.clockSwitch g).standAtEdge3 g).fwdReload g).compEnter g c).fab :=
  (State.toggleNext_fab _ g o).trans (State.unitsSwitch_fab _ g c kind)

theorem State.compEnter_userRegs (s : State) (g c : Nat) : (s.compEnter g c).userRegs = s.userRegs :=
  State.compEnter_keeps State.userRegs (fun _ _ _ => rfl) (fun _ _ _ => rfl) s c

theorem State.compEnter_edges (s : State) (g c : Nat) : ((s.compEnter g c).region g).edges = (s.region g).edges :=
  State.compEnter_keeps (fun t => (t.region g).edges) (fun _ _ _ => rfl)
    (fun t r hr => by rw [State.region_setRegion, if_pos rfl, hr]) s c

theorem State.fwdReload_fab (s : State) (g : Nat) : (s.fwdReload g).fab = s.fab := s.put_fab _ _

theorem State.standAtEdge3_userRegs (s : State) (g : Nat) : (s.standAtEdge3 g).userRegs = s.userRegs := rfl

theorem State.standAtEdge3_edges (s : State) (g : Nat) : ((s.standAtEdge3 g).region g).edges = some 3 := by
  rw [State.standAtEdge3, State.region_setRegion, if_pos rfl]

/-- The user registers and the region's record lie in the fabric. -/
theorem State.userRegs_of_fab {s t : State} (h : s.fab = t.fab) : s.userRegs = t.userRegs := by
  simp only [State.userRegs, h]

theorem State.region_of_fab {s t : State} (h : s.fab = t.fab) (g : Nat) : s.region g = t.region g := by
  simp only [State.region, h]

theorem State.switchTail_userRegs (s : State) (g o c kind : Nat) : (s.switchTail g o c kind).userRegs = s.userRegs := by
  rw [State.userRegs_of_fab (s.switchTail_fab g o c kind), State.compEnter_userRegs, State.userRegs_of_fab (State.fwdReload_fab _ g),
    State.standAtEdge3_userRegs, State.userRegs_of_fab (s.clockSwitch_fab g)]

theorem State.switchTail_edges (s : State) (g o c kind : Nat) : ((s.switchTail g o c kind).region g).edges = some 3 := by
  rw [State.region_of_fab (s.switchTail_fab g o c kind), State.compEnter_edges, State.region_of_fab (State.fwdReload_fab _ g),
    State.standAtEdge3_edges]

/-! ### A member's switch (Table 6.4) -/

section Member

variable {s : State} {g o c kind : Nat} (ho : s.activeCtx g = some o) (hc : c = s.g (R.CTX_REGION_CTL.NEXT g)) (hoc : o ≠ c)
  (hkind : kind = s.g (R.CTX_REGION_CTL.KIND g))
include ho hc hoc hkind

/-- The slots and the region's status after the switch. -/
theorem State.switchMember_slots (hg : g < 512) : (s.switchMember g).slotState g c = slotACTIVE ∧
    (s.switchMember g).slotState g o = slotPROOFED ∧ (s.switchMember g).activeCtx g = some c ∧
    (s.switchMember g).on (R.CTX_REGION_STATUS.SWPEND g) = false ∧
    ((s.switchMember g).on (R.CTX_SLOT_STATE.SAVEVALID (g * 8 + o)) = true ↔ kind = 1) := by
  have ho8 : o < 8 := by
    simp only [State.activeCtx, Option.ite_none_right_eq_some, Option.some.injEq] at ho
    exact ho.2 ▸ Field.of_lt _ _
  have hc8 : c < 8 := hc ▸ Field.of_lt _ _
  have hslot : ∀ k, k < 8 → ∀ f : Field, f.addr = R.CTX_SLOT_STATE.reg (g * 8 + k) → ∀ w ∈ tailFields g, w.Apart f := by
    intro k hk f hf
    unfold R.CTX_SLOT_STATE.reg at hf
    exact tailFields_apart hg (by omega) (by omega) (by unfold R.CTX_REGION_CTL.reg; omega) (by unfold R.CTX_REGION_STATUS.reg; omega)
  have hstatus : ∀ f : Field, f.addr = R.CTX_REGION_STATUS.reg g → f.lo + f.w ≤ 24 → ∀ w ∈ tailFields g, w.Apart f := by
    intro f hf hw
    unfold R.CTX_REGION_STATUS.reg at hf
    exact tailFields_apart hg (by omega) (by omega) (by unfold R.CTX_REGION_CTL.reg; omega) fun _ => hw
  have hold : ∀ (t : State) (f : Field), f.addr = R.CTX_SLOT_STATE.reg (g * 8 + o) → (t.slotEnter g c).g f = t.g f := by
    intro t f hf
    unfold R.CTX_SLOT_STATE.reg at hf
    exact t.slotEnter_g_other (by unfold R.CTX_SLOT_STATE.reg; omega) (by unfold R.CTX_REGION_STATUS.reg; omega)
  rw [State.switchMember_eq s ho hc hoc hkind]
  refine ⟨?_, ?_, ?_, ?_, ?_⟩
  · exact (State.switchTail_g (hslot c hc8 _ rfl) ..).trans (State.slotEnter_state _)
  · exact (State.switchTail_g (hslot o ho8 _ rfl) ..).trans ((hold _ _ rfl).trans ((State.userSwitch_g ..).trans
      (s.slotLeave_state g o kind)))
  · rw [State.activeCtx, State.on, State.switchTail_g (hstatus _ rfl (by simp [R.CTX_REGION_STATUS.HASACT])),
      State.switchTail_g (hstatus _ rfl (by simp [R.CTX_REGION_STATUS.ACT]))]
    exact State.slotEnter_activeCtx _ hc8
  · rw [State.on, State.switchTail_g (hstatus _ rfl (by simp [R.CTX_REGION_STATUS.SWPEND])), State.slotEnter_swpend]
    rfl
  · rw [State.on, State.switchTail_g (hslot o ho8 _ rfl), hold _ _ rfl, State.userSwitch_g]
    exact (congrArg (· = true) (s.slotLeave_saveValid g o kind)).to_iff.trans decide_eq_true_iff

theorem State.switchMember_edges : ((s.switchMember g).region g).edges = some 3 := by
  rw [State.switchMember_eq s ho hc hoc hkind, State.switchTail_edges]

/-- The user registers are those of the stage that takes the new slot's. -/
theorem State.switchMember_userRegs : (s.switchMember g).userRegs =
    ((s.slotLeave g o kind).userSwitch g c kind (s.on (R.CTX_SLOT_STATE.SAVEVALID (g * 8 + c)))).userRegs := by
  rw [State.switchMember_eq s ho hc hoc hkind, State.switchTail_userRegs]
  rfl

/-- The user registers of a tile after the switch: kept by a hot one, else the saved or the initial ones of the new slot. -/
theorem State.switchMember_tile {tile : Nat} (htile : tile / 256 = g) :
    (kind = 2 → (s.switchMember g).fab.ff.get tile = s.fab.ff.get tile ∧ (s.switchMember g).fab.sw.get tile = s.fab.sw.get tile) ∧
    (kind = 1 → (s.switchMember g).fab.saved.get ((g * 8 + o) * 256 + tile % 256) = s.fab.ff.get tile) ∧
    (kind ≠ 2 → (s.switchMember g).fab.sw.get tile = 0 ∧
      (s.switchMember g).fab.ff.get tile = if kind = 1 ∧ s.on (R.CTX_SLOT_STATE.SAVEVALID (g * 8 + c)) = true
        then s.fab.saved.get ((g * 8 + c) * 256 + tile % 256) else s.initBits c tile) := by
  have hregs := State.switchMember_userRegs ho hc hoc hkind
  simp only [State.userRegs, Prod.mk.injEq] at hregs
  obtain ⟨hff, hsw, hsaved⟩ := hregs
  rw [hff, hsw, hsaved]
  refine ⟨fun hot => ?_, fun warm => ?_, fun hk => ⟨State.userSwitch_sw _ c _ hk htile, ?_⟩⟩
  · subst hot
    rw [State.userSwitch_hot, s.slotLeave_fab g o (by decide)]
    exact ⟨rfl, rfl⟩
  · subst warm
    rw [State.userSwitch_saved, s.slotLeave_warm, s.ffSave_saved, if_pos (by omega)]
    congr 1
    omega
  · rw [State.userSwitch_ff _ c _ hk htile, s.slotLeave_initBits, s.slotLeave_saved_other kind (by omega)]

end Member

theorem State.switchEdge_idle (s : State) {n : Nat} (sub : Nat)
    (h : s.on (R.CTX_SG_STATUS.BUSY n) = false ∨ (s.members n).all s.third = false) : s.switchEdge n sub = s := by
  refine if_neg ?_
  rcases h with h | h <;> simp only [h, Bool.false_and, Bool.and_false, Bool.false_eq_true, not_false_eq_true]

theorem State.switchEdge_third (s : State) {n : Nat} (sub : Nat) (hbusy : s.on (R.CTX_SG_STATUS.BUSY n) = true)
    (h : (s.members n).all s.third = true) : s.switchEdge n sub = s.fabricEdges (s.members n) true sub :=
  if_pos (by rw [hbusy, h]; rfl)

/-- Settles O25: SWITCH_COMPLETE by the two cases of `switchEdge`, and a member's switch by its stages. -/
theorem switchCompletes : Obligations.SwitchCompletes := by
  unfold Obligations.SwitchCompletes
  refine ⟨fun s n sub h => congrArg done (s.switchEdge_idle sub h), fun s n sub hbusy h => ⟨?edge, ?completes⟩,
    fun s s' n hs => ?group, fun s g o c kind hg ho hc hoc hkind _ => ?member⟩
  case edge => exact congrArg done (s.switchEdge_third sub hbusy h)
  case completes =>
    have hexec : exec (.switchComplete n sub) s = .next (s.switchEdge n sub).signal := rfl
    obtain ⟨hlead, -⟩ := execSwitchComplete_kept n sub s hexec
    obtain ⟨hpending, htick, -⟩ := by simpa only [State.lead, Prod.mk.injEq] using hlead
    exact ⟨_, hexec, hpending, htick⟩
  case group =>
    subst hs
    exact ⟨fun h => congrArg (State.swDone · n true) (if_pos h),
      fun h => congrArg (State.swDone · n true) (if_neg (Bool.eq_false_iff.1 h))⟩
  case member =>
    obtain ⟨hnew, hold, hctx, hpend, hsave⟩ := State.switchMember_slots ho hc hoc hkind hg
    exact ⟨hnew, hold, hctx, hpend, hsave, State.switchMember_edges ho hc hoc hkind,
      fun tile htile => State.switchMember_tile ho hc hoc hkind htile⟩

end Sys2Proof.Machine

/-! The item ledger (R155 to R180): how a port takes posts and what a fence answers, what becomes of a post, what enabling, disabling
and applying a stream do, and how a record is released; O26 to O29. -/

namespace Sys2Proof.Machine

/-! ### Entries, streams and records -/

/-- A field reads the same where its register does. -/
theorem State.g_of_rw {s t : State} {f : Field} (h : t.rw f.addr = s.rw f.addr) : t.g f = s.g f := congrArg f.of h
theorem State.on_of_rw {s t : State} {f : Field} (h : t.rw f.addr = s.rw f.addr) : t.on f = s.on f :=
  congrArg (fun v => decide (f.of v ≠ 0)) h

/-- Entries, streams and the records on their way. -/
def State.book (s : State) : SMap LEntry × SMap LStream × List LRec := (s.lgr.entries, s.lgr.streams, s.lgr.out)

theorem State.entry_eq_book (s : State) (i : Nat) : s.entry i = s.book.1.get i := rfl
theorem State.stream_eq_book (s : State) (n : Nat) : s.stream n = s.book.2.1.get n := rfl
theorem State.out_eq_book (s : State) : s.lgr.out = s.book.2.2 := rfl

theorem State.book_of_lgr {s t : State} (h : s.lgr = t.lgr) : s.book = t.book := by
  simp only [State.book, h]

theorem State.put_book (s : State) (f : Field) (x : Nat) : (s.put f x).book = s.book := State.book_of_lgr (s.put_lgr f x)
theorem State.putB_book (s : State) (f : Field) (b : Bool) : (s.putB f b).book = s.book := State.book_of_lgr (s.putB_lgr f b)
theorem State.bump_book (s : State) (f : Field) (k : Nat) : (s.bump f k).book = s.book := State.book_of_lgr (s.bump_lgr f k)

@[simp] theorem State.setStream_book (s : State) (n : Nat) (x : LStream) :
    (s.setStream n x).book = (s.book.1, s.book.2.1.set n x, s.book.2.2) := rfl

/-- The registers that stand for the whole ledger, but for LGR_STATUS, whose OPEN follows the entries. -/
abbrev ledgerReg (a : Nat) : Prop := 0x120000 ≤ a ∧ a < 0x120100 ∧ a ≠ R.LGR_STATUS.reg

theorem idStream_lt (id : Word) : idStream id < 4 := Nat.div_lt_of_lt_mul id.isLt

@[simp] theorem State.setEntry_book (s : State) (n i : Nat) (e : LEntry) :
    (s.setEntry n i e).book = (s.book.1.set i e, s.book.2.1, s.book.2.2) := by
  simp only [State.setEntry, apply_ite State.book, State.put_book, State.bump_book, ite_self]
  split <;> rfl

/-- Of the registers only the open counts follow an entry. -/
theorem State.setEntry_rw (s : State) (n i : Nat) (e : LEntry) {a : Nat} (hn : a ≠ R.LGR_STREAM_STATUS.reg n)
    (ha : a ≠ R.LGR_STATUS.reg) : (s.setEntry n i e).rw a = s.rw a := by
  have hput : ∀ (t : State) (x y : Nat), ((t.put (R.LGR_STREAM_STATUS.OPEN n) x).put R.LGR_STATUS.OPEN y).rw a = t.rw a :=
    fun t x y => (State.rw_put_other _ _ y ha).trans (t.rw_put_other _ x hn)
  simp only [State.setEntry, State.bump, apply_ite (State.rw · a), hput, ite_self]
  split <;> rfl

theorem State.setEntry_rw_ledger (s : State) (n i : Nat) (e : LEntry) {a : Nat} (ha : ledgerReg a) :
    (s.setEntry n i e).rw a = s.rw a := by
  obtain ⟨-, hhi, hstatus⟩ := ha
  exact s.setEntry_rw n i e (by unfold R.LGR_STREAM_STATUS.reg; omega) hstatus

/-- An entry written reads back; every other entry reads as before. -/
theorem State.entry_setEntry (s : State) (n i j : Nat) (e : LEntry) : (s.setEntry n i e).entry j = if j = i then e else s.entry j := by
  rw [State.entry_eq_book, State.setEntry_book]
  exact SMap.get_set ..

theorem State.entryCheck_good (s : State) {n i : Nat} (h : (s.entry i).bad = false) : s.entryCheck n i = s :=
  if_pos (by rw [h]; rfl)

/-- Without a deadline or a close that waits the ledger has nothing to evaluate. -/
theorem State.lgrRun_idle {s : State} (h : s.lgr.due = []) : s.lgrRun = s := by
  have hready : s.lgr.due.takeWhile (fun d => s.postsDone (idStream d.id) d.tick) = [] := by rw [h]; rfl
  simp only [State.lgrRun, hready]
  rfl

/-! ### Posts at a port and the fence (R162, R179) -/

/-- A post as a ledger port stamps it: the tick, its plant time, the axis values and the banks in force then (R162, R164). -/
def State.stampPost (s : State) (port stn verd : Nat) (code : Half) (idv : Bool) (id : Word) : LPost :=
  { stn := stn % 64, verd := verd % 4, code := code, idv := idv, id := id, tick := (s.region (port / 4)).takenTick
    time := (((s.region (port / 4)).taken.map (fun (w : BusWord) => w.time)).headD 0).toNat, values := (s.region (port / 4)).taken.map (·.value)
    banks := ((List.range 4).map (fun n => s.bankAt n (s.region (port / 4)).takenTick * 2 ^ n)).sum }

section Post

variable (s : State) {port : Nat} (stn verd : Nat) (code : Half) (idv : Bool) (id : Word)

theorem State.ledgerPost_dropped
    (h : s.bit (R.LGR_FENCE.FENCE (port / 32)) (port % 32) = true ∨ 4 ≤ (s.lgr.ports.get port).queue.length) :
    s.ledgerPost port stn verd code idv id = s :=
  if_pos (by simpa only [Bool.or_eq_true, decide_eq_true_eq] using h)

theorem State.ledgerPost_taken (hfence : s.bit (R.LGR_FENCE.FENCE (port / 32)) (port % 32) = false)
    (hroom : (s.lgr.ports.get port).queue.length < 4) : s.ledgerPost port stn verd code idv id =
      { s with lgr := { s.lgr with ports := s.lgr.ports.set port { s.lgr.ports.get port with
          queue := (s.lgr.ports.get port).queue ++ [s.stampPost port stn verd code idv id] } } } :=
  if_neg (by simp [hfence, hroom])

end Post

/-- A port that is fenced: its queue is empty, and every post of it is answered FENCED. -/
def LPort.fenced (p : LPort) : LPort := { p with queue := [], answers := p.answers ++ List.replicate p.queue.length 5 }

theorem LPort.fenced_of_empty {p : LPort} (h : p.queue = []) : p.fenced = p := by
  cases p
  cases h
  simp only [LPort.fenced, List.length_nil, List.replicate_zero, List.append_nil]

theorem LPort.fenced_fenced (p : LPort) : p.fenced.fenced = p.fenced := LPort.fenced_of_empty rfl

/-- The posts of one port answered. -/
def State.fencePort (s : State) (port : Nat) : State :=
  if (s.lgr.ports.get port).queue.isEmpty then s
  else { s with lgr := { s.lgr with ports := s.lgr.ports.set port (s.lgr.ports.get port).fenced } }

theorem State.fenceWrite_eq (s : State) (k : Nat) (v : Word) : s.fenceWrite k v =
    ((s.wr (R.LGR_FENCE.reg k) v).each (maskBits v.toNat 32) fun t b => t.fencePort (32 * k + b)).lgrRun := rfl

theorem State.fencePort_get (s : State) (port p : Nat) : (s.fencePort port).lgr.ports.get p =
    if p = port then (s.lgr.ports.get p).fenced else s.lgr.ports.get p := by
  unfold State.fencePort
  split
  · next hempty =>
    split
    · next hp => rw [hp, LPort.fenced_of_empty (List.isEmpty_iff.1 hempty)]
    · rfl
  · rw [SMap.get_set]
    split
    · next hp => rw [hp]
    · rfl

theorem State.fencePorts_get (k p : Nat) (l : List Nat) (s : State) :
    (s.each l fun t b => t.fencePort (32 * k + b)).lgr.ports.get p =
      if p ∈ l.map (32 * k + ·) then (s.lgr.ports.get p).fenced else s.lgr.ports.get p := by
  induction l generalizing s with
  | nil => rfl
  | cons b l ih =>
    refine (ih _).trans ?_
    rw [State.fencePort_get]
    by_cases hb : p = 32 * k + b <;> by_cases hl : p ∈ l.map (32 * k + ·) <;> simp [hb, hl, LPort.fenced_fenced]

/-- The state with other ports. -/
def State.withPorts (s : State) (ports : SMap LPort) : State := { s with lgr := { s.lgr with ports := ports } }

theorem State.fencePorts_eq (k : Nat) (l : List Nat) (s : State) : s.each l (fun t b => t.fencePort (32 * k + b)) =
    s.withPorts (s.each l fun t b => t.fencePort (32 * k + b)).lgr.ports := by
  have hport : ∀ (t : State) (port : Nat), (t.fencePort port).withPorts [] = t.withPorts [] := fun t port => by
    simp only [State.fencePort, apply_ite (State.withPorts · [])]
    exact ite_self _
  have hrest := State.each_keeps (State.withPorts · []) (l := l) (fun t b _ => hport t (32 * k + b)) s
  have hports := congrArg (State.withPorts · (s.each l fun t b => t.fencePort (32 * k + b)).lgr.ports) hrest
  exact hports

/-- The ports that a write of LGR_FENCEk fences. -/
theorem mem_fencedPorts {k p : Nat} {v : Word} :
    p ∈ (maskBits v.toNat 32).map (32 * k + ·) ↔ p / 32 = k ∧ v.getLsbD (p % 32) = true := by
  simp only [List.mem_map, mem_maskBits, BitVec.testBit_toNat]
  constructor
  · rintro ⟨b, ⟨hb, hv⟩, rfl⟩
    have hmod : (32 * k + b) % 32 = b := by omega
    exact ⟨by omega, by rwa [hmod]⟩
  · rintro ⟨rfl, hv⟩
    exact ⟨p % 32, ⟨Nat.mod_lt _ (by decide), hv⟩, Nat.div_add_mod p 32⟩

/-- Settles O26: a post by the two cases of `ledgerPost`, a fence port by port. -/
theorem ledgerPostsAndFences : Obligations.LedgerPostsAndFences := by
  unfold Obligations.LedgerPostsAndFences
  refine ⟨fun s port stn verd code idv id => ⟨fun h => congrArg done (s.ledgerPost_dropped stn verd code idv id h), ?taken⟩,
    fun s k v hdue => ?fence⟩
  case taken =>
    exact fun hfence hroom => ⟨s.stampPost port stn verd code idv id, rfl, rfl, rfl, rfl, rfl, rfl, rfl,
      congrArg done (s.ledgerPost_taken stn verd code idv id hfence hroom)⟩
  case fence =>
    have heq := State.fencePorts_eq k (maskBits v.toNat 32) (s.wr (R.LGR_FENCE.reg k) v)
    have hget := fun p => State.fencePorts_get k p (maskBits v.toNat 32) (s.wr (R.LGR_FENCE.reg k) v)
    have hidle : s.fenceWrite k v = (s.wr (R.LGR_FENCE.reg k) v).each (maskBits v.toNat 32) fun t b => t.fencePort (32 * k + b) := by
      rw [State.fenceWrite_eq]
      refine State.lgrRun_idle ?_
      rw [heq]
      exact hdue
    refine ⟨(s.fenceWrite k v).signal, rfl, fun p hp hv => ?_, fun p hp => ?_, ?_⟩
    · rw [State.signal_lgr, hidle, hget p, if_pos (mem_fencedPorts.2 ⟨hp, hv⟩)]
      rfl
    · rw [State.signal_lgr, hidle, hget p, if_neg]
      · rfl
      · rw [mem_fencedPorts]
        rintro ⟨hk, hv⟩
        rcases hp with hne | hoff
        · exact hne hk
        · simp [hv] at hoff
    · rw [State.mute_signal, State.signal_lgr, hidle]
      exact congrArg State.mute heq

/-! ### Enabling, disabling and applying a stream (R158, R160, R180) -/

section StreamSettings

variable (s : State) {n : Nat}

theorem State.streamEnable_queued (h : (s.stream n).disDue ≠ none) : s.streamEnable n =
    ((s.setStream n { s.stream n with enQueued := true }).putB (R.LGR_STREAM_CFG.EN n) true).putB (R.LGR_STREAM_STATUS.BUSY n) true :=
  if_pos (Option.isSome_iff_ne_none.2 h)

theorem State.streamEnable_undisturbed (h : (s.stream n).disDue = none) : s.streamEnable n =
    if (s.stream n).enabled then s
    else if !s.streamOk n (s.rw (R.LGR_STREAM_CFG.reg n)) then s.raise R.LGR_EVENTS.CFGERR else s.streamOn n :=
  if_neg (by rw [h]; exact Bool.false_ne_true)

theorem State.streamDisable_undisturbed (sub : Nat) (h : (s.stream n).disDue = none) : s.streamDisable n sub =
    if (s.stream n).enabled then ((s.putB (R.LGR_STREAM_CFG.EN n) false).setStream n
      { s.stream n with disDue := some (s.dueTick sub) }).putB (R.LGR_STREAM_STATUS.BUSY n) true
    else s.putB (R.LGR_STREAM_CFG.EN n) false := by
  simp only [State.streamDisable, h, State.dueTick, State.putB_tick, Option.isSome_none, Bool.false_eq_true, if_false]

end StreamSettings

theorem State.dueTick_ps (s : State) (sub : Nat) : s.dueTick sub = s.tick + (sub + 8000 + 3999) / 4000 := by
  simp only [State.dueTick, dueAfter]

theorem maskBits_two_pow {n k : Nat} (hn : n < k) : maskBits (2 ^ n) k = [n] := by
  simp only [maskBits, Nat.testBit_two_pow, eq_comm (a := n)]
  rw [List.filter_eq, List.count_eq_one_of_mem List.nodup_range (List.mem_range.2 hn)]
  rfl

theorem State.lgrApply_single (s : State) {n : Nat} (hn : n < 4) : s.lgrApply (2 ^ n) =
    if s.on (R.LGR_STREAM_STATUS.APPLYPEND n) then s
    else if s.applyOk n then s.putB (R.LGR_STREAM_STATUS.APPLYPEND n) true else s.raise R.LGR_EVENTS.CFGERR := by
  rw [State.lgrApply, maskBits_two_pow hn]
  rfl

/-- Settles O28: an enable and a disable by whether a disable waits and whether the stream is on, LGR_APPLY on the one stream that its
mask names. -/
theorem streamsAndBanks : Obligations.StreamsAndBanks := by
  unfold Obligations.StreamsAndBanks
  intro s n hn
  have henable : exec (.streamEnable n) s = done (s.streamEnable n) := rfl
  have hdisable : ∀ sub, exec (.streamDisable n sub) s = done (s.streamDisable n sub) := fun _ => rfl
  have happly : exec (.lgrApply (2 ^ n)) s = done (s.lgrApply (2 ^ n)) := rfl
  refine ⟨fun hdue hon => ?_, fun hdue hoff hbreach => ?_, fun hdue hoff hok => ?_, fun hdue => ?_, fun sub hdue hon => ?_,
    fun sub hdue hoff => ?_, fun hpend => ?_, fun hpend hok => ?_, fun hpend hbreach => ?_⟩
  · rw [henable, s.streamEnable_undisturbed hdue, if_pos hon, done]
  · rw [henable, s.streamEnable_undisturbed hdue, if_neg (by simp [hoff]), if_pos (by simp [hbreach]), done]
  · rw [henable, s.streamEnable_undisturbed hdue, if_neg (by simp [hoff]), if_neg (by simp [hok])]
    rfl
  · rw [henable, s.streamEnable_queued hdue, done]
  · rw [hdisable, s.streamDisable_undisturbed sub hdue, if_pos hon, State.dueTick_ps, done]
  · rw [hdisable, s.streamDisable_undisturbed sub hdue, if_neg (by simp [hoff]), done]
  · rw [happly, s.lgrApply_single hn, if_pos hpend, done]
  · rw [happly, s.lgrApply_single hn, if_neg (by simp [hpend]), if_pos hok, done]
  · rw [happly, s.lgrApply_single hn, if_neg (by simp [hpend]), if_neg (by simp [hbreach]), done]

/-! ### What becomes of a post (R163 to R165) -/

theorem State.postResolve_idle {s : State} (h : s.lgrWorks = false ∨ ∀ p, p ∈ s.lgr.ports → p.2.queue = []) : s.postResolve = s := by
  unfold State.postResolve
  rcases h with hworks | hempty
  · rw [hworks]
    rfl
  · have hnone : s.lgr.ports.filter (fun p => !p.2.queue.isEmpty) = [] :=
      List.filter_eq_nil_iff.2 fun p hp => by simp [hempty p hp]
    simp only [hnone, List.map_nil, ite_self]

/-- The token reaches the one port at which a post waits, wherever it stands. -/
theorem State.postResolve_single {s : State} {port : Nat} (hworks : s.lgrWorks = true)
    (h : (s.lgr.ports.filter (fun p => !p.2.queue.isEmpty)).map (·.1) = [port]) : s.postResolve = s.resolvePort port := by
  unfold State.postResolve
  rw [hworks, h]
  by_cases ht : s.lgr.token ≤ port <;> simp [ht]

/-- The head post of a port leaves its queue, and its status waits for the ACK. -/
def State.postAnswered (s : State) (port : Nat) (rest : List LPost) (st : Nat) : State :=
  { s with lgr := { s.lgr with
      ports := s.lgr.ports.set port { s.lgr.ports.get port with queue := rest, answers := (s.lgr.ports.get port).answers ++ [st] }
      token := (port + 1) % 2048 } }

theorem State.resolvePort_head {s : State} {port : Nat} {q : LPost} {rest : List LPost}
    (h : (s.lgr.ports.get port).queue = q :: rest) :
    s.resolvePort port = ((s.resolvePost port q).1.postAnswered port rest (s.resolvePost port q).2).lgrRun := by
  simp only [State.resolvePort, h]
  rfl

section Resolve

variable {s : State} {i : Nat} {q : LPost}

theorem State.resolvePost_unfound {st : Nat} (port : Nat) (h : s.resolveFind q = .inr st) : s.resolvePost port q = (s, st) := by
  simp only [State.resolvePost, h]

/-- The entry found judges; status 6 is that of a failed check, which closes the item. -/
theorem State.resolvePost_refused {port : Nat} (h : s.resolveFind q = .inl i) (h0 : s.resolveJudge port i q ≠ 0)
    (h6 : s.resolveJudge port i q ≠ 6) : s.resolvePost port q = (s, s.resolveJudge port i q) := by
  simp only [State.resolvePost, h, h0, h6, ne_eq, not_false_eq_true, if_true, if_false]

theorem State.resolvePost_applies {port : Nat} (h : s.resolveFind q = .inl i) (h0 : s.resolveJudge port i q = 0)
    (hacts : s.lgrActs = true) : s.resolvePost port q = s.applyPost i q := by
  simp [State.resolvePost, h, h0, hacts]

variable {b : Nat} (hb : b = s.stField q.stn (s.entry i).bank (R.LGR_STATION_CFG.BIT q.stn))
include hb

/-- A second post of a station changes nothing. -/
theorem State.applyPost_again (hverd : q.verd < 2) (hdone : (s.entry i).done.getLsbD b = true) : s.applyPost i q = (s, 3) := by
  subst hb
  simp only [State.applyPost, Nat.not_le.2 hverd, hdone, if_true, if_false]

/-- A first post of a station sets its bit. -/
theorem State.applyPost_first (hverd : q.verd < 2) (hdone : (s.entry i).done.getLsbD b = false) : s.applyPost i q =
    (let t := (s.postLate i q).setEntry (idStream (s.entry i).id) i { s.entry i with
      done := (s.entry i).done ||| BitVec.ofNat 16 (2 ^ b)
      rej := if q.verd = 1 then (s.entry i).rej ||| BitVec.ofNat 16 (2 ^ b) else (s.entry i).rej, code := q.code }
    if q.verd = 1 then t.markItem (idStream (s.entry i).id) i q.code else t, 0) := by
  subst hb
  simp only [State.applyPost, Nat.not_le.2 hverd, hdone, if_false, Bool.false_eq_true]

end Resolve

@[simp] theorem State.postLate_entry (s : State) (i : Nat) (q : LPost) (j : Nat) : (s.postLate i q).entry j = s.entry j := rfl

theorem State.setEntry_gateen (s : State) (n i : Nat) (e : LEntry) :
    (s.setEntry n i e).on (R.LGR_STREAM_CFG.GATEEN n) = s.on (R.LGR_STREAM_CFG.GATEEN n) := by
  refine State.on_of_rw (s.setEntry_rw n i e ?_ ?_) <;>
    simp only [R.LGR_STREAM_CFG.GATEEN, R.LGR_STREAM_CFG.reg, R.LGR_STREAM_STATUS.reg, R.LGR_STATUS.reg] <;> omega

/-- An open item of a stream without a gate is marked; a reason that it has stands. -/
theorem State.markItem_open {s : State} {n i : Nat} (reason : Half) (hopen : (s.entry i).st = itOPEN)
    (hgate : s.on (R.LGR_STREAM_CFG.GATEEN n) = false) : s.markItem n i reason = s.setEntry n i { s.entry i with
      st := itMARKED, reason := if (s.entry i).reason = 0#16 then reason else (s.entry i).reason } := by
  simp only [State.markItem, hopen, State.setEntry_gateen, hgate]
  rfl

/-- Settles O27: the one port whose post is resolved, the three outcomes of `resolvePost`, and a post applied by its verdict. -/
theorem postsResolve : Obligations.PostsResolve := by
  unfold Obligations.PostsResolve
  refine ⟨fun _ => rfl, fun s => State.postResolve_idle, fun s port q rest hport hqueue hworks => ?resolved,
    fun s i b q hb => ⟨State.applyPost_again hb, fun hverd hdone => ?accepted, fun hverd hdone hopen hreason hgate => ?rejected⟩⟩
  case resolved =>
    rw [State.postResolve_single hworks hport, State.resolvePort_head hqueue]
    refine ⟨fun st hfind => ?_, fun i hfind h0 h6 => ?_, fun i hfind h0 hacts => ?_⟩
    · rw [State.resolvePost_unfound port hfind]
      rfl
    · rw [State.resolvePost_refused hfind h0 h6]
      rfl
    · rw [State.resolvePost_applies hfind h0 hacts]
      rfl
  case accepted =>
    refine ⟨_, State.applyPost_first hb (by omega) hdone, ?_⟩
    simp only [hverd, Nat.zero_ne_one, if_false, State.entry_setEntry, State.postLate_entry, if_true]
    exact ⟨trivial, fun j hj => if_neg hj⟩
  case rejected =>
    refine ⟨_, State.applyPost_first hb (by omega) hdone, ?_⟩
    simp only [hverd, if_true]
    rw [State.markItem_open]
    · simp only [State.entry_setEntry, State.postLate_entry, if_true, hreason]
      exact ⟨trivial, fun j hj => by simp only [hj, if_false]⟩
    · rw [State.entry_setEntry, if_pos rfl]
      exact hopen
    · rw [State.setEntry_gateen]
      exact hgate

/-! ### Records (R159, R173) -/

theorem State.ctrNote_book (s : State) (n : Nat) : (s.ctrNote n).book = s.book := by
  unfold State.ctrNote
  simp only [apply_ite State.book]
  exact ite_self _

theorem State.ctrNote_rw (s : State) (n a : Nat) : (s.ctrNote n).rw a = s.rw a := by
  unfold State.ctrNote
  simp only [apply_ite (State.rw · a)]
  exact ite_self _

theorem State.emberOpen_book (s : State) (n : Nat) : (s.emberOpen n).book = s.book := by
  simp only [State.emberOpen, State.put_book, State.ctrNote_book]

theorem State.emberOpen_rw (s : State) {n : Nat} (hn : n < 4) {a : Nat} (ha : ledgerReg a) : (s.emberOpen n).rw a = s.rw a := by
  obtain ⟨hlo, hhi, -⟩ := ha
  have hseq : a ≠ R.AON_LGR_RECSEQ.RECSEQ.addr := by simp only [R.AON_LGR_RECSEQ.RECSEQ, R.AON_LGR_RECSEQ.reg]; omega
  have hmaskHi : a ≠ (R.AON_LGR_MASK_HI.MASK n).addr := by simp only [R.AON_LGR_MASK_HI.MASK, R.AON_LGR_MASK_HI.reg]; omega
  have hmaskLo : a ≠ (R.AON_LGR_MASK_LO.MASK n).addr := by simp only [R.AON_LGR_MASK_LO.MASK, R.AON_LGR_MASK_LO.reg]; omega
  have hnext : a ≠ (R.AON_LGR_NEXTSEQ.NEXTSEQ n).addr := by simp only [R.AON_LGR_NEXTSEQ.NEXTSEQ, R.AON_LGR_NEXTSEQ.reg]; omega
  have hold : a ≠ (R.AON_LGR_OLDEST.OLDEST n).addr := by simp only [R.AON_LGR_OLDEST.OLDEST, R.AON_LGR_OLDEST.reg]; omega
  have hshown : a ≠ (R.LGR_STREAM_OLDEST.NEXTSEQ n).addr := by simp only [R.LGR_STREAM_OLDEST.NEXTSEQ, R.LGR_STREAM_OLDEST.reg]; omega
  simp only [State.emberOpen, State.rw_put_other _ _ _ hseq, State.rw_put_other _ _ _ hmaskHi, State.rw_put_other _ _ _ hmaskLo,
    State.rw_put_other _ _ _ hnext, State.rw_put_other _ _ _ hold, State.ctrNote_rw, State.rw_put_other _ _ _ hshown]

theorem State.emberValid_book (s : State) (n : Nat) : (s.emberValid n).book = s.book := by
  simp only [State.emberValid, apply_ite State.book, State.putB_book, ite_self]

theorem State.emberValid_rw (s : State) {n : Nat} (hn : n < 4) {a : Nat} (ha : ledgerReg a) : (s.emberValid n).rw a = s.rw a := by
  obtain ⟨hlo, -, -⟩ := ha
  have hput : (s.putB (R.AON_LGR_OLDEST.VALID n) false).rw a = s.rw a :=
    s.rw_put_other _ _ (by simp only [R.AON_LGR_OLDEST.VALID, R.AON_LGR_OLDEST.reg]; omega)
  simp only [State.emberValid, apply_ite (State.rw · a), hput, ite_self]

/-- The stream with a sequence number reported. -/
def LStream.reported (x : LStream) (seq : Nat) : LStream :=
  { x with items := x.items.filter (· ≠ seq), born := x.born.filter (· ≠ seq) }

theorem State.recordDone_eq (s : State) {r : LRec} {i : Nat} (h : r.entry = some i) : s.recordDone r =
    ((((s.setEntry (idStream (s.entry i).id) i {}).setStream (idStream (s.entry i).id)
      ((s.stream (idStream (s.entry i).id)).reported (idSeq (s.entry i).id))).emberOpen (idStream (s.entry i).id)).emberValid
        (idStream (s.entry i).id)) := by
  have hstream : ∀ n, (s.setEntry n i {}).stream n = s.stream n := fun n => by
    rw [State.stream_eq_book, State.setEntry_book]; rfl
  simp only [State.recordDone, h, hstream, LStream.reported]

/-- A record that every path has accepted frees its entry, and its number leaves the stream. -/
theorem State.recordDone_book (s : State) {r : LRec} {i : Nat} (h : r.entry = some i) : (s.recordDone r).book =
    (s.book.1.set i {}, s.book.2.1.set (idStream (s.entry i).id)
      ((s.stream (idStream (s.entry i).id)).reported (idSeq (s.entry i).id)), s.book.2.2) := by
  rw [s.recordDone_eq h, State.emberValid_book, State.emberOpen_book, State.setStream_book, State.setEntry_book]

theorem State.recordDone_rw (s : State) {r : LRec} {i : Nat} (h : r.entry = some i) {a : Nat} (ha : ledgerReg a) :
    (s.recordDone r).rw a = s.rw a := by
  rw [s.recordDone_eq h, State.emberValid_rw _ (idStream_lt _) ha, State.emberOpen_rw _ (idStream_lt _) ha, State.setStream_rw,
    State.setEntry_rw_ledger _ _ _ _ ha]

/-- The next RECSEQ is taken for a record of stream `n`, and CLOSED is set. -/
def State.recseqTake (s : State) (n : Nat) : State :=
  let s := (s.bumpWrap R.LGR_RECSEQ.RECSEQ 1).raise R.LGR_EVENTS.CLOSED
  (s.put R.AON_LGR_RECSEQ.RECSEQ (s.g R.LGR_RECSEQ.RECSEQ)).ctrNote n

theorem State.recseqTake_book (s : State) (n : Nat) : (s.recseqTake n).book = s.book := State.ctrNote_book ..

theorem State.recseqTake_rw (s : State) (n : Nat) {a : Nat} (ha : a ≠ R.AON_LGR_RECSEQ.reg) :
    (s.recseqTake n).rw a = ((s.bumpWrap R.LGR_RECSEQ.RECSEQ 1).raise R.LGR_EVENTS.CLOSED).rw a := by
  rw [State.recseqTake, State.ctrNote_rw]
  exact State.rw_put_other _ _ _ ha

theorem State.recseqTake_rw_other (s : State) (n : Nat) {a : Nat} (hember : a ≠ R.AON_LGR_RECSEQ.reg) (hseq : a ≠ R.LGR_RECSEQ.reg)
    (hevents : a ≠ R.LGR_EVENTS.reg) : (s.recseqTake n).rw a = s.rw a := by
  rw [s.recseqTake_rw n hember]
  exact (State.rw_put_other _ _ _ hevents).trans (State.rw_put_other _ _ _ hseq)

/-- The paths that LGR_CTL enables stay. -/
theorem State.recseqTake_ctl (s : State) (n : Nat) {f : Field} (hf : f.addr = R.LGR_CTL.reg) : (s.recseqTake n).on f = s.on f := by
  refine State.on_of_rw ?_
  rw [hf]
  exact s.recseqTake_rw_other n (by decide) (by decide) (by decide)

theorem State.recseqTake_recseq (s : State) (n : Nat) :
    (s.recseqTake n).g R.LGR_RECSEQ.RECSEQ = (s.g R.LGR_RECSEQ.RECSEQ + 1) % 4294967296 := by
  calc (s.recseqTake n).g R.LGR_RECSEQ.RECSEQ
      = ((s.bumpWrap R.LGR_RECSEQ.RECSEQ 1).raise R.LGR_EVENTS.CLOSED).g R.LGR_RECSEQ.RECSEQ :=
        State.g_of_rw (s.recseqTake_rw n (by decide))
    _ = (s.bumpWrap R.LGR_RECSEQ.RECSEQ 1).g R.LGR_RECSEQ.RECSEQ := State.g_put_register _ _ _ _ (by decide)
    _ = (s.g R.LGR_RECSEQ.RECSEQ + 1) % 4294967296 := s.g_bumpWrap_same _ _ (by decide)

theorem State.recseqTake_closed (s : State) (n : Nat) : (s.recseqTake n).g R.LGR_EVENTS.CLOSED = 1 :=
  calc (s.recseqTake n).g R.LGR_EVENTS.CLOSED
      = ((s.bumpWrap R.LGR_RECSEQ.RECSEQ 1).raise R.LGR_EVENTS.CLOSED).g R.LGR_EVENTS.CLOSED :=
        State.g_of_rw (s.recseqTake_rw n (by decide))
    _ = 1 := State.g_put_same _ _ _ (by decide)

/-- The record as it leaves: with the RECSEQ that it takes, for the paths that are enabled. -/
def State.recordMake (s : State) (head body : List Byte) (entry : Option Nat) : LRec :=
  { recseq := BitVec.ofNat 32 (s.g R.LGR_RECSEQ.RECSEQ), data := recordBytes head (BitVec.ofNat 32 (s.g R.LGR_RECSEQ.RECSEQ)) body
    entry := entry, ring := s.on R.LGR_CTL.RING_EN, vsm := s.on R.LGR_CTL.VSM_EN }

/-- A record joins those that wait for their paths. -/
def State.recordQueue (s : State) (r : LRec) : State := { s with lgr := { s.lgr with out := s.lgr.out ++ [r] } }

/-- A record without a path counts in UNREP and is done; another waits for its paths. -/
def State.recordSend (s : State) (r : LRec) : State :=
  if !r.ring && !r.vsm then (s.bump R.LGR_ERRCNT.UNREP 1).recordDone r
  else (if r.vsm then (s.recordQueue r).putB R.LGR_STATUS.VSM_STALL true else s.recordQueue r).ringDrain

theorem State.emitRecord_eq (s : State) (head body : List Byte) (entry : Option Nat) : s.emitRecord head body entry =
    (s.recseqTake (bytesNat head / 2 ^ 30 % 4)).recordSend (s.recordMake head body entry) := by
  rw [State.recordMake, ← s.recseqTake_ctl (bytesNat head / 2 ^ 30 % 4) (f := R.LGR_CTL.RING_EN) rfl,
    ← s.recseqTake_ctl (bytesNat head / 2 ^ 30 % 4) (f := R.LGR_CTL.VSM_EN) rfl]
  rfl

theorem State.recordSend_unreported (s : State) {r : LRec} (hring : r.ring = false) (hvsm : r.vsm = false) :
    s.recordSend r = (s.bump R.LGR_ERRCNT.UNREP 1).recordDone r :=
  if_pos (by rw [hring, hvsm]; rfl)

/-- The ring takes no record that does not wait for it. -/
theorem State.ringDrain_settles {s : State} (h : ∀ r, r ∈ s.lgr.out → r.ring = false) : s.ringDrain = s.recordsSettle := by
  unfold State.ringDrain
  have hfold : ∀ (l : List LRec) (f : State × Bool → LRec → State × Bool), (∀ r, r ∈ l → f (s, false) r = (s, false)) →
      l.foldl f (s, false) = (s, false) := fun l f hf =>
    List.foldlRecOn (motive := fun t => t = (s, false)) l f rfl fun t ht r hr => ht ▸ hf r hr
  rw [hfold _ _ fun r hr => if_pos (by rw [h r hr]; rfl)]

/-- No record leaves that a path must still accept. -/
theorem State.recordsSettle_waiting {s : State} (h : ∀ r, r ∈ s.lgr.out → r.vsm = true) : s.recordsSettle = s := by
  have hready : s.lgr.out.filter (fun r => !r.ring && !r.vsm) = [] :=
    List.filter_eq_nil_iff.2 fun r hr => by simp [h r hr]
  have hstay : s.lgr.out.filter (fun r => r.ring || r.vsm) = s.lgr.out :=
    List.filter_eq_self.2 fun r hr => by simp [h r hr]
  simp only [State.recordsSettle, hready, hstay]
  rfl

theorem State.recordSend_vasum {s : State} {r : LRec} (hring : r.ring = false) (hvsm : r.vsm = true)
    (hout : ∀ x, x ∈ s.lgr.out → x.ring = false ∧ x.vsm = true) :
    s.recordSend r = (s.recordQueue r).putB R.LGR_STATUS.VSM_STALL true := by
  have hall : ∀ x, x ∈ ((s.recordQueue r).putB R.LGR_STATUS.VSM_STALL true).lgr.out → x.ring = false ∧ x.vsm = true := by
    intro x hx
    rcases List.mem_append.1 hx with hx | hx
    · exact hout x hx
    · exact List.mem_singleton.1 hx ▸ ⟨hring, hvsm⟩
  rw [State.recordSend, if_neg (by simp [hvsm]), if_pos hvsm, State.ringDrain_settles fun x hx => (hall x hx).1,
    State.recordsSettle_waiting fun x hx => (hall x hx).2]

theorem State.recordSend_vasum_book {s : State} {r : LRec} (hring : r.ring = false) (hvsm : r.vsm = true)
    (hout : ∀ x, x ∈ s.lgr.out → x.ring = false ∧ x.vsm = true) :
    (s.recordSend r).book = (s.book.1, s.book.2.1, s.book.2.2 ++ [r]) := by
  rw [State.recordSend_vasum hring hvsm hout, State.putB_book]
  rfl

/-- Without the ring, a record sent changes no register of the whole ledger but the error counters. -/
theorem State.recordSend_rw {s : State} {r : LRec} {i : Nat} (hring : r.ring = false) (hentry : r.entry = some i)
    (hout : ∀ x, x ∈ s.lgr.out → x.ring = false ∧ x.vsm = true) {a : Nat} (ha : ledgerReg a) (herr : a ≠ R.LGR_ERRCNT.reg) :
    (s.recordSend r).rw a = s.rw a := by
  cases hvsm : r.vsm with
  | false =>
    rw [s.recordSend_unreported hring hvsm, State.recordDone_rw _ hentry ha]
    exact s.rw_put_other _ _ herr
  | true =>
    obtain ⟨-, -, hstatus⟩ := ha
    rw [State.recordSend_vasum hring hvsm hout]
    exact State.rw_put_other _ _ _ hstatus

/-! ### The release of a record -/

theorem State.recordRelease_idle {s : State} (n : Nat) (h : s.lgrReports = false ∨ s.lgrWorks = false) : s.recordRelease n = s :=
  if_pos (by rcases h with h | h <;> simp [h])

section Release

variable {s : State} {n k i : Nat} {rest : List Nat} (hreports : s.lgrReports = true) (hworks : s.lgrWorks = true)
  (hsuspects : s.lgr.suspects = []) (hitems : (s.stream n).items = k :: rest) (hi : i = s.entryOf n k) (hgood : (s.entry i).bad = false)
include hreports hworks hsuspects hitems hi hgood

/-- What the release of a stream's oldest item does, without a record that goes before it. -/
theorem State.recordRelease_oldest : s.recordRelease n =
    if (s.entry i).released then s
    else if (s.entry i).st = itHELD && s.mirrored i then
      (s.setEntry n i { s.entry i with released := true }).emitRecord (wordBytes (s.entry i).id) (itemBody (s.entry i)) (some i)
    else s := by
  subst hi
  simp only [State.recordRelease, hreports, hworks, hsuspects, hitems, State.entryCheck_good s hgood, Bool.not_true, Bool.or_self,
    Bool.false_eq_true, if_false, List.find?_nil]

theorem State.recordRelease_notDue (h : (s.entry i).released = true ∨ (s.entry i).st ≠ itHELD) : s.recordRelease n = s := by
  rw [State.recordRelease_oldest hreports hworks hsuspects hitems hi hgood]
  rcases h with h | h
  · rw [if_pos h]
  · rw [if_neg (by simp [h] : ¬((s.entry i).st = itHELD && s.mirrored i) = true), ite_self]

theorem State.recordRelease_held (hnew : (s.entry i).released = false) (hheld : (s.entry i).st = itHELD) (hmirror : s.mirrored i = true) :
    s.recordRelease n =
      (s.setEntry n i { s.entry i with released := true }).emitRecord (wordBytes (s.entry i).id) (itemBody (s.entry i)) (some i) := by
  rw [State.recordRelease_oldest hreports hworks hsuspects hitems hi hgood, if_neg (by simp [hnew]), if_pos (by simp [hheld, hmirror])]

end Release

/-! ### A record on its way, with the ring off -/

section OnItsWay

variable {s : State} {n i : Nat} (hring : s.on R.LGR_CTL.RING_EN = false)
  (hout : ∀ r, r ∈ s.lgr.out → r.ring = false ∧ r.vsm = true)

/-- The entry of a record that is released, and the RECSEQ that it takes. -/
def State.recordLeave (s : State) (n i : Nat) : State :=
  (s.setEntry n i { s.entry i with released := true }).recseqTake (bytesNat (wordBytes (s.entry i).id) / 2 ^ 30 % 4)

/-- The record of an entry, as it leaves. -/
def State.itemRecord (s : State) (i : Nat) : LRec := s.recordMake (wordBytes (s.entry i).id) (itemBody (s.entry i)) (some i)

theorem State.setEntry_recordMake (s : State) (n i : Nat) (e : LEntry) (head body : List Byte) (entry : Option Nat) :
    (s.setEntry n i e).recordMake head body entry = s.recordMake head body entry := by
  have hctl : ∀ f : Field, f.addr = R.LGR_CTL.reg → (s.setEntry n i e).on f = s.on f := fun f hf =>
    State.on_of_rw (s.setEntry_rw_ledger n i e (by rw [hf]; decide))
  have hseq : (s.setEntry n i e).g R.LGR_RECSEQ.RECSEQ = s.g R.LGR_RECSEQ.RECSEQ :=
    State.g_of_rw (s.setEntry_rw_ledger n i e (by decide))
  simp only [State.recordMake, hctl R.LGR_CTL.RING_EN rfl, hctl R.LGR_CTL.VSM_EN rfl, hseq]

theorem State.setEntry_emitRecord (s : State) (n i : Nat) :
    (s.setEntry n i { s.entry i with released := true }).emitRecord (wordBytes (s.entry i).id) (itemBody (s.entry i)) (some i) =
      (s.recordLeave n i).recordSend (s.itemRecord i) := by
  rw [State.emitRecord_eq, State.setEntry_recordMake]
  rfl

theorem State.recordLeave_book (s : State) (n i : Nat) :
    (s.recordLeave n i).book = (s.book.1.set i { s.entry i with released := true }, s.book.2.1, s.book.2.2) := by
  rw [State.recordLeave, State.recseqTake_book, State.setEntry_book]

theorem State.recordLeave_recseq (s : State) (n i : Nat) :
    (s.recordLeave n i).g R.LGR_RECSEQ.RECSEQ = (s.g R.LGR_RECSEQ.RECSEQ + 1) % 4294967296 := by
  rw [State.recordLeave, State.recseqTake_recseq, State.g_of_rw (s.setEntry_rw_ledger n i _ (by decide))]

theorem State.recordLeave_unrep (s : State) (n i : Nat) : (s.recordLeave n i).g R.LGR_ERRCNT.UNREP = s.g R.LGR_ERRCNT.UNREP :=
  (State.g_of_rw (State.recseqTake_rw_other _ _ (by decide) (by decide) (by decide))).trans
    (State.g_of_rw (s.setEntry_rw_ledger n i _ (by decide)))

include hring hout

/-- RECSEQ counts and CLOSED is set, whatever path the record takes. -/
theorem State.recordSend_leave : ((s.recordLeave n i).recordSend (s.itemRecord i)).g R.LGR_RECSEQ.RECSEQ =
      (s.g R.LGR_RECSEQ.RECSEQ + 1) % 4294967296 ∧
    ((s.recordLeave n i).recordSend (s.itemRecord i)).on R.LGR_EVENTS.CLOSED = true := by
  have hwaits : ∀ r, r ∈ (s.recordLeave n i).lgr.out → r.ring = false ∧ r.vsm = true := by
    rw [State.out_eq_book, State.recordLeave_book]
    exact hout
  have hrw : ∀ f : Field, ledgerReg f.addr → f.addr ≠ R.LGR_ERRCNT.reg →
      ((s.recordLeave n i).recordSend (s.itemRecord i)).g f = (s.recordLeave n i).g f := fun f hf herr =>
    State.g_of_rw (State.recordSend_rw hring rfl hwaits hf herr)
  constructor
  · rw [hrw _ (by decide) (by decide), State.recordLeave_recseq]
  · rw [State.on, hrw _ (by decide) (by decide), State.recordLeave, State.recseqTake_closed]
    rfl

omit hout in
/-- Without a path the item's entry is free, its number leaves the stream, and UNREP counts. -/
theorem State.recordSend_leave_unreported (hvsm : s.on R.LGR_CTL.VSM_EN = false) :
    ((s.recordLeave n i).recordSend (s.itemRecord i)).book = (SMap.set (s.book.1.set i { s.entry i with released := true }) i {},
      s.book.2.1.set (idStream (s.entry i).id) ((s.stream (idStream (s.entry i).id)).reported (idSeq (s.entry i).id)), s.book.2.2) ∧
    ((s.recordLeave n i).recordSend (s.itemRecord i)).g R.LGR_ERRCNT.UNREP = min 65535 (s.g R.LGR_ERRCNT.UNREP + 1) := by
  rw [State.recordSend_unreported _ hring hvsm]
  have hbook : ((s.recordLeave n i).bump R.LGR_ERRCNT.UNREP 1).book =
      (s.book.1.set i { s.entry i with released := true }, s.book.2.1, s.book.2.2) :=
    (State.bump_book ..).trans (s.recordLeave_book n i)
  have hid : (((s.recordLeave n i).bump R.LGR_ERRCNT.UNREP 1).entry i).id = (s.entry i).id := by
    rw [State.entry_eq_book, hbook, SMap.get_set_same]
  constructor
  · rw [State.recordDone_book _ rfl, hid, hbook, State.stream_eq_book, hbook]
    rfl
  · rw [State.g_of_rw (State.recordDone_rw _ (i := i) rfl (by decide)), State.g_bump_same _ _ _ (by decide),
      State.recordLeave_unrep]
    rfl

/-- With the Vasum path alone the record waits for it, and its entry stays. -/
theorem State.recordSend_leave_vasum (hvsm : s.on R.LGR_CTL.VSM_EN = true) :
    ((s.recordLeave n i).recordSend (s.itemRecord i)).book =
      (s.book.1.set i { s.entry i with released := true }, s.book.2.1, s.book.2.2 ++ [s.itemRecord i]) := by
  rw [State.recordSend_vasum_book hring hvsm, State.recordLeave_book]
  rw [State.out_eq_book, State.recordLeave_book]
  exact hout

end OnItsWay

theorem LStream.reported_oldest (x : LStream) {k : Nat} {rest : List Nat} (h : x.items = k :: rest) :
    (x.reported k).items = rest.filter (· ≠ k) := by
  simp only [LStream.reported, h, ne_eq, not_true_eq_false, decide_false, Bool.false_eq_true, not_false_eq_true, List.filter_cons_of_neg]

/-- Settles O29: what the release does with the oldest item, and the two ways of a record with the ring off. -/
theorem recordsLeaveInOrder : Obligations.RecordsLeaveInOrder := by
  unfold Obligations.RecordsLeaveInOrder
  intro s n k i rest _
  refine ⟨rfl, s.recordRelease_idle n, fun hreports hworks hsuspects hitems hi hgood =>
    ⟨State.recordRelease_notDue hreports hworks hsuspects hitems hi hgood, fun hnew hheld hmirror hn hk _ hring hout => ?released⟩⟩
  refine ⟨(s.recordLeave n i).recordSend (s.itemRecord i), ?release, (State.recordSend_leave hring hout).1,
    (State.recordSend_leave hring hout).2, fun hvsm => ?unreported, fun hvsm => ?vasum⟩
  case release =>
    rw [State.recordRelease_held hreports hworks hsuspects hitems hi hgood hnew hheld hmirror, State.setEntry_emitRecord]
  case unreported =>
    obtain ⟨hbook, hunrep⟩ := State.recordSend_leave_unreported (n := n) (i := i) hring hvsm
    rw [State.entry_eq_book, State.stream_eq_book, State.out_eq_book, hbook, hn, hk]
    refine ⟨?_, ?_, rfl, hunrep⟩
    · rw [SMap.get_set_same]
      rfl
    · rw [SMap.get_set_same, LStream.reported_oldest _ hitems]
  case vasum =>
    have hbook := State.recordSend_leave_vasum (n := n) (i := i) hring hout hvsm
    rw [State.entry_eq_book, State.stream_eq_book, State.out_eq_book, hbook]
    simp only [SMap.get_set_same]
    refine ⟨hheld, trivial, hitems, ?_⟩
    rw [State.itemRecord, State.recordMake, hring, hvsm]
    rfl

end Sys2Proof.Machine

/-! The command stream of a configuration image (R193 to R200, R208), and O30. -/

namespace Sys2Proof.Machine

/-! ### The load channels -/

@[simp] theorem State.loadCh_setLoadCh (s : State) (n : Nat) (x : LoadCh) : (s.setLoadCh n x).loadCh n = x :=
  SMap.get_set_same ..

theorem LoadCh.ne_default {x : LoadCh} (h : x.busy = true) : x ≠ default := by
  rintro rfl
  exact Bool.noConfusion h

/-- Of two settings of a channel the second stays, when the first leaves it busy. -/
theorem State.setLoadCh_setLoadCh (s : State) (n : Nat) {x : LoadCh} (y : LoadCh) (h : x.busy = true) :
    (s.setLoadCh n x).setLoadCh n y = s.setLoadCh n y :=
  congrArg (fun ch => s.setCfg (fun c => { c with ch := ch })) (SMap.set_set s.cfg.ch n y (LoadCh.ne_default h))

/-! ### What follows a command -/

theorem State.loadGoOn_more (s : State) (n : Nat) {rest : List Byte} (h : rest ≠ []) :
    s.loadGoOn n rest = s.setLoadCh n { s.loadCh n with rest := rest } := by
  rw [State.loadGoOn, if_pos (by simpa using h)]

/-- A command that changes its busy channel to `x` leaves `x` with the stream after the command. -/
theorem State.setLoadCh_loadGoOn (s : State) (n : Nat) {x : LoadCh} {rest : List Byte} (hbusy : x.busy = true) (h : rest ≠ []) :
    (s.setLoadCh n x).loadGoOn n rest = s.setLoadCh n { x with rest := rest } := by
  rw [State.loadGoOn_more _ n h, State.loadCh_setLoadCh, State.setLoadCh_setLoadCh s n _ hbusy]

/-! ### The command that stands next -/

/-- Channel `n` is busy past its checks, and command `c` stands next in its stream with `rest` to come. -/
structure State.StandsNext (s : State) (n : Nat) (c : ImgCmd) (rest : List Byte) : Prop where
  busy : (s.loadCh n).busy = true
  checked : (s.loadCh n).waiting = false
  next : nextCmd (decide (fieldAt (s.loadCh n).hdr 6 1 = 1)) (s.loadCh n).rest = .inr (c, rest)

section Row

variable {s : State} {n op : Nat} {c : ImgCmd} {rest : List Byte} {act : State → ImgCmd → List Byte → State}

theorem State.StandsNext.loadRow_acts (h : s.StandsNext n c rest) (hop : c.op = op) : s.loadRow n op act = act s c rest := by
  simp only [State.loadRow, h.busy, h.checked, h.next, hop, Bool.not_true, Bool.or_self, Bool.false_eq_true, if_false, if_true]

/-- A row of Table 8.7 whose opcode stands next completes with what its action makes of the state. -/
theorem State.StandsNext.exec_row (h : s.StandsNext n c rest) {cmd : Instr}
    (hrow : exec cmd s = done (s.loadRow n op act).startSettle) (hop : c.op = op) {t : State} (hact : act s c rest = t) :
    exec cmd s = .next t.startSettle.signal := by
  rw [hrow, h.loadRow_acts hop, hact]
  rfl

end Row

/-! ### The commands -/

section Commands

variable {s : State} {n : Nat} {c : ImgCmd} {rest : List Byte}

/-- FRAME and BCAST are one action on the address set that the opcode gives (R198). -/
theorem State.StandsNext.exec_frames (h : s.StandsNext n c rest) (hop : c.op = 1 ∨ c.op = 2) {t : State}
    (hact : s.writeFrames n c (if c.op = 1 then some [c.addr] else bcastSet c.addr c.arg) rest = t) :
    (if c.op = 1 then exec (.frame n) s else exec (.bcast n) s) = .next t.startSettle.signal := by
  rcases hop with hop | hop
  · rw [if_pos hop] at hact ⊢
    exact h.exec_row rfl hop hact
  · rw [if_neg (by omega)] at hact ⊢
    exact h.exec_row rfl hop hact

variable {set : Option (List Nat)}

theorem State.writeFrames_refused {st : Nat} (hcheck : checkFrames (s.loadCh n) c set = .inl st) :
    s.writeFrames n c set rest = s.loadAbort n st := by
  rw [State.writeFrames, hcheck]

theorem State.writeFrames_written {l : List Nat} {d : List Byte} (hcheck : checkFrames (s.loadCh n) c set = .inr (l, d))
    (hrest : rest ≠ []) : s.writeFrames n c set rest =
      (({ s with fab := { s.fab with
          frames := l.foldl (fun m a => m.set a { data := d, check := c.fcheck }) s.fab.frames } } : State).put
        (R.CFG_CH_FRAMES.FRAMES n) (s.g (R.CFG_CH_FRAMES.FRAMES n) + l.length)).setLoadCh n { s.loadCh n with rest := rest } := by
  rw [State.writeFrames, hcheck]
  exact State.loadGoOn_more _ n hrest

/-- SUPFW whose check passes: its bytes in supervisor memory, and the channel marked (R194). -/
theorem State.supfw_stored (hbusy : (s.loadCh n).busy = true) (hcrc : crc32c c.payload = c.fcheck) (hrest : rest ≠ []) :
    s.supfw n c rest =
      (s.setCfg fun f => { f with
        supMem := (c.payload.zip (List.range c.stored)).foldl (fun m e => SMap.set m (c.addr + e.2) e.1) f.supMem }).setLoadCh n
          { s.loadCh n with sup := true, rest := rest } := by
  rw [State.supfw, if_neg (not_not_intro hcrc)]
  exact State.setLoadCh_loadGoOn (x := { s.loadCh n with sup := true }) _ n hbusy hrest

/-- The registers and values of a CSRW payload, in stream order (R199). -/
def ImgCmd.csrValues (c : ImgCmd) : List (Nat × Word) :=
  (List.range (c.stored / 4)).map (fun i => (c.addr + 4 * i, BitVec.ofNat 32 (fieldAt c.payload (4 * i) 4)))

theorem ImgCmd.csrValues_unbarred (h : ∀ i, i < c.stored / 4 → csrwBarred (c.addr + 4 * i) = false) :
    c.csrValues.any (fun e => csrwBarred e.1) = false := by
  simpa [ImgCmd.csrValues] using h

theorem State.csrw_held (hbusy : (s.loadCh n).busy = true) (hcrc : crc32c c.payload = c.fcheck) (haddr : c.addr < 0x1000000)
    (hopen : ∀ i, i < c.stored / 4 → csrwBarred (c.addr + 4 * i) = false) (hrest : rest ≠ []) :
    s.csrw n c rest = s.setLoadCh n { s.loadCh n with rest := rest, held := (s.loadCh n).held ++ c.csrValues } := by
  have hpass : ¬(0x1000000 ≤ c.addr || c.csrValues.any (fun e => csrwBarred e.1)) = true := by
    simpa [ImgCmd.csrValues_unbarred hopen] using haddr
  rw [State.csrw, if_neg (not_not_intro hcrc)]
  exact (if_neg hpass).trans
    (State.setLoadCh_loadGoOn (x := { s.loadCh n with held := (s.loadCh n).held ++ c.csrValues }) s n hbusy hrest)

theorem State.activate_named {g slot : Nat} (hbusy : (s.loadCh n).busy = true) (hg : g = c.addr / 0x100000 % 512)
    (hslot : slot = mapSlot (s.loadCh n).map (c.addr / 0x20000000)) (haddr : c.addr % 0x100000 = 0)
    (hin : (s.loadCh n).inSet g slot = true) (harg : c.arg ≤ 1)
    (hnew : ∀ a, a ∈ (s.loadCh n).acts → ¬(a.1 = c.arg ∧ a.2.1 = g)) (hrest : rest ≠ []) :
    s.activate n c rest = s.setLoadCh n { s.loadCh n with rest := rest, acts := (s.loadCh n).acts ++ [(c.arg, g, slot)] } := by
  subst hg hslot
  have hfirst : (s.loadCh n).acts.any (fun a => decide (a.1 = c.arg) && decide (a.2.1 = c.addr / 0x100000 % 512)) = false :=
    List.any_eq_false.2 fun a ha => by simpa using hnew a ha
  rw [State.activate, if_neg (not_not_intro haddr), if_neg (by simp [hin]), if_neg (by simp [hfirst, harg])]
  exact State.setLoadCh_loadGoOn
    (x := { s.loadCh n with acts := (s.loadCh n).acts ++ [(c.arg, c.addr / 0x100000 % 512, _)] }) s n hbusy hrest

/-- END in the last segment, with every frame of the slot set good: each slot takes its comparators, the image's tag, no error,
and PROOFED (R134, R194). -/
theorem State.endImage_proofed (hseg : (s.loadCh n).seg + 1 = imgSegs (s.loadCh n).hdr)
    (hsup : fieldAt (s.loadCh n).hdr 6 1 = 1 → (s.loadCh n).sup = true)
    (hgood : ∀ e, e ∈ s.fab.frames → (s.loadCh n).covers e.1 = true → e.2.good = true) :
    s.endImage n = ((s.loadCh n).slotSet.foldl (fun (t : State) e =>
      ((((t.loadComp e.1 e.2).put (R.CTX_SLOT_STATE.IMGTAG (e.1 * 8 + e.2)) (fieldAt (s.loadCh n).hdr 12 2)).put
        (R.CTX_SLOT_STATE.LASTERR (e.1 * 8 + e.2)) 0).setSlot e.1 e.2 slotPROOFED)) s).loadEnd n 0 := by
  have hread : ¬(s.fab.frames.any (fun e => (s.loadCh n).covers e.1 && !e.2.good)) = true := by
    simpa using fun k f hf => hgood (k, f) hf
  rw [State.endImage, if_neg (by simpa [hseg] using hsup), if_neg hread]

end Commands

/-- Settles O30: each row of the stream acts as its command stands next, by the case of the command that the premises name. -/
theorem imageCommands : Obligations.ImageCommands := by
  unfold Obligations.ImageCommands
  intro s n x c rest hx hbusy hchecked hnext
  subst hx
  have h : s.StandsNext n c rest := ⟨hbusy, hchecked, hnext⟩
  refine ⟨fun hop => h.exec_row rfl hop rfl, ?frames, ?supfw, ?csrw, ?activate, ?endCmd⟩
  case frames =>
    rintro hop set rfl
    exact ⟨fun st hcheck => h.exec_frames hop (State.writeFrames_refused hcheck),
      fun l d hcheck hrest => h.exec_frames hop (State.writeFrames_written hcheck hrest)⟩
  case supfw =>
    intro hop hcrc hrest
    have hexec := h.exec_row (cmd := .supfw n) rfl hop (State.supfw_stored hbusy hcrc hrest)
    exact ⟨_, hexec, rfl, State.loadCh_setLoadCh .., rfl, rfl⟩
  case csrw =>
    rintro hop hcrc haddr hrest hopen vals rfl
    exact h.exec_row rfl hop (State.csrw_held hbusy hcrc haddr hopen hrest)
  case activate =>
    exact fun g slot hop hg hslot haddr hin harg hnew hrest =>
      h.exec_row rfl hop (State.activate_named hbusy hg hslot haddr hin harg hnew hrest)
  case endCmd =>
    exact fun hop hseg hsup hgood => h.exec_row rfl hop (State.endImage_proofed hseg hsup hgood)

end Sys2Proof.Machine

/-! The requests that load and cancel images (R211 to R221), and O31. -/

namespace Sys2Proof.Machine

section LoadRequest

variable {s : State} {m : Nat}

/-! ### The source of a request (R212) -/

/-- The source can be read: HBM, or a port in no use whose flash was found. -/
def State.SourceReady (s : State) (src : Nat) : Prop :=
  src = 0 ∨ (s.portBusy (src - 1) = false ∧ (s.portMode (src - 1) = 1 ∨ s.portMode (src - 1) = 2))

theorem State.SourceReady.free {src : Nat} (h : s.SourceReady src) : (decide (src ≠ 0) && s.portBusy (src - 1)) = false := by
  rcases h with h | ⟨h, -⟩ <;> simp [h]

theorem State.SourceReady.usable {src : Nat} (h : s.SourceReady src) :
    (decide (src ≠ 0) && (decide (s.portMode (src - 1) = 0) || decide (s.portMode (src - 1) = 3))) = false := by
  rcases h with h | ⟨-, h | h⟩ <;> simp [h]

/-! ### LOAD (R211, R219, R220) -/

/-- The lowest-numbered free channel, if one is free. -/
def State.freeCh (s : State) : Option Nat := (List.range 4).find? fun n => !(s.loadCh n).busy

theorem State.freeCh_eq_none (h : ∀ n, n < 4 → (s.loadCh n).busy = true) : s.freeCh = none :=
  List.find?_eq_none.2 fun n hn => by simp [h n (List.mem_range.1 hn)]

theorem State.freeCh_eq_some {n : Nat} (hn : n < 4) (hfree : (s.loadCh n).busy = false)
    (hbelow : ∀ k, k < n → (s.loadCh k).busy = true) : s.freeCh = some n :=
  List.find?_range_eq_some.2 ⟨by simp [hfree], List.mem_range.2 hn, fun k hk => by simp [hbelow k hk]⟩

/-- The load that a LOAD request describes: its source with the base that belongs to it, and its slot map. -/
def State.loadAsked (s : State) (m : Nat) : LoadCh :=
  { mbx := some m, src := s.mbxArg m 0, base := if s.mbxArg m 0 = 0 then s.mbxAddr m 1 else s.mbxArg m 1
    map := if s.mbxArg m 3 = 0 then 0xFAC688 else s.mbxArg m 3 % 2 ^ 24 }

variable (hruns : s.mbxRuns m 0x20 = true)
include hruns

theorem State.loadRequest_badSource (h : 2 < s.mbxArg m 0) : s.loadRequest m = s.answerMbx m 0x41 0 0 := by
  simp only [State.loadRequest, hruns, h, Bool.not_true, Bool.false_eq_true, if_false, if_true]
  rfl

variable (hsrc : s.mbxArg m 0 ≤ 2)
include hsrc

theorem State.loadRequest_noChannel (h : s.freeCh = none) : s.loadRequest m = s.answerMbx m 0x40 0 0 := by
  simp only [State.freeCh] at h
  simp only [State.loadRequest, hruns, Nat.not_lt.2 hsrc, h, Bool.not_true, Bool.false_eq_true, if_false]

variable {n : Nat} (hch : s.freeCh = some n)
include hch

theorem State.loadRequest_portBusy (hport : s.mbxArg m 0 ≠ 0) (h : s.portBusy (s.mbxArg m 0 - 1) = true) :
    s.loadRequest m = s.answerMbx m 0x43 0 0 := by
  simp only [State.freeCh] at hch
  simp only [State.loadRequest, hruns, Nat.not_lt.2 hsrc, hch, h, hport, ne_eq, not_false_eq_true, decide_true, Bool.and_self,
    Bool.not_true, Bool.false_eq_true, if_false, if_true]

theorem State.loadRequest_taken (h : s.SourceReady (s.mbxArg m 0)) : s.loadRequest m = s.loadTake n (s.loadAsked m) := by
  simp only [State.freeCh] at hch
  simp only [State.loadRequest, hruns, Nat.not_lt.2 hsrc, hch, h.free, h.usable, Bool.not_true, Bool.false_eq_true, if_false]
  rfl

end LoadRequest

/-! ### CANCEL and INVALIDATE (R219, R221) -/

section CancelInvalidate

variable {s : State} {m : Nat}

theorem State.cancelRequest_channel (hruns : s.mbxRuns m 0x21 = true) (hn : s.mbxArg m 0 < 4) : s.cancelRequest m =
    (if (s.loadCh (s.mbxArg m 0)).busy then s.loadAbort (s.mbxArg m 0) 0x18 else s).answerMbx m 0 0 0 := by
  simp only [State.cancelRequest, hruns, Nat.not_le.2 hn, Bool.not_true, Bool.false_eq_true, if_false]
  rfl

variable (hruns : s.mbxRuns m 0x22 = true) (hg : s.mbxArg m 0 < 512)
include hruns hg

/-- One slot of the mask in use refuses the request for them all. -/
theorem State.invalidateRequest_inUse {c : Nat} (hc : c < 8) (hmask : (s.mbxArg m 1).testBit c = true)
    (huse : s.slotState (s.mbxArg m 0) c = slotACTIVE ∨ s.slotLocked (s.mbxArg m 0) c = true) :
    s.invalidateRequest m = s.answerMbx m 0x0A 0 0 := by
  have hany : (maskBits (s.mbxArg m 1) 8).any
      (fun c => decide (s.slotState (s.mbxArg m 0) c = slotACTIVE) || s.slotLocked (s.mbxArg m 0) c) = true :=
    List.any_eq_true.2 ⟨c, mem_maskBits.2 ⟨hc, hmask⟩, by simpa using huse⟩
  simp only [State.invalidateRequest, hruns, Nat.not_le.2 hg, hany, Bool.not_true, Bool.false_eq_true, if_false, if_true]
  rfl

theorem State.invalidateRequest_unused (hfree : ∀ c, c < 8 → (s.mbxArg m 1).testBit c = true →
      s.slotState (s.mbxArg m 0) c ≠ slotACTIVE ∧ s.slotLocked (s.mbxArg m 0) c = false)
    (hidle : ∀ n, n < 4 → (s.loadCh n).busy = false) :
    s.invalidateRequest m = (s.each (maskBits (s.mbxArg m 1) 8) (fun t c =>
      if t.slotState (s.mbxArg m 0) c = slotPROOFED then t.setSlot (s.mbxArg m 0) c slotINVALID else t)).answerMbx m 0 0 0 := by
  have hany : (maskBits (s.mbxArg m 1) 8).any
      (fun c => decide (s.slotState (s.mbxArg m 0) c = slotACTIVE) || s.slotLocked (s.mbxArg m 0) c) = false :=
    List.any_eq_false.2 fun c hc => by
      obtain ⟨hlt, hbit⟩ := mem_maskBits.1 hc
      simp [hfree c hlt hbit]
  have hloads : ∀ p : State → Nat → Bool, s.each (List.range 4) (fun t n =>
      if (t.loadCh n).busy && !(t.loadCh n).waiting && p t n then t.loadAbort n ldCANCEL else t) = s := by
    intro p
    simp [State.each, List.range_succ, hidle]
  simp only [State.invalidateRequest, hruns, Nat.not_le.2 hg, hany, hloads, Bool.not_true, Bool.false_eq_true, if_false]

end CancelInvalidate

/-! ### CFG_RECLAIM (R215) -/

theorem State.cfgReclaim_single {s : State} {n : Nat} (hn : n < 4) (hbusy : (s.loadCh n).busy = true) :
    s.cfgReclaim (2 ^ n) = (s.loadAbort n 0x17).raise R.CFG_EVENTS.RECLAIMED := by
  rw [State.cfgReclaim, maskBits_two_pow hn]
  exact if_pos hbusy

/-- Settles O31: each request by the lemma of the case that its premises name. -/
theorem loadRequests : Obligations.LoadRequests := by
  unfold Obligations.LoadRequests
  refine fun s m => ⟨fun hruns => ?load, fun hruns hn => ?cancel, fun hruns hg => ?invalidate, fun n hn hbusy => ?reclaim⟩
  case load =>
    have hexec : exec (.load m) s = .next (s.loadRequest m).signal := rfl
    rw [hexec]
    refine ⟨fun h => by rw [State.loadRequest_badSource hruns h],
      fun hsrc h => by rw [State.loadRequest_noChannel hruns hsrc (State.freeCh_eq_none h)], fun n hn hfree hbelow => ?_⟩
    have hch := State.freeCh_eq_some hn hfree hbelow
    refine ⟨fun hport h => ?_, fun hport hidle hmode => ?_, fun hhbm => ?_⟩
    · rw [State.loadRequest_portBusy hruns (by omega) hch (by omega) h]
    · rw [State.loadRequest_taken hruns (by omega) hch (.inr ⟨hidle, hmode⟩), State.loadAsked, if_neg (by omega)]
    · rw [State.loadRequest_taken hruns (by omega) hch (.inl hhbm), State.loadAsked, if_pos hhbm, hhbm]
  case cancel =>
    have hexec : exec (.cancel m) s = .next (s.cancelRequest m).startSettle.signal := rfl
    rw [hexec, State.cancelRequest_channel hruns hn]
    exact ⟨fun h => by rw [if_pos h], fun h => by rw [if_neg (by simp [h])]⟩
  case invalidate =>
    have hexec : exec (.invalidate m) s = .next (s.invalidateRequest m).startSettle.signal := rfl
    rw [hexec]
    exact ⟨fun c hc hmask huse => by rw [State.invalidateRequest_inUse hruns hg hc hmask huse],
      fun hfree hidle => by rw [State.invalidateRequest_unused hruns hg hfree hidle]⟩
  case reclaim =>
    have hexec : exec (.cfgReclaim .super (2 ^ n)) s = .next (((s.cfgReclaim (2 ^ n)).startSettle).answerWith stOK []).signal := rfl
    rw [hexec, State.cfgReclaim_single hn hbusy]

end Sys2Proof.Machine

/-! SWITCH, MAP and the flash requests (R216, R218, R222, R231, R232), and O35. -/

namespace Sys2Proof.Machine

/-! ### SWITCH requests that wait for their groups (R219, R222) -/

/-- Has every group of the request switched or been refused? -/
def SwReq.settled (r : SwReq) : Bool := decide (r.wait = 0) && decide (r.posted = 0)

theorem SwReq.settled_eq_false {r : SwReq} (h : ¬ (r.wait = 0 ∧ r.posted = 0)) : r.settled = false :=
  Bool.eq_false_iff.2 (by simpa [SwReq.settled] using h)

/-- The state with other SWITCH requests waiting. -/
def State.setReqs (s : State) (l : List SwReq) : State := s.setCfg fun c => { c with swReqs := l }

@[simp] theorem State.setReqs_swReqs (s : State) (l : List SwReq) : (s.setReqs l).cfg.swReqs = l := rfl

theorem State.swSettle_eq (s : State) : s.swSettle = (s.cfg.swReqs.filter SwReq.settled).foldl
    (fun t r => t.answerMbx r.mbx (if r.noten then 0x42 else 0) r.switched r.refused)
    (s.setReqs (s.cfg.swReqs.filter fun r => !r.settled)) := rfl

theorem State.swSettle_unsettled {s : State} (h : ∀ r ∈ s.cfg.swReqs, r.settled = false) : s.swSettle = s := by
  have hready : s.cfg.swReqs.filter SwReq.settled = [] := List.filter_eq_nil_iff.2 fun r hr => by simp [h r hr]
  have hkept : s.cfg.swReqs.filter (fun r => !r.settled) = s.cfg.swReqs := List.filter_eq_self.2 fun r hr => by simp [h r hr]
  rw [State.swSettle_eq, hready, hkept]
  rfl

/-- The last request of the list, settled behind others that are not, leaves the list and is answered. -/
theorem State.swSettle_last (s : State) {l : List SwReq} {q : SwReq} (hl : ∀ r ∈ l, r.settled = false) (hq : q.settled = true) :
    (s.setReqs (l ++ [q])).swSettle =
      (s.setReqs l).answerMbx q.mbx (if q.noten then 0x42 else 0) q.switched q.refused := by
  have hready : (l ++ [q]).filter SwReq.settled = [q] := by
    rw [List.filter_append, List.filter_eq_nil_iff.2 fun r hr => by simp [hl r hr]]
    simp [hq]
  have hkept : (l ++ [q]).filter (fun r => !r.settled) = l := by
    rw [List.filter_append, List.filter_eq_self.2 fun r hr => by simp [hl r hr]]
    simp [hq]
  rw [State.swSettle_eq, State.setReqs_swReqs, hready, hkept]
  rfl

theorem State.setCfg_map_swReqs {s : State} {l : List SwReq} (h : s.cfg.swReqs = l) (f : SwReq → SwReq) :
    s.setCfg (fun c => { c with swReqs := c.swReqs.map f }) = s.setReqs (l.map f) := by
  subst h
  rfl

section OneRequest

variable {s : State} {n : Nat} {r : SwReq} (hreqs : s.cfg.swReqs = [r])
include hreqs

theorem State.swTaken_single {now : Nat} (hposted : r.posted = 2 ^ n) (hfrom : r.from_ ≤ now) (ok : Bool) :
    s.swTaken n now ok = (s.setReqs [{ r with posted := 0, wait := if ok then r.wait + 2 ^ n else r.wait
                                              refused := if ok then r.refused else r.refused + 2 ^ n }]).swSettle := by
  rw [State.swTaken, State.setCfg_map_swReqs hreqs]
  simp [hposted, hfrom]

theorem State.swDone_single (hwait : r.wait = 2 ^ n) (ok : Bool) :
    s.swDone n ok = (s.setReqs [{ r with wait := 0, switched := if ok then r.switched + 2 ^ n else r.switched
                                         refused := if ok then r.refused else r.refused + 2 ^ n }]).swSettle := by
  rw [State.swDone, State.setCfg_map_swReqs hreqs]
  simp [hwait]

end OneRequest

section SwitchRequest

variable {s : State} {m n : Nat} (sub : Nat) (hruns : s.mbxRuns m 0x23 = true) (hmask : s.mbxArg m 0 = 2 ^ n) (hn : n < 32)

theorem State.ctxSwitch_two_pow (s : State) (hn : n < 32) : s.ctxSwitch (2 ^ n) sub =
    if s.on (R.CTX_SG_CFG.EN_REG n) then s.sgPost n (s.instant (sub + 8000)) else s := by
  rw [State.ctxSwitch, maskBits_two_pow hn]
  rfl

include hruns hmask hn

/-- SWITCH of one group: a request that waits for the trigger, or one refused with NOTEN. -/
theorem State.switchRequest_single : s.switchRequest m sub =
    ((s.setReqs (s.cfg.swReqs ++ [if s.on (R.CTX_SG_CFG.EN_REG n)
        then { mbx := m, posted := 2 ^ n, from_ := s.instant (sub + 8000) }
        else { mbx := m, from_ := s.instant (sub + 8000), refused := 2 ^ n, noten := true }])).ctxSwitch (2 ^ n) sub).swSettle := by
  have harg : ∀ f, (s.setCfg f).mbxArg m 0 = 2 ^ n := fun _ => hmask
  simp only [State.switchRequest, hruns, hmask, harg, maskBits_two_pow hn, Bool.not_true, Bool.false_eq_true, if_false]
  cases hen : s.on (R.CTX_SG_CFG.EN_REG n) <;> simp [hen] <;> rfl

theorem State.switchRequest_notEnabled (hwait : ∀ r ∈ s.cfg.swReqs, r.settled = false) (hen : s.on (R.CTX_SG_CFG.EN_REG n) = false) :
    s.switchRequest m sub = s.answerMbx m 0x42 0 (2 ^ n) := by
  rw [State.switchRequest_single sub hruns hmask hn, State.ctxSwitch_two_pow sub _ hn, if_neg (by simp [State.setReqs, hen]), hen]
  exact s.swSettle_last hwait rfl

theorem State.switchRequest_enabled (hen : s.on (R.CTX_SG_CFG.EN_REG n) = true) : s.switchRequest m sub =
    ((s.setReqs (s.cfg.swReqs ++ [{ mbx := m, posted := 2 ^ n, from_ := s.instant (sub + 8000) }])).sgPost n
      (s.instant (sub + 8000))).swSettle := by
  rw [State.switchRequest_single sub hruns hmask hn, State.ctxSwitch_two_pow sub _ hn, if_pos (by simpa [State.setReqs] using hen),
    hen]
  rfl

end SwitchRequest

/-! ### MAP (R231, R232, Table 9.6) -/

/-- The regions that a map's header names. -/
def mapRegions (h : List Byte) : List Nat := (List.range (fieldAt h 8 2)).map (fieldAt h 6 2 + ·)

/-- Does slot `c` of a region hold the image that the header's tag names? -/
def State.mapFits (s : State) (c : Nat) (h : List Byte) : Nat → Bool := fun g =>
  decide (g < 512) && (decide (s.slotState g c = slotPROOFED) || decide (s.slotState g c = slotACTIVE))
    && decide (s.g (R.CTX_SLOT_STATE.IMGTAG (g * 8 + c)) = fieldAt h 4 2)

/-- The header is no map's, or does not fit the slots. -/
def State.mapRefuses (s : State) (c : Nat) (h : List Byte) : Bool :=
  decide (fieldAt h 0 4 ≠ 0x4D454854) || decide (fieldAt h 8 2 = 0) || decide (512 < fieldAt h 8 2) || !(mapRegions h).all (s.mapFits c h)

theorem State.mapRefuses_iff (s : State) (c : Nat) (h : List Byte) : s.mapRefuses c h = true ↔
    fieldAt h 0 4 ≠ 0x4D454854 ∨ fieldAt h 8 2 = 0 ∨ 512 < fieldAt h 8 2 ∨
      ∃ k, k < fieldAt h 8 2 ∧ s.mapFits c h (fieldAt h 6 2 + k) = false := by
  simp [State.mapRefuses, mapRegions, or_assoc]

/-- The valid bits of the map's regions made `b`. -/
def State.mapValid (t : State) (c : Nat) (h : List Byte) (b : Bool) : State :=
  t.each (mapRegions h) fun t g => t.putBit (R.UPS_MAPVALID.VALID ((g * 8 + c) / 32)) ((g * 8 + c) % 32) b

/-- What MAP does once its header fits: the valid bits go, and come back when data of the right digest has been written. -/
def State.mapLoad (r : State) (m src base c : Nat) (h : List Byte) : State :=
  let d := (r.mapValid c h false).imgRead src (base + 16) (fieldAt h 8 2 * 0x8000)
  match d.2 with
  | .inl _ => d.1.answerMbx m ldSOURCE 0 0
  | .inr l =>
    if crc32c l ≠ BitVec.ofNat 32 (fieldAt h 12 4) then d.1.answerMbx m 0x45 0 0
    else
      let w := d.1.writeAt iniSuper (mapBase (fieldAt h 6 2) c) l
      if w.2 then (w.1.mapValid c h true).answerMbx m 0 0 0 else w.1.answerMbx m ldSOURCE 0 0

section MapRequest

variable {s : State} {m src base c : Nat} (hruns : s.mbxRuns m 0x24 = true) (hsrc : src = s.mbxArg m 0)
include hruns hsrc

theorem State.mapRequest_badSource (h : 2 < src) : s.mapRequest m = s.answerMbx m 0x41 0 0 := by
  subst hsrc
  simp only [State.mapRequest, hruns, h, Bool.not_true, Bool.false_eq_true, if_false, if_true]
  rfl

theorem State.mapRequest_portBusy (hport : src = 1 ∨ src = 2) (h : s.portBusy (src - 1) = true) :
    s.mapRequest m = s.answerMbx m 0x43 0 0 := by
  subst hsrc
  have hle : ¬ 2 < s.mbxArg m 0 := by omega
  have hne : s.mbxArg m 0 ≠ 0 := by omega
  simp only [State.mapRequest, hruns, hle, hne, h, ne_eq, not_false_eq_true, decide_true, Bool.and_self, Bool.not_true,
    Bool.false_eq_true, if_false, if_true]

theorem State.mapRequest_header (hbase : base = if src = 0 then s.mbxAddr m 1 else s.mbxArg m 1) (hc : c = s.mbxArg m 3 % 8)
    (hle : src ≤ 2) (hready : s.SourceReady src) {r : State} {h : List Byte} (hread : s.imgRead src base 16 = (r, .inr h)) :
    s.mapRequest m = if s.mapRefuses c h then r.answerMbx m 0x44 0 0 else r.mapLoad m src base c h := by
  subst hsrc hbase hc
  simp only [State.mapRequest, hruns, Nat.not_lt.2 hle, hready.free, hready.usable, hread, Bool.not_true, Bool.false_eq_true, if_false]
  rfl

end MapRequest

section MapLoad

variable {r d : State} {src base c : Nat} {h : List Byte} (m : Nat) {rd : Nat ⊕ List Byte}
  (hdata : (r.mapValid c h false).imgRead src (base + 16) (fieldAt h 8 2 * 0x8000) = (d, rd))
include hdata

theorem State.mapLoad_unread {e : Nat} (hrd : rd = .inl e) : r.mapLoad m src base c h = d.answerMbx m ldSOURCE 0 0 := by
  simp only [State.mapLoad, hdata, hrd]

theorem State.mapLoad_read {l : List Byte} (hrd : rd = .inr l) {w : State × Bool}
    (hw : w = d.writeAt iniSuper (mapBase (fieldAt h 6 2) c) l) : r.mapLoad m src base c h =
      if crc32c l ≠ BitVec.ofNat 32 (fieldAt h 12 4) then d.answerMbx m 0x45 0 0
      else if w.2 then (w.1.mapValid c h true).answerMbx m 0 0 0 else w.1.answerMbx m ldSOURCE 0 0 := by
  simp only [State.mapLoad, hdata, hrd, hw]

end MapLoad

/-! ### FLASHPROG and FLASHERASE (R216, R218) -/

section FlashRequest

variable {s : State} {m code unit : Nat} {start : State → Nat → State} (hruns : s.mbxRuns m code = true)
include hruns

theorem State.flashRequest_badArgs (h : 1 < s.mbxArg m 0 ∨ s.mbxArg m 1 % unit ≠ 0 ∨ s.portMode (s.mbxArg m 0) = 0) :
    s.flashRequest m code unit start = s.answerMbx m 0x41 0 0 := by
  have hbad : (decide (1 < s.mbxArg m 0) || decide (s.mbxArg m 1 % unit ≠ 0) || decide (s.portMode (s.mbxArg m 0) = 0)) = true := by
    simpa [or_assoc] using h
  simp only [State.flashRequest, hruns, hbad, Bool.not_true, Bool.false_eq_true, if_false, if_true]
  rfl

variable (hport : s.mbxArg m 0 ≤ 1) (hunit : s.mbxArg m 1 % unit = 0)
include hport hunit

theorem State.flashRequest_goodArgs (hmode : s.portMode (s.mbxArg m 0) ≠ 0) : s.flashRequest m code unit start =
    if s.portBusy (s.mbxArg m 0) then s.answerMbx m 0x43 0 0
    else if s.portMode (s.mbxArg m 0) = 3 then (s.raise R.CFG_EVENTS.FLASHERR).answerMbx m 0x46 0 0 else start s (s.mbxArg m 0) := by
  simp only [State.flashRequest, hruns, Nat.not_lt.2 hport, hunit, hmode, ne_eq, not_true_eq_false, decide_false, Bool.or_self,
    Bool.not_true, Bool.false_eq_true, if_false]

theorem State.flashRequest_started (hmode : s.portMode (s.mbxArg m 0) = 1 ∨ s.portMode (s.mbxArg m 0) = 2)
    (hidle : s.portBusy (s.mbxArg m 0) = false) : s.flashRequest m code unit start = start s (s.mbxArg m 0) := by
  rw [State.flashRequest_goodArgs hruns hport hunit (by omega), if_neg (by simp [hidle]), if_neg (by omega)]

end FlashRequest

/-- What a flash request that is taken sends: Write Enable, Page Program of the page read or Erase 64 KiB, and the polling. -/
def State.flashStart (m : Nat) (erase : Bool) (s : State) (p : Nat) : State :=
  if erase then
    (s.flashSend p (s.flashCmd p 0x06 ++ s.flashCmd p 0xDC ++ s.flashCmd p 0x05)).setCfg fun c =>
      { c with ops := c.ops.ins p { mbx := m, erase := true, offset := s.mbxArg m 1 } }
  else
    let r := s.readAt iniConfig (s.mbxAddr m 2) 256
    match r.2 with
    | none => r.1.answerMbx m ldSOURCE 0 0
    | some l =>
      (r.1.flashSend p (r.1.flashCmd p 0x06 ++ r.1.flashCmd p 0x12 ++ r.1.flashCmd p 0x05)).setCfg fun c =>
        { c with ops := c.ops.ins p { mbx := m, offset := s.mbxArg m 1, data := l } }

/-- FLASHPROG and FLASHERASE are one request, of a page or of a sector. -/
theorem exec_flash (s : State) (m : Nat) (erase : Bool) :
    (if erase then exec (.flasherase m) s else exec (.flashprog m) s) = .next (s.flashRequest m (if erase then 0x26 else 0x25)
      (if erase then 65536 else 256) (State.flashStart m erase)).signal := by
  cases erase <;> rfl

/-! ### The end of a flash operation (R218) -/

/-- A view that a byte written leaves alone, bytes written leave alone. -/
theorem State.setBytes_keeps {β : Type} (p : State → β) (h : ∀ t a b, p (State.setByte t a b) = p t) (s : State) (a : Nat)
    (l : List Byte) : p (s.setBytes a l) = p s := by
  induction l generalizing s a with
  | nil => rfl
  | cons b l ih => exact (ih _ _).trans (h s a b)

theorem State.scramble_keeps {β : Type} (p : State → β) (h : ∀ t a b, p (State.setByte t a b) = p t)
    (hfree : ∀ t : State, p t.free.2 = p t) (s : State) (a n : Nat) : p (s.scramble a n) = p s := by
  induction n generalizing s a with
  | zero => rfl
  | succ n ih => exact (ih _ _).trans ((h _ _ _).trans (hfree s))

theorem State.byte_scramble_other (s : State) {a n b : Nat} (h : b < a ∨ a + n ≤ b) : (s.scramble a n).byte b = s.byte b := by
  induction n generalizing s a with
  | zero => rfl
  | succ n ih => exact (ih _ (by omega)).trans (State.byte_setByte_other s.free.2 _ (by omega))

theorem State.length_bytes (s : State) (a n : Nat) : (s.bytes a n).length = n := by
  induction n generalizing a with
  | zero => rfl
  | succ n ih => exact congrArg (· + 1) (ih (a + 1))

theorem State.getElem_bytes (s : State) (a : Nat) {n i : Nat} (h : i < (s.bytes a n).length) : (s.bytes a n)[i] = s.byte (a + i) := by
  induction n generalizing a i with
  | zero => exact absurd h (Nat.not_lt_zero i)
  | succ n ih =>
    cases i with
    | zero => rfl
    | succ i => exact (ih (a + 1) (Nat.lt_of_succ_lt_succ h)).trans (congrArg s.byte (by omega))

theorem State.byte_setBytes_inside (s : State) (a : Nat) {l : List Byte} {i : Nat} (h : i < l.length) :
    (s.setBytes a l).byte (a + i) = l[i] := by
  rw [← State.getElem_bytes (n := l.length) _ a (by rwa [State.length_bytes])]
  exact List.getElem_of_eq (s.bytes_setBytes a l) _

theorem State.byte_forget_other (s : State) (u : Nat) {a : Nat} (h : memUnit a ≠ u) : (s.forget u).byte a = s.byte a :=
  s.byte_refill_other u (s.epoch + 3) h

/-- A key that is not kept is not listed. -/
theorem SMap.find_keep_out {α : Type} (m : SMap α) {p : Nat → Bool} {k : Nat} (h : p k = false) :
    SMap.find (SMap.keep m p) k = none := by
  induction m with
  | nil => rfl
  | cons e t ih =>
    simp only [SMap.keep, List.filter_cons] at *
    split
    case isTrue hp =>
      have hne : e.1 ≠ k := fun he => Bool.false_ne_true (h.symm.trans (he ▸ hp))
      rw [SMap.find, if_neg hne, ih]
    case isFalse => exact ih

/-- A filled unit reads as its filling. -/
theorem State.byte_refill_ones (s : State) {u a : Nat} (h : memUnit a = u) : (s.refill u 2).byte a = 0xFF#8 := by
  have hmem : SMap.find (s.refill u 2).mem a = none :=
    SMap.find_keep_out (p := fun b => decide (memUnit b ≠ u)) s.mem (by simp [h])
  have hfill : (s.refill u 2).unlisted a = some 0xFF#8 := by
    simp only [State.unlisted, State.refill, h, SMap.get_set_same]
  simp only [State.byte, hmem, hfill]

/-- The bytes that an operation on a port's flash leaves: the old ones AND the new, or ones; open ones where it failed. -/
def State.flashLeft (s : State) (p : Nat) (o : FlashOp) (ok : Bool) : State :=
  let t := s.setCfg fun c => { c with ops := c.ops.del p }
  let a := flashAddr p o.offset
  if ok then
    if o.erase then t.refill (memUnit a) 2 else t.setBytes a ((o.data.zip (t.bytes a 256)).map fun x => x.1 &&& x.2)
  else if o.erase then t.forget (memUnit a) else t.scramble a 256

section FlashEnd

variable (s : State) (p : Nat) (o : FlashOp)

theorem State.flashEnd_found {s : State} {p : Nat} {o : FlashOp} (h : s.cfg.ops.find p = some o) (ok : Bool) : s.flashEnd p ok =
    if ok then (s.flashLeft p o true).answerMbx o.mbx 0 0 0
    else ((s.flashLeft p o false).raise R.CFG_EVENTS.FLASHERR).answerMbx o.mbx 0x46 0 0 := by
  simp only [State.flashEnd, h]
  rfl

/-- Of what is not memory only the operation itself goes. -/
theorem State.flashLeft_keeps {β : Type} (v : State → β) (hbyte : ∀ t a b, v (State.setByte t a b) = v t)
    (hfree : ∀ t : State, v t.free.2 = v t) (hfill : ∀ t u f, v (State.refill t u f) = v t)
    (hforget : ∀ t u, v (State.forget t u) = v t) (ok : Bool) :
    v (s.flashLeft p o ok) = v (s.setCfg fun c => { c with ops := c.ops.del p }) := by
  cases ok <;> cases herase : o.erase <;> simp only [State.flashLeft, herase, Bool.false_eq_true, if_false, if_true]
  · exact State.scramble_keeps v hbyte hfree _ _ _
  · exact hforget _ _
  · exact State.setBytes_keeps v hbyte _ _ _
  · exact hfill _ _ _

theorem State.flashLeft_csr (ok : Bool) : (s.flashLeft p o ok).csr = s.csr :=
  s.flashLeft_keeps p o State.csr (fun _ _ _ => rfl) (fun _ => rfl) (fun _ _ _ => rfl) (fun _ _ => rfl) ok

theorem State.flashLeft_ops (ok : Bool) : (s.flashLeft p o ok).cfg.ops = s.cfg.ops.del p :=
  s.flashLeft_keeps p o (fun t => t.cfg.ops) (fun _ _ _ => rfl) (fun _ => rfl) (fun _ _ _ => rfl) (fun _ _ => rfl) ok

variable {o}

theorem State.flashLeft_programmed (herase : o.erase = false) (hlen : o.data.length = 256) {i : Nat} (hi : i < 256) :
    (s.flashLeft p o true).byte (flashAddr p o.offset + i) = o.data.getD i 0#8 &&& s.byte (flashAddr p o.offset + i) := by
  simp only [State.flashLeft, herase, Bool.false_eq_true, if_false, if_true]
  rw [State.byte_setBytes_inside _ _ (by simpa [State.length_bytes, hlen] using hi), List.getElem_map, List.getElem_zip,
    State.getElem_bytes, List.getD_eq_getElem _ _ (hlen ▸ hi), State.setCfg_byte]

theorem State.flashLeft_outsidePage (herase : o.erase = false) (ok : Bool) (hlen : ok = true → o.data.length = 256) {b : Nat}
    (hb : b < flashAddr p o.offset ∨ flashAddr p o.offset + 256 ≤ b) : (s.flashLeft p o ok).byte b = s.byte b := by
  cases ok with
  | false =>
    simp only [State.flashLeft, herase, Bool.false_eq_true, if_false]
    rw [State.byte_scramble_other _ hb, State.setCfg_byte]
  | true =>
    simp only [State.flashLeft, herase, Bool.false_eq_true, if_false, if_true]
    rw [State.byte_setBytes_other _ _ _ (by simpa [State.length_bytes, hlen rfl] using hb), State.setCfg_byte]

theorem State.flashLeft_erased (herase : o.erase = true) {b : Nat} (hb : memUnit b = memUnit (flashAddr p o.offset)) :
    (s.flashLeft p o true).byte b = 0xFF#8 := by
  rw [State.flashLeft, if_pos rfl, herase, if_pos rfl, State.byte_refill_ones _ hb]

theorem State.flashLeft_otherUnits (herase : o.erase = true) (ok : Bool) {b : Nat}
    (hb : memUnit b ≠ memUnit (flashAddr p o.offset)) : (s.flashLeft p o ok).byte b = s.byte b := by
  cases ok with
  | false =>
    simp only [State.flashLeft, herase, Bool.false_eq_true, if_false, if_true]
    exact State.byte_forget_other _ _ hb
  | true =>
    simp only [State.flashLeft, herase, if_true]
    exact State.byte_refill_other _ _ _ hb

end FlashEnd

/-- Settles O35: SWITCH by the request that it leaves waiting, MAP by what its header and its data read as, the flash requests by the
cases of `flashRequest`, and the end of an operation by what `flashLeft` leaves. -/
theorem flashAndMapRequests : Obligations.FlashAndMapRequests := by
  unfold Obligations.FlashAndMapRequests
  refine ⟨?switch, ?taken, ?done, ?map, ?flash, ?idle, ?ended⟩
  case switch =>
    intro s m n sub hruns hmask hn hwait
    have hexec : exec (.switch m sub) s = .next (s.switchRequest m sub).signal := rfl
    rw [hexec]
    exact ⟨fun hen => by rw [State.switchRequest_notEnabled sub hruns hmask hn (fun r hr => SwReq.settled_eq_false (hwait r hr)) hen],
      fun hen => by rw [State.switchRequest_enabled sub hruns hmask hn hen]; rfl⟩
  case taken =>
    intro s n now r _ hreqs hposted hwait hfrom
    rw [State.swTaken_single hreqs hposted hfrom, State.swTaken_single hreqs hposted hfrom, hwait]
    refine ⟨(State.swSettle_unsettled ?_).trans (by simp [State.setReqs]), s.swSettle_last (l := []) (by simp) rfl⟩
    simp [SwReq.settled]
  case done =>
    intro s n r ok _ hreqs hposted hwait
    rw [State.swDone_single hreqs hwait]
    exact s.swSettle_last (l := []) (by simp) (by simp [SwReq.settled, hposted])
  case map =>
    intro s m src base c hruns hsrc hbase hc
    have hexec : exec (.map m) s = .next (s.mapRequest m).signal := rfl
    rw [hexec]
    refine ⟨fun h => by rw [State.mapRequest_badSource hruns hsrc h],
      fun hport h => by rw [State.mapRequest_portBusy hruns hsrc hport h], ?_⟩
    intro r h first count fits hle hready hread hfirst hcount hfits
    obtain rfl : fits = s.mapFits c h := funext fun g => Bool.eq_iff_iff.2 ((hfits g).trans (by simp [State.mapFits, and_assoc]))
    subst hfirst hcount
    rw [State.mapRequest_header hruns hsrc hbase hc hle hready hread]
    refine ⟨fun href => by rw [if_pos ((s.mapRefuses_iff c h).2 href)], fun d valid rd hmagic hsome hmany hall hvalid hdata => ?_⟩
    obtain rfl : valid = fun t b => t.mapValid c h b := funext fun t => funext fun b => hvalid t b
    have hfit : ¬ s.mapRefuses c h = true := by
      rw [State.mapRefuses_iff]
      rintro (hno | hzero | hover | ⟨k, hk, hunfit⟩)
      · exact hno hmagic
      · exact hsome hzero
      · exact hover.not_ge hmany
      · exact Bool.false_ne_true (hunfit.symm.trans (hall k hk))
    rw [if_neg hfit]
    refine ⟨fun e hrd => by rw [State.mapLoad_unread m hdata hrd], fun l w hrd hw => ?_⟩
    rw [State.mapLoad_read m hdata hrd hw]
    split_ifs <;> rfl
  case flash =>
    intro s m p erase hruns hp
    subst hp
    have hexec := exec_flash s m erase
    rw [hexec]
    refine ⟨fun h => by rw [State.flashRequest_badArgs hruns h], fun hport hunit hmode hbusy => ?_,
      fun hport hunit hmode hidle => ?_, fun hport hunit hmode hidle => ?_⟩
    · rw [State.flashRequest_goodArgs hruns hport hunit hmode, if_pos hbusy]
    · rw [State.flashRequest_goodArgs hruns hport hunit (by omega), if_neg (by simp [hidle]), if_pos hmode]
    · rw [State.flashRequest_started hruns hport hunit hmode hidle] at hexec
      refine ⟨fun herase => ?_, fun r l herase hread => ?_, fun r herase hread => ?_⟩ <;> subst herase
      · exact hexec
      · simp only [State.flashStart, hread, Bool.false_eq_true, if_false] at hexec
        exact hexec
      · simp only [State.flashStart, hread, Bool.false_eq_true, if_false] at hexec
        exact hexec
  case idle =>
    intro s p h
    have hend : ∀ ok, s.flashEnd p ok = s := fun ok => by simp only [State.flashEnd, h]
    exact ⟨fun ok => congrArg done (hend ok), congrArg done (hend false)⟩
  case ended =>
    intro s p a o hop ha
    subst ha
    refine ⟨⟨s.flashLeft p o true, congrArg done (State.flashEnd_found hop true), s.flashLeft_csr p o true, s.flashLeft_ops p o true,
        fun herase hlen => ⟨fun i hi => s.flashLeft_programmed p herase hlen hi,
          fun b hb => s.flashLeft_outsidePage p herase true (fun _ => hlen) hb⟩,
        fun herase => ⟨fun b hb => s.flashLeft_erased p herase hb, fun b hb => s.flashLeft_otherUnits p herase true hb⟩⟩,
      ⟨s.flashLeft p o false, congrArg done (State.flashEnd_found hop false), rfl, s.flashLeft_csr p o false, s.flashLeft_ops p o false,
        fun herase b hb => s.flashLeft_outsidePage p herase false (by simp) hb,
        fun herase b hb => s.flashLeft_otherUnits p herase false hb⟩⟩

end Sys2Proof.Machine

/-! The upset scrubber (R223 to R233) and what an upset strikes (R15, R226), and O36. -/

namespace Sys2Proof.Machine

/-! ### Passes (R223, R224) -/

section Pass

variable {s : State} {g : Nat}

theorem State.passStart_begins (hwatch : s.scrubs g = true) (hsw : s.switching g = false) (hpos : (s.scrub g).pos = none) :
    s.passStart g = (s.setScrub g { s.scrub g with pos := some 0, clean := true, began := s.plantNs.toNat }).putB
      (R.UPS_REGION_STATUS.SCRUBBING g) true := by
  rw [State.passStart, if_pos (by simp [hwatch, hsw, hpos])]

theorem State.passStart_idle (h : s.scrubs g = false ∨ s.switching g = true ∨ (s.scrub g).pos ≠ none) : s.passStart g = s := by
  refine if_neg ?_
  rcases h with h | h | h <;> simp [h]

end Pass

/-! ### The check of a stored frame (R225, R226, R229) -/

/-- The fields of a frame address (Table 8.8). -/
theorem frameAddr_fields {c g tile kind : Nat} (hg : g < 512) (htile : tile < 256) (hkind : kind ≤ 2) {a : Nat}
    (ha : a = frameAddr c g (tile / 16) (tile % 16) kind) :
    a / 0x100000 % 512 = g ∧ a / 0x20000000 = c ∧ a / 0x1000 % 256 = tile ∧ a / 256 % 16 = kind := by
  subst ha
  unfold frameAddr
  omega

/-- Does a switch in progress go to slot `c` of region `g`? -/
def State.switchesTo (s : State) (g c : Nat) : Bool := s.switching g && decide (s.g (R.CTX_REGION_CTL.NEXT g) = c)

theorem State.switchesTo_eq_false {s : State} {g c : Nat} (h : s.switching g = false ∨ s.g (R.CTX_REGION_CTL.NEXT g) ≠ c) :
    s.switchesTo g c = false := by
  rcases h with h | h <;> simp [State.switchesTo, h]

section ActiveFrame

variable {s : State} {g c tile kind a : Nat} (ha : a = frameAddr c g (tile / 16) (tile % 16) kind) (hbad : (s.frame a).good = false)
include ha hbad

/-- A bad stored frame whose latches still match its check is written from them. -/
theorem State.checkActive_mended (hdiff : diffBytes kind (s.latched a) (s.frame a).data ≠ [])
    (hcrc : crc32c (s.latched a) = (s.frame a).check) : (s.checkActive g c tile kind).1 =
      State.finding { s with fab := { s.fab with
        frames := s.fab.frames.set a { s.frame a with data := s.latched a }, latch := s.fab.latch.set a none } }
          1 (some false) g c tile kind := by
  subst ha
  simp only [State.checkActive, hbad, List.isEmpty_eq_false_iff.2 hdiff, hcrc, Bool.not_false, decide_true, Bool.and_self,
    Bool.false_eq_true, if_false, if_true]

theorem State.checkActive_uncorrectable (hcrc : crc32c (s.latched a) ≠ (s.frame a).check) :
    (s.checkActive g c tile kind).1 = (s.quarantine g).finding 2 (some true) g c tile kind := by
  subst ha
  simp only [State.checkActive, hbad, hcrc, decide_false, Bool.and_false, Bool.false_eq_true, if_false]

end ActiveFrame

section StoredFrame

variable {s : State} {g c tile kind a : Nat} (hg : g < 512) (hc : c < 8) (htile : tile < 256) (hkind : kind ≤ 2)
  (ha : a = frameAddr c g (tile / 16) (tile % 16) kind)
include hg hc htile hkind ha

/-- The check in terms of the frame's place. -/
theorem State.storedCheck_at : s.storedCheck a =
    if !s.on R.UPS_CTL.EN || (s.frame a).good then s
    else if s.slotState g c = slotPROOFED && !s.switchesTo g c then
      ((s.setSlot g c slotINVALID).put (R.CTX_SLOT_STATE.LASTERR (g * 8 + c)) 0x13).finding 3 none g c tile kind
    else if (s.slotState g c = slotACTIVE || s.switchesTo g c) && !s.on (R.UPS_REGION_STATUS.UNCORR g) then
      (s.checkActive g c tile kind).1
    else s := by
  obtain ⟨hregion, hslot, htileA, hkindA⟩ := frameAddr_fields hg htile hkind ha
  simp only [State.storedCheck, hregion, hslot, htileA, hkindA, Nat.not_le.2 hc, decide_false, Bool.or_false]
  rfl

theorem State.storedCheck_nothing (h : s.on R.UPS_CTL.EN = false ∨ (s.frame a).good = true ∨
    (s.slotState g c ≠ slotPROOFED ∧ s.slotState g c ≠ slotACTIVE ∧
      (s.switching g = false ∨ s.g (R.CTX_REGION_CTL.NEXT g) ≠ c))) : s.storedCheck a = s := by
  rw [State.storedCheck_at hg hc htile hkind ha]
  rcases h with hoff | hgood | ⟨hproofed, hactive, hswitch⟩
  · rw [hoff]; rfl
  · rw [hgood, Bool.or_true]; rfl
  · simp [hproofed, hactive, State.switchesTo_eq_false hswitch]

variable (hon : s.on R.UPS_CTL.EN = true) (hbad : (s.frame a).good = false)
include hon hbad

theorem State.storedCheck_proofed (hslot : s.slotState g c = slotPROOFED) (hswitch : s.switchesTo g c = false) : s.storedCheck a =
    ((s.setSlot g c slotINVALID).put (R.CTX_SLOT_STATE.LASTERR (g * 8 + c)) 0x13).finding 3 none g c tile kind := by
  rw [State.storedCheck_at hg hc htile hkind ha, if_neg (by simp [hon, hbad]), if_pos (by simp [hslot, hswitch])]

/-- A frame in use, or about to be, is looked at with its latches. -/
theorem State.storedCheck_inUse (hslot : s.slotState g c = slotACTIVE ∨ s.switchesTo g c = true)
    (hcorr : s.on (R.UPS_REGION_STATUS.UNCORR g) = false) : s.storedCheck a = (s.checkActive g c tile kind).1 := by
  have hproofed : ¬ (decide (s.slotState g c = slotPROOFED) && !s.switchesTo g c) = true := by
    rcases hslot with h | h
    · simp [h, slotACTIVE, slotPROOFED]
    · simp [h]
  rw [State.storedCheck_at hg hc htile hkind ha, if_neg (by simp [hon, hbad]), if_neg hproofed, if_pos (by simpa [hcorr] using hslot)]

end StoredFrame

/-! ### Quarantine (R227) -/

theorem State.quarantine_g (s : State) (g : Nat) {f : Field} (hgated : (R.SYS_FWD_STATUS.GATED g).Apart f) : (s.quarantine g).g f =
    (((s.putB (R.UPS_REGION_STATUS.UNCORR g) true).putB (R.SYS_FWD_STATUS.FROZEN g) true).putB
      (R.UPS_REGION_STATUS.SCRUBBING g) false).g f :=
  State.g_put_of_apart _ (by simp [R.SYS_FWD_STATUS.GATED]) hgated _

theorem quarantine_fields_apart {g : Nat} (hg : g < 512) :
    (R.SYS_FWD_STATUS.GATED g).Apart (R.UPS_REGION_STATUS.UNCORR g) ∧
    (R.SYS_FWD_STATUS.GATED g).Apart (R.UPS_REGION_STATUS.SCRUBBING g) ∧
    (R.SYS_FWD_STATUS.GATED g).Apart (R.SYS_FWD_STATUS.FROZEN g) ∧
    (R.UPS_REGION_STATUS.SCRUBBING g).Apart (R.UPS_REGION_STATUS.UNCORR g) ∧
    (R.SYS_FWD_STATUS.FROZEN g).Apart (R.UPS_REGION_STATUS.UNCORR g) ∧
    (R.UPS_REGION_STATUS.SCRUBBING g).Apart (R.SYS_FWD_STATUS.FROZEN g) := by
  simp only [Field.Apart, R.SYS_FWD_STATUS.GATED, R.SYS_FWD_STATUS.FROZEN, R.SYS_FWD_STATUS.reg, R.UPS_REGION_STATUS.UNCORR,
    R.UPS_REGION_STATUS.SCRUBBING, R.UPS_REGION_STATUS.reg]
  omega

theorem State.on_of_g_eq_one {s : State} {f : Field} (h : s.g f = 1) : s.on f = true := by simp [State.on, h]

theorem State.on_of_g_eq_zero {s : State} {f : Field} (h : s.g f = 0) : s.on f = false := by simp [State.on, h]

theorem State.quarantine_flags (s : State) {g : Nat} (hg : g < 512) :
    (s.quarantine g).on (R.UPS_REGION_STATUS.UNCORR g) = true ∧ (s.quarantine g).on (R.UPS_REGION_STATUS.SCRUBBING g) = false ∧
      (s.quarantine g).on (R.SYS_FWD_STATUS.FROZEN g) = true := by
  obtain ⟨gatedUncorr, gatedScrub, gatedFrozen, scrubUncorr, frozenUncorr, scrubFrozen⟩ := quarantine_fields_apart hg
  have fitScrub : (R.UPS_REGION_STATUS.SCRUBBING g).lo + (R.UPS_REGION_STATUS.SCRUBBING g).w ≤ 32 := by
    simp [R.UPS_REGION_STATUS.SCRUBBING]
  have fitFrozen : (R.SYS_FWD_STATUS.FROZEN g).lo + (R.SYS_FWD_STATUS.FROZEN g).w ≤ 32 := by simp [R.SYS_FWD_STATUS.FROZEN]
  refine ⟨State.on_of_g_eq_one ?_, State.on_of_g_eq_zero ?_, State.on_of_g_eq_one ?_⟩
  · rw [s.quarantine_g g gatedUncorr]
    exact (State.g_put_of_apart _ fitScrub scrubUncorr _).trans ((State.g_put_of_apart _ fitFrozen frozenUncorr _).trans
      (State.g_putB_same _ _ _ rfl (by simp [R.UPS_REGION_STATUS.UNCORR])))
  · rw [s.quarantine_g g gatedScrub]
    exact State.g_putB_same _ _ _ rfl fitScrub
  · rw [s.quarantine_g g gatedFrozen]
    exact (State.g_put_of_apart _ fitScrub scrubFrozen _).trans (State.g_putB_same _ _ _ rfl fitFrozen)

/-! ### Findings (R226, R233, Table 9.5) -/

/-- The event of a class of finding. -/
def findingEvent : Nat → Field
  | 0 => R.UPS_EVENTS.LATCH
  | 1 => R.UPS_EVENTS.TIER
  | 2 => R.UPS_EVENTS.UNCORR
  | _ => R.UPS_EVENTS.STORED

/-- The event of a finding, and its count where it is corrected. -/
def State.findingCounted (s : State) (cls g : Nat) : State :=
  let t := s.raise (findingEvent cls)
  if cls ≤ 1 then t.bump (R.UPS_REGION_STATUS.CORRCNT g) 1 else t

/-- A finding in UPS_LAST. -/
def State.lastPut (s : State) (cls : Nat) (ess : Bool) (g c tile kind : Nat) : State :=
  (((((s.put R.UPS_LAST.CLASS cls).putB R.UPS_LAST.ESS ess).put R.UPS_LAST.SLOT c).put R.UPS_LAST.REGION g).put
    R.UPS_LAST.TILE tile).put R.UPS_LAST.KIND kind

/-- The time of a finding. -/
def State.lastTimed (s : State) : State :=
  (s.wr R.UPS_LASTTIME_LO.reg (s.plantNs.setWidth 32)).wr R.UPS_LASTTIME_HI.reg ((s.plantNs >>> 32).setWidth 32)

/-- What a finding that is not weighed leaves in the registers. -/
def State.findingShown (s : State) (cls g c tile kind : Nat) : State :=
  ((s.findingCounted cls g).lastPut cls false g c tile kind).lastTimed

theorem State.finding_unweighed (s : State) (cls g c tile kind : Nat) : s.finding cls none g c tile kind =
    if cls = 1 || cls = 3 then (s.findingShown cls g c tile kind).report (.upset cls g tile kind)
    else s.findingShown cls g c tile kind := rfl

/-- No register shows the fault log. -/
theorem State.finding_unweighed_rw (s : State) (cls g c tile kind a : Nat) :
    (s.finding cls none g c tile kind).rw a = (s.findingShown cls g c tile kind).rw a := by
  rw [State.finding_unweighed]
  split
  · exact State.report_rw ..
  · rfl

theorem State.finding_unweighed_g (s : State) (cls g c tile kind : Nat) (f : Field) :
    (s.finding cls none g c tile kind).g f = (s.findingShown cls g c tile kind).g f :=
  congrArg f.of (s.finding_unweighed_rw cls g c tile kind f.addr)

theorem State.finding_unweighed_mem (s : State) (cls g c tile kind : Nat) : (s.finding cls none g c tile kind).mem = s.mem := by
  have hshown : (s.findingShown cls g c tile kind).mem = (s.findingCounted cls g).mem := by
    simp only [State.findingShown, State.lastTimed, State.lastPut, State.wr_mem, State.put_mem, State.putB_mem]
  have hcount : (s.findingCounted cls g).mem = s.mem := by
    simp only [State.findingCounted]
    split
    · rw [State.bump_mem, State.raise_mem]
    · rw [State.raise_mem]
  rw [State.finding_unweighed, ← hcount, ← hshown]
  split
  · exact State.report_mem ..
  · rfl

/-! ### The registers of a finding -/

theorem State.lastTimed_g (s : State) {f : Field} (hlo : f.addr ≠ R.UPS_LASTTIME_LO.reg) (hhi : f.addr ≠ R.UPS_LASTTIME_HI.reg) :
    s.lastTimed.g f = s.g f :=
  congrArg f.of ((State.rw_wr_other _ _ hhi).trans (State.rw_wr_other _ _ hlo))

theorem State.lastPut_rw (s : State) (cls : Nat) (ess : Bool) (g c tile kind : Nat) {a : Nat} (ha : a ≠ R.UPS_LAST.reg) :
    (s.lastPut cls ess g c tile kind).rw a = s.rw a := by
  unfold State.lastPut State.putB
  iterate 6 rw [State.rw_put_other _ _ _ ha]

/-- Of UPS_LAST each field holds its part of the finding. -/
theorem State.lastPut_fields (s : State) {cls g c tile kind : Nat} (ess : Bool) (hcls : cls ≤ 3) (hg : g < 512) (hc : c < 8)
    (htile : tile < 256) (hkind : kind ≤ 2) :
    let t := s.lastPut cls ess g c tile kind
    t.g R.UPS_LAST.CLASS = cls ∧ t.g R.UPS_LAST.SLOT = c ∧ t.g R.UPS_LAST.REGION = g ∧ t.g R.UPS_LAST.TILE = tile ∧
      t.g R.UPS_LAST.KIND = kind ∧ t.g R.UPS_LAST.ESS = ess.toNat := by
  unfold State.lastPut State.putB
  simp (disch := decide) only [State.g_put_apart, State.g_put_same]
  refine ⟨Nat.mod_eq_of_lt ?_, Nat.mod_eq_of_lt hc, Nat.mod_eq_of_lt hg, Nat.mod_eq_of_lt htile, Nat.mod_eq_of_lt ?_,
    Nat.mod_eq_of_lt ess.toNat_lt⟩
  · exact Nat.lt_succ_of_le hcls
  · exact (Nat.lt_succ_of_le hkind).trans (by decide)

theorem findingEvent_register (cls : Nat) : (findingEvent cls).addr = R.UPS_EVENTS.reg := by
  unfold findingEvent
  split <;> rfl

theorem findingEvent_flag (cls : Nat) : (findingEvent cls).w = 1 ∧ (findingEvent cls).lo + (findingEvent cls).w ≤ 32 := by
  unfold findingEvent
  split <;> decide

theorem State.findingCounted_rtc (s : State) (cls g : Nat) : (s.findingCounted cls g).rtc = s.rtc := by
  simp only [State.findingCounted]
  split
  · rw [State.bump_rtc, State.raise_rtc]
  · rw [State.raise_rtc]

theorem State.findingCounted_event (s : State) (cls g : Nat) : (s.findingCounted cls g).g (findingEvent cls) = 1 := by
  obtain ⟨hw, hfit⟩ := findingEvent_flag cls
  have hraised : (s.raise (findingEvent cls)).g (findingEvent cls) = 1 := by
    rw [State.raise, State.g_put_same _ _ _ hfit, hw]; rfl
  have hcount : (findingEvent cls).addr ≠ (R.UPS_REGION_STATUS.CORRCNT g).addr := by
    rw [findingEvent_register]
    simp only [R.UPS_EVENTS.reg, R.UPS_REGION_STATUS.CORRCNT, R.UPS_REGION_STATUS.reg]
    omega
  simp only [State.findingCounted]
  split
  · rw [State.bump, State.g_put_register _ _ _ _ hcount, hraised]
  · exact hraised

theorem State.findingCounted_corrected (s : State) (cls g : Nat) :
    (s.findingCounted cls g).g (R.UPS_REGION_STATUS.CORRCNT g) = if cls ≤ 1
      then min 255 (s.g (R.UPS_REGION_STATUS.CORRCNT g) + 1) else s.g (R.UPS_REGION_STATUS.CORRCNT g) := by
  have hevent : (R.UPS_REGION_STATUS.CORRCNT g).addr ≠ (findingEvent cls).addr := by
    rw [findingEvent_register]
    simp only [R.UPS_EVENTS.reg, R.UPS_REGION_STATUS.CORRCNT, R.UPS_REGION_STATUS.reg]
    omega
  have hraised : (s.raise (findingEvent cls)).g (R.UPS_REGION_STATUS.CORRCNT g) = s.g (R.UPS_REGION_STATUS.CORRCNT g) :=
    State.g_put_register _ _ _ _ hevent
  simp only [State.findingCounted]
  split
  · rw [State.g_bump_same _ _ _ (by simp [R.UPS_REGION_STATUS.CORRCNT]), hraised]
    rfl
  · exact hraised

section Shown

variable (s : State) {cls g c tile kind : Nat}

/-- The registers below and above UPS_LAST and its time keep what the count left. -/
theorem State.findingShown_g {f : Field} (h : f.addr < 0xA0010 ∨ 0xA0018 < f.addr) :
    (s.findingShown cls g c tile kind).g f = (s.findingCounted cls g).g f := by
  have hlast : f.addr ≠ R.UPS_LAST.reg := by simp only [R.UPS_LAST.reg]; omega
  have hlo : f.addr ≠ R.UPS_LASTTIME_LO.reg := by simp only [R.UPS_LASTTIME_LO.reg]; omega
  have hhi : f.addr ≠ R.UPS_LASTTIME_HI.reg := by simp only [R.UPS_LASTTIME_HI.reg]; omega
  exact (State.lastTimed_g _ hlo hhi).trans (congrArg f.of (State.lastPut_rw _ _ _ _ _ _ _ hlast))

theorem State.findingShown_last {f : Field} (h : f.addr = R.UPS_LAST.reg) :
    (s.findingShown cls g c tile kind).g f = ((s.findingCounted cls g).lastPut cls false g c tile kind).g f :=
  State.lastTimed_g _ (h ▸ by decide) (h ▸ by decide)

theorem State.findingShown_time : (s.findingShown cls g c tile kind).rw R.UPS_LASTTIME_LO.reg = s.plantNs.setWidth 32 ∧
    (s.findingShown cls g c tile kind).rw R.UPS_LASTTIME_HI.reg = (s.plantNs >>> 32).setWidth 32 := by
  have htime : ((s.findingCounted cls g).lastPut cls false g c tile kind).plantNs = s.plantNs := by
    simp only [State.plantNs, State.lastPut, State.put_rtc, State.putB_rtc, State.findingCounted_rtc]
  rw [State.findingShown, State.lastTimed, htime]
  exact ⟨(State.rw_wr_other _ _ (by decide)).trans (State.rw_wr_same ..), State.rw_wr_same ..⟩

theorem State.finding_unweighed_event (cls g c tile kind : Nat) : (s.finding cls none g c tile kind).on (findingEvent cls) = true := by
  have hbelow : (findingEvent cls).addr < 0xA0010 := by rw [findingEvent_register]; decide
  exact State.on_of_g_eq_one ((s.finding_unweighed_g ..).trans ((s.findingShown_g (.inl hbelow)).trans (s.findingCounted_event cls g)))

theorem State.finding_unweighed_corrected (cls g c tile kind : Nat) :
    (s.finding cls none g c tile kind).g (R.UPS_REGION_STATUS.CORRCNT g) = if cls ≤ 1
      then min 255 (s.g (R.UPS_REGION_STATUS.CORRCNT g) + 1) else s.g (R.UPS_REGION_STATUS.CORRCNT g) := by
  have habove : 0xA0018 < (R.UPS_REGION_STATUS.CORRCNT g).addr := by
    simp only [R.UPS_REGION_STATUS.CORRCNT, R.UPS_REGION_STATUS.reg]
    omega
  exact (s.finding_unweighed_g ..).trans ((s.findingShown_g (.inr habove)).trans (s.findingCounted_corrected cls g))

end Shown

/-! ### What an upset strikes (R15, R226) -/

theorem frameByte_flipByte (l : List Byte) (i : Nat) (mask : Byte) {size k : Nat} (hk : k < size) :
    frameByte (flipByte size l i mask) k = if k = i then frameByte l k ^^^ mask else frameByte l k := by
  rw [frameByte, List.getD_eq_getElem _ _ (by simpa [flipByte] using hk)]
  simp [flipByte]

/-- Frames of a kind without a differing byte have the same bytes. -/
theorem frameByte_eq_of_diffBytes {kind : Nat} {a b : List Byte} (h : (diffBytes kind a b).isEmpty = true) {k : Nat}
    (hk : k < frameSize kind) : frameByte a k = frameByte b k := by
  have hnone := List.filter_eq_nil_iff.1 (List.isEmpty_iff.1 h) k (List.mem_range.2 hk)
  simpa using hnone

/-- What a latch table keeps for a frame with latches `l` and stored bytes `d`: nothing where they agree. -/
def latchOf (kind : Nat) (l d : List Byte) : Option (List Byte) := if (diffBytes kind l d).isEmpty then none else some l

theorem frameByte_latchOf {kind : Nat} (l d : List Byte) {k : Nat} (hk : k < frameSize kind) :
    frameByte ((latchOf kind l d).getD d) k = frameByte l k := by
  unfold latchOf
  split
  · exact (frameByte_eq_of_diffBytes (by assumption) hk).symm
  · rfl

section Upset

variable (s : State) (a : Nat)

/-- The latches of a frame hold `l`. -/
def State.latchPut (l : List Byte) : State :=
  { s with fab := { s.fab with latch := s.fab.latch.set a (latchOf (a / 256 % 16) l (s.frame a).data) } }

/-- A stored frame holds other bytes beside its check. -/
def State.framePut (d : List Byte) : State :=
  { s with fab := { s.fab with frames := s.fab.frames.set a { s.frame a with data := d } } }

theorem State.frame_framePut (d : List Byte) : (s.framePut a d).frame a = { s.frame a with data := d } := SMap.get_set_same ..

theorem State.latched_latchPut (l : List Byte) {k : Nat} (hk : k < frameSize (a / 256 % 16)) :
    frameByte ((s.latchPut a l).latched a) k = frameByte l k := by
  have hget : (s.latchPut a l).fab.latch.get a = latchOf (a / 256 % 16) l (s.frame a).data := SMap.get_set_same ..
  rw [State.latched, hget]
  exact frameByte_latchOf _ _ hk

variable (i : Nat) (mask : Byte)

theorem State.strike_latch_idle {s : State} {a : Nat} (h : s.activeCtx (a / 0x100000 % 512) ≠ some (a / 0x20000000)) :
    s.strike (.latch a i mask) = s := if_neg h

theorem State.strike_latch_active {s : State} {a : Nat} (h : s.activeCtx (a / 0x100000 % 512) = some (a / 0x20000000)) :
    s.strike (.latch a i mask) = s.latchPut a (flipByte (frameSize (a / 256 % 16)) (s.latched a) i mask) := if_pos h

/-- An upset of a stored frame: of the active slot the latches stay as they were. -/
theorem State.strike_stored : s.strike (.stored a i mask) =
    let t := s.framePut a (flipByte (frameSize (a / 256 % 16)) (s.frame a).data i mask)
    if s.activeCtx (a / 0x100000 % 512) = some (a / 0x20000000) then t.latchPut a (s.latched a) else t := by
  simp only [State.strike, State.latchPut, State.frame_framePut]
  split <;> rfl

/-- Whatever the latches, the stored frame is the struck one, and only the fabric's tables change. -/
theorem State.strike_stored_frame : (s.strike (.stored a i mask)).frame a =
      { s.frame a with data := flipByte (frameSize (a / 256 % 16)) (s.frame a).data i mask } ∧
    (s.strike (.stored a i mask)).csr = s.csr ∧ (s.strike (.stored a i mask)).mem = s.mem := by
  rw [State.strike_stored]
  simp only
  split
  · exact ⟨s.frame_framePut a _, rfl, rfl⟩
  · exact ⟨s.frame_framePut a _, rfl, rfl⟩

theorem State.strike_stored_latched (h : s.activeCtx (a / 0x100000 % 512) = some (a / 0x20000000)) {k : Nat}
    (hk : k < frameSize (a / 256 % 16)) : frameByte ((s.strike (.stored a i mask)).latched a) k = frameByte (s.latched a) k := by
  rw [State.strike_stored]
  simp only [h, if_true]
  exact State.latched_latchPut _ a _ hk

end Upset

/-- Settles O36: the check of a stored frame by its place and the state of its slot, a finding by the registers that `findingShown`
writes, and an upset by the table that it strikes. -/
theorem scrubberFinds : Obligations.ScrubberFinds := by
  unfold Obligations.ScrubberFinds
  refine ⟨fun s g => ⟨?begins, ?idle⟩, ?stored, fun s g hg => s.quarantine_flags hg, ?finding, fun s a i mask => ?upset⟩
  case begins => exact fun hwatch hsw hpos => congrArg done (State.passStart_begins hwatch hsw hpos)
  case idle => exact fun h => congrArg done (State.passStart_idle h)
  case stored =>
    intro s g c tile kind a hg hc htile hkind ha
    refine ⟨fun h => congrArg done (State.storedCheck_nothing hg hc htile hkind ha h), fun hon hbad => ⟨fun hslot hswitch => ?_,
      fun hslot hcorr => ?_⟩⟩
    · exact congrArg done (State.storedCheck_proofed hg hc htile hkind ha hon hbad hslot (State.switchesTo_eq_false hswitch))
    · have hinUse : s.slotState g c = slotACTIVE ∨ s.switchesTo g c = true :=
        hslot.imp_right fun ⟨_, hsw, hnext⟩ => by simp [State.switchesTo, hsw, hnext]
      have hcheck := State.storedCheck_inUse hg hc htile hkind ha hon hbad hinUse hcorr
      exact ⟨fun hdiff hcrc => congrArg done (hcheck.trans (State.checkActive_mended ha hbad hdiff hcrc)),
        fun hcrc => congrArg done (hcheck.trans (State.checkActive_uncorrectable ha hbad hcrc))⟩
  case finding =>
    intro s t cls g c tile kind hcls hg hc htile hkind ht
    subst ht
    have hlast : ∀ {f : Field}, f.addr = R.UPS_LAST.reg → (s.finding cls none g c tile kind).g f =
        ((s.findingCounted cls g).lastPut cls false g c tile kind).g f := fun hf =>
      (s.finding_unweighed_g cls g c tile kind _).trans (s.findingShown_last hf)
    obtain ⟨hclass, hslot, hregion, htileF, hkindF, hess⟩ :=
      (s.findingCounted cls g).lastPut_fields false hcls hg hc htile hkind
    obtain ⟨hlo, hhi⟩ := s.findingShown_time (cls := cls) (g := g) (c := c) (tile := tile) (kind := kind)
    exact ⟨s.finding_unweighed_event .., (hlast rfl).trans hclass, (hlast rfl).trans hslot, (hlast rfl).trans hregion,
      (hlast rfl).trans htileF, (hlast rfl).trans hkindF, State.on_of_g_eq_zero ((hlast rfl).trans hess),
      (s.finding_unweighed_rw ..).trans hlo, (s.finding_unweighed_rw ..).trans hhi, s.finding_unweighed_corrected ..,
      s.finding_unweighed_mem ..⟩
  case upset =>
    refine ⟨fun h => congrArg done (State.strike_latch_idle i mask h), fun h => ?_, ?_, fun bit hbit b hb => ?_, fun bit hbit => ?_,
      rfl, rfl, rfl⟩
    · refine ⟨_, congrArg done (State.strike_latch_active i mask h), rfl, rfl, rfl, fun k hk => ?_⟩
      rw [State.latched_latchPut _ _ _ hk, frameByte_flipByte _ _ _ hk]
    · obtain ⟨hframe, hcsr, hmem⟩ := s.strike_stored_frame a i mask
      refine ⟨s.strike (.stored a i mask), rfl, hcsr, hmem, by rw [hframe], fun k hk => ?_,
        fun h k hk => s.strike_stored_latched a i mask h hk⟩
      rw [hframe, frameByte_flipByte _ _ _ hk]
    · subst hb
      exact congrArg done (if_pos hbit)
    · exact congrArg done (if_neg (Nat.not_lt.2 hbit))

end Sys2Proof.Machine

/-! The bank ports of the memory tier (R236 to R241, R249): what a port does with each operation, and O32. -/

namespace Sys2Proof.Machine

/-! ### Lanes and pairs of a word (R236) -/

/-- The word of four lanes. -/
def packLanes (f : Nat → Half) : DWord := BitVec.ofNat 64 (((List.range 4).map (fun j => (f j).toNat * 2 ^ (16 * j))).sum)

theorem mergeLanes_eq (old v : DWord) (m : Nat) :
    mergeLanes old v m = packLanes (fun j => if m.testBit j then lane v j else lane old j) := rfl

theorem addLanes_eq (old v : DWord) (m : Nat) :
    addLanes old v m = packLanes (fun j => if m.testBit j then lane old j + lane v j else lane old j) := rfl

theorem sum_range_four (g : Nat → Nat) : ((List.range 4).map g).sum = g 0 + g 1 + g 2 + g 3 := by
  simp [List.range_succ, Nat.add_assoc]

theorem toNat_packLanes (f : Nat → Half) : (packLanes f).toNat =
    (f 0).toNat + (f 1).toNat * 65536 + (f 2).toNat * 4294967296 + (f 3).toNat * 281474976710656 := by
  have hlt : ∀ j, (f j).toNat < 65536 := fun j => (f j).isLt
  have h0 := hlt 0
  have h1 := hlt 1
  have h2 := hlt 2
  have h3 := hlt 3
  rw [packLanes, BitVec.toNat_ofNat, sum_range_four]
  norm_num
  omega

theorem toNat_lane (v : DWord) (j : Nat) : (lane v j).toNat = v.toNat / 2 ^ (16 * j) % 2 ^ 16 := by
  rw [lane, BitVec.toNat_setWidth, BitVec.toNat_ushiftRight, Nat.shiftRight_eq_div_pow]

/-- Each lane of a word put together reads back. -/
theorem lane_packLanes (f : Nat → Half) {j : Nat} (hj : j < 4) : lane (packLanes f) j = f j := by
  have hlt : ∀ k, (f k).toNat < 2 ^ 16 := fun k => (f k).isLt
  have h0 := hlt 0
  have h1 := hlt 1
  have h2 := hlt 2
  have h3 := hlt 3
  refine BitVec.eq_of_toNat_eq ?_
  rw [toNat_lane, toNat_packLanes]
  match j, hj with
  | 0, _ => omega
  | 1, _ => omega
  | 2, _ => omega
  | 3, _ => omega

/-- Of two words side by side, each reads back at its own place. -/
theorem pair_append (hi lo : Word) {j : Nat} (hj : j < 2) :
    BitVec.setWidth 32 ((hi ++ lo : DWord) >>> (32 * j)) = if j = 0 then lo else hi := by
  refine BitVec.eq_of_getLsbD_eq fun i hi' => ?_
  rw [BitVec.getLsbD_setWidth, decide_eq_true hi', Bool.true_and, BitVec.getLsbD_ushiftRight, BitVec.getLsbD_append]
  match j, hj with
  | 0, _ => simp [hi']
  | 1, _ => simp

/-- ADD32 on one pair (R237). -/
theorem pair_addPairs (old v : DWord) (m : Nat) {j : Nat} (hj : j < 2) : BitVec.setWidth 32 (addPairs old v m >>> (32 * j)) =
    if m.testBit (2 * j) then BitVec.setWidth 32 (old >>> (32 * j)) + BitVec.setWidth 32 (v >>> (32 * j))
    else BitVec.setWidth 32 (old >>> (32 * j)) := by
  refine (pair_append _ _ hj).trans ?_
  match j, hj with
  | 0, _ => rfl
  | 1, _ => rfl

/-! ### Lane masks (R237) -/

theorem lanesOk_lanes {op : Nat} (hop : op < 5) (m : Nat) : lanesOk op m = decide (m % 16 ≠ 0) :=
  if_neg (by omega)

theorem lanesOk_pairs {op : Nat} (hop : op = 5 ∨ op = 6) (m : Nat) : lanesOk op m = decide (m = 3 ∨ m = 12 ∨ m = 15) := by
  simp [lanesOk, hop, Bool.or_assoc]

/-! ### A word of a bank (R235) -/

theorem length_natBytes (v n : Nat) : (natBytes v n).length = n := by
  induction n generalizing v with
  | zero => rfl
  | succ n ih => exact congrArg (· + 1) (ih (v / 256))

theorem bytesNat_natBytes (v n : Nat) : bytesNat (natBytes v n) = v % 256 ^ n := by
  induction n generalizing v with
  | zero => exact (Nat.mod_one v).symm
  | succ n ih => rw [natBytes, bytesNat, ih, BitVec.toNat_ofNat, pow_succ' 256, Nat.mod_mul]

section BankWord

variable (s : State) (n w : Nat) (v : DWord)

/-- The word stored reads back. -/
theorem State.bankWord_setBankWord : (s.setBankWord n w v).bankWord n w = v := by
  have hbytes : (s.setBankWord n w v).bytes (bankAddr n w) 8 = natBytes v.toNat 8 := by
    have h := s.bytes_setBytes (bankAddr n w) (natBytes v.toNat 8)
    rwa [length_natBytes] at h
  rw [State.bankWord, hbytes, bytesNat_natBytes, Nat.mod_eq_of_lt (show v.toNat < 256 ^ 8 from v.isLt), BitVec.ofNat_toNat,
    BitVec.setWidth_eq]

theorem State.setBankWord_csr : (s.setBankWord n w v).csr = s.csr := State.setBytes_keeps State.csr (fun _ _ _ => rfl) s _ _

theorem State.byte_setBankWord_other {a : Nat} (h : a < bankAddr n w ∨ bankAddr n w + 8 ≤ a) :
    (s.setBankWord n w v).byte a = s.byte a :=
  s.byte_setBytes_other _ _ (by rwa [length_natBytes])

end BankWord

/-! ### The gate of a port (R238, R239, R241, R242) -/

/-- Nothing keeps an operation of a region's bank port from the array: its bank is running, neither fenced nor bad, its ownership
entry whole and naming the region, and the clocks match. -/
structure State.PortServes (s : State) (q : BankReq) : Prop where
  quad : s.quadState (bankQuad (portBank q)) = 1
  clock : s.bankClockOk q.region = true
  check : s.ownerOk (portBank q) = true
  faultA : s.g (R.MEM_BANK_OWNER.OWNER_A (portBank q)) ≠ ownFAULT
  faultB : s.g (R.MEM_BANK_OWNER.OWNER_B (portBank q)) ≠ ownFAULT
  fenced : s.on (R.MEM_BANK_STATUS.FENCED (portBank q)) = false
  bad : s.on (R.MEM_BANK_STATUS.BAD (portBank q)) = false
  owner : s.g (R.MEM_BANK_OWNER.OWNER_A (portBank q)) = regionOwner q.region ∨
    (portBank q % 16 = 0 ∧ s.g (R.MEM_BANK_OWNER.OWNER_B (portBank q)) = regionOwner q.region)

section Port

variable {s : State} {q : BankReq} {op : Nat}

theorem State.PortServes.gate (h : s.PortServes q) : s.portGate q = (s, 0) := by
  have howner : (decide (s.g (R.MEM_BANK_OWNER.OWNER_A (portBank q)) = regionOwner q.region) ||
      (bankDual (portBank q) && decide (s.g (R.MEM_BANK_OWNER.OWNER_B (portBank q)) = regionOwner q.region))) = true := by
    simpa [bankDual] using h.owner
  simp only [State.portGate, State.bankGate, State.bankOn, h.quad, h.clock, h.check, h.faultA, h.faultB, h.fenced, h.bad, howner,
    decide_true, decide_false, Bool.and_self, Bool.or_self, Bool.not_true, Bool.false_eq_true, if_false, if_true]

/-- Clearing COLLIDED keeps no operation from the array. -/
theorem State.PortServes.readClears (h : s.PortServes q) : (s.readClears op q).PortServes q := by
  unfold State.readClears
  split
  · exact ⟨h.quad, h.clock, h.check, h.faultA, h.faultB, h.fenced, h.bad, h.owner⟩
  · exact h

/-! ### One operation (Tables 10.3, 10.4) -/

/-- An operation that is performed: the array's part, and its result on the way (R238). -/
theorem State.PortServes.bankPort_performed (h : s.PortServes q) (h0 : op ≠ 0) (h7 : op ≠ 7) (hlanes : lanesOk op q.lane = true) :
    s.bankPort op q = ((s.readClears op q).bankPerform (portBank q) op (q.addr % 8192) q.wdata q.lane).1.bankResult q
      ((s.readClears op q).bankPerform (portBank q) op (q.addr % 8192) q.wdata q.lane).2 0 := by
  simp [State.bankPort, h.readClears.gate, h0, h7, hlanes]

/-- Operation 7, and one with an invalid lane mask (R237). -/
theorem State.PortServes.bankPort_badop (h : s.PortServes q) (h0 : op ≠ 0) (hbad : op = 7 ∨ lanesOk op q.lane = false) :
    s.bankPort op q = ((s.readClears op q).bump R.MEM_ERRCNT.REFUSED 1).bankResult q 0 5 := by
  have hst : (decide (op = 7) || !lanesOk op q.lane) = true := by simpa using hbad
  simp [State.bankPort, h.readClears.gate, h0, hst, State.bankCount]

/-- With no operation of the column's interface on the same edge, a port's operation is taken by itself. -/
theorem State.bankCmd_alone (hmet : s.mt.met.get (portBank q / 16) = none) : s.bankCmd op q none = s.bankPort op q := by
  simp only [State.bankCmd, State.bankOne, hmet]

/-- Two writes that meet on one word: port A's is performed, port B's discarded with COLLIDE (R249). -/
theorem State.bankCmd_writesMeet {qa qb : BankReq} (howner : s.g (R.MEM_BANK_OWNER.OWNER_A (portBank qa)) ≠ regionOwner qb.region)
    (ha : s.admits 2 qa = true) (hb : s.admits 2 qb = true) (hword : sameWord (qa.addr % 8192) qa.lane (qb.addr % 8192) qb.lane = true) :
    s.bankCmd 2 qa (some (2, qb)) = ((((s.setBankWord (portBank qa) (qa.addr % 8192)
      (mergeLanes (s.bankWord (portBank qa) (qa.addr % 8192)) qa.wdata qa.lane)).bankResult qa 0 0).bump R.MEM_ERRCNT.COLLIDE 1).raise
        R.MEM_EVENTS.COLLIDE).bankResult qb 0 2 := by
  simp only [State.bankCmd, if_neg howner, State.bankBoth, ha, hb, hword, Bool.not_true, Bool.or_self, Bool.false_eq_true, if_false]
  rfl

end Port

/-! ### The statement -/

/-- Settles O32: the operations by the lane mask that each takes, the two ports by the meeting of their writes, and the effect of
an operation lane by lane and byte by byte. -/
theorem bankOperations : Obligations.BankOperations := by
  unfold Obligations.BankOperations
  refine ⟨?served, fun s q => rfl, fun s q => ⟨rfl, rfl, rfl⟩, ?meet, ?laneByLane, fun old v m j hj => pair_addPairs old v m hj, ?word,
    fun s q d st => ⟨rfl, rfl⟩⟩
  case served =>
    intro s q n w hn hw hquad hclock hcheck hmet hfaultA hfaultB hfenced hgood howner
    subst hn hw
    have h : s.PortServes q := ⟨hquad, hclock, hcheck, hfaultA, hfaultB, hfenced, hgood, howner⟩
    have alone : ∀ {op : Nat} {t : State}, s.bankPort op q = t → done (s.bankCmd op q none) = .next t.signal :=
      fun hport => congrArg done ((State.bankCmd_alone hmet).trans hport)
    have performed : ∀ {op : Nat}, op ≠ 0 → op ≠ 7 → lanesOk op q.lane = true → done (s.bankCmd op q none) = .next
        (((s.readClears op q).bankPerform (portBank q) op (q.addr % 8192) q.wdata q.lane).1.bankResult q
          ((s.readClears op q).bankPerform (portBank q) op (q.addr % 8192) q.wdata q.lane).2 0).signal :=
      fun h0 h7 hlanes => alone (h.bankPort_performed h0 h7 hlanes)
    have badop : ∀ {op : Nat}, op ≠ 0 → lanesOk op q.lane = false → done (s.bankCmd op q none) = .next
        (((s.readClears op q).bump R.MEM_ERRCNT.REFUSED 1).bankResult q 0 5).signal :=
      fun h0 hlanes => alone (h.bankPort_badop h0 (.inr hlanes))
    refine ⟨fun hlane => ?lanes, fun hlane => ?pairs, fun hlane => ?noLane, fun h3 h12 h15 => ?noPair,
      congrArg done (h.bankPort_badop (by decide) (.inl rfl))⟩
    case lanes =>
      have hok : ∀ {op : Nat}, op < 5 → lanesOk op q.lane = true := fun hop => (lanesOk_lanes hop _).trans (decide_eq_true hlane)
      exact ⟨performed (by decide) (by decide) (hok (by decide)), performed (by decide) (by decide) (hok (by decide)),
        performed (by decide) (by decide) (hok (by decide)), performed (by decide) (by decide) (hok (by decide))⟩
    case pairs =>
      have hok : ∀ {op : Nat}, op = 5 ∨ op = 6 → lanesOk op q.lane = true :=
        fun hop => (lanesOk_pairs hop _).trans (decide_eq_true hlane)
      exact ⟨performed (by decide) (by decide) (hok (.inl rfl)), performed (by decide) (by decide) (hok (.inr rfl))⟩
    case noLane =>
      have hbad : ∀ {op : Nat}, op < 5 → lanesOk op q.lane = false :=
        fun hop => (lanesOk_lanes hop _).trans (decide_eq_false (not_not_intro hlane))
      exact ⟨badop (by decide) (hbad (by decide)), badop (by decide) (hbad (by decide)),
        badop (by decide) (hbad (by decide)), badop (by decide) (hbad (by decide))⟩
    case noPair =>
      have hbad : ∀ {op : Nat}, op = 5 ∨ op = 6 → lanesOk op q.lane = false :=
        fun hop => (lanesOk_pairs hop _).trans (by simp [h3, h12, h15])
      exact ⟨badop (by decide) (hbad (.inl rfl)), badop (by decide) (hbad (.inr rfl))⟩
  case meet =>
    intro s qa qb n w hn hw howner ha hb hword hlanes
    subst hn hw
    exact congrArg done (State.bankCmd_writesMeet howner ha hb (by simp [sameWord, hword, hlanes]))
  case laneByLane =>
    intro old v m j hj
    rw [mergeLanes_eq, addLanes_eq]
    exact ⟨lane_packLanes _ hj, lane_packLanes _ hj⟩
  case word =>
    exact fun s n w v => ⟨s.bankWord_setBankWord n w v, s.setBankWord_csr n w v, fun a => s.byte_setBankWord_other n w v⟩

end Sys2Proof.Machine

/-! The march test of banks (R252 to R255): its start, the owners it takes and gives back, its end, and O34. -/

namespace Sys2Proof.Machine

/-! ### Fields and flags -/

theorem State.rw_of_csr {s t : State} (h : t.csr = s.csr) (a : Nat) : t.rw a = s.rw a :=
  congrArg (fun c : SMap Word => c.get a ^^^ resetWord a) h

/-- A field written reads back, cut to its width, of which the caller gives the number. -/
theorem State.g_put_mod (s : State) {f : Field} {m : Nat} (hf : f.lo + f.w ≤ 32) (hm : 2 ^ f.w = m) (x : Nat) :
    (s.put f x).g f = x % m :=
  hm ▸ s.g_put_same f x hf

theorem State.on_putB_same (s : State) {f : Field} (b : Bool) (hw : f.w = 1) (hf : f.lo + f.w ≤ 32) : (s.putB f b).on f = b := by
  rw [State.on, State.g_putB_same s f b hw hf]
  cases b <;> rfl

theorem State.on_put_apart (s : State) {f h : Field} (hf : f.lo + f.w ≤ 32) (hfh : f.Apart h) (x : Nat) :
    (s.put f x).on h = s.on h :=
  congrArg (fun k => decide (k ≠ 0)) (s.g_put_of_apart hf hfh x)

theorem State.on_putB_apart (s : State) {f h : Field} (hf : f.lo + f.w ≤ 32) (hfh : f.Apart h) (b : Bool) :
    (s.putB f b).on h = s.on h :=
  s.on_put_apart hf hfh b.toNat

/-! ### The flags of a running test (R252) -/

/-- The three flags that show whether a march test runs. -/
def State.marchShow (s : State) (b : Bool) : State :=
  ((s.putB R.MEM_MARCH_STATUS.BUSY b).putB R.MEM_STATUS.MARCHBUSY b).putB R.MEM_MARCH_CTL.START b

theorem State.marchShow_flags (s : State) (b : Bool) : (s.marchShow b).on R.MEM_MARCH_STATUS.BUSY = b ∧
    (s.marchShow b).on R.MEM_STATUS.MARCHBUSY = b ∧ (s.marchShow b).on R.MEM_MARCH_CTL.START = b := by
  have hbusy : R.MEM_STATUS.MARCHBUSY.Apart R.MEM_MARCH_STATUS.BUSY := .inl (by decide)
  have hstartBusy : R.MEM_MARCH_CTL.START.Apart R.MEM_MARCH_STATUS.BUSY := .inl (by decide)
  have hstart : R.MEM_MARCH_CTL.START.Apart R.MEM_STATUS.MARCHBUSY := .inl (by decide)
  refine ⟨?_, ?_, State.on_putB_same _ b rfl (by decide)⟩
  · exact (State.on_putB_apart _ (by decide) hstartBusy b).trans ((State.on_putB_apart _ (by decide) hbusy b).trans
      (State.on_putB_same s b rfl (by decide)))
  · exact (State.on_putB_apart _ (by decide) hstart b).trans (State.on_putB_same _ b rfl (by decide))

theorem State.marchShow_regsBut (s : State) (b : Bool) :
    regsBut [R.MEM_MARCH_STATUS.reg, R.MEM_STATUS.reg, R.MEM_MARCH_CTL.reg] s (s.marchShow b) := by
  intro a ha
  obtain ⟨hstatus, hbusy, hctl⟩ : a ≠ R.MEM_MARCH_STATUS.reg ∧ a ≠ R.MEM_STATUS.reg ∧ a ≠ R.MEM_MARCH_CTL.reg := by
    simpa using ha
  exact (State.rw_put_other _ _ _ hctl).trans ((State.rw_put_other _ _ _ hbusy).trans (State.rw_put_other _ _ _ hstatus))

theorem State.marchShow_failcnt (s : State) (b : Bool) : (s.marchShow b).g R.MEM_MARCH_STATUS.FAILCNT = s.g R.MEM_MARCH_STATUS.FAILCNT :=
  (State.g_put_register _ _ _ _ (by decide)).trans ((State.g_put_register _ _ _ _ (by decide)).trans
    (State.g_put_apart s _ _ _ (by decide) (.inr (.inr (by decide)))))

/-! ### The owners of a bank (R246) -/

section Owners

variable (s : State) (n v : Nat)

theorem ownerFields_apart : (R.MEM_BANK_OWNER.OWNER_B n).Apart (R.MEM_BANK_OWNER.OWNER_A n) := by
  simp [Field.Apart, R.MEM_BANK_OWNER.OWNER_B, R.MEM_BANK_OWNER.OWNER_A]

theorem ownerFields_fit : (R.MEM_BANK_OWNER.OWNER_A n).lo + (R.MEM_BANK_OWNER.OWNER_A n).w ≤ 32 ∧
    (R.MEM_BANK_OWNER.OWNER_B n).lo + (R.MEM_BANK_OWNER.OWNER_B n).w ≤ 32 := by
  simp [R.MEM_BANK_OWNER.OWNER_A, R.MEM_BANK_OWNER.OWNER_B]

theorem State.setOwner_ownerA : (s.setOwner n v).g (R.MEM_BANK_OWNER.OWNER_A n) = v % 8 :=
  (State.g_put_of_apart _ (ownerFields_fit n).2 (ownerFields_apart n) _).trans
    ((State.g_put_mod _ (ownerFields_fit n).1 (by norm_num [R.MEM_BANK_OWNER.OWNER_A]) _).trans (Nat.mod_mod v 8))

theorem State.setOwner_ownerB : (s.setOwner n v).g (R.MEM_BANK_OWNER.OWNER_B n) = v / 16 % 8 :=
  (State.g_put_mod _ (ownerFields_fit n).2 (by norm_num [R.MEM_BANK_OWNER.OWNER_B]) _).trans (Nat.mod_mod (v / 16) 8)

theorem State.setOwner_regsBut : regsBut [R.MEM_BANK_OWNER.reg n] s (s.setOwner n v) := by
  intro a ha
  have hne : a ≠ R.MEM_BANK_OWNER.reg n := by simpa using ha
  exact (State.rw_put_other _ _ _ hne).trans (State.rw_put_other _ _ _ hne)

end Owners

/-! ### The start (R252, Table 10.9) -/

section Start

variable {s : State} {sel : List Nat}

theorem State.marchRefusal_running (h : s.mt.march ≠ []) : s.marchRefusal sel = 3 := by
  simp [State.marchRefusal, h]

theorem State.marchRefusal_nothing (hmarch : s.mt.march = []) (hbusy : s.on R.MEM_STATUS.MARCHBUSY = false) :
    s.marchRefusal [] = 4 := by
  simp [State.marchRefusal, hmarch, hbusy]

theorem State.marchStart_refused (h : s.marchRefusal sel ≠ 0) :
    s.marchStart sel = (s.put R.MEM_MARCH_STATUS.REFUSED (s.marchRefusal sel)).raise R.MEM_EVENTS.MARCHDONE := by
  rw [State.marchStart, if_pos h]

/-- The selected banks taken, MARCH their owner. -/
def State.marchTaken (s : State) (sel : List Nat) : State := (s.put R.MEM_MARCH_STATUS.REFUSED 0).each sel State.marchTake

/-- The test runs on banks that are taken, in the mode of MEM_MARCH_CTL. -/
def State.marchRun (s : State) (sel : List Nat) : State :=
  ({ s with mt := { s.mt with march := sel, preserve := s.on R.MEM_MARCH_CTL.MODE } } : State).marchShow true

theorem State.marchStart_accepted (h : s.marchRefusal sel = 0) : s.marchStart sel = (s.marchTaken sel).marchRun sel := by
  rw [State.marchStart, if_neg (not_not_intro h), h]
  rfl

theorem State.marchRun_flags (s : State) : (s.marchRun sel).on R.MEM_MARCH_STATUS.BUSY = true ∧
    (s.marchRun sel).on R.MEM_STATUS.MARCHBUSY = true ∧ (s.marchRun sel).on R.MEM_MARCH_CTL.START = true :=
  State.marchShow_flags _ true

theorem State.marchRun_ownerA (s : State) {n : Nat} (hn : n < 4096) :
    (s.marchRun sel).g (R.MEM_BANK_OWNER.OWNER_A n) = s.g (R.MEM_BANK_OWNER.OWNER_A n) :=
  State.g_of_rw (State.marchShow_regsBut _ _ _ (by
    simp [R.MEM_BANK_OWNER.OWNER_A, R.MEM_BANK_OWNER.reg, R.MEM_MARCH_STATUS.reg, R.MEM_STATUS.reg, R.MEM_MARCH_CTL.reg]
    omega))

end Start

/-! ### Banks taken and given back (R252, R253) -/

section Bank

variable (s : State) (n : Nat)

theorem State.marchTake_owners : (s.marchTake n).g (R.MEM_BANK_OWNER.OWNER_A n) = ownMARCH ∧
    (s.marchTake n).g (R.MEM_BANK_OWNER.OWNER_B n) = if n % 16 = 0 then ownMARCH else ownNONE := by
  have hcode : ∀ f : Nat → Nat, f (if bankDual n then 0x55 else 5) = if n % 16 = 0 then f 0x55 else f 5 := by
    intro f
    by_cases h : n % 16 = 0 <;> simp [bankDual, h]
  refine ⟨(State.setOwner_ownerA _ n _).trans ?_, (State.setOwner_ownerB _ n _).trans ?_⟩
  · exact (hcode (· % 8)).trans (ite_self 5)
  · exact hcode (· / 16 % 8)

theorem State.marchTake_before : (s.marchTake n).mt.before.get n = some (s.rw (R.MEM_BANK_OWNER.reg n)).toNat :=
  SMap.get_set_same s.mt.before n (some _)

variable {s n}

theorem State.marchGive_some {v : Nat} (h : s.mt.before.get n = some v) :
    s.marchGive n = { s.setOwner n v with mt := { (s.setOwner n v).mt with before := s.mt.before.set n none } } := by
  rw [State.marchGive, h]
  rfl

end Bank

/-! ### A bank filled with zeros (R253) -/

theorem State.byte_refill_of_unlisted (s : State) {u f a : Nat} {b : Byte} (h : memUnit a = u) (hb : (s.refill u f).unlisted a = some b) :
    (s.refill u f).byte a = b := by
  have hmem : SMap.find (s.refill u f).mem a = none :=
    SMap.find_keep_out (p := fun c => decide (memUnit c ≠ u)) s.mem (by simp [h])
  simp only [State.byte, hmem, hb]

theorem State.byte_refill_zeros (s : State) {u a : Nat} (h : memUnit a = u) : (s.refill u 1).byte a = 0#8 :=
  s.byte_refill_of_unlisted h (by simp only [State.unlisted, State.refill, h, SMap.get_set_same])

theorem memUnit_bank {n a : Nat} (hn : n < 4096) (hlo : bankBase + n * 65536 ≤ a) (hhi : a < bankBase + (n + 1) * 65536) :
    memUnit a = 16 + n := by
  simp only [bankBase] at hlo hhi
  rw [memUnit, if_neg (by simp only [hbmEnd]; omega), if_pos (by simp only [flashBase]; omega)]
  simp only [bankBase]
  omega

/-! ### The result of a bank (R253, R254) -/

section Judge

variable (s : State) {d : Bool} {n : Nat}

theorem verdictFields_apart (n : Nat) : (R.MEM_BANK_STATUS.BAD n).Apart (R.MEM_BANK_STATUS.MRES n) ∧
    (R.MEM_BANK_STATUS.BAD n).Apart (R.MEM_BANK_STATUS.FAILWORD n) ∧ (R.MEM_BANK_STATUS.FAILWORD n).Apart (R.MEM_BANK_STATUS.MRES n) := by
  simp [Field.Apart, R.MEM_BANK_STATUS.BAD, R.MEM_BANK_STATUS.MRES, R.MEM_BANK_STATUS.FAILWORD]

theorem verdictFields_fit (n : Nat) : (R.MEM_BANK_STATUS.BAD n).lo + (R.MEM_BANK_STATUS.BAD n).w ≤ 32 ∧
    (R.MEM_BANK_STATUS.MRES n).lo + (R.MEM_BANK_STATUS.MRES n).w ≤ 32 ∧
    (R.MEM_BANK_STATUS.FAILWORD n).lo + (R.MEM_BANK_STATUS.FAILWORD n).w ≤ 32 := by
  simp [R.MEM_BANK_STATUS.BAD, R.MEM_BANK_STATUS.MRES, R.MEM_BANK_STATUS.FAILWORD]

/-- The result of a bank shown: MRES, FAILWORD and BAD. -/
def State.bankVerdict (s : State) (n res word : Nat) (bad : Bool) : State :=
  ((s.put (R.MEM_BANK_STATUS.MRES n) res).put (R.MEM_BANK_STATUS.FAILWORD n) word).putB (R.MEM_BANK_STATUS.BAD n) bad

theorem State.bankVerdict_fields (n res word : Nat) (bad : Bool) :
    (s.bankVerdict n res word bad).g (R.MEM_BANK_STATUS.MRES n) = res % 4 ∧
    (s.bankVerdict n res word bad).g (R.MEM_BANK_STATUS.FAILWORD n) = word % 8192 ∧
    (s.bankVerdict n res word bad).on (R.MEM_BANK_STATUS.BAD n) = bad := by
  obtain ⟨hbadRes, hbadWord, hwordRes⟩ := verdictFields_apart n
  obtain ⟨fitBad, fitRes, fitWord⟩ := verdictFields_fit n
  refine ⟨?_, ?_, State.on_putB_same _ bad rfl fitBad⟩
  · exact (State.g_put_of_apart _ fitBad hbadRes _).trans ((State.g_put_of_apart _ fitWord hwordRes _).trans
      (State.g_put_mod _ fitRes (by norm_num [R.MEM_BANK_STATUS.MRES]) _))
  · exact (State.g_put_of_apart _ fitBad hbadWord _).trans (State.g_put_mod _ fitWord (by norm_num [R.MEM_BANK_STATUS.FAILWORD]) _)

theorem State.bankVerdict_byte (n res word : Nat) (bad : Bool) (a : Nat) : (s.bankVerdict n res word bad).byte a = s.byte a := by
  simp [State.bankVerdict]

/-- The destructive mode leaves the bank filled with zeros. -/
def State.marchFilled (s : State) (d : Bool) (n : Nat) : State := if d then s.refill (16 + n) 1 else s

variable {failed : List (Nat × Nat)}

theorem State.marchJudge_passed (h : ∀ f, f ∈ failed → f.1 ≠ n) :
    s.marchJudge d failed n = (s.marchFilled d n).bankVerdict n 1 0 false := by
  have hnone : failed.find? (fun f => decide (f.1 = n)) = none := List.find?_eq_none.2 fun f hf => by simpa using h f hf
  rw [State.marchJudge, hnone]
  rfl

/-- A bank that failed: its first failing word, and in the preserving mode open contents of every failing word. -/
theorem State.marchJudge_failed {k w : Nat} (h : failed.find? (fun f => decide (f.1 = n)) = some (k, w)) : s.marchJudge d failed n =
    if d then (s.marchFilled d n).bankVerdict n 2 (w % 8192) true
    else (failed.filter (fun f => f.1 = n)).foldl (fun (t : State) f => t.free.2.setBankWord n (f.2 % 8192) t.free.1)
      ((s.marchFilled d n).bankVerdict n 2 (w % 8192) true) := by
  rw [State.marchJudge, h]
  rfl

theorem State.marchJudge_failed_csr {k w : Nat} (h : failed.find? (fun f => decide (f.1 = n)) = some (k, w)) :
    (s.marchJudge d failed n).csr = ((s.marchFilled d n).bankVerdict n 2 (w % 8192) true).csr := by
  rw [State.marchJudge_failed s h]
  split
  · rfl
  · exact List.foldlRecOn (motive := fun t => State.csr t = _) _ _ rfl fun t ht f _ => (State.setBankWord_csr ..).trans ht

theorem State.marchJudge_destructive_byte {a : Nat} (h : memUnit a = 16 + n) : (s.marchJudge true failed n).byte a = 0#8 := by
  have hfilled : (s.marchFilled true n).byte a = 0#8 := s.byte_refill_zeros h
  cases hfind : failed.find? (fun f => decide (f.1 = n)) with
  | none =>
    rw [State.marchJudge_passed s fun f hf => by simpa using List.find?_eq_none.1 hfind f hf, State.bankVerdict_byte, hfilled]
  | some f => rw [State.marchJudge_failed s hfind, if_pos rfl, State.bankVerdict_byte, hfilled]

end Judge

/-! ### The end (R253) -/

section End

variable (s : State) (failed : List (Nat × Nat))

/-- Each bank under test with its owners back and its result. -/
def State.marchJudged : State := s.each s.mt.march (fun u n => (u.marchGive n).marchJudge (!s.mt.preserve) failed n)

/-- How many banks under test failed. -/
def State.marchFails : Nat := (s.mt.march.filter (fun n => failed.any (fun f => decide (f.1 = n)))).length

/-- The number of failures counted, and MARCHFAIL where there is one. -/
def State.marchCount (u : State) (k : Nat) : State :=
  if k ≠ 0 then (u.put R.MEM_MARCH_STATUS.FAILCNT k).raise R.MEM_EVENTS.MARCHFAIL else u.put R.MEM_MARCH_STATUS.FAILCNT k

/-- The test is over: no bank under test, the flags of the run clear, MARCHDONE. -/
def State.marchOver (u : State) : State :=
  (({ u with mt := { u.mt with march := [] } } : State).marchShow false).raise R.MEM_EVENTS.MARCHDONE

theorem State.marchEnd_eq (fails : List (Nat × Nat)) (h : failed = fails.filter (fun f => s.mt.march.contains f.1)) :
    s.marchEnd fails = ((s.marchJudged failed).marchCount (s.marchFails failed)).marchOver := by
  subst h
  rfl

variable {s failed}

theorem State.marchFails_ne_zero (hmarch : ∀ f, f ∈ failed → f.1 ∈ s.mt.march) (h : failed ≠ []) : s.marchFails failed ≠ 0 := by
  obtain ⟨f, hf⟩ := List.exists_mem_of_ne_nil failed h
  have hmem : f.1 ∈ s.mt.march.filter (fun n => failed.any (fun f => decide (f.1 = n))) :=
    List.mem_filter.2 ⟨hmarch f hf, List.any_eq_true.2 ⟨f, hf, decide_eq_true rfl⟩⟩
  exact Nat.ne_of_gt (List.length_pos_of_mem hmem)

variable (u : State) (k : Nat)

theorem State.marchCount_mem : (u.marchCount k).mem = u.mem := by
  unfold State.marchCount
  split <;> simp

theorem State.marchCount_failcnt : (u.marchCount k).g R.MEM_MARCH_STATUS.FAILCNT = k % 65536 := by
  have hput : (u.put R.MEM_MARCH_STATUS.FAILCNT k).g R.MEM_MARCH_STATUS.FAILCNT = k % 65536 :=
    State.g_put_mod _ (by decide) (by norm_num [R.MEM_MARCH_STATUS.FAILCNT]) _
  unfold State.marchCount
  split
  · exact (State.g_put_register _ _ _ _ (by decide)).trans hput
  · exact hput

variable {k} in
theorem State.marchCount_marchfail (hk : k ≠ 0) : (u.marchCount k).on R.MEM_EVENTS.MARCHFAIL = true := by
  rw [State.marchCount, if_pos hk]
  exact State.on_putB_same _ true rfl (by decide)

theorem State.marchOver_mt : u.marchOver.mt = { u.mt with march := [] } := by
  simp [State.marchOver, State.marchShow]

theorem State.marchOver_mem : u.marchOver.mem = u.mem := by
  simp [State.marchOver, State.marchShow]

theorem State.marchOver_flags : u.marchOver.on R.MEM_MARCH_STATUS.BUSY = false ∧ u.marchOver.on R.MEM_STATUS.MARCHBUSY = false ∧
    u.marchOver.on R.MEM_MARCH_CTL.START = false ∧ u.marchOver.on R.MEM_EVENTS.MARCHDONE = true := by
  obtain ⟨hbusy, hmarchbusy, hstart⟩ := State.marchShow_flags { u with mt := { u.mt with march := [] } } false
  exact ⟨(State.on_put_apart _ (by decide) (.inl (by decide)) 1).trans hbusy,
    (State.on_put_apart _ (by decide) (.inl (by decide)) 1).trans hmarchbusy,
    (State.on_put_apart _ (by decide) (.inl (by decide)) 1).trans hstart, State.on_putB_same _ true rfl (by decide)⟩

theorem State.marchOver_failcnt : u.marchOver.g R.MEM_MARCH_STATUS.FAILCNT = u.g R.MEM_MARCH_STATUS.FAILCNT :=
  (State.g_put_register _ _ _ _ (by decide)).trans (State.marchShow_failcnt _ false)

theorem State.marchOver_marchfail : u.marchOver.on R.MEM_EVENTS.MARCHFAIL = u.on R.MEM_EVENTS.MARCHFAIL :=
  (State.on_put_apart _ (by decide) (.inr (.inr (by decide))) 1).trans (State.on_of_rw (State.marchShow_regsBut _ false _ (by decide)))

end End

/-! ### The statement -/

/-- Settles O34: the start by its refusal code, one bank taken, given back and judged, and the end by the fold over the banks under
test and the flags that follow it. -/
theorem marchTest : Obligations.MarchTest := by
  unfold Obligations.MarchTest
  refine ⟨?refused, ?codes, ?accepted, ?take, ?noTest, ?ends, ?give, ?judge⟩
  case refused =>
    rintro s c rfl hc
    exact congrArg done (State.marchStart_refused hc)
  case codes =>
    exact fun s => ⟨State.marchRefusal_running, fun hmarch hbusy hsel => hsel ▸ State.marchRefusal_nothing hmarch hbusy⟩
  case accepted =>
    intro s h
    obtain ⟨hbusy, hmarchbusy, hstart⟩ := (s.marchTaken s.marchSelected).marchRun_flags
    exact ⟨_, congrArg done (State.marchStart_accepted h), rfl, hbusy, hmarchbusy, hstart, rfl,
      fun n hn => State.marchRun_ownerA _ hn⟩
  case take =>
    intro s n
    obtain ⟨howner, hport⟩ := s.marchTake_owners n
    exact ⟨howner, hport, s.marchTake_before n, rfl, State.setOwner_regsBut _ n _⟩
  case noTest =>
    intro s fails h
    exact congrArg done (by simp [h])
  case ends =>
    intro s fails failed hbusy hfailed
    have hexec : exec (.marchEnd fails) s = .next ((s.marchJudged failed).marchCount (s.marchFails failed)).marchOver.signal :=
      congrArg done ((if_pos hbusy).trans (s.marchEnd_eq failed fails hfailed))
    have hmarch : ∀ f, f ∈ failed → f.1 ∈ s.mt.march := by
      subst hfailed
      exact fun f hf => by simpa using (List.mem_filter.1 hf).2
    obtain ⟨hoff, hidle, hstart, hdone⟩ := ((s.marchJudged failed).marchCount (s.marchFails failed)).marchOver_flags
    exact ⟨_, hexec, by rw [State.marchOver_mt], hoff, hidle, hstart, hdone,
      (State.marchOver_failcnt _).trans (State.marchCount_failcnt ..),
      fun hne => (State.marchOver_marchfail _).trans (State.marchCount_marchfail _ (State.marchFails_ne_zero hmarch hne)),
      (State.marchOver_mem _).trans (State.marchCount_mem ..)⟩
  case give =>
    intro s n v h
    rw [State.marchGive_some h]
    exact ⟨s.setOwner_ownerA n v, s.setOwner_ownerB n v, rfl, s.setOwner_regsBut n v⟩
  case judge =>
    intro s d failed n
    refine ⟨fun h => ?_, fun w more h => ?_, fun hn a hlo hhi => s.marchJudge_destructive_byte (memUnit_bank hn hlo hhi)⟩
    · rw [s.marchJudge_passed h]
      obtain ⟨hres, -, hbad⟩ := (s.marchFilled d n).bankVerdict_fields n 1 0 false
      exact ⟨hres, hbad⟩
    · have hfind : failed.find? (fun f => decide (f.1 = n)) = some (n, w) := by simp [h]
      have hrw : ∀ a, (s.marchJudge d failed n).rw a = ((s.marchFilled d n).bankVerdict n 2 (w % 8192) true).rw a :=
        State.rw_of_csr (s.marchJudge_failed_csr hfind)
      obtain ⟨hres, hword, hbad⟩ := (s.marchFilled d n).bankVerdict_fields n 2 (w % 8192) true
      refine ⟨(State.g_of_rw (hrw _)).trans hres, (State.on_of_rw (hrw _)).trans hbad, ?_⟩
      rw [State.g_of_rw (hrw _), hword, Nat.mod_mod]

end Sys2Proof.Machine

/-! Requests to the network (R283, R284, R288, R289, R302, R304): how one is made, how it enters the mesh or is answered at its
initiator, what HBM and a bank make of one, and O38. -/

namespace Sys2Proof.Machine

/-! ### Tags (R301) -/

section Tags

variable {s : State} {ini want : Nat}

theorem State.pickTag_free (h : s.tagFree ini want = true) : s.pickTag ini want = want := by
  rw [State.pickTag, if_pos h]

theorem State.tagFree_unused (hissued : s.issuedOf ini want = none) (hrest : s.noc.quarantine = []) : s.tagFree ini want = true := by
  simp [State.tagFree, hissued, hrest]

end Tags

/-! ### A region's adapter (R289) -/

section Adapter

variable {s : State} {g x : Nat} {q : Req}

theorem State.adapterRequest_noContext (h : s.activeCtx g = none) : s.adapterRequest g q = s := by
  simp only [State.adapterRequest, h]

/-- The units of the response store that a context may reserve (R289). -/
def State.quotaUnits (s : State) (g x : Nat) : Nat := s.g (R.NOC_REGION_QUOTA.QUOTA g) / 16 ^ x % 16 * 128

theorem State.adapterRequest_waits (hx : s.activeCtx g = some x)
    (h : s.logicOn g = false ∨ s.quotaUnits g x < (s.adapter g).used.get x + reserveUnits q.op q.len) : s.adapterRequest g q = s := by
  have hno : ¬(s.logicOn g && decide ((s.adapter g).used.get x + reserveUnits q.op q.len ≤ s.quotaUnits g x)) = true := by
    simp only [Bool.and_eq_true, decide_eq_true_eq, not_and, Nat.not_le]
    exact fun hon => h.resolve_left (by simp [hon])
  simp only [State.adapterRequest, hx]
  exact if_neg hno

theorem State.adapterRequest_taken (hx : s.activeCtx g = some x) (hon : s.logicOn g = true)
    (hfits : (s.adapter g).used.get x + reserveUnits q.op q.len ≤ s.quotaUnits g x) : s.adapterRequest g q =
      (s.reserve g x (reserveUnits q.op q.len)).request { q with ini := g, ctx := x, tag := s.pickTag g 0 } (q.tag % 256) := by
  have hyes : (s.logicOn g && decide ((s.adapter g).used.get x + reserveUnits q.op q.len ≤ s.quotaUnits g x)) = true := by
    rw [hon, decide_eq_true hfits, Bool.and_self]
  simp only [State.adapterRequest, hx]
  exact if_pos hyes

end Adapter

/-! ### What a request meets at its own endpoint (R17, R283, R284, R302) -/

section Request

variable {s : State} {q : Req} {ftag : Nat}

theorem State.request_fenced (h : s.portState (iniEp q.ini) = portFENCED) : s.request q ftag = s.answerAtOnce q ftag 8 := by
  rw [State.request, if_pos h]

variable (hport : s.portState (iniEp q.ini) ≠ portFENCED)
include hport

theorem State.request_stopped (hrun : s.g R.NOC_STATUS.RUN = 0) : s.request q ftag = s.answerAtOnce q ftag 6 := by
  rw [State.request, if_neg hport, if_pos hrun]

variable (hrun : s.g R.NOC_STATUS.RUN ≠ 0)
include hrun

theorem State.request_nowhere (h : decodeAddr q.addr = none) :
    s.request q ftag = (s.bump R.NOC_ERRCNT.DECERR 1).answerAtOnce q ftag 2 := by
  rw [State.request, if_neg hport, if_neg hrun, h]

variable {t : Target4} (ht : decodeAddr q.addr = some t)
include ht

theorem State.request_denied (h : mayReach (classOf q.ini) t = false) : s.request q ftag = s.answerAtOnce q ftag 3 := by
  simp only [State.request, if_neg hport, if_neg hrun, ht, h, Bool.not_false, if_true]

variable (hreach : mayReach (classOf q.ini) t = true)
include hreach

theorem State.request_malformed (h : reqOk t q = false) : s.request q ftag = s.answerAtOnce q ftag 4 := by
  simp only [State.request, if_neg hport, if_neg hrun, ht, hreach, h, Bool.not_true, Bool.not_false, Bool.false_eq_true, if_false, if_true]

theorem State.request_enters (h : reqOk t q = true) : s.request q ftag = s.inject q ftag (targetEp t q.addr) := by
  simp only [State.request, if_neg hport, if_neg hrun, ht, hreach, h, Bool.not_true, Bool.false_eq_true, if_false]

end Request

/-! ### An answer at the initiator's endpoint (R283, R304) -/

theorem histBin_le (ns : Nat) : histBin ns ≤ 7 := by
  unfold histBin
  split
  · exact Nat.zero_le 7
  · split
    · exact Nat.le_refl 7
    · exact (List.length_filter_le ..).trans (Nat.le_of_eq List.length_range)

/-- A completion's time in its initiator's histogram and its longest latency. -/
def State.nocLatency (s : State) (i : Issued) : State :=
  let ns := (s.tick - i.tick) * 4
  let s := s.bump (R.NOC_INI_HIST.HISTk i.ini (histBin ns)) 1
  if s.g (R.NOC_INI_MAXLAT.MAXLAT i.ini) < ns then s.put (R.NOC_INI_MAXLAT.MAXLAT i.ini) (min ns (2 ^ 32 - 1)) else s

/-- A completion's latency and the units it read. -/
def State.nocTimed (s : State) (i : Issued) (nbytes : Nat) : State :=
  (s.nocLatency i).bump (R.NOC_INI_RDUNITS.RDUNITS i.ini) ((nbytes + 31) / 32)

/-- A completion's error. -/
def State.nocErred (s : State) (ini status : Nat) : State :=
  let s := if status ≠ 0 then s.bump (R.NOC_INI_ERR.ERRRSP ini) 1 else s
  if status = 7 then s.bump (R.NOC_INI_ERR.DEADHIT ini) 1 else s

theorem State.nocCount_eq (s : State) (i : Issued) (status nbytes : Nat) : s.nocCount i status nbytes =
    if s.on R.NOC_STATCTL.FREEZE then s else (s.nocTimed i nbytes).nocErred i.ini status := rfl

/-- What writes of registers other than the error counters' keep, the time counted keeps. -/
theorem State.nocTimed_keeps {β : Type} (p : State → β) {i : Issued}
    (h : ∀ t f x, f.addr ≠ R.NOC_INI_ERR.reg i.ini → p (State.put t f x) = p t) (s : State) (nbytes : Nat) :
    p (s.nocTimed i nbytes) = p s := by
  have hhist : ∀ ns, R.NOC_INI_HIST.reg i.ini (histBin ns) ≠ R.NOC_INI_ERR.reg i.ini := by
    intro ns
    have := histBin_le ns
    unfold R.NOC_INI_HIST.reg R.NOC_INI_ERR.reg
    omega
  have hlat : R.NOC_INI_MAXLAT.reg i.ini ≠ R.NOC_INI_ERR.reg i.ini := by unfold R.NOC_INI_MAXLAT.reg R.NOC_INI_ERR.reg; omega
  have hunits : R.NOC_INI_RDUNITS.reg i.ini ≠ R.NOC_INI_ERR.reg i.ini := by unfold R.NOC_INI_RDUNITS.reg R.NOC_INI_ERR.reg; omega
  have hlatency : p (s.nocLatency i) = p s := by
    unfold State.nocLatency
    simp only
    split
    · exact (h _ _ _ hlat).trans (h _ _ _ (hhist _))
    · exact h _ _ _ (hhist _)
  exact (h _ _ _ hunits).trans hlatency

/-- Counting a completion writes registers only. -/
theorem State.nocCount_keeps {β : Type} (p : State → β) (h : ∀ t f x, p (State.put t f x) = p t) (s : State) (i : Issued)
    (status nbytes : Nat) : p (s.nocCount i status nbytes) = p s := by
  have htimed : p (s.nocTimed i nbytes) = p s := State.nocTimed_keeps p (fun t f x _ => h t f x) s nbytes
  simp only [State.nocCount_eq, State.nocErred, State.bump, apply_ite p, h, htimed, ite_self]

/-- An error counts once in its initiator's ERRRSP (R304). -/
theorem State.nocCount_errrsp (s : State) (i : Issued) {status : Nat} (nbytes : Nat) (hfreeze : s.on R.NOC_STATCTL.FREEZE = false)
    (hstatus : status ≠ 0) :
    (s.nocCount i status nbytes).g (R.NOC_INI_ERR.ERRRSP i.ini) = min 65535 (s.g (R.NOC_INI_ERR.ERRRSP i.ini) + 1) := by
  have htimed : (s.nocTimed i nbytes).g (R.NOC_INI_ERR.ERRRSP i.ini) = s.g (R.NOC_INI_ERR.ERRRSP i.ini) :=
    State.nocTimed_keeps (State.g · _) (fun t f x hf => t.g_put_register f _ x (Ne.symm hf)) s nbytes
  have hcounted : ∀ t : State, (t.bump (R.NOC_INI_ERR.ERRRSP i.ini) 1).g (R.NOC_INI_ERR.ERRRSP i.ini) =
      min 65535 (t.g (R.NOC_INI_ERR.ERRRSP i.ini) + 1) := by
    intro t
    rw [State.g_bump_same t _ 1 (by simp [R.NOC_INI_ERR.ERRRSP])]
    norm_num [R.NOC_INI_ERR.ERRRSP]
  have hdead : ∀ t : State, (t.bump (R.NOC_INI_ERR.DEADHIT i.ini) 1).g (R.NOC_INI_ERR.ERRRSP i.ini) = t.g (R.NOC_INI_ERR.ERRRSP i.ini) :=
    fun t => t.g_put_apart _ _ _ (by simp [R.NOC_INI_ERR.DEADHIT]) (.inr (.inl (by simp [R.NOC_INI_ERR.DEADHIT, R.NOC_INI_ERR.ERRRSP])))
  simp only [State.nocCount_eq, hfreeze, Bool.false_eq_true, if_false, State.nocErred, hstatus, ne_eq, not_false_eq_true, if_true,
    apply_ite (State.g · (R.NOC_INI_ERR.ERRRSP i.ini)), hdead, ite_self, hcounted, htimed]

section Hardened

variable (s : State) {q : Req} (ftag st : Nat) (hlo : 512 ≤ q.ini) (hhi : q.ini ≤ 515)

/-- The request that an initiator would wait for. -/
def State.issuing (s : State) (q : Req) (ftag : Nat) : Issued :=
  { ini := q.ini, tag := q.tag, op := q.op, len := q.len, addr := q.addr, ctx := q.ctx, ftag := ftag, tick := s.tick }

include hlo hhi in
/-- A hardened unit gets its answer at once: it is counted, and the unit has it. -/
theorem State.answerAtOnce_hardened : s.answerAtOnce q ftag st =
    (({ s with noc := { s.noc with issued := s.noc.issued.erase (s.issuing q ftag) } } : State).nocCount (s.issuing q ftag) st 0).answerWith st
      (if st = 5 then [0] else []) := by
  have hfab : ¬q.ini < 512 := Nat.not_lt.2 hlo
  have hvsm : q.ini ≠ iniVasum := Nat.ne_of_lt (Nat.lt_of_le_of_lt hhi (by decide))
  have hcap : q.ini ≠ iniCapture := Nat.ne_of_lt (Nat.lt_of_le_of_lt hhi (by decide))
  have hhost : q.ini ≠ iniHost := Nat.ne_of_lt (Nat.lt_of_le_of_lt hhi (by decide))
  have hdebug : q.ini ≠ iniDebug := Nat.ne_of_lt (Nat.lt_of_le_of_lt hhi (by decide))
  simp only [State.answerAtOnce, State.complete, State.arrive, hfab, hvsm, hcap, hhost, hdebug, decide_false, Bool.false_and, Bool.or_self,
    Bool.false_eq_true, if_false]
  rfl

end Hardened

/-! ### The way into the mesh (R285, R286, R304) -/

theorem State.issue_keeps {β : Type} (p : State → β) (h : ∀ t f x, p (State.put t f x) = p t) (s : State) (q : Req) (ftag : Nat)
    (hnoc : ∀ (t : State) x, p { t with noc := x } = p t) : p (s.issue q ftag) = p s := by
  simp only [State.issue, hnoc, State.bump, apply_ite p, h, ite_self]

theorem State.place_pkts (s : State) (p : Packet) : (s.place p).noc.pkts = s.noc.pkts ++ [p] := rfl

theorem State.place_issued (s : State) (p : Packet) : (s.place p).noc.issued = s.noc.issued := rfl

theorem State.issue_noc (s : State) (q : Req) (ftag : Nat) :
    (s.issue q ftag).noc = { s.noc with issued := s.noc.issued ++ [s.issuing q ftag] } := by
  unfold State.issue State.issuing
  simp only
  split <;> simp

/-- The packet of a request, at its initiator's router (Table 12.5). -/
def State.reqPacket (s : State) (q : Req) (ep : Nat) : Packet :=
  { addr := q.addr, dest := ep, src := iniEp q.ini, tag := q.tag, ctx := q.ctx, posted := decide (q.op = 2), len := q.len, op := q.op
    epoch := decide (s.g R.NOC_EPOCH.INJ = 1), iclass := classOf q.ini, data := if q.op = 0 then [] else q.data.take q.len
    router := iniEp q.ini / 16, port := 4 + iniEp q.ini % 16, ini := q.ini, raw := q.raw }

theorem State.inject_placed (s : State) {q : Req} (ftag ep : Nat) (h : q.ini ≠ iniVasum) :
    s.inject q ftag ep = (s.issue q ftag).place (s.reqPacket q ep) := by
  rw [State.inject, if_neg h]
  rfl

/-! ### A response (R288, Table 12.6) -/

section Respond

variable (s : State) {q : Req} {st : Nat} (ep detail : Nat) (data : List Byte)

theorem State.respond_posted (hop : q.op = 2) (hst : st = 0) : s.respond ep q st detail data = s.postedDone q := by
  rw [State.respond, if_pos (by simp [hop, hst])]

theorem State.respond_placed (h : q.op ≠ 2 ∨ st ≠ 0) : (s.respond ep q st detail data).noc.pkts = s.noc.pkts ++ [{
    addr := q.addr, dest := iniEp q.ini, src := iniEp q.ini, tag := q.tag, ctx := q.ctx, posted := decide (q.op = 2)
    len := if st = 0 then q.len else detail, op := st, isRsp := true, epoch := decide (s.g R.NOC_EPOCH.INJ = 1), iclass := classOf q.ini
    data := data, router := ep / 16, port := 4 + ep % 16, ini := q.ini }] := by
  rw [State.respond, if_neg (by simpa [← not_and_or] using h)]
  rfl

end Respond

/-! ### A request at its target's port (Table 12.12, R261) -/

section Port

variable {s : State} {q : Req} (e : HbmErr)

theorem State.serveRequest_elsewhere {t : Target4} (ht : decodeAddr q.addr = some t) (hne : t ≠ .hbm) : s.serveRequest q e =
    match portAnswer (s.portState (targetEp t q.addr)) with
    | some x => s.respond (targetEp t q.addr) q x 0 []
    | none => s.serveAt t q e := by
  have hgate : s.targetGate t q = (s, (portAnswer (s.portState (targetEp t q.addr))).map (fun st => (st, 0))) := by
    rw [State.targetGate, if_neg (by simp [hne])]
  simp only [State.serveRequest, ht, hgate]
  cases portAnswer (s.portState (targetEp t q.addr)) <;> rfl

theorem State.serveRequest_answered {t : Target4} {x : Nat} (ht : decodeAddr q.addr = some t) (hne : t ≠ .hbm)
    (hport : portAnswer (s.portState (targetEp t q.addr)) = some x) : s.serveRequest q e = s.respond (targetEp t q.addr) q x 0 [] := by
  simp only [State.serveRequest_elsewhere e ht hne, hport]

theorem State.serveRequest_bank (ht : decodeAddr q.addr = some .bank) (hport : s.portState (targetEp .bank q.addr) = portOPEN) :
    s.serveRequest q e = s.bankAccept q := by
  have hopen : portAnswer (s.portState (targetEp .bank q.addr)) = none := by rw [hport]; rfl
  simp only [State.serveRequest_elsewhere e ht (by decide), hopen, State.serveAt]

theorem portAnswer_ne {st x : Nat} (hdead : st ≠ portDEAD) (hfenced : st ≠ portFENCED) (h : portAnswer st = some x) : x = 6 := by
  unfold portAnswer at h
  split at h
  · cases h
  · exact absurd rfl hdead
  · exact absurd rfl hfenced
  · exact (Option.some.inj h).symm

variable (ht : decodeAddr q.addr = some .hbm)
include ht

theorem State.serveRequest_absent (hstack : s.stackState (stackOfLine (lineOf q.addr)) ≠ 2)
    (hdead : s.portState (targetEp .hbm q.addr) ≠ portDEAD) (hfenced : s.portState (targetEp .hbm q.addr) ≠ portFENCED) :
    s.serveRequest q e = s.absentCount.respond (targetEp .hbm q.addr) q 5 1 [] := by
  have h7 : portAnswer (s.portState (targetEp .hbm q.addr)) ≠ some 7 := fun h => absurd (portAnswer_ne hdead hfenced h) (by decide)
  have h8 : portAnswer (s.portState (targetEp .hbm q.addr)) ≠ some 8 := fun h => absurd (portAnswer_ne hdead hfenced h) (by decide)
  have hgate : s.targetGate .hbm q = (s.absentCount, some (5, 1)) := by
    rw [State.targetGate, if_pos (by simp [hstack]), if_neg h7, if_neg h8]
  simp only [State.serveRequest, ht, hgate]

theorem State.serveRequest_hbm (hstack : s.stackState (stackOfLine (lineOf q.addr)) = 2)
    (hport : s.portState (targetEp .hbm q.addr) = portOPEN) : s.serveRequest q e = s.serveHbmPort q e := by
  have hgate : s.targetGate .hbm q = (s, none) := by
    rw [State.targetGate, if_neg (by simp [hstack]), hport]
    rfl
  simp only [State.serveRequest, ht, hgate]
  rfl

end Port

/-! ### A request served by HBM (R261 to R279) -/

section Hbm

variable {s : State} {q : Req} {e : HbmErr}

section Attachment

variable {r : State} (hwait : s.hbm.waiting.get (apOfLine (lineOf q.addr)) = [])
include hwait

theorem State.serveHbmPort_answers {st detail : Nat} {data : List Byte}
    (h : s.hbmServe (classOf q.ini) q e = (r, .answer st detail data)) :
    s.serveHbmPort q e = r.respond (targetEp .hbm q.addr) q st detail data := by
  simp only [State.serveHbmPort, hwait, h]
  rfl

theorem State.serveHbmPort_silent (h : s.hbmServe (classOf q.ini) q e = (r, .silent)) : s.serveHbmPort q e = r := by
  simp only [State.serveHbmPort, hwait, h]
  rfl

end Attachment

end Hbm

section Granted

variable (s : State) (k l a : Nat)

/-! A grant of a pseudo-channel moves its token only. -/

@[simp] theorem State.pcGrant_stackState (n : Nat) : (s.pcGrant k 0).stackState n = s.stackState n := rfl
@[simp] theorem State.pcGrant_pcFailed : (s.pcGrant k 0).pcFailed a = s.pcFailed a := rfl
@[simp] theorem State.pcGrant_hbmPermits (cls : Nat) (write raw : Bool) :
    (s.pcGrant k 0).hbmPermits cls a write raw = s.hbmPermits cls a write raw := rfl
@[simp] theorem State.pcGrant_treeFinding (e : HbmErr) : (s.pcGrant k 0).treeFinding l e = s.treeFinding l e := rfl

/-- The pseudo-channels of a request and of its walk of the tree have granted it. -/
def State.walked (l : Nat) : State := (s.pcGrant (pcKey l) 0).treeGrants l

/-- The grants of a walk move tokens only: a part of the state that no token belongs to stays. -/
theorem State.walked_keeps {β : Type} (p : State → β) (h : ∀ t pc i, p (State.pcGrant t pc i) = p t) (s : State) (l : Nat) :
    p (s.walked l) = p s := by
  simp only [State.walked, State.treeGrants, List.foldl_cons, List.foldl_nil, h]

theorem State.walked_ctr : (s.walked l).hbm.ctr = s.hbm.ctr :=
  State.walked_keeps (fun t => t.hbm.ctr) (fun _ _ _ => rfl) s l

theorem State.walked_saturated : (s.walked l).saturated l = s.saturated l := by
  rw [State.saturated, State.walked_ctr]
  rfl

end Granted

theorem State.hbmErrCount_none (s : State) (a : Nat) : s.hbmErrCount a .none = s := rfl

/-- The access itself, once nothing stands in its way: a read, a write held, or a write performed (R263, R268, R274). -/
def State.hbmAccess (s : State) (q : Req) (e : HbmErr) : State × SrvOut :=
  if !decide (q.op ≠ 0) then
    if decide (e = .dataUE) then ((s.freeBytes q.len).2, .answer 0 0 (s.freeBytes q.len).1)
    else (s, .answer 0 0 (s.hbmBytes q.addr q.raw q.len))
  else if s.saturated (lineOf q.addr) then (s.bump R.SCR_ERRCNT.HELD 1, .held)
  else
    ((if decide (e = .dataUE) && decide (q.len < 4096) then s.lineLost (lineOf q.addr) else s).hbmStore q.addr (q.data.take q.len),
      .answer 0 0 [])

theorem State.hbmAccess_reads (s : State) {q : Req} (hop : q.op = 0) (hraw : q.raw = false) :
    s.hbmAccess q .none = (s, .answer 0 0 (s.hbmBytes q.addr false q.len)) := by
  simp [State.hbmAccess, hop, hraw]

theorem State.hbmAccess_writes (s : State) {q : Req} (hop : q.op ≠ 0) (hsat : s.saturated (lineOf q.addr) = false) :
    s.hbmAccess q .none = (s.hbmStore q.addr (q.data.take q.len), .answer 0 0 []) := by
  simp [State.hbmAccess, hop, hsat]

section Served

variable {s : State} {cls : Nat} {q : Req} {e : HbmErr} (hstack : s.stackState (stackOfLine (lineOf q.addr)) = 2)
include hstack

theorem State.hbmServe_failed (h : s.pcFailed q.addr = true) :
    s.hbmServe cls q e = (s.pcGrant (pcKey (lineOf q.addr)) 0, .answer 5 2 []) := by
  simp only [State.hbmServe, State.pcGrant_stackState, hstack, ne_eq, not_true_eq_false, if_false, State.pcGrant_pcFailed, h, if_true]

variable (hpc : s.pcFailed q.addr = false)
include hpc

theorem State.hbmServe_denied (h : s.hbmPermits cls q.addr (decide (q.op ≠ 0)) q.raw = false) :
    s.hbmServe cls q e = ((s.pcGrant (pcKey (lineOf q.addr)) 0).scrDenied, .answer 3 0 []) := by
  simp only [State.hbmServe, State.pcGrant_stackState, hstack, ne_eq, not_true_eq_false, if_false, State.pcGrant_pcFailed, hpc,
    Bool.false_eq_true, State.pcGrant_hbmPermits, h, Bool.not_false, if_true]

variable (hpermits : s.hbmPermits cls q.addr (decide (q.op ≠ 0)) q.raw = true) (haddr : q.addr < reservedBase) (hraw : q.raw = false)
include hpermits haddr hraw

theorem State.hbmServe_permitted : s.hbmServe cls q e = match s.treeFinding (lineOf q.addr) e with
    | some (kind, level, node) => ((s.pcGrant (pcKey (lineOf q.addr)) 0).integrityHalt kind level node, .silent)
    | none => ((s.walked (lineOf q.addr)).hbmErrCount q.addr e).hbmAccess q e := by
  simp only [State.hbmServe, State.pcGrant_stackState, hstack, ne_eq, not_true_eq_false, if_false, State.pcGrant_pcFailed, hpc,
    Bool.false_eq_true, State.pcGrant_hbmPermits, hpermits, Bool.not_true, Nat.not_le.2 haddr, State.pcGrant_treeFinding]
  simp only [hraw, Bool.false_eq_true, if_false, State.hbmAccess]
  cases s.treeFinding (lineOf q.addr) e <;> rfl

end Served

/-! ### A write of HBM (R268) -/

section Count

variable {β : Type} (p : State → β) (h : ∀ t f x, p (State.put t f x) = p t) (s : State)

/-- The counter of a line one higher. -/
def State.lineCounted (s : State) (l : Nat) : State :=
  { s with hbm := { s.hbm with ctr := s.hbm.ctr.set l (s.hbm.ctr.get l + 1) } }

/-- MAXCTR of region `r` follows a counter that stands at `c`, and NEARSAT shows that it nears its end (R276, R277). -/
def State.maxctrShown (s : State) (r c : Nat) : State :=
  let old := s.g (R.SCR_REGION_MAXCTR.MAXCTR r)
  let s := if old ≤ 0x0F000000 && decide (0x0F000000 < c) then s.raise R.SCR_EVENTS.NEARSAT else s
  if old < c then s.put (R.SCR_REGION_MAXCTR.MAXCTR r) c else s

/-- A line whose counter has saturated makes its region pending, or pending again (R273, R276). -/
def State.satShown (s : State) (l c : Nat) : State :=
  let r := l / 262144
  if c = ctrSat then
    if s.scrState r = 0 then (s.put (R.SCR_REGION_KEYSEL.STATE r) 1).raise R.SCR_EVENTS.REKEYSTART
    else if s.scrState r = 2 && decide (lineInScr l < s.g (R.SCR_REGION_BOUNDARY.BOUNDARY r)) then s.putB (R.SCR_REGION_KEYSEL.AGAIN r) true
    else s
  else s

theorem State.countWrite_eq (l : Nat) : s.countWrite l =
    ((s.lineCounted l).maxctrShown (l / 262144) (s.hbm.ctr.get l + 1)).satShown l (s.hbm.ctr.get l + 1) := rfl

include h

theorem State.maxctrShown_keeps (r c : Nat) : p (s.maxctrShown r c) = p s := by
  simp only [State.maxctrShown, State.raise, apply_ite p, h, ite_self]

theorem State.satShown_keeps (l c : Nat) : p (s.satShown l c) = p s := by
  simp only [State.satShown, State.raise, State.putB, apply_ite p, h, ite_self]

/-- A counted write changes its line's counter and registers. -/
theorem State.countWrite_keeps (l : Nat) : p (s.countWrite l) = p (s.lineCounted l) := by
  rw [State.countWrite_eq, State.satShown_keeps p h, State.maxctrShown_keeps p h]

end Count

section Store

variable (s : State) {a : Nat} (data : List Byte)

variable (ha : a < reservedBase)
include ha

theorem State.hbmStore_counted : s.hbmStore a data = (s.setBytes a data).countWrite (lineOf a) := by
  rw [State.hbmStore, if_neg (Nat.not_le.2 ha)]

theorem State.hbmStore_byte (b : Nat) : (s.hbmStore a data).byte b = (s.setBytes a data).byte b := by
  rw [s.hbmStore_counted data ha]
  exact State.countWrite_keeps (State.byte · b) (fun t f x => t.put_byte f x b) _ _

theorem State.hbmStore_ctr (l : Nat) :
    (s.hbmStore a data).hbm.ctr.get l = if l = lineOf a then s.hbm.ctr.get l + 1 else s.hbm.ctr.get l := by
  have hctr : (s.setBytes a data).hbm = s.hbm := State.setBytes_keeps State.hbm (fun _ _ _ => rfl) s a data
  rw [s.hbmStore_counted data ha, State.countWrite_keeps State.hbm (fun t f x => t.put_hbm f x), State.lineCounted, hctr, SMap.get_set]
  split
  case isTrue h => rw [h]
  case isFalse => rfl

end Store

/-! ### The statement -/

/-- Settles O38: a request from its initiator's tag and adapter to the mesh, or to the answer that it meets at once; then at its
target, by the port's state and, in HBM, by the checks in their order; and the response. -/
theorem nocRequests : Obligations.NocRequests := by
  unfold Obligations.NocRequests
  refine ⟨?commands, ?adapter, ?tags, ?endpoint, ?atOnce, ?enters, ?hbm, ?elsewhere, ?store, ?response⟩
  case commands =>
    rintro s c n q r (⟨rfl, rfl⟩ | ⟨rfl, rfl⟩ | ⟨rfl, rfl⟩ | ⟨rfl, rfl⟩ | ⟨rfl, rfl⟩ | ⟨rfl, rfl⟩ | ⟨rfl, rfl⟩ | ⟨rfl, rfl⟩) rfl <;> rfl
  case adapter =>
    exact fun s g q => ⟨rfl, State.adapterRequest_noContext,
      fun x hx => ⟨State.adapterRequest_waits hx, State.adapterRequest_taken hx⟩⟩
  case tags =>
    exact fun s ini want => ⟨State.pickTag_free, State.tagFree_unused⟩
  case endpoint =>
    exact fun s q ftag => ⟨State.request_fenced, State.request_stopped, fun hport hrun => ⟨State.request_nowhere hport hrun,
      fun t ht => ⟨State.request_denied hport hrun ht, State.request_malformed hport hrun ht, State.request_enters hport hrun ht⟩⟩⟩
  case atOnce =>
    intro s q ftag st hlo hhi
    rw [s.answerAtOnce_hardened ftag st hlo hhi]
    exact ⟨rfl, State.nocCount_keeps State.mem (fun t f x => t.put_mem f x) ..,
      State.nocCount_keeps (fun t => State.noc t |>.pkts) (fun t f x => congrArg Noc.pkts (t.put_noc f x)) ..,
      fun hfreeze hst => State.nocCount_errrsp _ (s.issuing q ftag) 0 hfreeze hst⟩
  case enters =>
    intro s q ftag ep h
    rw [s.inject_placed ftag ep h]
    refine ⟨State.issue_keeps State.mem (fun t f x => t.put_mem f x) s q ftag fun _ _ => rfl, ?_, ?_⟩
    · rw [State.place_pkts, s.issue_noc]
      rfl
    · rw [State.place_issued, s.issue_noc]
      rfl
  case hbm =>
    rintro s q e l ep ht rfl rfl
    refine ⟨State.serveRequest_absent e ht, fun hstack hport hwait => ?_⟩
    rw [State.serveRequest_hbm e ht hstack hport]
    refine ⟨fun hpc => State.serveHbmPort_answers hwait (State.hbmServe_failed hstack hpc),
      fun hpc hdenied => State.serveHbmPort_answers hwait (State.hbmServe_denied hstack hpc hdenied),
      fun hpc hpermits haddr hraw => ?_⟩
    have hserve := State.hbmServe_permitted (e := e) hstack hpc hpermits haddr hraw
    refine ⟨fun kind level node hfind => State.serveHbmPort_silent hwait (by rw [hserve, hfind]), fun hfind he => ?_⟩
    subst he
    have haccess : s.hbmServe (classOf q.ini) q .none = (s.walked (lineOf q.addr)).hbmAccess q .none := by
      rw [hserve, hfind, State.hbmErrCount_none]
    have hkeeps {β : Type} (p : State → β) (h : ∀ t pc i, p (State.pcGrant t pc i) = p t) := State.walked_keeps p h s (lineOf q.addr)
    refine ⟨s.walked (lineOf q.addr), hkeeps State.mem fun _ _ _ => rfl, hkeeps State.fill fun _ _ _ => rfl,
      hkeeps State.csr fun _ _ _ => rfl, hkeeps State.noc fun _ _ _ => rfl, s.walked_ctr _, fun hop => ?_, fun hop hsat => ?_⟩
    · exact State.serveHbmPort_answers hwait (haccess.trans (State.hbmAccess_reads _ hop hraw))
    · exact State.serveHbmPort_answers hwait (haccess.trans (State.hbmAccess_writes _ hop ((s.walked_saturated _).trans hsat)))
  case elsewhere =>
    intro s q e t x ht hne
    refine ⟨State.serveRequest_answered e ht hne, fun hport hbank => ?_, rfl, rfl, rfl, rfl⟩
    subst hbank
    exact State.serveRequest_bank e ht hport
  case store =>
    intro s a l data ha
    refine ⟨fun i hi => ?_, fun b hb => ?_, s.hbmStore_ctr data ha l⟩
    · rw [s.hbmStore_byte data ha, s.byte_setBytes_inside a hi, List.getD_eq_getElem _ _ hi]
    · rw [s.hbmStore_byte data ha, s.byte_setBytes_other a data hb]
  case response =>
    exact fun s ep q st detail data => ⟨s.respond_posted ep detail data, s.respond_placed ep detail data⟩

end Sys2Proof.Machine

/-! HBM and the inline scrambler (R256, R262, R264, R267, R273 to R277, R280): what the commands of the stacks and of the sweep
engines change, and O37. -/

namespace Sys2Proof.Machine

/-! ### Registers outside a list, and bits of a field -/

theorem regsBut.trans {l : List Nat} {s t u : State} (h : regsBut l s t) (h' : regsBut l t u) : regsBut l s u :=
  fun a ha => (h' a ha).trans (h a ha)

theorem regsBut.mono {l l' : List Nat} {s t : State} (h : regsBut l s t) (hl : l ⊆ l') : regsBut l' s t :=
  fun a ha => h a fun hmem => ha (hl hmem)

theorem regsBut_of_csr {l : List Nat} {s t : State} (h : t.csr = s.csr) : regsBut l s t := fun a _ => State.rw_of_csr h a

theorem regsBut_put {l : List Nat} (s : State) {f : Field} (x : Nat) (hf : f.addr ∈ l) : regsBut l s (s.put f x) :=
  fun _ ha => s.rw_put_other f x fun heq => ha (heq ▸ hf)

theorem regsBut_ite {l : List Nat} {p : Prop} [Decidable p] {s t u : State} (ht : regsBut l s t) (hu : regsBut l s u) :
    regsBut l s (if p then t else u) := by
  split
  · exact ht
  · exact hu

theorem regsBut_clrBit {l : List Nat} (s : State) {f : Field} (b : Nat) (hf : f.addr ∈ l) : regsBut l s (s.clrBit f b) :=
  regsBut_ite (regsBut_put s _ hf) (regsBut_of_csr rfl)

theorem regsBut_each {l ns : List Nat} {f : State → Nat → State} (h : ∀ t, ∀ n ∈ ns, regsBut l t (f t n)) (s : State) :
    regsBut l s (s.each ns f) :=
  fun a ha => State.each_keeps (fun t => t.rw a) (fun t n hn => h t n hn a ha) s

/-- A field of a register outside the list reads as before. -/
theorem regsBut.g {l : List Nat} {s t : State} (h : regsBut l s t) {f : Field} (hf : f.addr ∉ l) : t.g f = s.g f :=
  State.g_of_rw (h _ hf)

theorem State.bit_setBit_same (s : State) {f : Field} {b : Nat} (hf : f.lo + f.w ≤ 32) (hb : b < f.w) :
    (s.setBit f b).bit f b = true := by
  rw [State.bit, State.setBit, State.g_put_same s f _ hf]
  simp [Nat.testBit_mod_two_pow, hb]

theorem testBit_sub_two_pow {n b : Nat} (h : n.testBit b = true) : (n - 2 ^ b).testBit b = false := by
  have hdiv : (n - 2 ^ b) / 2 ^ b = n / 2 ^ b - 1 := by
    simpa using Nat.sub_mul_div_of_le n (2 ^ b) 1 (by simpa using Nat.ge_two_pow_of_testBit h)
  rw [Nat.testBit_eq_decide_div_mod_eq] at h ⊢
  have hodd : n / 2 ^ b % 2 = 1 := of_decide_eq_true h
  rw [hdiv, decide_eq_false_iff_not]
  omega

theorem State.bit_clrBit_same (s : State) {f : Field} (hf : f.lo + f.w ≤ 32) (b : Nat) : (s.clrBit f b).bit f b = false := by
  unfold State.clrBit
  split
  case isTrue h =>
    have hlt : s.g f < 2 ^ f.w := f.of_lt _
    rw [State.bit, State.g_put_same s f _ hf, Nat.mod_eq_of_lt ((Nat.sub_le _ _).trans_lt hlt)]
    exact testBit_sub_two_pow h
  case isFalse h => simpa using h

/-- What one change of a fold reaches and every change keeps holds after the fold. -/
theorem State.each_reaches {P : State → Prop} {f : State → Nat → State} {l : List Nat} {n : Nat} (hn : n ∈ l)
    (hset : ∀ t, P (f t n)) (hstay : ∀ t, ∀ m ∈ l, P t → P (f t m)) (s : State) : P (s.each l f) := by
  obtain ⟨l₁, l₂, rfl⟩ := List.append_of_mem hn
  rw [State.each, List.foldl_append, List.foldl_cons]
  exact List.foldlRecOn (motive := P) l₂ f (hset _) fun t ht m hm => hstay t m (by simp [hm]) ht

/-! ### The state of a stack (R261, R264) -/

section Stack

variable (s : State) {k st : Nat}

theorem State.setStack_moves (h : s.stackState k ≠ st) : s.setStack k st =
    (s.put R.HBM_STATUS.STATE (s.g R.HBM_STATUS.STATE - s.stackState k * 16 ^ k + st * 16 ^ k)).raise R.HBM_EVENTS.STATECHG :=
  if_neg h

/-- A hexadecimal digit of a 16-bit number replaced reads back. -/
theorem digit_replaced {x : Nat} (hk : k < 4) (hst : st < 16) :
    (x - x / 16 ^ k % 16 * 16 ^ k + st * 16 ^ k) % 65536 / 16 ^ k % 16 = st := by
  interval_cases k <;> norm_num <;> omega

variable (hk : k < 4) (hst : st < 16)
include hk hst

theorem State.setStack_state (h : s.stackState k ≠ st) : (s.setStack k st).stackState k = st := by
  rw [s.setStack_moves h, State.stackState, State.raise, State.g_put_register _ _ _ _ (by decide),
    State.g_put_mod s (m := 65536) (by decide) (by decide)]
  exact digit_replaced hk hst

end Stack

theorem State.setStack_event (s : State) {k st : Nat} (h : s.stackState k ≠ st) :
    (s.setStack k st).on R.HBM_EVENTS.STATECHG = true := by
  rw [s.setStack_moves h]
  exact State.on_putB_same _ true rfl (by decide)

theorem State.setStack_regsBut (s : State) (k st : Nat) : regsBut [R.HBM_STATUS.reg, R.HBM_EVENTS.reg] s (s.setStack k st) :=
  regsBut_ite (regsBut_of_csr rfl) ((regsBut_put s _ (by simp [R.HBM_STATUS.STATE])).trans
    (regsBut_put _ _ (by simp [R.HBM_EVENTS.STATECHG])))

section SetStackKeeps

variable (s : State) (k st : Nat)

theorem State.setStack_keeps {β : Type} (p : State → β) (h : ∀ t f x, p (State.put t f x) = p t) : p (s.setStack k st) = p s := by
  simp only [State.setStack, State.raise, apply_ite p, h, ite_self]

theorem State.setStack_hbm : (s.setStack k st).hbm = s.hbm := s.setStack_keeps k st State.hbm fun t f x => t.put_hbm f x

theorem State.setStack_mem : (s.setStack k st).mem = s.mem := s.setStack_keeps k st State.mem fun t f x => t.put_mem f x

theorem State.setStack_byte (a : Nat) : (s.setStack k st).byte a = s.byte a :=
  s.setStack_keeps k st (State.byte · a) fun t f x => t.put_byte f x a

end SetStackKeeps

/-! ### The grant of a sweep (R20, R273) -/

theorem ringNext_eq_some {n token d : Nat} {p : Nat → Bool} (hd : d < n) (hp : p ((token + d) % n) = true)
    (hfirst : ∀ e, e < d → p ((token + e) % n) = false) : ringNext n token p = some ((token + d) % n) := by
  have hfind : (List.range n).find? (p ∘ fun i => (token + i) % n) = some d := by
    rw [List.find?_range_eq_some]
    exact ⟨hp, List.mem_range.2 hd, fun e he => by simp [hfirst e he]⟩
  rw [ringNext, List.find?_map, hfind, Option.map_some]

theorem ringNext_eq_none {n : Nat} (token : Nat) {p : Nat → Bool} (h : ∀ i, i < n → p i = false) : ringNext n token p = none := by
  rw [ringNext, List.find?_eq_none]
  intro i hi
  obtain ⟨j, hj, rfl⟩ := List.mem_map.1 hi
  simp [h _ (Nat.mod_lt _ (Nat.zero_lt_of_lt (List.mem_range.1 hj)))]

section Grant

variable {s : State} {k : Nat}

theorem State.sweepGrant_busy (h : s.hbm.engine.get k ≠ none) : s.sweepGrant k = s := by
  obtain ⟨r, hr⟩ := Option.ne_none_iff_exists'.1 h
  simp only [State.sweepGrant, hr]

theorem State.sweepGrant_nothing (h : ∀ i, i < 24 → s.scrState (24 * k + i) ≠ 1) : s.sweepGrant k = s := by
  unfold State.sweepGrant
  rw [ringNext_eq_none _ fun i hi => decide_eq_false (h i hi)]
  cases s.hbm.engine.get k <;> rfl

/-- The engine of stack `k` takes region `i` of its ring and its token moves past it. -/
def State.engineTake (s : State) (k i : Nat) : State :=
  { s with hbm := { s.hbm with engine := s.hbm.engine.set k (some (24 * k + i)), token := s.hbm.token.set k ((i + 1) % 24) } }

/-- The registers show the sweep of region `r` by the engine of stack `k` at its beginning. -/
def State.sweepShown (s : State) (k r : Nat) : State :=
  ((s.put (R.SCR_REGION_KEYSEL.STATE r) 2).put (R.SCR_REGION_BOUNDARY.BOUNDARY r) 0).setBit R.SCR_STATUS.SWEEPING k

theorem State.sweepGrant_grants {i : Nat} (hidle : s.hbm.engine.get k = none)
    (hring : ringNext 24 (s.hbm.token.get k) (fun i => decide (s.scrState (24 * k + i) = 1)) = some i) :
    s.sweepGrant k = (s.engineTake k i).sweepShown k (24 * k + i) := by
  simp only [State.sweepGrant, hidle, hring, State.engineTake, State.sweepShown]

theorem State.sweepShown_regsBut (s : State) (k r : Nat) :
    regsBut [R.SCR_REGION_KEYSEL.reg r, R.SCR_REGION_BOUNDARY.reg r, R.SCR_STATUS.reg] s (s.sweepShown k r) :=
  ((regsBut_put s _ (by simp [R.SCR_REGION_KEYSEL.STATE])).trans (regsBut_put _ _ (by simp [R.SCR_REGION_BOUNDARY.BOUNDARY]))).trans
    (regsBut_put _ _ (by simp [R.SCR_STATUS.SWEEPING]))

theorem State.sweepShown_hbm (s : State) (k r : Nat) : (s.sweepShown k r).hbm = s.hbm := by
  simp only [State.sweepShown, State.setBit_hbm, State.put_hbm]

theorem State.sweepShown_mem (s : State) (k r : Nat) : (s.sweepShown k r).mem = s.mem := by
  simp only [State.sweepShown, State.setBit_mem, State.put_mem]

theorem State.sweepShown_fields (s : State) {k : Nat} (hk : k < 4) (r : Nat) : (s.sweepShown k r).scrState r = 2 ∧
    (s.sweepShown k r).g (R.SCR_REGION_BOUNDARY.BOUNDARY r) = 0 ∧ (s.sweepShown k r).bit R.SCR_STATUS.SWEEPING k = true := by
  obtain ⟨hstatus, hkeysel⟩ : R.SCR_REGION_KEYSEL.reg r ≠ R.SCR_STATUS.reg ∧
      R.SCR_REGION_KEYSEL.reg r ≠ R.SCR_REGION_BOUNDARY.reg r := by
    simp only [R.SCR_REGION_KEYSEL.reg, R.SCR_STATUS.reg, R.SCR_REGION_BOUNDARY.reg]
    omega
  have hboundary : R.SCR_REGION_BOUNDARY.reg r ≠ R.SCR_STATUS.reg := by
    simp only [R.SCR_REGION_BOUNDARY.reg, R.SCR_STATUS.reg]
    omega
  refine ⟨?_, ?_, State.bit_setBit_same _ (by decide) hk⟩
  · exact (State.g_put_register _ _ _ _ hstatus).trans ((State.g_put_register _ _ _ _ hkeysel).trans
      (State.g_put_same s _ _ (by simp [R.SCR_REGION_KEYSEL.STATE])))
  · exact (State.g_put_register _ _ _ _ hboundary).trans (State.g_put_same _ _ _ (by simp [R.SCR_REGION_BOUNDARY.BOUNDARY]))

end Grant

/-! ### Held and waiting writes of a stack (R275) -/

/-- The hold buffers and the requests behind them. -/
def State.withQueues (s : State) (hold waiting : SMap (List Req)) : State :=
  { s with hbm := { s.hbm with hold := hold, waiting := waiting } }

section WithQueues

variable (s : State) (hold waiting : SMap (List Req))

@[simp] theorem State.withQueues_mem : (s.withQueues hold waiting).mem = s.mem := rfl
@[simp] theorem State.withQueues_fill : (s.withQueues hold waiting).fill = s.fill := rfl
@[simp] theorem State.withQueues_ctr : (s.withQueues hold waiting).hbm.ctr = s.hbm.ctr := rfl
@[simp] theorem State.withQueues_engine : (s.withQueues hold waiting).hbm.engine = s.hbm.engine := rfl
@[simp] theorem State.withQueues_rw (a : Nat) : (s.withQueues hold waiting).rw a = s.rw a := rfl
@[simp] theorem State.withQueues_g (f : Field) : (s.withQueues hold waiting).g f = s.g f := rfl
@[simp] theorem State.withQueues_on (f : Field) : (s.withQueues hold waiting).on f = s.on f := rfl
@[simp] theorem State.withQueues_bit (f : Field) (b : Nat) : (s.withQueues hold waiting).bit f b = s.bit f b := rfl
@[simp] theorem State.withQueues_scrState (r : Nat) : (s.withQueues hold waiting).scrState r = s.scrState r := rfl

end WithQueues

section Release

variable {s : State} {k : Nat}

theorem State.releaseHeld_nothing (h : s.hbm.hold.get k = []) :
    s.releaseHeld k = s.withQueues (s.hbm.hold.set k []) s.hbm.waiting := by
  simp only [State.releaseHeld, h]
  rfl

/-- Where nothing waits, no request goes on: each attachment point is left empty. -/
theorem State.releaseWaiting_nothing (h : ∀ i, i < 8 → s.hbm.waiting.get (8 * k + i) = []) :
    ∃ waiting, s.releaseWaiting k = s.withQueues s.hbm.hold waiting := by
  suffices hfold : ∃ waiting, (∀ i, i < 8 → SMap.get waiting (8 * k + i) = []) ∧
      s.releaseWaiting k = s.withQueues s.hbm.hold waiting by
    obtain ⟨waiting, -, hs⟩ := hfold
    exact ⟨waiting, hs⟩
  refine List.foldlRecOn (motive := fun t => ∃ waiting, (∀ i, i < 8 → SMap.get waiting (8 * k + i) = []) ∧
    t = s.withQueues s.hbm.hold waiting) (List.range 8) _ ⟨s.hbm.waiting, h, rfl⟩ ?_
  rintro _ ⟨waiting, hempty, rfl⟩ i hi
  have hnone : (s.withQueues s.hbm.hold waiting).hbm.waiting.get (8 * k + i) = [] := hempty i (List.mem_range.1 hi)
  refine ⟨waiting.set (8 * k + i) [], fun j hj => ?_, ?_⟩
  · rw [SMap.get_set, hempty j hj, ite_self]
  · simp only [hnone]
    rfl

/-- With nothing held and nothing waiting, nothing is performed. -/
theorem State.release_nothing (hhold : s.hbm.hold.get k = []) (hwait : ∀ i, i < 8 → s.hbm.waiting.get (8 * k + i) = []) :
    ∃ hold waiting, (s.releaseHeld k).releaseWaiting k = s.withQueues hold waiting := by
  rw [State.releaseHeld_nothing hhold]
  obtain ⟨waiting, h⟩ := State.releaseWaiting_nothing (s := s.withQueues (s.hbm.hold.set k []) s.hbm.waiting) hwait
  exact ⟨_, waiting, h⟩

end Release

/-! ### One group swept (R273, R277) -/

section Group

/-- The tokens of the pseudo-channel controllers. -/
def State.withTokens (s : State) (tok : SMap Nat) : State := { s with hbm := { s.hbm with pcTok := tok } }

theorem State.pcGrants_eq (i : Nat) (f : Nat → Nat) (l : List Nat) (s : State) :
    ∃ tok, l.foldl (fun s n => s.pcGrant (f n) i) s = s.withTokens tok :=
  List.foldlRecOn (motive := fun t => ∃ tok, t = s.withTokens tok) l _ ⟨s.hbm.pcTok, rfl⟩ (by
    rintro _ ⟨tok, rfl⟩ n _
    exact ⟨_, rfl⟩)

variable (s : State) (k r b : Nat)

/-- Is a line outside the group of 16 from line `l₀` on? -/
def outsideGroup (l₀ l : Nat) : Bool := !(decide (l₀ ≤ l) && decide (l < l₀ + 16))

theorem SMap.get_keep_outsideGroup (m : SMap Nat) (l₀ l : Nat) :
    (m.keep (outsideGroup l₀)).get l = if l₀ ≤ l ∧ l < l₀ + 16 then 0 else m.get l := by
  rw [SMap.get_keep]
  by_cases h : l₀ ≤ l ∧ l < l₀ + 16
  · simp [outsideGroup, h]
  · rw [if_neg h, if_pos (by simpa [outsideGroup] using not_and_or.1 h)]

/-- The group of region `r` from its line `b` on with its counters at 0, and BOUNDARY past it. -/
def State.groupSwept : State :=
  ({ s with hbm := { s.hbm with ctr := s.hbm.ctr.keep (outsideGroup (r * 262144 + b)) } } : State).put
    (R.SCR_REGION_BOUNDARY.BOUNDARY r) (b + 16)

theorem State.groupSwept_hbm : (s.groupSwept r b).hbm = { s.hbm with ctr := s.hbm.ctr.keep (outsideGroup (r * 262144 + b)) } := by
  rw [State.groupSwept, State.put_hbm]

theorem State.groupSwept_boundary (hb : b + 16 < 524288) : (s.groupSwept r b).g (R.SCR_REGION_BOUNDARY.BOUNDARY r) = b + 16 := by
  rw [State.groupSwept, State.g_put_same _ _ _ (by simp [R.SCR_REGION_BOUNDARY.BOUNDARY])]
  exact Nat.mod_eq_of_lt hb

theorem State.groupSwept_regsBut : regsBut [R.SCR_REGION_BOUNDARY.reg r] s (s.groupSwept r b) :=
  (regsBut_of_csr rfl).trans (regsBut_put _ _ (by simp [R.SCR_REGION_BOUNDARY.BOUNDARY]))

end Group

/-! ### The end of a sweep (R273, R276) -/

section SweepEnd

variable (s : State) (k r : Nat)

/-- Region `r` takes its next generation and the other key slot, and is STEADY, or PENDING again. -/
def State.keySwap : State :=
  ((((s.bumpWrap (R.SCR_REGION_KEYSEL.GEN r) 1).put (R.SCR_REGION_KEYSEL.SLOT r) (1 - s.g (R.SCR_REGION_KEYSEL.SLOT r))).put
    (R.SCR_REGION_BOUNDARY.BOUNDARY r) 0).putB (R.SCR_REGION_KEYSEL.AGAIN r) false).put (R.SCR_REGION_KEYSEL.STATE r)
    (if s.on (R.SCR_REGION_KEYSEL.AGAIN r) then 1 else 0)

/-- The events of a sweep's end. -/
def State.rekeyShown (again : Bool) : State :=
  if again then (s.raise R.SCR_EVENTS.REKEYDONE).raise R.SCR_EVENTS.REKEYSTART else s.raise R.SCR_EVENTS.REKEYDONE

/-- The engine of stack `k` is idle after the sweep of region `r`. -/
def State.sweepOver : State :=
  let t := (s.clrBit R.SCR_STATUS.SWEEPING k).put (R.SCR_REGION_MAXCTR.MAXCTR r) (s.maxCounter r)
  { t with hbm := { t.hbm with engine := t.hbm.engine.set k none } }

theorem State.sweepEnd_eq : s.sweepEnd k r = ((s.keySwap r).rekeyShown (s.on (R.SCR_REGION_KEYSEL.AGAIN r))).sweepOver k r := rfl

theorem State.keySwap_fields : (s.keySwap r).g (R.SCR_REGION_BOUNDARY.BOUNDARY r) = 0 ∧
    (s.keySwap r).g (R.SCR_REGION_KEYSEL.GEN r) = (s.g (R.SCR_REGION_KEYSEL.GEN r) + 1) % 16777216 ∧
    (s.keySwap r).g (R.SCR_REGION_KEYSEL.SLOT r) = 1 - s.g (R.SCR_REGION_KEYSEL.SLOT r) ∧
    (s.keySwap r).g (R.SCR_REGION_KEYSEL.STATE r) = (if s.on (R.SCR_REGION_KEYSEL.AGAIN r) then 1 else 0) ∧
    (s.keySwap r).g (R.SCR_REGION_KEYSEL.AGAIN r) = 0 := by
  simp (disch := (simp only [Field.Apart, R.SCR_REGION_BOUNDARY.BOUNDARY, R.SCR_REGION_BOUNDARY.reg, R.SCR_REGION_KEYSEL.GEN,
    R.SCR_REGION_KEYSEL.SLOT, R.SCR_REGION_KEYSEL.STATE, R.SCR_REGION_KEYSEL.AGAIN, R.SCR_REGION_KEYSEL.reg]; omega)) only
    [State.keySwap, State.bumpWrap, State.putB, State.g_put_of_apart, State.g_put_same]
  refine ⟨rfl, rfl, Nat.mod_eq_of_lt ?_, ?_, rfl⟩
  · exact Nat.lt_succ_of_le (Nat.sub_le ..)
  · split <;> rfl

theorem State.keySwap_hbm : (s.keySwap r).hbm = s.hbm := by
  simp only [State.keySwap, State.put_hbm, State.putB_hbm, State.bumpWrap_hbm]

theorem State.rekeyShown_regsBut (again : Bool) : regsBut [R.SCR_EVENTS.reg] s (s.rekeyShown again) := by
  have hdone : regsBut [R.SCR_EVENTS.reg] s (s.raise R.SCR_EVENTS.REKEYDONE) := regsBut_put s _ (by simp [R.SCR_EVENTS.REKEYDONE])
  exact regsBut_ite (hdone.trans (regsBut_put _ _ (by simp [R.SCR_EVENTS.REKEYSTART]))) hdone

theorem State.rekeyShown_done (again : Bool) : (s.rekeyShown again).on R.SCR_EVENTS.REKEYDONE = true := by
  have hdone : (s.raise R.SCR_EVENTS.REKEYDONE).on R.SCR_EVENTS.REKEYDONE = true := State.on_putB_same s true rfl (by decide)
  cases again
  case false => exact hdone
  case true => exact (State.on_put_apart _ (by decide) (.inr (.inr (by decide))) 1).trans hdone

theorem State.rekeyShown_keeps {β : Type} (p : State → β) (h : ∀ t f x, p (State.put t f x) = p t) (again : Bool) :
    p (s.rekeyShown again) = p s := by
  simp only [State.rekeyShown, State.raise, apply_ite p, h, ite_self]

theorem State.sweepOver_regsBut : regsBut [R.SCR_STATUS.reg, R.SCR_REGION_MAXCTR.reg r] s (s.sweepOver k r) :=
  ((regsBut_clrBit s _ (by simp [R.SCR_STATUS.SWEEPING])).trans (regsBut_put _ _ (by simp [R.SCR_REGION_MAXCTR.MAXCTR]))).trans
    (regsBut_of_csr rfl)

theorem State.sweepOver_sweeping : (s.sweepOver k r).bit R.SCR_STATUS.SWEEPING k = false := by
  have hreg : R.SCR_STATUS.reg ≠ R.SCR_REGION_MAXCTR.reg r := by
    simp only [R.SCR_STATUS.reg, R.SCR_REGION_MAXCTR.reg]
    omega
  exact (congrArg (Nat.testBit · k) (State.g_put_register _ _ _ _ hreg)).trans (s.bit_clrBit_same (by decide) k)

theorem State.sweepOver_hbm : (s.sweepOver k r).hbm = { s.hbm with engine := s.hbm.engine.set k none } := by
  simp only [State.sweepOver, State.put_hbm, State.clrBit_hbm]

/-- `t` shows that stack `k`'s sweep of region `r`, which `s` shows, has ended. -/
structure SweepEnded (s t : State) (k r : Nat) : Prop where
  boundary : t.g (R.SCR_REGION_BOUNDARY.BOUNDARY r) = 0
  gen : t.g (R.SCR_REGION_KEYSEL.GEN r) = (s.g (R.SCR_REGION_KEYSEL.GEN r) + 1) % 16777216
  slot : t.g (R.SCR_REGION_KEYSEL.SLOT r) = 1 - s.g (R.SCR_REGION_KEYSEL.SLOT r)
  state : t.scrState r = if s.on (R.SCR_REGION_KEYSEL.AGAIN r) then 1 else 0
  again : t.on (R.SCR_REGION_KEYSEL.AGAIN r) = false
  rekeyed : t.on R.SCR_EVENTS.REKEYDONE = true
  idle : t.bit R.SCR_STATUS.SWEEPING k = false

/-- Of the state before, only the region's KEYSEL counts. -/
theorem SweepEnded.of_keysel {s s' t : State} {k r : Nat} (h : SweepEnded s' t k r)
    (hkeysel : s'.rw (R.SCR_REGION_KEYSEL.reg r) = s.rw (R.SCR_REGION_KEYSEL.reg r)) : SweepEnded s t k r := by
  have hgen : s'.g (R.SCR_REGION_KEYSEL.GEN r) = s.g (R.SCR_REGION_KEYSEL.GEN r) := State.g_of_rw hkeysel
  have hslot : s'.g (R.SCR_REGION_KEYSEL.SLOT r) = s.g (R.SCR_REGION_KEYSEL.SLOT r) := State.g_of_rw hkeysel
  have hagain : s'.on (R.SCR_REGION_KEYSEL.AGAIN r) = s.on (R.SCR_REGION_KEYSEL.AGAIN r) := State.on_of_rw hkeysel
  exact { h with gen := hgen ▸ h.gen, slot := hslot ▸ h.slot, state := hagain ▸ h.state }

theorem State.sweepEnd_ended : SweepEnded s (s.sweepEnd k r) k r := by
  obtain ⟨hboundary, hgen, hslot, hstate, hagain⟩ := s.keySwap_fields r
  have hkeys : ∀ f : Field, f.addr = R.SCR_REGION_KEYSEL.reg r ∨ f.addr = R.SCR_REGION_BOUNDARY.reg r →
      (s.sweepEnd k r).g f = (s.keySwap r).g f := by
    intro f hf
    rw [State.sweepEnd_eq]
    refine (regsBut.g (State.sweepOver_regsBut _ k r) ?_).trans (regsBut.g (State.rekeyShown_regsBut _ _) ?_) <;>
      simp only [R.SCR_REGION_KEYSEL.reg, R.SCR_REGION_BOUNDARY.reg, R.SCR_STATUS.reg, R.SCR_REGION_MAXCTR.reg, R.SCR_EVENTS.reg,
        List.mem_cons, List.not_mem_nil, or_false] at hf ⊢ <;> omega
  have hevents : R.SCR_EVENTS.reg ∉ [R.SCR_STATUS.reg, R.SCR_REGION_MAXCTR.reg r] := by
    simp only [R.SCR_STATUS.reg, R.SCR_REGION_MAXCTR.reg, R.SCR_EVENTS.reg, List.mem_cons, List.not_mem_nil, or_false]
    omega
  refine ⟨(hkeys _ (.inr rfl)).trans hboundary, (hkeys _ (.inl rfl)).trans hgen, (hkeys _ (.inl rfl)).trans hslot,
    (hkeys _ (.inl rfl)).trans hstate, State.on_of_g_eq_zero ((hkeys _ (.inl rfl)).trans hagain), ?_, ?_⟩
  · rw [State.sweepEnd_eq, State.on_of_rw (State.sweepOver_regsBut _ k r _ hevents), State.rekeyShown_done]
  · rw [State.sweepEnd_eq, State.sweepOver_sweeping]

theorem State.sweepEnd_hbm : (s.sweepEnd k r).hbm = { s.hbm with engine := s.hbm.engine.set k none } := by
  rw [State.sweepEnd_eq, State.sweepOver_hbm, State.rekeyShown_keeps _ State.hbm (fun t f x => t.put_hbm f x),
    State.keySwap_hbm]

end SweepEnd

/-! ### One group, and the end behind the last (R273, R277) -/

theorem State.mem_fill_of_still {s t : State} (h : t.still = s.still) : t.mem = s.mem ∧ t.fill = s.fill := by
  simp only [State.still, Prod.mk.injEq] at h
  obtain ⟨-, -, -, hmem, hfill, -⟩ := h
  exact ⟨hmem, hfill⟩

section Lines

variable (s : State) (k : Nat) {r b : Nat} (hb : b = s.g (R.SCR_REGION_BOUNDARY.BOUNDARY r))

theorem State.sweepLines_mem (r : Nat) : (s.sweepLines k r).mem = s.mem := (State.mem_fill_of_still (s.sweepLines_still k r)).1

theorem State.sweepLines_fill (r : Nat) : (s.sweepLines k r).fill = s.fill := (State.mem_fill_of_still (s.sweepLines_still k r)).2

include hb

theorem State.sweepLines_eq : ∃ tok, s.sweepLines k r =
    if b + 16 = 262144 then ((s.withTokens tok).groupSwept r b).sweepEnd k r else (s.withTokens tok).groupSwept r b := by
  obtain ⟨t₁, h₁⟩ := State.pcGrants_eq 2 (fun i => pcKey (r * 262144 + b + i)) (List.range 16) s
  obtain ⟨t₂, h₂⟩ := State.pcGrants_eq 1 (fun lv => pcKey (lineOf (nodeAddr lv (nodeOf lv (r * 262144 + b))))) [3, 2, 1, 0]
    (s.withTokens t₁)
  subst hb
  refine ⟨t₂, ?_⟩
  simp only [State.sweepLines, State.treeGrants, h₁, h₂]
  rfl

/-- The group changes nothing of the stacks but tokens, the engine and the counters of its lines. -/
theorem State.sweepLines_hbm : ∃ tok engine, (s.sweepLines k r).hbm =
    { s.hbm with pcTok := tok, engine := engine, ctr := s.hbm.ctr.keep (outsideGroup (r * 262144 + b)) } := by
  obtain ⟨tok, h⟩ := s.sweepLines_eq k hb
  rw [h]
  split
  · exact ⟨_, _, by rw [State.sweepEnd_hbm, State.groupSwept_hbm]; rfl⟩
  · exact ⟨_, _, by rw [State.groupSwept_hbm]; rfl⟩

theorem State.sweepLines_ctr (l : Nat) : (s.sweepLines k r).hbm.ctr.get l =
    if r * 262144 + b ≤ l ∧ l < r * 262144 + b + 16 then 0 else s.hbm.ctr.get l := by
  obtain ⟨tok, engine, h⟩ := s.sweepLines_hbm k hb
  rw [h]
  exact SMap.get_keep_outsideGroup ..

theorem State.sweepLines_more (hmore : b + 16 < 262144) :
    (s.sweepLines k r).g (R.SCR_REGION_BOUNDARY.BOUNDARY r) = b + 16 ∧ (s.sweepLines k r).hbm.engine = s.hbm.engine ∧
      regsBut [R.SCR_REGION_BOUNDARY.reg r] s (s.sweepLines k r) := by
  obtain ⟨tok, h⟩ := s.sweepLines_eq k hb
  rw [h, if_neg (by omega)]
  exact ⟨State.groupSwept_boundary _ _ _ (by omega), by rw [State.groupSwept_hbm]; rfl,
    State.groupSwept_regsBut (s.withTokens tok) r b⟩

theorem State.sweepLines_last (hlast : b + 16 = 262144) : ∃ u, regsBut [R.SCR_REGION_BOUNDARY.reg r] s u ∧
    s.sweepLines k r = u.sweepEnd k r := by
  obtain ⟨tok, h⟩ := s.sweepLines_eq k hb
  exact ⟨_, State.groupSwept_regsBut (s.withTokens tok) r b, h.trans (if_pos hlast)⟩

theorem State.sweepLines_ended (hlast : b + 16 = 262144) :
    SweepEnded s (s.sweepLines k r) k r ∧ (s.sweepLines k r).hbm.engine.get k = none := by
  obtain ⟨u, hu, h⟩ := s.sweepLines_last k hb hlast
  have hkeysel : R.SCR_REGION_KEYSEL.reg r ∉ [R.SCR_REGION_BOUNDARY.reg r] := by
    simp only [R.SCR_REGION_KEYSEL.reg, R.SCR_REGION_BOUNDARY.reg, List.mem_singleton]
    omega
  rw [h]
  exact ⟨(u.sweepEnd_ended k r).of_keysel (hu _ hkeysel), by rw [State.sweepEnd_hbm, SMap.get_set_same]⟩

end Lines

/-! ### SWEEP_GROUP (R270, R275, R277) -/

section SweepGroup

variable {s : State} {k r b : Nat} (e : HbmErr)

theorem State.sweepGroup_idle (h : s.hbm.engine.get k = none) : s.sweepGroup k e = s := by
  simp only [State.sweepGroup, h]

variable {e} (hengine : s.hbm.engine.get k = some r) (hb : b = s.g (R.SCR_REGION_BOUNDARY.BOUNDARY r))
include hengine hb

theorem State.sweepGroup_halts {kind level node : Nat} (h : s.treeFinding (r * 262144 + b) e = some (kind, level, node)) :
    s.sweepGroup k e = s.integrityHalt kind level node := by
  subst hb
  simp only [State.sweepGroup, hengine, h]

theorem State.sweepGroup_sweeps (h : s.treeFinding (r * 262144 + b) e = none) :
    s.sweepGroup k e = ((s.sweepLines k r).releaseHeld k).releaseWaiting k := by
  subst hb
  simp only [State.sweepGroup, hengine, h]

/-- With nothing held and nothing waiting, the command ends with the group. -/
theorem State.sweepGroup_unheld (h : s.treeFinding (r * 262144 + b) e = none) (hhold : s.hbm.hold.get k = [])
    (hwait : ∀ i, i < 8 → s.hbm.waiting.get (8 * k + i) = []) :
    ∃ hold waiting, s.sweepGroup k e = (s.sweepLines k r).withQueues hold waiting := by
  obtain ⟨tok, engine, hhbm⟩ := s.sweepLines_hbm k hb
  rw [State.sweepGroup_sweeps hengine hb h]
  exact State.release_nothing (by rw [hhbm]; exact hhold) (fun i hi => by rw [hhbm]; exact hwait i hi)

end SweepGroup

/-! ### SCRACCESS (R280) -/

section Access

/-- `count` regions from `first` on with their rights set to `v`. -/
def State.accessSet (s : State) (first count : Nat) (v : Word) : State :=
  s.each ((List.range count).map (first + ·)) (fun s r => s.wr (R.SCR_REGION_ACCESS.reg r) v)

theorem State.accessSet_rw (s : State) {first count r : Nat} (v : Word) (hlo : first ≤ r) (hhi : r < first + count) :
    (s.accessSet first count v).rw (R.SCR_REGION_ACCESS.reg r) = v := by
  refine State.each_reaches (P := fun t => t.rw (R.SCR_REGION_ACCESS.reg r) = v) (n := r) ?_ (fun t => t.rw_wr_same _ v)
    (fun t m _ h => ?_) s
  · exact List.mem_map.2 ⟨r - first, List.mem_range.2 (by omega), by omega⟩
  · rw [State.rw_wr, h, ite_self]

theorem State.accessSet_mem (s : State) (first count : Nat) (v : Word) : (s.accessSet first count v).mem = s.mem :=
  State.each_keeps State.mem (fun t _ _ => t.wr_mem _ _) s

theorem State.accessSet_regsBut (s : State) (first count : Nat) (v : Word) :
    regsBut ((List.range count).map (fun i => R.SCR_REGION_ACCESS.reg (first + i))) s (s.accessSet first count v) := by
  refine regsBut_each (fun t r hr a ha => t.rw_wr_other v fun heq => ha ?_) s
  obtain ⟨i, hi, rfl⟩ := List.mem_map.1 hr
  exact List.mem_map.2 ⟨i, hi, heq.symm⟩

variable {s : State} {m : Nat} (hruns : s.mbxRuns m 0x30 = true)
include hruns

theorem State.scrAccess_badRange (h : s.mbxArg m 1 = 0 ∨ 96 < s.mbxArg m 0 + s.mbxArg m 1) :
    s.scrAccess m = s.answerMbx m 0x41 0 0 := by
  simp [State.scrAccess, hruns, h, mbBADREQ]

variable (hcount : s.mbxArg m 1 ≠ 0) (hrange : s.mbxArg m 0 + s.mbxArg m 1 ≤ 96)
include hcount hrange

theorem State.scrAccess_barred (hdbg : (R.SCR_REGION_ACCESS.DBG 0).of (BitVec.ofNat 32 (s.mbxArg m 2 % 1024)) = 2)
    (hpolicy : s.policyBit 1 = false) : s.scrAccess m = s.answerMbx m 0x50 0 0 := by
  simp [State.scrAccess, hruns, hcount, Nat.not_lt.2 hrange, hdbg, hpolicy]

theorem State.scrAccess_taken
    (h : (R.SCR_REGION_ACCESS.DBG 0).of (BitVec.ofNat 32 (s.mbxArg m 2 % 1024)) ≠ 2 ∨ s.policyBit 1 = true) :
    s.scrAccess m = (s.accessSet (s.mbxArg m 0) (s.mbxArg m 1) (BitVec.ofNat 32 (s.mbxArg m 2 % 1024))).answerMbx m 0 0 0 := by
  have hpermits : (decide ((R.SCR_REGION_ACCESS.DBG 0).of (BitVec.ofNat 32 (s.mbxArg m 2 % 1024)) = 2) && !s.policyBit 1) = false := by
    rcases h with h | h <;> simp [h]
  simp only [State.scrAccess, hruns, Bool.not_true, Bool.false_eq_true, if_false, hcount, Nat.not_lt.2 hrange, decide_false,
    Bool.or_false, hpermits, State.accessSet]

end Access

/-! ### HBM_REFRESH (R256) -/

section Refresh

variable (s : State) {k : Nat} (temp : BitVec 8)

/-- The temperature of stack `k` shown, and the refresh rate that goes with it. -/
def State.tempTaken (k : Nat) : State :=
  let t := s.put (R.HBM_STACK_TEMP.TEMP k) temp.toNat
  { t with hbm := { t.hbm with fastRefresh := t.hbm.fastRefresh.set k (decide (85 < temp.toInt)) } }

theorem State.hbmRefresh_eq : s.hbmRefresh k temp = if decide (85 < temp.toInt) && !s.hbm.fastRefresh.get k then
    (s.tempTaken temp k).raise R.HBM_EVENTS.HOT else s.tempTaken temp k := rfl

theorem State.hbmRefresh_keeps {β : Type} (p : State → β) (h : ∀ t f x, p (State.put t f x) = p t) :
    p (s.hbmRefresh k temp) = p (s.tempTaken temp k) := by
  rw [State.hbmRefresh_eq]
  simp only [State.raise, apply_ite p, h, ite_self]

theorem State.hbmRefresh_mem : (s.hbmRefresh k temp).mem = s.mem := by
  rw [s.hbmRefresh_keeps temp State.mem fun t f x => t.put_mem f x]
  exact s.put_mem (R.HBM_STACK_TEMP.TEMP k) temp.toNat

theorem State.hbmRefresh_hbm :
    (s.hbmRefresh k temp).hbm = { s.hbm with fastRefresh := s.hbm.fastRefresh.set k (decide (85 < temp.toInt)) } := by
  rw [s.hbmRefresh_keeps temp State.hbm fun t f x => t.put_hbm f x]
  simp only [State.tempTaken, State.put_hbm]

variable (k) in
theorem State.tempTaken_regsBut : regsBut [R.HBM_STACK_TEMP.reg k] s (s.tempTaken temp k) :=
  (regsBut_put s _ (by simp [R.HBM_STACK_TEMP.TEMP])).trans (regsBut_of_csr rfl)

theorem State.hbmRefresh_regsBut : regsBut [R.HBM_STACK_TEMP.reg k, R.HBM_EVENTS.reg] s (s.hbmRefresh k temp) := by
  have htemp : regsBut [R.HBM_STACK_TEMP.reg k, R.HBM_EVENTS.reg] s (s.tempTaken temp k) :=
    (s.tempTaken_regsBut k temp).mono (by simp)
  exact regsBut_ite (htemp.trans (regsBut_put _ _ (by simp [R.HBM_EVENTS.HOT]))) htemp

theorem State.tempTaken_temp : (s.tempTaken temp k).g (R.HBM_STACK_TEMP.TEMP k) = temp.toNat :=
  (State.g_put_same s _ _ (by simp [R.HBM_STACK_TEMP.TEMP])).trans (Nat.mod_eq_of_lt temp.isLt)

theorem tempReg_ne_events (k : Nat) : R.HBM_STACK_TEMP.reg k ≠ R.HBM_EVENTS.reg := by
  simp only [R.HBM_STACK_TEMP.reg, R.HBM_EVENTS.reg]
  omega

theorem State.hbmRefresh_temp : (s.hbmRefresh k temp).g (R.HBM_STACK_TEMP.TEMP k) = temp.toNat := by
  rw [State.hbmRefresh_eq]
  split
  · exact (State.g_put_register _ _ _ _ (tempReg_ne_events k)).trans (s.tempTaken_temp temp)
  · exact s.tempTaken_temp temp

/-- HOT is flagged when the temperature rises past 85 degrees. -/
theorem State.hbmRefresh_hot : (s.hbmRefresh k temp).on R.HBM_EVENTS.HOT =
    (s.on R.HBM_EVENTS.HOT || (decide (85 < temp.toInt) && !s.hbm.fastRefresh.get k)) := by
  have hsame : (s.tempTaken temp k).on R.HBM_EVENTS.HOT = s.on R.HBM_EVENTS.HOT :=
    State.on_of_rw (s.tempTaken_regsBut k temp _ fun hmem => tempReg_ne_events k (List.mem_singleton.1 hmem).symm)
  rw [State.hbmRefresh_eq]
  split
  case isTrue h => exact (State.on_putB_same _ true rfl (by decide)).trans (by rw [h, Bool.or_true])
  case isFalse h => rw [hsame, Bool.eq_false_iff.2 h, Bool.or_false]

end Refresh

/-! ### A stack trained in service (R264, R267) -/

section Trained

/-- Region `r` STEADY in generation 1, with nothing counted. -/
def State.regionInit (s : State) (r : Nat) : State :=
  ((s.wr (R.SCR_REGION_KEYSEL.reg r) 1#32).wr (R.SCR_REGION_BOUNDARY.reg r) 0#32).wr (R.SCR_REGION_MAXCTR.reg r) 0#32

/-- What `regionInit` makes of the registers of region `r`. -/
def State.RegionFresh (s : State) (r : Nat) : Prop :=
  s.rw (R.SCR_REGION_KEYSEL.reg r) = 1 ∧ s.rw (R.SCR_REGION_BOUNDARY.reg r) = 0 ∧ s.rw (R.SCR_REGION_MAXCTR.reg r) = 0

theorem State.regionInit_fresh (s : State) (r : Nat) : (s.regionInit r).RegionFresh r := by
  simp [State.RegionFresh, State.regionInit, State.rw_wr, R.SCR_REGION_KEYSEL.reg, R.SCR_REGION_BOUNDARY.reg, R.SCR_REGION_MAXCTR.reg]

theorem State.regionInit_regsBut (s : State) (r : Nat) :
    regsBut [R.SCR_REGION_KEYSEL.reg r, R.SCR_REGION_BOUNDARY.reg r, R.SCR_REGION_MAXCTR.reg r] s (s.regionInit r) := by
  intro a ha
  obtain ⟨hkeysel, hboundary, hmaxctr⟩ : a ≠ R.SCR_REGION_KEYSEL.reg r ∧ a ≠ R.SCR_REGION_BOUNDARY.reg r ∧
      a ≠ R.SCR_REGION_MAXCTR.reg r := by simpa using ha
  simp only [State.regionInit, State.rw_wr, hkeysel, hboundary, hmaxctr, if_false]

theorem State.RegionFresh.regionInit {s : State} {r : Nat} (h : s.RegionFresh r) (m : Nat) : (s.regionInit m).RegionFresh r := by
  by_cases hm : m = r
  · exact hm ▸ s.regionInit_fresh m
  · have hother : ∀ a, 0x501000 + r * 16 ≤ a → a < 0x501010 + r * 16 → (s.regionInit m).rw a = s.rw a := by
      refine fun a hlo hhi => s.regionInit_regsBut m a ?_
      simp only [R.SCR_REGION_KEYSEL.reg, R.SCR_REGION_BOUNDARY.reg, R.SCR_REGION_MAXCTR.reg, List.mem_cons, List.not_mem_nil,
        or_false]
      omega
    obtain ⟨hkeysel, hboundary, hmaxctr⟩ := h
    refine ⟨(hother _ ?_ ?_).trans hkeysel, (hother _ ?_ ?_).trans hboundary, (hother _ ?_ ?_).trans hmaxctr⟩ <;>
      simp only [R.SCR_REGION_KEYSEL.reg, R.SCR_REGION_BOUNDARY.reg, R.SCR_REGION_MAXCTR.reg] <;> omega

variable (s : State) (k : Nat)

/-- Stack `k` without contents, counters, held writes and sweep. -/
def State.stackEmptied : State :=
  { s.forget k with hbm := { (s.forget k).hbm with
    ctr := (s.forget k).hbm.ctr.keep (fun l => !decide (stackOfLine l = k)), hold := (s.forget k).hbm.hold.set k []
    engine := (s.forget k).hbm.engine.set k none
    tampered := (s.forget k).hbm.tampered.keep
      (fun n => !decide (stackOfLine (n % 2097152 * 2 ^ (4 + 3 * (n / 2097152))) = k)) } }

theorem State.stackEmptied_ctr : (s.stackEmptied k).hbm.ctr = s.hbm.ctr.keep (fun l => !decide (stackOfLine l = k)) := rfl

theorem State.stackEmptied_engine : (s.stackEmptied k).hbm.engine = s.hbm.engine.set k none := rfl

theorem State.stackEmptied_byte {a : Nat} (h : memUnit a ≠ k) : (s.stackEmptied k).byte a = s.byte a := s.byte_forget_other k h

theorem State.scrInitStack_eq : s.scrInitStack k =
    ((s.stackEmptied k).clrBit R.SCR_STATUS.SWEEPING k).each (List.range 24) (fun t i => t.regionInit (24 * k + i)) := by
  simp only [State.scrInitStack, State.stackEmptied, State.regionInit]

theorem State.scrInitStack_fresh {i : Nat} (hi : i < 24) : (s.scrInitStack k).RegionFresh (24 * k + i) := by
  rw [State.scrInitStack_eq]
  exact State.each_reaches (P := fun t => t.RegionFresh (24 * k + i)) (f := fun t i => t.regionInit (24 * k + i)) (n := i)
    (List.mem_range.2 hi) (fun t => t.regionInit_fresh (24 * k + i)) (fun t m _ h => State.RegionFresh.regionInit h (24 * k + m)) _

theorem State.scrInitStack_keeps {β : Type} (p : State → β) (h : ∀ t f x, p (State.put t f x) = p t)
    (hwr : ∀ t a v, p (State.wr t a v) = p t) : p (s.scrInitStack k) = p (s.stackEmptied k) := by
  rw [State.scrInitStack_eq, State.each_keeps p fun t i _ => ?init]
  case init => simp only [State.regionInit, hwr]
  simp only [State.clrBit, apply_ite p, h, ite_self]

theorem State.scrInitStack_hbm : (s.scrInitStack k).hbm = (s.stackEmptied k).hbm :=
  s.scrInitStack_keeps k State.hbm (fun t f x => t.put_hbm f x) (fun t a v => t.wr_hbm a v)

theorem State.scrInitStack_ctr (l : Nat) : (s.scrInitStack k).hbm.ctr.get l = if stackOfLine l = k then 0 else s.hbm.ctr.get l := by
  rw [State.scrInitStack_hbm, State.stackEmptied_ctr, SMap.get_keep]
  by_cases h : stackOfLine l = k <;> simp [h]

theorem State.scrInitStack_engine : (s.scrInitStack k).hbm.engine.get k = none := by
  rw [State.scrInitStack_hbm, State.stackEmptied_engine, SMap.get_set_same]

theorem State.scrInitStack_byte {a : Nat} (h : memUnit a ≠ k) : (s.scrInitStack k).byte a = s.byte a :=
  (s.scrInitStack_keeps k (State.byte · a) (fun t f x => t.put_byte f x a) (fun t b v => t.wr_byte b v a)).trans
    (s.stackEmptied_byte k h)

theorem State.scrInitStack_stackState (n : Nat) : (s.scrInitStack k).stackState n = s.stackState n := by
  have hclr : regsBut [R.SCR_STATUS.reg] (s.stackEmptied k) ((s.stackEmptied k).clrBit R.SCR_STATUS.SWEEPING k) :=
    regsBut_clrBit _ _ (by simp [R.SCR_STATUS.SWEEPING])
  have hrw : (s.scrInitStack k).rw R.HBM_STATUS.reg = s.rw R.HBM_STATUS.reg := by
    rw [State.scrInitStack_eq, State.each_keeps (State.rw · R.HBM_STATUS.reg) fun t i _ => t.regionInit_regsBut _ _ ?_]
    · exact hclr _ (by decide)
    · simp only [R.HBM_STATUS.reg, R.SCR_REGION_KEYSEL.reg, R.SCR_REGION_BOUNDARY.reg, R.SCR_REGION_MAXCTR.reg, List.mem_cons,
        List.not_mem_nil, or_false]
      omega
  exact congrArg (fun x => x / 16 ^ n % 16) (State.g_of_rw (f := R.HBM_STATUS.STATE) hrw)

/-- What a stack that is ON after its training holds, before it shows. -/
def State.stackReady : State := (s.scrInitStack k).drawKeys

theorem State.drawKeys_csr : s.drawKeys.csr = s.csr := rfl
theorem State.drawKeys_ctr : s.drawKeys.hbm.ctr = s.hbm.ctr := rfl
theorem State.drawKeys_engine : s.drawKeys.hbm.engine = s.hbm.engine := rfl
theorem State.drawKeys_byte (a : Nat) : s.drawKeys.byte a = s.byte a := rfl

theorem State.stackReady_rw (a : Nat) : (s.stackReady k).rw a = (s.scrInitStack k).rw a := State.rw_of_csr (State.drawKeys_csr _) a

theorem State.stackReady_ctr (l : Nat) : (s.stackReady k).hbm.ctr.get l = if stackOfLine l = k then 0 else s.hbm.ctr.get l := by
  rw [State.stackReady, State.drawKeys_ctr, State.scrInitStack_ctr]

theorem State.stackReady_engine : (s.stackReady k).hbm.engine.get k = none := by
  rw [State.stackReady, State.drawKeys_engine, State.scrInitStack_engine]

theorem State.stackReady_byte {a : Nat} (h : memUnit a ≠ k) : (s.stackReady k).byte a = s.byte a := by
  rw [State.stackReady, State.drawKeys_byte, s.scrInitStack_byte k h]

theorem State.stackReady_stackState (n : Nat) : (s.stackReady k).stackState n = s.stackState n :=
  (congrArg (fun x => x / 16 ^ n % 16) (State.g_of_rw (f := R.HBM_STATUS.STATE) (s.stackReady_rw k _))).trans
    (s.scrInitStack_stackState k n)

theorem State.stackReady_fresh {i : Nat} (hi : i < 24) : (s.stackReady k).RegionFresh (24 * k + i) := by
  have h := s.scrInitStack_fresh k hi
  simpa only [State.RegionFresh, State.stackReady_rw] using h

variable {s k}

theorem State.RegionFresh.setStack {r : Nat} (h : s.RegionFresh r) (st : Nat) : (s.setStack k st).RegionFresh r := by
  have hother : ∀ a, 0x501000 ≤ a → (s.setStack k st).rw a = s.rw a := by
    refine fun a ha => s.setStack_regsBut k st a ?_
    simp only [R.HBM_STATUS.reg, R.HBM_EVENTS.reg, List.mem_cons, List.not_mem_nil, or_false]
    omega
  obtain ⟨hkeysel, hboundary, hmaxctr⟩ := h
  exact ⟨(hother _ (Nat.le_add_right ..)).trans hkeysel, (hother _ (by unfold R.SCR_REGION_BOUNDARY.reg; omega)).trans hboundary,
    (hother _ (by unfold R.SCR_REGION_MAXCTR.reg; omega)).trans hmaxctr⟩

theorem State.trained_idle (ok : Bool) (h : s.stackState k ≠ 1 ∨ s.start.step ≠ none) : s.trained k ok = s := by
  refine if_pos ?_
  simpa [Option.isSome_iff_ne_none] using h

theorem State.trained_ends (ok : Bool) (hstack : s.stackState k = 1) (hstart : s.start.step = none) :
    s.trained k ok = if ok then (s.stackReady k).setStack k 2 else s.setStack k 3 := by
  refine if_neg ?_
  simp [hstack, hstart]

end Trained

/-! ### The statement -/

/-- Settles O37: a sweep by its grant from the ring, its group of lines and its end; a stack's training by the contents that it
leaves and by HBM_STATUS; SCRACCESS by the regions that it sets one by one. -/
theorem hbmAndScrambler : Obligations.HbmAndScrambler := by
  unfold Obligations.HbmAndScrambler
  refine ⟨?pcFail, ?grant, ?group, ?refresh, fun _ _ _ => rfl, ?trained, ?access⟩
  case pcFail =>
    intro s k p hk
    have hreg : R.HBM_STACK_PCFAIL.reg k ≠ R.HBM_EVENTS.reg := by
      simp only [R.HBM_STACK_PCFAIL.reg, R.HBM_EVENTS.reg]
      omega
    refine ⟨_, rfl, fun hp => ?_, State.on_putB_same _ true rfl (by decide), (State.raise_mem _ _).trans (State.setBit_mem _ _ _),
      (regsBut_put s _ (by simp [R.HBM_STACK_PCFAIL.PCFAIL])).trans (regsBut_put _ _ (by simp [R.HBM_EVENTS.PCFAIL]))⟩
    exact (congrArg (Nat.testBit · p) (State.g_put_register _ _ _ _ hreg)).trans
      (s.bit_setBit_same (by simp [R.HBM_STACK_PCFAIL.PCFAIL]) hp)
  case grant =>
    intro s k
    refine ⟨fun h => congrArg done (State.sweepGrant_busy h), fun h => congrArg done (State.sweepGrant_nothing h), ?_⟩
    rintro d r hidle hd rfl hk hpending hfirst
    have hring := ringNext_eq_some (p := fun i => decide (s.scrState (24 * k + i) = 1)) hd (decide_eq_true hpending)
      fun e he => decide_eq_false (hfirst e he)
    generalize (s.hbm.token.get k + d) % 24 = i at hring
    obtain ⟨hstate, hboundary, hsweeping⟩ := (s.engineTake k i).sweepShown_fields hk (24 * k + i)
    refine ⟨_, congrArg done (State.sweepGrant_grants hidle hring), hstate, hboundary, hsweeping, ?_, ?_, ?_,
      State.sweepShown_mem _ _ _, (regsBut_of_csr rfl).trans (State.sweepShown_regsBut _ _ _)⟩
    · rw [State.sweepShown_hbm, State.engineTake, SMap.get_set_same]
    · rw [State.sweepShown_hbm, State.engineTake, SMap.get_set_same, Nat.add_sub_cancel_left]
    · rw [State.sweepShown_hbm, State.engineTake]
  case group =>
    intro s k e
    refine ⟨fun h => congrArg done (State.sweepGroup_idle e h), fun r b hengine hb hr hk => ⟨fun kind level node hfind => ?_,
      fun hfind hhold hwait => ?_⟩⟩
    · exact congrArg done (State.sweepGroup_halts hengine hb hfind)
    · obtain ⟨hold, waiting, hsweep⟩ := State.sweepGroup_unheld hengine hb hfind hhold hwait
      refine ⟨(s.sweepLines k r).withQueues hold waiting, congrArg done hsweep, ?_⟩
      simp only [regsBut, State.withQueues_mem, State.withQueues_fill, State.withQueues_ctr, State.withQueues_engine,
        State.withQueues_rw, State.withQueues_g, State.withQueues_on, State.withQueues_bit, State.withQueues_scrState]
      refine ⟨s.sweepLines_mem k r, s.sweepLines_fill k r, s.sweepLines_ctr k hb, fun hmore => ?_, fun hlast => ?_⟩
      · obtain ⟨hboundary, hsame, hregs⟩ := s.sweepLines_more k hb hmore
        exact ⟨hboundary, hsame ▸ hengine, hregs⟩
      · obtain ⟨hend, hidle⟩ := s.sweepLines_ended k hb hlast
        exact ⟨hend.boundary, hend.gen, hend.slot, hend.state, hend.again, hend.rekeyed, hend.idle, hidle⟩
  case refresh =>
    intro s k temp _
    refine ⟨s.hbmRefresh k temp, rfl, s.hbmRefresh_temp temp, s.hbmRefresh_mem temp, ?_, ?_, s.hbmRefresh_hot temp,
      s.hbmRefresh_regsBut temp⟩
    · rw [State.hbmRefresh_hbm]
    · rw [State.hbmRefresh_hbm, SMap.get_set_same]
  case trained =>
    intro s k ok hk
    refine ⟨fun h => congrArg done (State.trained_idle ok h), fun hstack hstart hok => ?_, fun hstack hstart hok => ?_⟩
    · subst hok
      have hmove : s.stackState k ≠ 3 := by omega
      exact ⟨s.setStack k 3, congrArg done (State.trained_ends false hstack hstart), s.setStack_state hk (by decide) hmove,
        s.setStack_event hmove, s.setStack_mem k 3⟩
    · subst hok
      have hmove : (s.stackReady k).stackState k ≠ 2 := by
        rw [State.stackReady_stackState, hstack]
        decide
      refine ⟨(s.stackReady k).setStack k 2, congrArg done (State.trained_ends true hstack hstart),
        State.setStack_state _ hk (by decide) hmove, State.setStack_event _ hmove, fun i hi => (s.stackReady_fresh k hi).setStack 2,
        fun l hl => ?_, fun l hl => ?_, ?_, fun a ha => ?_⟩
      · rw [State.setStack_hbm, State.stackReady_ctr, if_pos hl]
      · rw [State.setStack_hbm, State.stackReady_ctr, if_neg hl]
      · rw [State.setStack_hbm, State.stackReady_engine]
      · rw [State.setStack_byte, s.stackReady_byte k ha]
  case access =>
    rintro s m first count hruns rfl rfl
    refine ⟨fun h => congrArg done (State.scrAccess_badRange hruns h), fun v hcount hrange hv => ?_⟩
    subst hv
    refine ⟨fun hdbg hpolicy => congrArg done (State.scrAccess_barred hruns hcount hrange hdbg hpolicy), fun h => ?_⟩
    exact ⟨_, congrArg done (State.scrAccess_taken hruns hcount hrange h), fun r hlo hhi => State.accessSet_rw _ _ hlo hhi,
      State.accessSet_regsBut _ _ _ _, State.accessSet_mem _ _ _ _⟩

end Sys2Proof.Machine

/-! Packets on their way (R286 to R293, R295, R299 to R301): what a router output grants and forwards, what becomes of a response at its
endpoint, what a region's adapter makes of the fabric's answer and of RXTAKE, and O39. -/

namespace Sys2Proof.Machine

/-! ### What a router output grants (R287, R293) -/

section Grant

variable {s : State} {router out port : Nat} {rsp : Bool} {p : Packet}

theorem State.headOf_some (h : s.headOf router port rsp = some p) :
    p ∈ s.noc.pkts ∧ p.router = router ∧ p.port = port ∧ p.isRsp = rsp := by
  have hlies := List.find?_some h
  simp only [Bool.and_eq_true, decide_eq_true_eq, beq_iff_eq] at hlies
  obtain ⟨⟨hrouter, hport⟩, hclass⟩ := hlies
  exact ⟨List.mem_of_find?_eq_some h, hrouter, hport, hclass⟩

theorem State.candidate_some (h : s.candidate router out rsp = some (port, p)) :
    s.headOf router port rsp = some p ∧ s.outOf p = some out ∧ s.roomBeyond router out p = true := by
  unfold State.candidate at h
  simp only at h
  split at h
  case h_1 x hring =>
    obtain ⟨q, hhead, hpair⟩ := Option.map_eq_some_iff.1 h
    obtain ⟨rfl, rfl⟩ := Prod.mk.inj hpair
    have hok := List.find?_some hring
    simp only [hhead, Bool.and_eq_true, decide_eq_true_eq] at hok
    exact ⟨hhead, hok⟩
  case h_2 => cases h

/-- The class whose turn it is comes first; the other is granted only when that one has no candidate. -/
theorem State.granted_some {cls first : Bool} (hfirst : first = decide (s.noc.token.get (router * 128 + out * 4 + 2) = 1))
    (h : s.granted router out = some (cls, port, p)) :
    s.candidate router out cls = some (port, p) ∧ (cls = first ∨ (cls = !first ∧ s.candidate router out first = none)) := by
  unfold State.granted at h
  simp only [← hfirst] at h
  split at h
  case h_1 x hcand =>
    obtain ⟨rfl, rfl⟩ := Prod.mk.inj (Option.some.inj h)
    exact ⟨hcand, .inl rfl⟩
  case h_2 hnone =>
    obtain ⟨x, hcand, hpair⟩ := Option.map_eq_some_iff.1 h
    obtain ⟨rfl, rfl⟩ := Prod.mk.inj hpair
    exact ⟨hcand, .inr ⟨rfl, hnone⟩⟩

end Grant

/-! ### A packet forwarded (R17, R286, R293, R295) -/

/-- What becomes of a packet that has left its router by an output: at a link, the next router has it or finds its header struck; at a
LOCAL output, its endpoint does. -/
def State.onward (s : State) (router out : Nat) (hit : Bool) (e : HbmErr) (p : Packet) : State :=
  if 4 ≤ out then
    if hit then s.headerFail router
    else if p.isRsp then { s with noc := { s.noc with inbox := s.noc.inbox ++ [p] } }
    else s.serveRequest (reqOf p) e
  else match neighbour router out with
    | none => s
    | some nx => if hit then s.headerFail nx else s.nextRouter nx out p

section Forward

variable {s : State} {router out port : Nat} {cls hit : Bool} {e : HbmErr} {p : Packet}

theorem State.forward_stands (h : s.g R.NOC_STATUS.RUN = 0 ∨ s.granted router out = none) : s.forward router out hit e = s := by
  unfold State.forward
  rcases h with hhalt | hnone
  · rw [if_pos hhalt]
  · rw [hnone, ite_self]

theorem State.forward_moves (hrun : s.g R.NOC_STATUS.RUN ≠ 0) (hgrant : s.granted router out = some (cls, port, p)) :
    s.forward router out hit e = (s.leave router out cls port p).onward router out hit e p := by
  rw [State.forward, if_neg hrun, hgrant]
  rfl

theorem State.onward_link {nx : Nat} (hout : out < 4) (hnext : neighbour router out = some nx) :
    s.onward router out hit e p = if hit then s.headerFail nx else s.nextRouter nx out p := by
  rw [State.onward, if_neg (Nat.not_le.2 hout), hnext]

theorem State.onward_local (hout : 4 ≤ out) : s.onward router out hit e p = if hit then s.headerFail router
    else if p.isRsp then { s with noc := { s.noc with inbox := s.noc.inbox ++ [p] } } else s.serveRequest (reqOf p) e :=
  if_pos hout

end Forward

/-! ### A packet leaves its router (R20, R293, R297) -/

section Leave

variable {s : State} (router out port : Nat) (cls : Bool) (p : Packet)

/-- The tokens of an output moved on behind a packet, and the packet gone. -/
def State.sentOff (s : State) (router out : Nat) (cls : Bool) (port : Nat) (p : Packet) : State :=
  { s with noc := { s.noc with
    token := (s.noc.token.set (router * 128 + out * 4 + cls.toNat) ((port + 1) % 20)).set (router * 128 + out * 4 + 2) (!cls).toNat
    pkts := s.noc.pkts.erase p } }

theorem State.shareFill_empty (h : s.noc.share = []) : s.shareFill = s := by
  rw [State.shareFill, h]
  rfl

theorem State.leave_eq (h : s.noc.share = []) : s.leave router out cls port p =
    (s.sentOff router out cls port p).putB (R.NOC_ROUTER_STATUS.OLDPKT router) ((s.sentOff router out cls port p).holdsOld router) :=
  State.shareFill_empty h

theorem State.leave_noc (h : s.noc.share = []) : (s.leave router out cls port p).noc = (s.sentOff router out cls port p).noc := by
  rw [State.leave_eq router out port cls p h, State.putB_noc]

theorem State.sentOff_token : (s.sentOff router out cls port p).noc.token.get (router * 128 + out * 4 + cls.toNat) = (port + 1) % 20 := by
  have hcls : router * 128 + out * 4 + cls.toNat ≠ router * 128 + out * 4 + 2 := by
    have := cls.toNat_le
    omega
  exact (SMap.get_set_other _ _ hcls).trans (SMap.get_set_same ..)

theorem State.sentOff_turn : (s.sentOff router out cls port p).noc.token.get (router * 128 + out * 4 + 2) = (!cls).toNat :=
  SMap.get_set_same ..

theorem State.leave_regsBut (h : s.noc.share = []) :
    regsBut [R.NOC_ROUTER_STATUS.reg router] s (s.leave router out cls port p) := by
  rw [State.leave_eq router out port cls p h]
  exact (regsBut_of_csr (t := s.sentOff router out cls port p) rfl).trans (regsBut_put _ _ (by simp [R.NOC_ROUTER_STATUS.OLDPKT]))

theorem State.nextRouter_regsBut (s : State) (nx : Nat) : regsBut [R.NOC_ROUTER_STATUS.reg nx] s (s.nextRouter nx out p) :=
  (regsBut_of_csr (t := s.place { p with router := nx, port := farPort out }) rfl).trans
    (regsBut_put _ _ (by simp [R.NOC_ROUTER_STATUS.OLDPKT]))

end Leave

/-! ### A header that fails its check (R286) -/

section Header

variable (s : State) {nx : Nat}

theorem State.headerFail_counted (hnx : nx < 64) :
    (s.headerFail nx).g (R.NOC_ROUTER_STATUS.HDRERR nx) = min 65535 (s.g (R.NOC_ROUTER_STATUS.HDRERR nx) + 1) := by
  have htotal : (R.NOC_ROUTER_STATUS.HDRERR nx).addr ≠ R.NOC_ERRCNT.HDRERR.addr := by
    simp only [R.NOC_ROUTER_STATUS.HDRERR, R.NOC_ROUTER_STATUS.reg, R.NOC_ERRCNT.HDRERR, R.NOC_ERRCNT.reg]
    omega
  have hevent : (R.NOC_ROUTER_STATUS.HDRERR nx).addr ≠ R.NOC_EVENTS.HDRCHK.addr := by
    simp only [R.NOC_ROUTER_STATUS.HDRERR, R.NOC_ROUTER_STATUS.reg, R.NOC_EVENTS.HDRCHK, R.NOC_EVENTS.reg]
    omega
  rw [State.headerFail, State.report_g]
  exact (State.g_put_register _ _ _ _ hevent).trans ((State.g_put_register _ _ _ _ htotal).trans
    (s.g_bump_same (R.NOC_ROUTER_STATUS.HDRERR nx) 1 (by simp [R.NOC_ROUTER_STATUS.HDRERR])))

theorem State.headerFail_flagged : (s.headerFail nx).on R.NOC_EVENTS.HDRCHK = true := by
  rw [State.headerFail, State.report_on]
  exact State.on_putB_same _ true rfl (by decide)

theorem State.report_faultLog (s : State) (e : FaultNote) : (s.report e).faultLog = s.faultLog ++ [e] := rfl

theorem State.headerFail_reported : (s.headerFail nx).faultLog = s.faultLog ++ [.nocHeader nx] := by
  rw [State.headerFail, State.report_faultLog, State.raise_faultLog, State.bump_faultLog, State.bump_faultLog]

theorem State.headerFail_noc : (s.headerFail nx).noc = s.noc := by
  rw [State.headerFail, State.report_noc, State.raise_noc, State.bump_noc, State.bump_noc]

end Header

/-! ### A response at its endpoint (R288, R301, Table 12.12) -/

section Response

variable {s : State} {ini tag : Nat} {p : Packet}

/-- The endpoint has taken a response out of the mesh. -/
def State.accepted (s : State) (p : Packet) : State := { s with noc := { s.noc with inbox := s.noc.inbox.erase p } }

/-- What a response that is no WAIT does at its endpoint. -/
def State.answeredBy (s : State) (ini tag : Nat) (p : Packet) : State :=
  match s.issuedOf ini tag with
  | none => s.bump (R.NOC_PORT_STATUS.LATE (iniEp ini)) 1
  | some i =>
    if s.portState (iniEp ini) = portOFF then s.bump (R.NOC_PORT_STATUS.LATE (iniEp ini)) 1
    else s.complete i p.op (if p.op = 0 then 0 else p.len) p.data

theorem State.answeredBy_late (h : s.issuedOf ini tag = none ∨ s.portState (iniEp ini) = portOFF) :
    s.answeredBy ini tag p = s.bump (R.NOC_PORT_STATUS.LATE (iniEp ini)) 1 := by
  unfold State.answeredBy
  split
  case h_1 => rfl
  case h_2 i hi => exact if_pos (h.resolve_left (by simp [hi]))

theorem State.answeredBy_completes {i : Issued} (hi : s.issuedOf ini tag = some i) (hport : s.portState (iniEp ini) ≠ portOFF) :
    s.answeredBy ini tag p = s.complete i p.op (if p.op = 0 then 0 else p.len) p.data := by
  simp only [State.answeredBy, hi, if_neg hport]

theorem State.takeResponse_nothing (h : s.noc.inbox.find? (fun p => p.ini = ini && decide (p.tag = tag)) = none) :
    s.takeResponse ini tag = s := by
  simp only [State.takeResponse, h]

theorem State.takeResponse_eq (h : s.noc.inbox.find? (fun p => p.ini = ini && decide (p.tag = tag)) = some p) :
    s.takeResponse ini tag = if p.op = 1 then s.accepted p else (s.accepted p).answeredBy ini tag p := by
  simp only [State.takeResponse, h]
  rfl

end Response

/-! ### The fabric's answer to a request (R292, R299) -/

section FabricAnswer

variable {s : State} {g rtag : Nat} (status detail : Nat) (data : List Byte)

theorem State.postedDone_owed (s : State) (q : Req) : (s.postedDone q).noc.owed = s.noc.owed := by
  have hforgotten : ∀ t : State, (if q.ini < 512 then t.reserve q.ini q.ctx (-1)
      else if q.ini = iniVasum && decide (512 ≤ q.tag) then
        { t with noc := { t.noc with arrived := t.noc.arrived ++ [(q.ini * 4096 + q.tag, 0, 0, [])] } }
      else t).noc.owed = t.noc.owed := by
    intro t
    split
    · rfl
    · split <;> rfl
  refine (hforgotten _).trans ?_
  split <;> rfl

theorem State.respond_owed (s : State) (ep : Nat) (q : Req) : (s.respond ep q status detail data).noc.owed = s.noc.owed := by
  unfold State.respond
  split
  · exact s.postedDone_owed q
  · rfl

/-- The request of region `g` that an answer of the fabric with this RTAG is for. -/
def State.presented (s : State) (g rtag : Nat) : Option Owed :=
  s.noc.owed.find? (fun o => o.dest = regionEp g && decide (o.rtag = rtag) && decide (rtag < 64))

/-- A request is owed no more. -/
def State.settled (s : State) (o : Owed) : State := { s with noc := { s.noc with owed := s.noc.owed.filter (fun x => !(x = o)) } }

/-- The response that the fabric's answer becomes. -/
def State.fabricResponse (s : State) (g : Nat) (o : Owed) (status detail : Nat) (data : List Byte) : State :=
  if status = 0 then s.respond (regionEp g) o.req 0 0 (if o.req.op = 0 then padTo o.req.len data else [])
  else s.respond (regionEp g) o.req 5 (detail % 256) []

theorem State.fabricResponse_owed (s : State) (o : Owed) : (s.fabricResponse g o status detail data).noc.owed = s.noc.owed := by
  unfold State.fabricResponse
  split <;> exact State.respond_owed ..

theorem State.fabricAnswer_unknown (h : s.presented g rtag = none) : s.fabricAnswer g rtag status detail data =
    if s.portState (regionEp g) = portDEAD then s.bump (R.NOC_PORT_STATUS.LATE (regionEp g)) 1
    else s.bump (R.NOC_REGION_CFG.BADRSP g) 1 := by
  rw [State.presented] at h
  simp only [State.fabricAnswer, h]

/-- With no request waiting for an RTAG, the answer to one presented is its response and no more. -/
theorem State.fabricAnswer_presented {o : Owed} (h : s.presented g rtag = some o)
    (hwait : ∀ y, y ∈ s.noc.owed → ¬(y.dest = regionEp g ∧ y.rtag = 64)) :
    s.fabricAnswer g rtag status detail data = (s.settled o).fabricResponse g o status detail data := by
  have hnone : ((s.settled o).fabricResponse g o status detail data).noc.owed.find?
      (fun x => x.dest = regionEp g && decide (x.rtag = 64)) = none := by
    rw [State.fabricResponse_owed, List.find?_eq_none]
    intro y hy
    simpa using hwait y (List.mem_of_mem_filter hy)
  rw [State.presented] at h
  rw [State.fabricResponse] at hnone ⊢
  simp only [State.fabricAnswer, h]
  exact hnone ▸ rfl

end FabricAnswer

/-! ### RXTAKE (R17, R289, R291) -/

section RxTake

variable {s : State} {g : Nat} {p : FabPkt}

theorem State.setAdapter_adapter (s : State) (g : Nat) (a : Adapter) : (s.setAdapter g a).adapter g = a := SMap.get_set_same ..

theorem State.reserve_adapter (s : State) (g c : Nat) (d : Int) : (s.reserve g c d).adapter g =
    { s.adapter g with used := (s.adapter g).used.upd c (fun u => ((u : Int) + d).toNat) } :=
  s.setAdapter_adapter g _

theorem beatOff_last {l : List FabPkt} (h : p.beats.length = 1) : beatOff l p = l.erase p := if_pos (Nat.le_of_eq h)

theorem beatOff_front {rest : List FabPkt} (hbeats : p.beats ≠ []) (hp : p ∉ rest) : beatOff (p :: rest) p =
    if p.beats.length = 1 then rest else { p with beats := p.beats.drop 1, started := true } :: rest := by
  have hpos := List.length_pos_of_ne_nil hbeats
  split
  case isTrue h => rw [beatOff_last h, List.erase_cons_head]
  case isFalse h =>
    have hrest : rest.map (fun x => if x = p then { x with beats := x.beats.drop 1, started := true } else x) = rest :=
      (List.map_congr_left fun x hx => if_neg (ne_of_mem_of_not_mem hx hp)).trans rest.map_id'
    rw [beatOff, if_neg (by omega), List.map_cons, if_pos rfl, hrest]

theorem State.rxTakeBeat_halted (h : s.g R.NOC_STATUS.RUN = 0) : s.rxTakeBeat g = s := if_pos h

theorem State.rxTakeBeat_nothing (hrsp : s.rspHead g = none) (hreq : (s.adapter g).req = []) : s.rxTakeBeat g = s := by
  simp [State.rxTakeBeat, hrsp, hreq]

/-- The beat presented, as the answer to the access. -/
def State.beatTaken (s : State) (p : FabPkt) : State := s.answerWith stOK (natBytes (p.beats.headD 0#256).toNat 32)

theorem State.beatTaken_adapter (s : State) (p : FabPkt) (g : Nat) : (s.beatTaken p).adapter g = s.adapter g := rfl

/-- An adapter whose fabric has taken a beat of the request in front. -/
def Adapter.requestBeatOff (a : Adapter) (p : FabPkt) : Adapter :=
  { a with req := beatOff a.req p, rspFirst := if p.beats.length ≤ 1 then true else a.rspFirst }

/-- An adapter whose fabric has taken the last beat of a response. -/
def Adapter.responseOff (a : Adapter) (p : FabPkt) : Adapter := { a with rsp := a.rsp.erase p, rspFirst := false }

theorem State.rxTakeBeat_request {rest : List FabPkt} (hrun : s.g R.NOC_STATUS.RUN ≠ 0) (hrsp : s.rspHead g = none)
    (hreq : (s.adapter g).req = p :: rest) : s.rxTakeBeat g =
      (s.setAdapter g ((s.adapter g).requestBeatOff p)).beatTaken p := by
  rw [State.rxTakeBeat, if_neg hrun]
  simp only [hrsp, hreq, List.head?_cons]
  simp [State.beatTaken, Adapter.requestBeatOff, hreq]

theorem State.rxTakeBeat_response {x : Nat} (hrun : s.g R.NOC_STATUS.RUN ≠ 0) (hrsp : s.rspHead g = some p) (hctx : p.ctx = some x)
    (hreq : (s.adapter g).req = []) (hlast : p.beats.length = 1) : s.rxTakeBeat g =
      ((s.setAdapter g ((s.adapter g).responseOff p)).reserve g x (-(p.units : Int))).beatTaken p := by
  rw [State.rxTakeBeat, if_neg hrun]
  simp only [hrsp, hreq, List.head?_nil]
  simp [State.beatTaken, Adapter.responseOff, hctx, hreq, hlast, beatOff_last hlast]

theorem State.reserve_used (s : State) (g x n : Nat) :
    ((s.reserve g x (-(n : Int))).adapter g).used.get x = (s.adapter g).used.get x - n := by
  rw [State.reserve_adapter, SMap.get_upd_same]
  omega

theorem State.reserve_regsBut (s : State) (g x : Nat) (d : Int) : regsBut [R.NOC_REGION_CFG.reg g] s (s.reserve g x d) :=
  (regsBut_of_csr (State.setAdapter_csr s g _)).trans (regsBut_put _ _ (by simp [R.NOC_REGION_CFG.USED]))

end RxTake

/-! ### The statement -/

/-- Settles O39: a packet from its grant to the next router or its endpoint; a response taken there; the fabric's answer to a request;
and the beats that the fabric takes. -/
theorem packetsTravel : Obligations.PacketsTravel := by
  unfold Obligations.PacketsTravel
  refine ⟨?forward, ?turn, ?candidate, ?leave, ?response, ?answer, ?take⟩
  case forward =>
    intro s router out hit e
    refine ⟨rfl, State.forward_stands, ?_⟩
    rintro cls port p _ hrun hgrant rfl
    rw [State.forward_moves hrun hgrant]
    refine ⟨fun nx hout hnext => ?_, fun hout => ?_⟩
    · rw [State.onward_link hout hnext]
      exact ⟨fun h => if_neg (by simp [h]), fun h => if_pos h⟩
    · rw [State.onward_local hout]
      refine ⟨fun h => if_pos h, fun h hrsp => ?_, fun h hreq => ?_⟩
      · rw [if_neg (by simp [h]), if_pos hrsp]
      · rw [if_neg (by simp [h]), if_neg (by simp [hreq])]
  case turn =>
    exact fun s router out cls first port p => State.granted_some
  case candidate =>
    intro s router out port rsp p h
    obtain ⟨hhead, hout, hroom⟩ := State.candidate_some h
    obtain ⟨hmem, hrouter, hport, hclass⟩ := State.headOf_some hhead
    exact ⟨hmem, hrouter, hport, hclass, hout, hroom⟩
  case leave =>
    intro s router out port nx cls p hshare
    have hnoc := State.leave_noc router out port cls p hshare
    refine ⟨congrArg Noc.pkts hnoc, ?_, ?_, ?_, State.leave_regsBut router out port cls p hshare, rfl, rfl,
      State.nextRouter_regsBut out p s nx, fun hnx => ⟨s.headerFail_counted hnx, s.headerFail_flagged, s.headerFail_reported, s.headerFail_noc⟩⟩
    · rw [hnoc]
      exact State.sentOff_token router out port cls p
    · rw [hnoc]
      exact State.sentOff_turn router out port cls p
    · rw [State.leave_eq router out port cls p hshare]
      rfl
  case response =>
    rintro s ini tag _ rfl
    refine ⟨rfl, State.takeResponse_nothing, ?_⟩
    rintro p _ hhere rfl
    rw [State.takeResponse_eq hhere]
    refine ⟨fun hop => if_pos hop, fun hop hlate => ?_, fun i hop hi hport => ?_⟩
    · rw [if_neg hop]
      exact State.answeredBy_late hlate
    · rw [if_neg hop]
      exact State.answeredBy_completes hi hport
  case answer =>
    rintro s g rtag status detail data _ rfl
    refine ⟨fun hnone hdead => ?_, fun hnone halive => ?_, ?_⟩
    · exact congrArg done ((State.fabricAnswer_unknown status detail data hnone).trans (if_pos hdead))
    · exact congrArg done ((State.fabricAnswer_unknown status detail data hnone).trans (if_neg halive))
    · rintro o _ hsome rfl hwait
      have hanswer := State.fabricAnswer_presented status detail data hsome hwait
      exact ⟨fun hok => congrArg done (hanswer.trans (if_pos hok)), fun herr => congrArg done (hanswer.trans (if_neg herr))⟩
  case take =>
    intro s g
    refine ⟨fun hhalt => congrArg done (State.rxTakeBeat_halted hhalt),
      fun hrsp hreq => congrArg done (State.rxTakeBeat_nothing hrsp hreq), fun p rest hrun hrsp hreq hp hbeats => ?_,
      fun p x hrun hrsp hctx hreq hlast => ?_⟩
    · refine ⟨_, congrArg done (State.rxTakeBeat_request hrun hrsp hreq), rfl, ?_, ?_, rfl, rfl⟩
      · rw [State.beatTaken_adapter, State.setAdapter_adapter, Adapter.requestBeatOff, hreq]
        exact beatOff_front hbeats hp
      · rw [State.beatTaken_adapter, State.setAdapter_adapter, Adapter.requestBeatOff]
    · refine ⟨_, congrArg done (State.rxTakeBeat_response hrun hrsp hctx hreq hlast), rfl, ?_, ?_, rfl, ?_⟩
      · rw [State.beatTaken_adapter, State.reserve_adapter, State.setAdapter_adapter, Adapter.responseOff]
      · rw [State.beatTaken_adapter, State.reserve_used, State.setAdapter_adapter, Adapter.responseOff]
      · exact (regsBut_of_csr (State.setAdapter_csr ..)).trans ((State.reserve_regsBut _ g x _).trans
          (regsBut_of_csr (State.answerWith_csr ..)))

end Sys2Proof.Machine

/-! Ports and epochs of the network (R296 to R304): timeouts, WAIT, reclaim, revival and closing of a port, the check and the drain of a
flip, the statistics cleared, and O40. -/

namespace Sys2Proof.Machine

/-! ### The state of a port (Table 12.12) -/

section SetPort

variable (s : State) (ep st : Nat)

/-- A counter of NOC_STATUS follows a port that went from state `old` to `st`: it counts the ports in state `code`. -/
def State.portCounted (s : State) (f : Field) (code old st : Nat) : State :=
  if old ≠ code && decide (st = code) then s.bump f 1
  else if old = code && decide (st ≠ code) then (if s.g f = 255 then s.put f (min 255 (s.portsIn code)) else s.put f (s.g f - 1)) else s

theorem State.setPort_eq : s.setPort ep st =
    ((s.put (R.NOC_PORT_STATUS.STATE ep) st).portCounted R.NOC_STATUS.DEADPORTS portDEAD (s.portState ep) st).portCounted
      R.NOC_STATUS.FENCEDPORTS portFENCED (s.portState ep) st := rfl

theorem State.portCounted_regsBut (f : Field) (code old : Nat) : regsBut [f.addr] s (s.portCounted f code old st) := by
  have hput : ∀ x, regsBut [f.addr] s (s.put f x) := fun x => regsBut_put s x (List.mem_singleton_self _)
  exact regsBut_ite (hput _) (regsBut_ite (regsBut_ite (hput _) (hput _)) (regsBut_of_csr rfl))

theorem State.portCounted_keeps {β : Type} (p : State → β) (h : ∀ t f x, p (State.put t f x) = p t) (f : Field) (code old : Nat) :
    p (s.portCounted f code old st) = p s := by
  simp only [State.portCounted, State.bump, apply_ite p, h, ite_self]

theorem State.setPort_keeps {β : Type} (p : State → β) (h : ∀ t f x, p (State.put t f x) = p t) : p (s.setPort ep st) = p s := by
  rw [State.setPort_eq, State.portCounted_keeps _ _ p h, State.portCounted_keeps _ _ p h, h]

/-- Beside its port's own field, a change of state touches NOC_STATUS only. -/
theorem State.setPort_counted : regsBut [R.NOC_STATUS.reg] (s.put (R.NOC_PORT_STATUS.STATE ep) st) (s.setPort ep st) :=
  (State.portCounted_regsBut _ st R.NOC_STATUS.DEADPORTS portDEAD _).trans
    (State.portCounted_regsBut _ st R.NOC_STATUS.FENCEDPORTS portFENCED _)

theorem State.portCounted_elsewhere {f : Field} {code old st : Nat} (hold : old ≠ code) (hst : st ≠ code) :
    s.portCounted f code old st = s := by
  simp [State.portCounted, hold, hst]

/-- A change between states that NOC_STATUS does not count touches the port's own field only. -/
theorem State.setPort_uncounted {st : Nat} (hold : s.portState ep ≠ portDEAD ∧ s.portState ep ≠ portFENCED)
    (hst : st ≠ portDEAD ∧ st ≠ portFENCED) : s.setPort ep st = s.put (R.NOC_PORT_STATUS.STATE ep) st := by
  rw [State.setPort_eq, State.portCounted_elsewhere _ hold.1 hst.1, State.portCounted_elsewhere _ hold.2 hst.2]

theorem State.setPort_regsBut : regsBut [R.NOC_PORT_STATUS.reg ep, R.NOC_STATUS.reg] s (s.setPort ep st) :=
  (regsBut_put s _ (by simp [R.NOC_PORT_STATUS.STATE])).trans ((s.setPort_counted ep st).mono (by simp))

theorem portStatus_ne_status : R.NOC_PORT_STATUS.reg ep ≠ R.NOC_STATUS.reg := by
  simp only [R.NOC_PORT_STATUS.reg, R.NOC_STATUS.reg]
  omega

theorem portStatus_ne_events : R.NOC_PORT_STATUS.reg ep ≠ R.NOC_EVENTS.reg := by
  simp only [R.NOC_PORT_STATUS.reg, R.NOC_EVENTS.reg]
  omega

theorem State.setPort_state {st : Nat} (hst : st < 8) : (s.setPort ep st).portState ep = st := by
  refine ((s.setPort_counted ep st).g fun h => portStatus_ne_status ep (List.mem_singleton.1 h)).trans ?_
  rw [State.g_put_mod s (m := 8) (by simp [R.NOC_PORT_STATUS.STATE]) (by simp [R.NOC_PORT_STATUS.STATE]), Nat.mod_eq_of_lt hst]

theorem State.setPort_deadcnt : (s.setPort ep st).g (R.NOC_PORT_STATUS.DEADCNT ep) = s.g (R.NOC_PORT_STATUS.DEADCNT ep) :=
  ((s.setPort_counted ep st).g fun h => portStatus_ne_status ep (List.mem_singleton.1 h)).trans
    (s.g_put_apart _ _ _ (by simp [R.NOC_PORT_STATUS.STATE])
      (.inr (.inr (by simp [R.NOC_PORT_STATUS.STATE, R.NOC_PORT_STATUS.DEADCNT]))))

theorem State.setPort_noc : (s.setPort ep st).noc = s.noc := s.setPort_keeps ep st State.noc fun t f x => t.put_noc f x

theorem State.setPort_mem : (s.setPort ep st).mem = s.mem := s.setPort_keeps ep st State.mem fun t f x => t.put_mem f x

theorem State.setPort_faultLog : (s.setPort ep st).faultLog = s.faultLog :=
  s.setPort_keeps ep st State.faultLog fun t f x => t.put_faultLog f x

end SetPort

/-! ### Answers by the router (R299, R300, R302) -/

section Answers

variable (s : State) (ep : Nat)

/-- The packet of an error or interim response (Table 12.5). -/
def State.statusPacket (s : State) (ep st : Nat) (q : Req) : Packet :=
  { addr := q.addr, dest := iniEp q.ini, src := iniEp q.ini, tag := q.tag, ctx := q.ctx, posted := decide (q.op = 2)
    len := if st = 0 then q.len else 0, op := st, isRsp := true, epoch := decide (s.g R.NOC_EPOCH.INJ = 1), iclass := classOf q.ini
    data := [], router := ep / 16, port := 4 + ep % 16, ini := q.ini }

/-- Packets placed in the mesh, in order. -/
def State.placeAll (s : State) (l : List Packet) : State := { s with noc := { s.noc with pkts := s.noc.pkts ++ l } }

theorem State.respondAll_eq {st : Nat} (hst : st ≠ 0) (qs : List Req) : qs.foldl (fun s q => s.respond ep q st 0 []) s =
    s.placeAll (qs.map (s.statusPacket ep st)) := by
  induction qs generalizing s with
  | nil => simp [State.placeAll]
  | cons q qs ih =>
    have hplaced : s.respond ep q st 0 [] = s.place (s.statusPacket ep st q) := if_neg (by simp [hst])
    have hsame : (s.place (s.statusPacket ep st q)).statusPacket ep st = s.statusPacket ep st := rfl
    rw [List.foldl_cons, hplaced, ih, hsame, List.map_cons]
    simp [State.placeAll, State.place]

/-- A port owes nothing. -/
def State.forgives (s : State) (ep : Nat) : State := { s with noc := { s.noc with owed := s.noc.owed.filter (fun o => !(o.dest = ep)) } }

/-- The requests that a port owes. -/
def State.owedAt (s : State) (ep : Nat) : List Req := (s.noc.owed.filter (fun o => o.dest = ep)).map Owed.req

theorem State.answerOwed_eq {st : Nat} (hst : st ≠ 0) : s.answerOwed ep st =
    (s.forgives ep).placeAll ((s.owedAt ep).map (s.statusPacket ep st)) := by
  have hall := (s.forgives ep).respondAll_eq ep hst (s.owedAt ep)
  rw [State.owedAt, List.foldl_map] at hall
  exact hall

/-- Each request owed has its answer. -/
theorem State.answerOwed_answers {st : Nat} (hst : st ≠ 0) {x : Owed} (hx : x ∈ s.noc.owed) (hdest : x.dest = ep) :
    ∃ p, p ∈ (s.answerOwed ep st).noc.pkts ∧ p.isRsp = true ∧ p.op = st ∧ p.dest = iniEp x.req.ini ∧ p.tag = x.req.tag := by
  rw [s.answerOwed_eq ep hst]
  have howed : x.req ∈ s.owedAt ep := List.mem_map_of_mem (List.mem_filter.2 ⟨hx, by simpa using hdest⟩)
  exact ⟨s.statusPacket ep st x.req, List.mem_append_right _ (List.mem_map_of_mem howed), rfl, rfl, rfl, rfl⟩

/-- The suspended requests of a port, to be answered as reads: an interim answer follows even a posted write. -/
def State.suspendedAt (s : State) (ep : Nat) : List Req :=
  (s.noc.owed.filter (fun o => o.dest = ep && o.suspended)).map (fun o => { o.req with op := 0 })

theorem State.sendWait_eq : s.sendWait ep = s.placeAll ((s.suspendedAt ep).map (s.statusPacket ep 1)) := by
  have hall := s.respondAll_eq ep (st := 1) (by decide) (s.suspendedAt ep)
  rw [State.suspendedAt, List.foldl_map] at hall
  exact hall

theorem State.sendWait_answers {x : Owed} (hx : x ∈ s.noc.owed) (hdest : x.dest = ep) (hsuspended : x.suspended = true) :
    ∃ p, p ∈ (s.sendWait ep).noc.pkts ∧ p.isRsp = true ∧ p.op = 1 ∧ p.dest = iniEp x.req.ini ∧ p.tag = x.req.tag := by
  rw [State.sendWait_eq]
  have hmem : { x.req with op := 0 } ∈ s.suspendedAt ep :=
    List.mem_map.2 ⟨x, List.mem_filter.2 ⟨hx, by simp [hdest, hsuspended]⟩, rfl⟩
  exact ⟨s.statusPacket ep 1 { x.req with op := 0 }, List.mem_append_right _ (List.mem_map_of_mem hmem), rfl, rfl, rfl, rfl⟩

theorem State.sendWait_count : (s.sendWait ep).noc.pkts.length =
    s.noc.pkts.length + (s.noc.owed.filter (fun o => o.dest = ep && o.suspended)).length := by
  rw [State.sendWait_eq]
  simp [State.placeAll, State.suspendedAt]

variable {st : Nat} (hst : st ≠ 0)
include hst

theorem State.answerOwed_csr : (s.answerOwed ep st).csr = s.csr := by
  rw [s.answerOwed_eq ep hst]
  rfl

theorem State.answerOwed_owed : (s.answerOwed ep st).noc.owed = s.noc.owed.filter (fun o => !(o.dest = ep)) :=
  congrArg (fun t => t.noc.owed) (s.answerOwed_eq ep hst)

theorem State.answerOwed_mem : (s.answerOwed ep st).mem = s.mem := by
  rw [s.answerOwed_eq ep hst]
  rfl

theorem State.answerOwed_faultLog : (s.answerOwed ep st).faultLog = s.faultLog := by
  rw [s.answerOwed_eq ep hst]
  rfl

end Answers

/-! ### TARGET_TIMEOUT (R299) -/

section TargetTimeout

variable (s : State) (ep : Nat)

/-- A port declared dead: counted, flagged and reported. -/
def State.portDies (s : State) (ep : Nat) : State :=
  (((s.setPort ep portDEAD).bump (R.NOC_PORT_STATUS.DEADCNT ep) 1).raise R.NOC_EVENTS.DEAD).report (.portDead ep)

theorem State.portDies_noc : (s.portDies ep).noc = s.noc := by
  rw [State.portDies, State.report_noc, State.raise_noc, State.bump_noc, State.setPort_noc]

theorem State.portDies_mem : (s.portDies ep).mem = s.mem := by
  rw [State.portDies, State.report_mem, State.raise_mem, State.bump_mem, State.setPort_mem]

theorem State.portDies_faultLog : (s.portDies ep).faultLog = s.faultLog ++ [.portDead ep] := by
  rw [State.portDies, State.report_faultLog, State.raise_faultLog, State.bump_faultLog, State.setPort_faultLog]

theorem State.portDies_flagged : (s.portDies ep).on R.NOC_EVENTS.DEAD = true := by
  rw [State.portDies, State.report_on]
  exact State.on_putB_same _ true rfl (by decide)

theorem State.portDies_state : (s.portDies ep).portState ep = portDEAD := by
  rw [State.portState, State.portDies, State.report_g]
  exact (State.g_put_register _ _ _ _ (portStatus_ne_events ep)).trans
    ((State.g_put_apart _ _ _ _ (by simp [R.NOC_PORT_STATUS.DEADCNT])
      (.inr (.inl (by simp [R.NOC_PORT_STATUS.STATE, R.NOC_PORT_STATUS.DEADCNT])))).trans (s.setPort_state ep (by decide)))

theorem State.portDies_deadcnt :
    (s.portDies ep).g (R.NOC_PORT_STATUS.DEADCNT ep) = min 255 (s.g (R.NOC_PORT_STATUS.DEADCNT ep) + 1) := by
  rw [State.portDies, State.report_g]
  refine (State.g_put_register _ _ _ _ (portStatus_ne_events ep)).trans ?_
  rw [State.g_bump_same _ _ _ (by simp [R.NOC_PORT_STATUS.DEADCNT]), s.setPort_deadcnt ep]
  rfl

theorem State.portDies_regsBut :
    regsBut [R.NOC_PORT_STATUS.reg ep, R.NOC_EVENTS.reg, R.NOC_STATUS.reg] s (s.portDies ep) :=
  ((s.setPort_regsBut ep portDEAD).mono (by simp)).trans ((regsBut_put _ _ (by simp [R.NOC_PORT_STATUS.DEADCNT])).trans
    ((regsBut_put _ _ (by simp [R.NOC_EVENTS.DEAD])).trans (regsBut_of_csr (State.report_csr ..))))

variable {s ep}

theorem State.targetTimeout_none (h : (∀ o, o ∈ s.noc.owed → o.dest = ep → o.suspended = true) ∨
    (s.portState ep ≠ portOPEN ∧ s.portState ep ≠ portCLOSING)) : s.targetTimeout ep = s := by
  refine if_neg fun hdue => ?_
  simp only [Bool.and_eq_true, List.any_eq_true, Bool.not_eq_true', decide_eq_true_eq, Bool.or_eq_true] at hdue
  obtain ⟨⟨o, ho, hdest, hrunning⟩, hstate⟩ := hdue
  rcases h with hnone | ⟨hopen, hclosing⟩
  · exact absurd (hnone o ho hdest) (by simp [hrunning])
  · exact hstate.elim hopen hclosing

theorem State.targetTimeout_dies {o : Owed} (ho : o ∈ s.noc.owed) (hdest : o.dest = ep) (hrunning : o.suspended = false)
    (hstate : s.portState ep = portOPEN ∨ s.portState ep = portCLOSING) :
    s.targetTimeout ep = (s.portDies ep).answerOwed ep 7 := by
  refine if_pos ?_
  simp only [Bool.and_eq_true, List.any_eq_true, Bool.not_eq_true', decide_eq_true_eq, Bool.or_eq_true]
  exact ⟨⟨o, ho, hdest, hrunning⟩, hstate⟩

end TargetTimeout

/-! ### INITIATOR_TIMEOUT (R301) -/

section InitiatorTimeout

/-- Counting a completion touches the initiators' registers only. -/
theorem State.nocCount_rw (s : State) (i : Issued) (status nbytes : Nat) {a : Nat} (ha : a < 0x604000) :
    (s.nocCount i status nbytes).rw a = s.rw a := by
  have hput : ∀ (t : State) (f : Field) (x : Nat), 0x604000 ≤ f.addr → (t.put f x).rw a = t.rw a :=
    fun t f x hf => t.rw_put_other f x (Nat.ne_of_lt (Nat.lt_of_lt_of_le ha hf))
  have hlatency : (s.nocLatency i).rw a = s.rw a := by
    have hhist := hput s (R.NOC_INI_HIST.HISTk i.ini (histBin ((s.tick - i.tick) * 4)))
      (min (2 ^ 32 - 1) (s.g (R.NOC_INI_HIST.HISTk i.ini (histBin ((s.tick - i.tick) * 4))) + 1))
      (by simp only [R.NOC_INI_HIST.HISTk, R.NOC_INI_HIST.reg]; omega)
    unfold State.nocLatency
    simp only
    split
    · exact (hput _ _ _ (by simp only [R.NOC_INI_MAXLAT.MAXLAT, R.NOC_INI_MAXLAT.reg]; omega)).trans hhist
    · exact hhist
  simp (disch := (simp only [R.NOC_INI_RDUNITS.RDUNITS, R.NOC_INI_RDUNITS.reg, R.NOC_INI_ERR.ERRRSP, R.NOC_INI_ERR.DEADHIT,
    R.NOC_INI_ERR.reg]; omega)) only [State.nocCount_eq, State.nocErred, State.nocTimed, State.bump, apply_ite (State.rw · a), hput,
    hlatency, ite_self]

/-- A request is waited for no more. -/
def State.forgets (s : State) (i : Issued) : State := { s with noc := { s.noc with issued := s.noc.issued.erase i } }

/-- A hardened unit gets its answer: it is counted, and the unit has it. -/
theorem State.complete_hardened (s : State) {i : Issued} (st detail : Nat) (data : List Byte) (hlo : 512 ≤ i.ini) (hhi : i.ini ≤ 515) :
    s.complete i st detail data = ((s.forgets i).nocCount i st data.length).answerWith st
      (if st = 5 then [BitVec.ofNat 8 detail] else data) := by
  have hfab : ¬i.ini < 512 := Nat.not_lt.2 hlo
  have hvsm : i.ini ≠ iniVasum := Nat.ne_of_lt (Nat.lt_of_le_of_lt hhi (by decide))
  have hcap : i.ini ≠ iniCapture := Nat.ne_of_lt (Nat.lt_of_le_of_lt hhi (by decide))
  have hhost : i.ini ≠ iniHost := Nat.ne_of_lt (Nat.lt_of_le_of_lt hhi (by decide))
  have hdebug : i.ini ≠ iniDebug := Nat.ne_of_lt (Nat.lt_of_le_of_lt hhi (by decide))
  simp only [State.complete, State.arrive, hfab, hvsm, hcap, hhost, hdebug, decide_false, Bool.false_and, Bool.or_self,
    Bool.false_eq_true, if_false]
  rfl

variable {s : State} {ini tag : Nat} {i : Issued}

theorem State.issuedOf_some (h : s.issuedOf ini tag = some i) : i.ini = ini := by
  have hfound := List.find?_some h
  simp only [Bool.and_eq_true, decide_eq_true_eq] at hfound
  exact hfound.1

/-- A tag that rests for 2 × INI µs. -/
def State.rests (s : State) (ini tag : Nat) : State :=
  { s with noc := { s.noc with quarantine := s.noc.quarantine ++ [(ini * 4096 + tag, s.tick + 2 * s.g R.NOC_TMO.INI * 250)] } }

theorem State.timedOut_quarantine (s : State) (i : Issued) (ini tag : Nat) :
    (((((s.forgets i).nocCount i 9 0).answerWith 9 []).raise R.NOC_EVENTS.TIMEOUT).rests ini tag).noc.quarantine =
      s.noc.quarantine ++ [(ini * 4096 + tag, s.tick + 2 * s.g R.NOC_TMO.INI * 250)] := by
  have hnoc := (s.forgets i).nocCount_keeps State.noc (fun t f x => t.put_noc f x) i 9 0
  have htick := (s.forgets i).nocCount_keeps State.tick (fun t f x => t.put_tick f x) i 9 0
  have hini : (((s.forgets i).nocCount i 9 0).raise R.NOC_EVENTS.TIMEOUT).g R.NOC_TMO.INI = s.g R.NOC_TMO.INI :=
    (State.g_put_register _ _ _ _ (by decide)).trans (State.g_of_rw ((s.forgets i).nocCount_rw i 9 0 (by decide)))
  have hrest : ∀ u : State, ((((u.answerWith 9 []).raise R.NOC_EVENTS.TIMEOUT).rests ini tag).noc.quarantine =
      u.noc.quarantine ++ [(ini * 4096 + tag, u.tick + 2 * (u.raise R.NOC_EVENTS.TIMEOUT).g R.NOC_TMO.INI * 250)]) := fun _ => rfl
  rw [hrest, hnoc, htick, hini]
  rfl

theorem State.initiatorTimeout_none (h : s.issuedOf ini tag = none) : s.initiatorTimeout ini tag = s := by
  simp only [State.initiatorTimeout, h]

theorem State.initiatorTimeout_hardened (h : s.issuedOf ini tag = some i) (hlo : 512 ≤ ini) (hhi : ini ≤ 515) : s.initiatorTimeout ini tag =
    ((((s.forgets i).nocCount i 9 0).answerWith 9 []).raise R.NOC_EVENTS.TIMEOUT).rests ini tag := by
  obtain rfl := State.issuedOf_some h
  simp only [State.initiatorTimeout, h, s.complete_hardened 9 0 [] hlo hhi]
  rfl

end InitiatorTimeout

/-! ### NOC_RECLAIM (R302) -/

section Reclaim

variable {s : State} {ep : Nat}

theorem State.nocReclaim_nowhere (h : epExists ep = false) : s.nocReclaim ep = s := if_pos (by simp [h])

/-- A reclaim of a port behind which no initiator lies. -/
theorem State.nocReclaim_target (hexists : epExists ep = true) (hini : iniAt ep = none) :
    s.nocReclaim ep = ((s.setPort ep portFENCED).answerOwed ep 8).raise R.NOC_EVENTS.FENCED := by
  rw [State.nocReclaim, if_neg (by simp [hexists]), hini]

end Reclaim

/-! ### REVIVE and PORT_CLOSE_COMPLETE (R298, R299) -/

section Revive

variable {s : State} {ep : Nat}

theorem State.revive_other (hdead : s.portState ep ≠ portDEAD) (hfenced : s.portState ep ≠ portFENCED) : s.revive ep = s :=
  if_neg (by simp [hdead, hfenced])

/-- The state that a port's domain gives it. -/
def State.openOrOff (s : State) (ep : Nat) : Nat := if s.pdOn (epDomain ep) = true ∧ epExists ep = true then portOPEN else portOFF

theorem State.openOrOff_lt : s.openOrOff ep < 8 := by
  unfold State.openOrOff
  split <;> decide

theorem State.revive_revives (h : s.portState ep = portDEAD ∨ s.portState ep = portFENCED) :
    s.revive ep = s.setPort ep (s.openOrOff ep) := by
  rw [State.revive, if_pos (by simpa using h)]
  simp only [State.openOrOff, Bool.and_eq_true]

theorem State.portClosed_waits (h : s.portState ep ≠ portCLOSING ∨ ∃ o, o ∈ s.noc.owed ∧ o.dest = ep) : s.portClosed ep = s := by
  refine if_neg fun hidle => ?_
  simp only [Bool.and_eq_true, decide_eq_true_eq, Bool.not_eq_true', List.any_eq_false] at hidle
  obtain ⟨hclosing, howed, -⟩ := hidle
  rcases h with hother | ⟨o, ho, hdest⟩
  · exact hother hclosing
  · exact howed o ho hdest

theorem State.portClosed_closes (hclosing : s.portState ep = portCLOSING) (howed : ∀ o, o ∈ s.noc.owed → o.dest ≠ ep)
    (hissued : ∀ i ini, i ∈ s.noc.issued → iniAt ep = some ini → i.ini ≠ ini) :
    s.portClosed ep = (s.setPort ep portOFF).raise R.NOC_EVENTS.CLOSED := by
  refine if_pos ?_
  simp only [Bool.and_eq_true, decide_eq_true_eq, Bool.not_eq_true', List.any_eq_false]
  refine ⟨hclosing, howed, ?_⟩
  split
  case h_1 ini hini => simpa using fun i hi => hissued i ini hi hini
  case h_2 => rfl

end Revive

/-! ### Epochs (R296, R297) -/

section Epochs

section Check

variable {s t : State} (h : t.csr = s.csr)
include h

theorem State.routeEntry_of_csr (router bank dst : Nat) : t.routeEntry router bank dst = s.routeEntry router bank dst := by
  rw [State.routeEntry, State.rw_of_csr h, State.routeEntry]

theorem State.walk_of_csr (bank dst k : Nat) : ∀ router turned, t.walk bank dst k router turned = s.walk bank dst k router turned := by
  induction k with
  | zero => intro router turned; simp only [State.walk, State.routeEntry_of_csr h]
  | succ k ih => intro router turned; simp only [State.walk, State.routeEntry_of_csr h, ih]

/-- The check of the idle bank reads registers only. -/
theorem State.flipCheck_of_csr : t.flipCheck = s.flipCheck := by
  have hdrained : t.on R.NOC_EPOCH.DRAINED = s.on R.NOC_EPOCH.DRAINED := State.on_of_rw (State.rw_of_csr h _)
  have hinj : t.g R.NOC_EPOCH.INJ = s.g R.NOC_EPOCH.INJ := State.g_of_rw (State.rw_of_csr h _)
  simp only [State.flipCheck, hdrained, hinj, State.walk_of_csr h, State.routeEntry_of_csr h]

end Check

variable {s : State}

theorem State.flipCheck_busy (h : s.on R.NOC_EPOCH.DRAINED = false) : s.flipCheck = 1 := if_pos (by simp [h])

/-- The state with another network beside its registers. -/
def State.withNoc (s : State) (m : Noc) : State := { s with noc := m }

theorem State.withNoc_csr (s : State) (m : Noc) : (s.withNoc m).csr = s.csr := rfl

/-- A flip asked for: its check runs. -/
def State.checkBegins (s : State) : State := (s.putB R.NOC_EPOCH.FLIP true).withNoc { s.noc with checking := true }

theorem State.checkBegins_rw (s : State) (a : Nat) : s.checkBegins.rw a = (s.putB R.NOC_EPOCH.FLIP true).rw a :=
  State.rw_of_csr (State.withNoc_csr ..) a

/-- No route check runs. -/
def State.unchecked (s : State) : State := { s with noc := { s.noc with checking := false } }

/-- A check that is over shows its result. -/
def State.checkEnded (s : State) : State := (s.unchecked.put R.NOC_EPOCH.ERR s.flipCheck).putB R.NOC_EPOCH.FLIP false

/-- Each router shows whether it holds a packet of the old epoch. -/
def State.oldShown (s : State) : State := s.each (List.range 64) (fun s r => s.putB (R.NOC_ROUTER_STATUS.OLDPKT r) (s.holdsOld r))

/-- The other bank is injected from now on. -/
def State.flipped (s : State) : State :=
  (((s.put R.NOC_EPOCH.INJ (1 - s.g R.NOC_EPOCH.INJ)).raise R.NOC_EVENTS.FLIPPED).putB R.NOC_EPOCH.DRAINED false).oldShown

theorem State.flipEnd_idle (h : s.noc.checking = false) : s.flipEnd = s := if_pos (by simp [h])

theorem State.flipEnd_checked (h : s.noc.checking = true) :
    s.flipEnd = if s.flipCheck ≠ 0 then s.checkEnded.raise R.NOC_EVENTS.FLIPERR else s.checkEnded.flipped := by
  have hcheck : s.unchecked.flipCheck = s.flipCheck := State.flipCheck_of_csr rfl
  rw [State.checkEnded, ← hcheck, State.flipEnd, if_neg (by simp [h])]
  rfl

theorem State.on_of_g {s t : State} {f : Field} (h : t.g f = s.g f) : t.on f = s.on f := congrArg (fun k => decide (k ≠ 0)) h

section CheckEnded

variable (s : State)

theorem State.checkEnded_g {f : Field} (herr : R.NOC_EPOCH.ERR.Apart f) (hflip : R.NOC_EPOCH.FLIP.Apart f) :
    s.checkEnded.g f = s.g f :=
  (State.g_put_of_apart _ (by decide) hflip _).trans (s.unchecked.g_put_of_apart (by decide) herr _)

theorem State.checkEnded_inj : s.checkEnded.g R.NOC_EPOCH.INJ = s.g R.NOC_EPOCH.INJ :=
  s.checkEnded_g (.inr (.inl (by decide))) (.inr (.inl (by decide)))

theorem State.checkEnded_drained : s.checkEnded.on R.NOC_EPOCH.DRAINED = s.on R.NOC_EPOCH.DRAINED :=
  State.on_of_g (s.checkEnded_g (.inr (.inl (by decide))) (.inr (.inl (by decide))))

theorem State.checkEnded_err (h : s.flipCheck < 16) : s.checkEnded.g R.NOC_EPOCH.ERR = s.flipCheck :=
  (State.g_put_apart _ _ _ _ (by decide) (.inr (.inl (by decide)))).trans
    ((s.unchecked.g_put_mod (m := 16) (by decide) (by decide) _).trans (Nat.mod_eq_of_lt h))

theorem State.checkEnded_flip : s.checkEnded.on R.NOC_EPOCH.FLIP = false := State.on_putB_same _ false rfl (by decide)

theorem State.checkEnded_noc : s.checkEnded.noc = s.unchecked.noc := rfl

theorem State.checkEnded_regsBut : regsBut [R.NOC_EPOCH.reg] s s.checkEnded :=
  (regsBut_of_csr (t := s.unchecked) rfl).trans ((regsBut_put _ _ (by decide)).trans (regsBut_put _ _ (by decide)))

end CheckEnded

section Flipped

variable (s : State)

theorem State.oldShown_g {f : Field} (h : f.addr < 0x600100) : s.oldShown.g f = s.g f :=
  State.each_keeps (State.g · f) (fun t r _ => t.g_put_register _ f _ (by
    simp only [R.NOC_ROUTER_STATUS.OLDPKT, R.NOC_ROUTER_STATUS.reg]
    omega)) s

theorem State.oldShown_noc : s.oldShown.noc = s.noc := State.each_keeps State.noc (fun t _ _ => t.putB_noc _ _) s

theorem State.flipped_g {f : Field} (haddr : f.addr = R.NOC_EPOCH.reg) (hinj : R.NOC_EPOCH.INJ.Apart f)
    (hdrained : R.NOC_EPOCH.DRAINED.Apart f) : s.flipped.g f = s.g f :=
  (State.oldShown_g _ (by rw [haddr]; decide)).trans ((State.g_put_of_apart _ (by decide) hdrained _).trans
    ((State.g_put_register _ _ _ _ (by rw [haddr]; decide)).trans (s.g_put_of_apart (by decide) hinj _)))

theorem State.flipped_inj : s.flipped.g R.NOC_EPOCH.INJ = 1 - s.g R.NOC_EPOCH.INJ := by
  refine (State.oldShown_g _ (by decide)).trans ((State.g_put_apart _ _ _ _ (by decide) (.inr (.inl (by decide)))).trans
    ((State.g_put_register _ _ _ _ (by decide)).trans ((s.g_put_mod (m := 2) (by decide) (by decide) _).trans ?_)))
  omega

theorem State.flipped_drained : s.flipped.on R.NOC_EPOCH.DRAINED = false :=
  (State.on_of_g (State.oldShown_g _ (by decide))).trans (State.on_putB_same _ false rfl (by decide))

theorem State.flipped_event : s.flipped.on R.NOC_EVENTS.FLIPPED = true :=
  (State.on_of_g (State.oldShown_g _ (by decide))).trans
    ((State.on_putB_apart _ (by decide) (.inl (by decide)) false).trans (State.on_putB_same _ true rfl (by decide)))

theorem State.flipped_noc : s.flipped.noc = s.noc := by
  rw [State.flipped, State.oldShown_noc, State.putB_noc, State.raise_noc, State.put_noc]

theorem State.checkEnded_flipped_checking : s.checkEnded.flipped.noc.checking = false := by
  rw [State.flipped_noc, State.checkEnded_noc]
  rfl

theorem State.checkEnded_flipped_pkts : s.checkEnded.flipped.noc.pkts = s.noc.pkts := by
  rw [State.flipped_noc, State.checkEnded_noc]
  rfl

end Flipped

section Drained

variable {s : State}

theorem State.drained_waits (h : s.on R.NOC_EPOCH.DRAINED = true ∨
    ∃ p, p ∈ s.noc.pkts ∧ p.epoch ≠ decide (s.g R.NOC_EPOCH.INJ = 1)) : s.drained = s := by
  refine if_neg fun hdone => ?_
  simp only [Bool.and_eq_true, Bool.not_eq_true', List.any_eq_false, bne_iff_ne, ne_eq, not_not] at hdone
  obtain ⟨hnot, hnew⟩ := hdone
  rcases h with hdrained | ⟨p, hp, hold⟩
  · exact absurd hdrained (by simp [hnot])
  · exact hold (hnew p hp)

theorem State.drained_done (h : s.on R.NOC_EPOCH.DRAINED = false)
    (hnew : ∀ p, p ∈ s.noc.pkts → p.epoch = decide (s.g R.NOC_EPOCH.INJ = 1)) :
    s.drained = (s.putB R.NOC_EPOCH.DRAINED true).raise R.NOC_EVENTS.DRAINED := by
  refine if_pos ?_
  simp only [Bool.and_eq_true, Bool.not_eq_true', List.any_eq_false, bne_iff_ne, ne_eq, not_not]
  exact ⟨h, hnew⟩

end Drained

end Epochs

/-! ### STATS_CLEAR (R304) -/

section StatsClear

variable (s : State) {a : Nat}

theorem State.statsClear_zeroed (hlo : 0x604000 ≤ a) (hhi : a < 0x604000 + 520 * 0x40) : s.statsClear.rw a = resetWord a := by
  have hget : s.statsClear.csr.get a = 0#32 := by
    rw [State.statsClear, SMap.get_keep, if_neg (by simp [hlo, hhi])]
    rfl
  rw [State.rw, hget, BitVec.zero_xor]

theorem State.statsClear_elsewhere (h : a < 0x604000 ∨ 0x604000 + 520 * 0x40 ≤ a) : s.statsClear.rw a = s.rw a := by
  have hget : s.statsClear.csr.get a = s.csr.get a := by
    rw [State.statsClear, SMap.get_keep, if_pos]
    simp only [Bool.not_eq_true', Bool.and_eq_false_iff, decide_eq_false_iff_not]
    omega
  rw [State.rw, hget, State.rw]

end StatsClear

/-! ### The statement -/

/-- Settles O40: a port that times out, waits, is reclaimed, revived or closed; a request that its initiator gives up; a flip from its
check to its drain; and the statistics cleared. -/
theorem portsAndEpochs : Obligations.PortsAndEpochs := by
  unfold Obligations.PortsAndEpochs
  refine ⟨?targetTimeout, ?wait, ?initiatorTimeout, ?otherWriter, ?reclaim, ?reviveAndClose, ?flip, ?flipEnd, ?drained, ?stats⟩
  case targetTimeout =>
    intro s ep _
    refine ⟨fun h => congrArg done (State.targetTimeout_none h), fun o ho hdest hrunning hstate => ?_⟩
    have hcsr := (s.portDies ep).answerOwed_csr ep (st := 7) (by decide)
    have hrw := State.rw_of_csr hcsr
    refine ⟨_, congrArg done (State.targetTimeout_dies ho hdest hrunning hstate), (State.g_of_rw (hrw _)).trans (s.portDies_state ep),
      (State.on_of_rw (hrw _)).trans (s.portDies_flagged ep), (State.g_of_rw (hrw _)).trans (s.portDies_deadcnt ep), ?_, ?_, ?_,
      (s.portDies_regsBut ep).trans (regsBut_of_csr hcsr), fun x hx hxdest => ?_⟩
    · rw [State.answerOwed_faultLog _ _ (by decide), State.portDies_faultLog]
    · rw [State.answerOwed_owed _ _ (by decide), State.portDies_noc]
    · rw [State.answerOwed_mem _ _ (by decide), State.portDies_mem]
    · exact (s.portDies ep).answerOwed_answers ep (by decide) ((s.portDies_noc ep).symm ▸ hx) hxdest
  case wait =>
    intro s ep
    have heq := s.sendWait_eq ep
    exact ⟨s.sendWait ep, rfl, (congrArg State.csr heq).trans rfl, (congrArg State.mem heq).trans rfl, congrArg (fun t => t.noc.owed) heq,
      s.sendWait_count ep, fun o ho hdest hsuspended => s.sendWait_answers ep ho hdest hsuspended⟩
  case initiatorTimeout =>
    intro s ini tag
    refine ⟨rfl, State.initiatorTimeout_none, fun i hi hlo hhi => ?_⟩
    have hnoc := (s.forgets i).nocCount_keeps State.noc (fun t f x => t.put_noc f x) i 9 0
    rw [State.initiatorTimeout_hardened hi hlo hhi]
    exact ⟨congrArg Noc.issued hnoc, rfl, State.on_putB_same _ true rfl (by decide), s.timedOut_quarantine i ini tag,
      State.nocCount_keeps State.mem (fun t f x => t.put_mem f x) ..⟩
  case otherWriter =>
    exact fun s w ep hw => congrArg done (if_neg hw)
  case reclaim =>
    intro s ep
    refine ⟨rfl, State.nocReclaim_nowhere, ?_⟩
    rintro _ _ hexists hini rfl
    rw [State.nocReclaim_target hexists hini]
    have hcsr := (s.setPort ep portFENCED).answerOwed_csr ep (st := 8) (by decide)
    refine ⟨?_, State.on_putB_same _ true rfl (by decide), ?_, ?_, ?_, fun x hx hdest => ?_⟩
    · exact (State.g_put_register _ _ _ _ (portStatus_ne_events ep)).trans
        ((State.g_of_rw (State.rw_of_csr hcsr _)).trans (s.setPort_state ep (by decide)))
    · rw [State.raise_noc, State.answerOwed_owed _ _ (by decide), State.setPort_noc]
    · rw [State.raise_mem, State.answerOwed_mem _ _ (by decide), State.setPort_mem]
    · exact ((s.setPort_regsBut ep portFENCED).mono (by simp)).trans
        ((regsBut_of_csr hcsr).trans (regsBut_put _ _ (by simp [R.NOC_EVENTS.FENCED])))
    · rw [State.raise_noc]
      exact (s.setPort ep portFENCED).answerOwed_answers ep (by decide) ((s.setPort_noc ep portFENCED).symm ▸ hx) hdest
  case reviveAndClose =>
    intro s ep _
    refine ⟨fun hdead hfenced => congrArg done (State.revive_other hdead hfenced), fun h => ?_,
      fun h => congrArg done (State.portClosed_waits h), fun hclosing howed hissued => ?_⟩
    · exact ⟨_, congrArg done (State.revive_revives h), s.setPort_state ep State.openOrOff_lt, s.setPort_noc ep _, s.setPort_regsBut ep _⟩
    · have hput := State.setPort_uncounted s ep (st := portOFF) (by rw [hclosing]; decide) (by decide)
      refine ⟨_, congrArg done (State.portClosed_closes hclosing howed hissued),
        (State.g_put_register _ _ _ _ (portStatus_ne_events ep)).trans (s.setPort_state ep (by decide)),
        State.on_putB_same _ true rfl (by decide), ?_⟩
      rw [hput]
      exact (regsBut_put _ _ (by simp [R.NOC_PORT_STATUS.STATE])).trans (regsBut_put _ _ (by simp [R.NOC_EVENTS.CLOSED]))
  case flip =>
    intro s
    exact ⟨s.checkBegins, rfl, rfl, (State.on_of_rw (s.checkBegins_rw _)).trans (State.on_putB_same s true rfl (by decide)), rfl,
      (State.g_of_rw (s.checkBegins_rw _)).trans (s.g_put_apart _ _ _ (by decide) (.inr (.inl (by decide)))),
      (regsBut_put s _ (by decide)).trans (regsBut_of_csr (State.withNoc_csr ..))⟩
  case flipEnd =>
    intro s
    refine ⟨fun h => congrArg done (State.flipEnd_idle h), fun hchecking hcode hlt => ?_, fun hchecking hcode => ?_, State.flipCheck_busy⟩
    · have hkeeps {f : Field} (h : f.addr = R.NOC_EPOCH.reg) : (s.checkEnded.raise R.NOC_EVENTS.FLIPERR).g f = s.checkEnded.g f :=
        State.g_put_register _ _ _ _ (by rw [h]; decide)
      exact ⟨_, congrArg done ((State.flipEnd_checked hchecking).trans (if_pos hcode)), rfl, (hkeeps rfl).trans (s.checkEnded_err hlt),
        (State.on_of_g (hkeeps rfl)).trans s.checkEnded_flip, (hkeeps rfl).trans s.checkEnded_inj,
        (State.on_of_g (hkeeps rfl)).trans s.checkEnded_drained, State.on_putB_same _ true rfl (by decide),
        (s.checkEnded_regsBut.mono (by simp)).trans (regsBut_put _ _ (by decide))⟩
    · have herr : s.checkEnded.g R.NOC_EPOCH.ERR = 0 := (s.checkEnded_err (by omega)).trans hcode
      exact ⟨_, congrArg done ((State.flipEnd_checked hchecking).trans (if_neg (by simp [hcode]))), s.checkEnded_flipped_checking,
        (s.checkEnded.flipped_g rfl (.inr (.inr (by decide))) (.inr (.inr (by decide)))).trans herr,
        (State.on_of_g (s.checkEnded.flipped_g rfl (.inr (.inr (by decide))) (.inr (.inr (by decide))))).trans s.checkEnded_flip,
        s.checkEnded.flipped_inj.trans (congrArg (1 - ·) s.checkEnded_inj), s.checkEnded.flipped_drained, s.checkEnded.flipped_event,
        s.checkEnded_flipped_pkts⟩
  case drained =>
    exact fun s => ⟨fun h => congrArg done (State.drained_waits h), fun h hnew => congrArg done (State.drained_done h hnew)⟩
  case stats =>
    intro s
    exact ⟨s.statsClear, rfl, fun a hlo hhi => s.statsClear_zeroed hlo hhi, fun a ha => s.statsClear_elsewhere ha, rfl, rfl⟩

end Sys2Proof.Machine
